-- ==== Sys2Proof/Word.lean ====
section
/-! DEFINITION. Bytes, the little-endian layout of multi-byte fields (R6), per-channel vectors, and the
names a command's operands use. -/

namespace Sys2Proof

/-- One byte of a register, packet, table or record. -/
abbrev Byte := BitVec 8

/-- A byte from its value modulo 256. -/
abbrev byte (n : Nat) : Byte := BitVec.ofNat 8 n

/-- The unsigned value of little-endian bytes (R6). -/
def leNat : List Byte → Nat
  | [] => 0
  | b :: bs => b.toNat + 256 * leNat bs

/-- `n` little-endian bytes of `v` (R6). -/
def toLE : Nat → Nat → List Byte
  | 0, _ => []
  | n + 1, v => byte v :: toLE n (v / 256)

/-- The two's-complement reading of the low `w` bits (R6). -/
def signedOf (w v : Nat) : Int :=
  if 2 * (v % 2 ^ w) < 2 ^ w then (v % 2 ^ w : Nat) else (v % 2 ^ w : Nat) - (2 ^ w : Nat)

/-- The `w`-bit two's-complement pattern of an integer (R6). -/
def unsignedOf (w : Nat) (i : Int) : Nat := (i % (2 ^ w : Nat)).toNat

/-- `n` little-endian bytes of a signed value (R6). -/
def toLEi (n : Nat) (i : Int) : List Byte := toLE n (unsignedOf (8 * n) i)

/-- The bytes from offset `off`, `n` of them. -/
def sliceBytes (bs : List Byte) (off n : Nat) : List Byte := (bs.drop off).take n

/-- Unsigned little-endian field of `n` bytes at offset `off`. -/
def u (bs : List Byte) (off n : Nat) : Nat := leNat (sliceBytes bs off n)

/-- Signed little-endian field of `n` bytes at offset `off`. -/
def i (bs : List Byte) (off n : Nat) : Int := signedOf (8 * n) (u bs off n)

/-- `n` zero bytes. -/
def zeros (n : Nat) : List Byte := List.replicate n 0

/-- The bytes of `bs`, cut or zero-filled to exactly `n`. -/
def padTo (n : Nat) (bs : List Byte) : List Byte := (bs ++ zeros (n - bs.length)).take n

/-- Bit `k` of a number. -/
abbrev bitOf (v k : Nat) : Bool := v.testBit k

/-- A number with bit `k` set or cleared. -/
def setBitTo (v k : Nat) (b : Bool) : Nat :=
  if b then v ||| 2 ^ k else if v.testBit k then v - 2 ^ k else v

/-- A one-bit number. -/
abbrev b2n (b : Bool) : Nat := if b then 1 else 0

/-- The number whose bit k is the k-th Boolean of the list. -/
def bitsOf : List Bool → Nat
  | [] => 0
  | b :: bs => b2n b + 2 * bitsOf bs

/-- Addition that stays at `m` (a saturating counter). -/
abbrev satAdd (m v n : Nat) : Nat := min m (v + n)

/-- A vector of per-channel values with one entry changed. -/
def upd {α : Type} {n : Nat} (v : Vector α n) (k : Fin n) (f : α → α) : Vector α n := v.set k.val (f v[k]) k.isLt

@[simp] theorem upd_same {α : Type} {n : Nat} (v : Vector α n) (k : Fin n) (f : α → α) :
    (upd v k f)[k] = f v[k] := by simp [upd]

@[simp] theorem upd_val {α : Type} {n : Nat} (v : Vector α n) (k : Fin n) (f : α → α) :
    (upd v k f)[k.val] = f v[k] := by simp [upd]

theorem upd_other {α : Type} {n : Nat} (v : Vector α n) (k j : Fin n) (f : α → α) (h : j ≠ k) :
    (upd v k f)[j] = v[j] := by
  have : k.val ≠ j.val := fun e => h (Fin.ext e.symm)
  simp [upd, this]

/-- An index below `n`, or 0 when the number is too large. -/
def fin (n : Nat) [NeZero n] (k : Nat) : Fin n := if h : k < n then ⟨k, h⟩ else ⟨0, NeZero.pos n⟩

/-- The easel records of the spec, named by block and record number. -/
inductive RecId where
  | rect0 | rect1 | bus0 | bus1 | chg0 | gauge0 | gauge1 | dom0 | dom1 | dom2 | feed0 | feed1
  | link0 | link1 | pd0 | seq0 | seq1 | meas0 | meas1 | meas2 | therm0 | skb0
  deriving DecidableEq, Repr

/-- The interface a packet came in on (R118). -/
inductive Itf where
  | i2c | spi | link
  deriving DecidableEq, Repr

/-- Where a Korisk packet came from and what of its header the reply needs (R104, R105, R118): the
interface; for a link packet the entry node and the privilege level it carries; the TAG; NO_REPLY; whether it was
addressed to a group or to all nodes (R110); and whether its FLAGS are well formed (R105). -/
structure Origin where
  itf : Itf
  src : Nat
  level : Nat
  tag : Byte
  noReply : Bool
  fanned : Bool
  form : Bool := true
  deriving DecidableEq, Repr

/-- What a CC pin shows (R358): open, Ra, Rd, or Rp at one of its three currents (1 Default, 2 1.5 A, 3 3.0 A). -/
inductive CcPin where
  | open_ | ra | rd | rp (level : Nat)
  deriving DecidableEq, Repr

/-- A node as enumeration finds it (R331, R351): the address it holds, its PIN_ADDR, what its flags say, and how many
places before it in visiting order its neighbour toward the head stands (0 for the head). -/
structure Visit where
  addr : Nat
  pin : Nat
  capable : Bool
  gen2 : Bool
  strap : Bool
  up : Nat
  deriving DecidableEq, Repr

/-- What a self-check measures (R415): the means and standard deviations over 64 conversions of the internal zero and
reference, and the reference's OTP value, all in 0.01 LSB. -/
structure SelfTest where
  zero : Int
  zeroSd : Nat
  ref : Nat
  refOtp : Nat
  refSd : Nat
  deriving DecidableEq, Repr

/-- R415: the self-checks of A0–A7, then P0 of sections 0 and 1; those of an unpowered section mean nothing. -/
abbrev SelfTests := Vector SelfTest 10


/-- Which of a channel's boundaries a field lands at (R125): the block's own, the mains section's PFC and
line set, or the converter's switching period end / LLC set. -/
inductive Bnd where
  | main | zc | sw
  deriving DecidableEq, Repr

/-- Which converter's switching period ends (R125): a channel's LLC and synchronous rectifiers (`cap` says that the primary
current had the wrong sign at a switch turn-off in it, R157), a string's converter, a PD port's converter. -/
inductive Conv where
  | llc (k : Fin 2) (cap : Bool) | str (k : Fin 2) | pd (k : Fin 2)
  deriving DecidableEq, Repr

/-- How an attempt at a Host Notify ends (R93–R95): the host acknowledges it, it loses arbitration, or the host does not
acknowledge HN_ADDR; each of these also after a bus found stuck has been cured; or the cure is abandoned. -/
inductive NotifyRes where
  | acked | lost | nacked | cured | curedLost | curedNacked | stuck
  deriving DecidableEq, Repr

end Sys2Proof
end

