-- ==== Sys2Proof/Syntax.lean ====
section
/-! DEFINITION. The commands of the block: one constructor per row of the opcode table. A row that is a Korisk
command carries the origin of its packet and its parameter bytes (R104); every other row carries what the
environment or the bus transaction brings with it. -/

namespace Sys2Proof

/-- A command (one row of the opcode table each). -/
inductive Instr where
  /-- POWER_ON_RESET (R49): KEEP stays below the falling threshold for more than 10 µs, so power-on reset is asserted and every control-die and NAND-die block is reset. -/
  | powerOnReset (keepMv : Nat)
  /-- POR_RELEASE (R49): KEEP has stayed above the rising threshold for 1 ms with the internal rails good, so power-on reset is released and the HK12 ramp starts. -/
  | porRelease (keepMv : Nat)
  /-- HK12_GOOD (R51): HK12 enters its ±3% band, so the core clock and boot ROM start and D0 begins soft-start from its boot values. -/
  | hk12Good
  /-- HK12_TIMEOUT (R50): HK12 is not good within 10 ms of the release, so the housekeeping converter is stopped. -/
  | hk12Timeout
  /-- HK12_RETRY (R50): 100 ms after an HK12 timeout the housekeeping converter is started again while KEEP stays above 4.5 V. -/
  | hk12Retry
  /-- KEEP_THRESHOLD_CROSS (R19): KEEP crosses 9 V or 6 V, which sets or clears the brown-out flag and bars or allows varnish and sketchbook writes. -/
  | keepThresholdCross (keepMv : Nat)
  /-- STRAP_SAMPLE (R45): Once VIO_HOST has been valid for 100 µs at a sampling point, ADDR0–ADDR2 and ROOT are sampled and the device starts answering on I2C. -/
  | strapSample (addr : Fin 8) (root : Bool)
  /-- BOOT_IMAGE_SELECT (R54): The boot ROM tries the active image and then the other, and accepts only an image that verifies and is not below the rollback counter. -/
  | bootImageSelect
  /-- FIRMWARE_READY (R56): Korisk becomes ready; after a full boot it restores the easel save, palette and varnish, applies D0's easel values and starts the host-contact watchdog. -/
  | firmwareReady (tests : SelfTests) (meta_ : Nat) (sramOk : Bool)
  /-- RST_OUT_RELEASE (R61): D0 has been inside its window for 20 ms, so RST_OUT_N is released. -/
  | rstOutRelease
  /-- PIN_RESET_ASSERT (R60): RST_N has been low for at least 1 µs, so the device enters hold mode, or holds the boot ROM before firmware ready. -/
  | pinResetAssert
  /-- PIN_RESET_RELEASE (R60): RST_N rises, so the straps are resampled, the host interfaces are cleared under R519, and the processor restarts or the image selection is repeated. -/
  | pinResetRelease
  /-- RESET (R62): The RESET command starts a warm reset into hold mode, or a cold reset that runs the power-down sequence and then a full boot. -/
  | reset (o : Origin) (p : List Byte)
  /-- COLD_RESET_SEQ_DONE (R61): The power-down sequence of a cold reset ends, so every stage except D0 stops, RST_OUT_N is asserted and the full boot begins. -/
  | coldResetSeqDone
  /-- RESET_CAUSE (R63): The RESET_CAUSE command reports the last reset cause, the booted image, the flags and the counts. -/
  | resetCause (o : Origin) (p : List Byte)
  /-- D0_BOOT_RECORD (R64): The D0_BOOT_RECORD command writes D0's boot values into the next free OTP slot with a CRC-16. -/
  | d0BootRecord (o : Origin) (p : List Byte)
  /-- KEEP_RESERVOIR (R65): The KEEP_RESERVOIR command declares the keep reservoir capacitance and stores it as varnish item 0x0005. -/
  | keepReservoir (o : Origin) (p : List Byte)
  /-- LOCKSTEP_MISMATCH (R60): The lockstep cores disagree, which causes a hold-mode restart. -/
  | lockstepMismatch
  /-- FW_WATCHDOG_EXPIRY (R60): The fixed 100 ms firmware watchdog expires, which causes a hold-mode restart. -/
  | fwWatchdogExpiry
  /-- FIRMWARE_RESTART (R60): Firmware requests a restart of its own, which causes a hold-mode restart. -/
  | firmwareRestart
  /-- HOST_WD_WRITE (R69): A write to HOST_WD reloads the host-contact watchdog and may set a new timeout. -/
  | hostWdWrite (itf : Itf) (v : Byte)
  /-- HOST_WD_EXPIRY (R70): The host-contact watchdog expires, so an S1 fault is raised and the safe defaults of the charger, the PD ports and capping are applied. -/
  | hostWdExpiry
  /-- CRYSTAL_FAIL (R25): A missing crystal is detected within 2 µs and the PLL changes over to the internal RC oscillator without a glitch. -/
  | crystalFail
  /-- TICK_10US (R22): At each 10 µs tick the telemetry snapshot is latched, the table engine is evaluated and live-class values whose boundary is this tick are applied. -/
  | tick10us
  /-- SHARE_TICK (R22): At a share tick the capping decision for this tick is applied before the table engine is evaluated. -/
  | shareTick
  /-- SECTION_POWER_UP (R57): A mains-die section starts from its HVS pin, runs on PAUX and begins qualifying its line. -/
  | sectionPowerUp (k : Fin 2)
  /-- AUTONOMOUS_START (R58): With no barrier link at the end of qualification, the section precharges, closes the relay and bursts the LLC at 450 kHz. -/
  | autonomousStart (k : Fin 2)
  /-- AUTONOMOUS_TIMEOUT (R58): No barrier link within 1 s of an autonomous start, so the section stops the LLC, opens the relay and counts the timeout. -/
  | autonomousTimeout (k : Fin 2)
  /-- AUTONOMOUS_RETRY (R58): 10 s after an autonomous-start timeout the section tries the autonomous start again. -/
  | autonomousRetry (k : Fin 2)
  /-- REGISTER_WRITE (R73): A write to a pointer register that has no row of its own is applied under the multi-byte, reserved-bit and PEC rules. -/
  | registerWrite (bytes : List Byte)
  /-- TIME_SNAP_READ (R87): A read that starts at 0x1C latches the 64-bit timebase into TIME_SNAP. -/
  | timeSnapRead (ptr : Option Byte) (n : Nat)
  /-- IRQ_FLAGS_CLEAR (R84): A W1C write to IRQ_FLAGS clears the flags it names, unless hardware sets the same flag in that peripheral cycle. -/
  | irqFlagsClear (bytes : List Byte) (hw : Nat)
  /-- I2C_WAKE (R78): A matching address arrives while the interface sleeps, so the interface wakes and holds SCL low until the 100 MHz clock runs. -/
  | i2cWake
  /-- I2C_SLEEP (R78): No START for 10 ms and no action pending, so the I2C interface sleeps. -/
  | i2cSleep
  /-- SMBUS_TIMEOUT (R79): SCL has been low for longer than 25 ms, so the device releases the bus, discards any unfinished write, resets the interface and sets MBX_STATUS bit 6. -/
  | smbusTimeout
  /-- SUBMIT_MORE (R89): The mailbox takes the request fragment in its buffer and returns to ACCEPT. -/
  | submitMore
  /-- SUBMIT_LAST (R89): The mailbox hands over the last fragment so that the packet runs, then goes to REPLY, or to IDLE if the packet gives no reply. -/
  | submitLast
  /-- RELEASE (R89): The mailbox frees the reply fragment it holds and moves to the next fragment or to IDLE. -/
  | release
  /-- ABORT (R89): The mailbox returns to IDLE and discards the partial request and any unread reply. -/
  | abort
  /-- ALERT_RESPONSE (R92): A read of the Alert Response Address while IRQ_N is asserted returns the device address, under arbitration. -/
  | alertResponse (won : Bool)
  /-- HOST_NOTIFY (R93): A Host Notify is due and the bus has been free for 50 µs, so the device sends the notify frame as a controller. -/
  | hostNotify (r : NotifyRes)
  /-- HOST_NOTIFY_RETRY (R95): The retry interval after a refused notify or an abandoned cure expires, so the notify is attempted again. -/
  | hostNotifyRetry (r : NotifyRes)
  /-- REG_WRITE (R97): The SPI instruction writes pointer registers from an auto-incrementing address. -/
  | regWrite (bytes : List Byte)
  /-- REG_READ (R97): The SPI instruction reads pointer registers from an auto-incrementing address. -/
  | regRead (ptr : Byte) (n : Nat)
  /-- PKT_WRITE (R98): The SPI instruction delivers a whole request packet into the SPI request buffer, or discards it under the listed conditions. -/
  | pktWrite (len : Nat) (bytes : List Byte)
  /-- PKT_READ (R98): The SPI instruction clocks out the reply, which is removed only when all LEN bytes have been read. -/
  | pktRead (n : Nat)
  /-- STREAM_READ (R99): The SPI instruction delivers up to COUNT bytes of an open sketchbook stream. -/
  | streamRead (n : Nat)
  /-- PAGE (R100): The PMBus command selects a domain page, or all domains for writes. -/
  | page (w : Option (List Byte))
  /-- OPERATION (R100): The PMBus command turns the domain on or off, or sets a margin. -/
  | operation (w : Option (List Byte))
  /-- ON_OFF_CONFIG (R100): The PMBus command reads back 0x1A. -/
  | onOffConfig (w : Option (List Byte))
  /-- CLEAR_FAULTS (R100): The PMBus command clears the window status bits of the page. -/
  | clearFaults (bytes : List Byte)
  /-- WRITE_PROTECT (R100): The PMBus command reads or sets the window write protection. -/
  | writeProtect (w : Option (List Byte))
  /-- CAPABILITY (R100): The PMBus command returns 0xD0. -/
  | capability (w : Option (List Byte))
  /-- VOUT_MODE (R100): The PMBus command returns the ULINEAR16 exponent for the range of the domain. -/
  | voutMode (w : Option (List Byte))
  /-- VOUT_COMMAND (R100): The PMBus command sets the domain voltage command, rounded to the nearest step of its range. -/
  | voutCommand (w : Option (List Byte))
  /-- VOUT_MARGIN_HIGH (R100): The PMBus command reads or sets the high margin target. -/
  | voutMarginHigh (w : Option (List Byte))
  /-- VOUT_MARGIN_LOW (R100): The PMBus command reads or sets the low margin target. -/
  | voutMarginLow (w : Option (List Byte))
  /-- VOUT_TRANSITION_RATE (R100): The PMBus command reads or sets the slew rate in LINEAR11 mV/µs. -/
  | voutTransitionRate (w : Option (List Byte))
  /-- STATUS_BYTE (R100): The PMBus command reads the status byte of the domain. -/
  | statusByte (w : Option (List Byte))
  /-- STATUS_WORD (R100): The PMBus command reads the status word of the domain. -/
  | statusWord (w : Option (List Byte))
  /-- STATUS_VOUT (R100): The PMBus command reads the VOUT window status bits. -/
  | statusVout (w : Option (List Byte))
  /-- STATUS_IOUT (R100): The PMBus command reads the IOUT window status bits. -/
  | statusIout (w : Option (List Byte))
  /-- STATUS_CML (R100): The PMBus command reads the CML window status bits. -/
  | statusCml (w : Option (List Byte))
  /-- READ_VOUT (R100): The PMBus command reads the remote-sense voltage. -/
  | readVout (w : Option (List Byte))
  /-- READ_IOUT (R100): The PMBus command reads the sum of the phase currents. -/
  | readIout (w : Option (List Byte))
  /-- READ_TEMPERATURE_1 (R100): The PMBus command reads the hottest control-die sensor. -/
  | readTemperature1 (w : Option (List Byte))
  /-- PMBUS_REVISION (R100): The PMBus command returns 0x33. -/
  | pmbusRevision (w : Option (List Byte))
  /-- MFR_ID (R100): The PMBus block read returns "TUTHEN". -/
  | mfrId (w : Option (List Byte))
  /-- MFR_MODEL (R100): The PMBus block read returns "PT7424". -/
  | mfrModel (w : Option (List Byte))
  /-- HIF_CONFIG (R102): The command stages the PEC mode, the interface options and the Host Notify address. -/
  | hifConfig (o : Origin) (p : List Byte)
  /-- HIF_STATUS (R103): The command reports the options in force and the interface counters. -/
  | hifStatus (o : Origin) (p : List Byte)
  /-- REMOTE_REPLY (R109): A reply from a remote node reaches the entry node and is passed back through the interface the packet came in on. -/
  | remoteReply (node : Nat) (bytes : List Byte)
  /-- FORWARD_TIMEOUT (R109): No reply from a forwarded or group packet within 250 ms, so the entry node answers TIMEOUT or completes the collected reply. -/
  | forwardTimeout
  /-- SEGMENT_HOLD_EXPIRY (R113): 1 s passes without a CONT, so the reply segments still held are dropped. -/
  | segmentHoldExpiry (itf : Itf)
  /-- NOP (R116): The command does nothing and replies OK. -/
  | nop (o : Origin) (p : List Byte)
  /-- SYS_STATUS (R117): The command reports the identity and state of the executing node. -/
  | sysStatus (o : Origin) (p : List Byte)
  /-- PRIV_CHALLENGE (R119): The command returns a single-use 16-byte nonce for the Install challenge. -/
  | privChallenge (o : Origin) (p : List Byte)
  /-- PRIV_RESPONSE (R119): The command checks the HMAC and raises the session to Install on a match. -/
  | privResponse (o : Origin) (p : List Byte)
  /-- PRIV_DROP (R119): The command returns the session to its start level. -/
  | privDrop (o : Origin) (p : List Byte)
  /-- PRIV_LOCKOUT_END (R119): The 60 s refusal after three failed challenges ends. -/
  | privLockoutEnd
  /-- PRIV_SESSION_TIMEOUT (R119): 15 minutes pass without an accepted Install-level command, so the session returns to its start level. -/
  | privSessionTimeout (itf : Itf)
  /-- NODE_GROUPS (R121): The command sets the node group membership of the executing node. -/
  | nodeGroups (o : Origin) (p : List Byte)
  /-- EASEL_WRITE (R124): The command checks and writes whole fields of one record, staged or live by class, and advances GEN. -/
  | easelWrite (o : Origin) (blk : Nat) (p : List Byte)
  /-- EASEL_COMMIT (R126): The command commits every staged B value of the selected channels, with an optional GEN check. -/
  | easelCommit (o : Origin) (blk : Nat) (p : List Byte)
  /-- EASEL_DISCARD (R127): The command sets the easel equal to the live copy and withdraws armed commits that have not landed. -/
  | easelDiscard (o : Origin) (blk : Nat) (p : List Byte)
  /-- EASEL_READ (R127): The command returns bytes of the easel or of the live copy of one record. -/
  | easelRead (o : Origin) (blk : Nat) (p : List Byte)
  /-- EASEL_STATUS (R127): The command reports GEN and the pending, staged and armed masks. -/
  | easelStatus (o : Origin) (blk : Nat) (p : List Byte)
  /-- COMMIT_LAND (R125): At a channel's boundary after the commit token, the shadow values are copied into the live registers in one clock. -/
  | commitLand (r : RecId) (ch : Nat) (b : Bnd)
  /-- L_VALUE_LAND (R123): A staged L value reaches the hardware at the channel's next boundary. -/
  | lValueLand (r : RecId) (ch : Nat) (b : Bnd)
  /-- COMMIT_TIMEOUT (R126): A running channel reaches no boundary within 1 s, so the commit replies TIMEOUT and stays armed. -/
  | commitTimeout
  /-- MULTI_COMMIT (R128): The command checks every entry, then commits across several blocks and replies once every entry has landed. -/
  | multiCommit (o : Origin) (p : List Byte)
  /-- EASEL_SAVE (R128): The command writes the live configuration of every block to the older easel save copy. -/
  | easelSave (o : Origin) (p : List Byte)
  /-- PAL_BEGIN (R146): The command opens a palette download and marks the staged bank invalid and empty. -/
  | palBegin (o : Origin) (p : List Byte)
  /-- PAL_DATA (R146): The command appends image bytes at the expected offset. -/
  | palData (o : Origin) (p : List Byte)
  /-- PAL_END (R144): The command validates the staged image in the order of the checks and stores it. -/
  | palEnd (o : Origin) (p : List Byte)
  /-- PAL_SWITCH (R147): The command exchanges the active and staged banks for adoption by each consumer at its own boundary. -/
  | palSwitch (o : Origin) (p : List Byte)
  /-- PAL_STATUS (R146): The command reports the banks, the validation result and the pending consumers. -/
  | palStatus (o : Origin) (p : List Byte)
  /-- PAL_READ (R146): The command returns bytes of the active or staged bank. -/
  | palRead (o : Origin) (p : List Byte)
  /-- PALETTE_ADOPT (R148): A consumer adopts the new bank in one step at its boundary and carries its state over. -/
  | paletteAdopt (c : Fin 12) (ch : Nat)
  /-- PAL_SWITCH_TIMEOUT (R147): Some consumer has not adopted the bank within 1 s, so PAL_SWITCH replies TIMEOUT and the switch stays pending. -/
  | palSwitchTimeout
  /-- SECTION_POWER_LOSS (R151): PAUX falls below 9.0 V, so the section resets and its channel goes to OFF. -/
  | sectionPowerLoss (k : Fin 2)
  /-- BARRIER_HEARTBEAT (R169): A heartbeat is received, carrying the LLC period command or the present LLC period. -/
  | barrierHeartbeat (k : Fin 2) (toMains : Bool) (line : List Nat)
  /-- BARRIER_SILENCE (R170): No good heartbeat for 4 µs, so both sides stop their gates and heartbeats and the channel is marked lost. -/
  | barrierSilence (k : Fin 2)
  /-- BARRIER_ESTABLISHED (R172): The ACK of INIT arrives, so the link is established, the delay is fixed and the oscillator frequency-locks. -/
  | barrierEstablished (k : Fin 2) (delayNs : Nat)
  /-- INIT (R168): The barrier frame carries the live record 0 and the qualification time to the section. -/
  | init (k : Fin 2) (line : List Nat)
  /-- CONFIG (R173): The barrier frame carries staged values into the section's shadow set. -/
  | config (k : Fin 2) (line : List Nat)
  /-- COMMIT (R173): The barrier frame carries the commit token for one or both shadow sets. -/
  | commit (k : Fin 2) (line : List Nat)
  /-- COMMAND (R168): The barrier frame tells the section to start, stop, open the relay, hold the autonomous start or clear. -/
  | command (k : Fin 2) (line : List Nat)
  /-- TIME (R168): The barrier frame carries the control-die timebase to the section every 1 ms. -/
  | time (k : Fin 2) (line : List Nat)
  /-- SR_TIMING (R159): The barrier frame carries the SR conduction times that limit the LLC period. -/
  | srTiming (k : Fin 2) (line : List Nat)
  /-- HELLO (R172): The barrier frame from the mains die starts establishment and reports its state and autonomous timeouts. -/
  | hello (k : Fin 2) (line : List Nat)
  /-- STATUS (R168): The barrier frame reports the section state, measurements, P_CAP and P_AVAIL every 10 µs. -/
  | status (k : Fin 2) (line : List Nat)
  /-- HALF_CYCLE (R168): The barrier frame reports a half-cycle's timestamp, RMS, peak and largest deviation. -/
  | halfCycle (k : Fin 2) (line : List Nat)
  /-- ACK (R168): The barrier frame acknowledges a frame, with LANDED for a commit that has reached its boundary. -/
  | ack (k : Fin 2) (line : List Nat)
  /-- FAULT_FRAME (R168): The barrier frame reports a mains-die trip or event with its values. -/
  | faultFrame (k : Fin 2) (line : List Nat)
  /-- BARRIER_RESEND (R168): A frame is repeated 10 µs after a missing ACK, and the channel is declared lost after 8 attempts. -/
  | barrierResend (k : Fin 2)
  /-- FLT_LINE (R166): The channel fault line is asserted, so the control die stops the SR gates and marks the channel lost. -/
  | fltLine (k : Fin 2)
  /-- DROP_LINE (R185): DROP is asserted for a channel in WALK_IN or RUN, so the string feed-forward current is pre-positioned. -/
  | dropLine (k : Fin 2)
  /-- STOP_LINE (R171): STOP is asserted, so every PFC and LLC gate of the section stops and channels in QUALIFY to RUN enter LOST. -/
  | stopLine (k : Fin 2)
  /-- STOP_RELEASE (R171): STOP is released, so the channels requalify for a full QUAL_MS. -/
  | stopRelease (k : Fin 2)
  /-- HALF_CYCLE_END (R153): A zero-crossing ends a half-cycle, which is judged against the qualification window and the loss conditions. -/
  | halfCycleEnd (k : Fin 2) (rms peak half : Nat)
  /-- QUAL_TIMER_EXPIRY (R153): The qualification timer reaches QUAL_MS, so the channel waits for the bulk precharge and a start command. -/
  | qualTimerExpiry (k : Fin 2)
  /-- PRECHARGE_TIMEOUT (R155): The bulk is still below 95% of the line peak 500 ms after the timer expired, so fault 0x0704 is raised and the channel returns to LISTEN. -/
  | prechargeTimeout (k : Fin 2)
  /-- RELAY_SETTLED (R155): RELAY_MS has elapsed, so the channel enters PFC_RAMP. -/
  | relaySettled (k : Fin 2)
  /-- PFC_RAMP_DONE (R151): The bulk is within 2% of BULK_MV, so the channel enters LLC_START. -/
  | pfcRampDone (k : Fin 2) (bulk : Nat)
  /-- LLC_START_DONE (R151): The output reaches the bus voltage, so the channel enters WALK_IN. -/
  | llcStartDone (k : Fin 2) (v : Nat)
  /-- LLC_SS_TIMEOUT (R155): The output has not reached the bus within LLC_SS_MS, so the channel trips with 0x0707. -/
  | llcSsTimeout (k : Fin 2)
  /-- WALK_IN_DONE (R164): The walk-in limit reaches min(P_CAP, P_LIMIT_W), so the channel enters RUN. -/
  | walkInDone (k : Fin 2)
  /-- DROPOUT_PREDICTED (R161): A deviation has held for 1 ms, so the armed predictor asserts DROP. -/
  | dropoutPredicted (k : Fin 2)
  /-- ZC_LATE_EXPIRY (R161): A zero-crossing is missing ZC_LATE_US after it was expected, so DROP is asserted. -/
  | zcLateExpiry (k : Fin 2)
  /-- PREDICTION_TIMEOUT (R161): 100 ms pass with neither outcome, so the template is relearned and DROP is released with 0x070C. -/
  | predictionTimeout (k : Fin 2)
  /-- BULK_MIN_REACHED (R162): The bulk falls below BULK_MIN_MV after a confirmed loss, so the LLC stops and the relay opens. -/
  | bulkMinReached (k : Fin 2) (bulk : Nat)
  /-- LINE_PEAK_LIMIT (R166): The instantaneous line magnitude exceeds 450 V, so the PFC gates stop for the rest of the half-cycle. -/
  | linePeakLimit (k : Fin 2) (v : Nat)
  /-- BULK_OV_LIMIT (R166): The bulk exceeds BULK_MV + 40 V, so the PFC gates stop until the bulk falls again. -/
  | bulkOvLimit (k : Fin 2) (bulk : Nat)
  /-- BULK_OV_TRIP (R166): The bulk exceeds 460 V, so the channel trips with 0x0705. -/
  | bulkOvTrip (k : Fin 2) (bulk : Nat)
  /-- PFC_OC_TRIP (R166): The PFC phase current limit is held for 10 ms, so the channel trips with 0x0706. -/
  | pfcOcTrip (k : Fin 2)
  /-- LLC_OC_TRIP (R166): The LLC primary current limit is held for 10 ms, so the channel trips with 0x0707. -/
  | llcOcTrip (k : Fin 2)
  /-- CAPACITIVE_MODE_TRIP (R157): 16 consecutive guarded periods occur, so the channel trips with 0x0708. -/
  | capacitiveModeTrip (k : Fin 2)
  /-- MAINS_THERMAL_TRIP (R166): The mains-die thermal vote trips both powered sections with 0x070D. -/
  | mainsThermalTrip
  /-- BUS_OV_STOP (R166): The bus exceeds 60.0 V, so STOP is asserted to both sections and 0x070E is raised. -/
  | busOvStop (v : Nat)
  /-- SR_REVERSE_DISABLE (R159): 16 consecutive periods of reverse current disable the SR of the channel with 0x0709. -/
  | srReverseDisable (k : Fin 2)
  /-- SHARE_TOLERANCE_FAULT (R165): A channel stays outside ±3% of its target for 1 s above 20% load, so 0x0710 is raised. -/
  | shareToleranceFault (k : Fin 2)
  /-- RECT_CONTROL (R177): The command enables, soft-disables, disables or clears a rectifier channel. -/
  | rectControl (o : Origin) (p : List Byte)
  /-- RECT_STATUS (R178): The command reports the state and measurements of one channel. -/
  | rectStatus (o : Origin) (p : List Byte)
  /-- BARRIER_STATUS (R179): The command reports the barrier link of one channel. -/
  | barrierStatus (o : Origin) (p : List Byte)
  /-- BUS_UNDERVOLTAGE (R182): The bus is below BUS_UV_MV for 100 µs, so the bus state becomes DEAD with 0x0802. -/
  | busUndervoltage (v held : Nat)
  /-- BUS_WINDOW_EXIT (R182): An A6 bus sample falls outside 44.0–57.6 V, so 0x0801 is raised and a capture is triggered. -/
  | busWindowExit (v : Nat)
  /-- AUX_WINDOW_ENTER (R190): An auxiliary input enters its window, so DELAY starts with the full INSERT_MS. -/
  | auxWindowEnter (k : Fin 2) (v : Nat)
  /-- AUX_WINDOW_EXIT (R193): An auxiliary input leaves its window through UV or OV, so its switch turns off and it becomes ABSENT. -/
  | auxWindowExit (k : Fin 2) (v held : Nat)
  /-- AUX_INSERT_DONE (R190): INSERT_MS elapses, so the input becomes QUALIFIED. -/
  | auxInsertDone (k : Fin 2)
  /-- AUX_MATCH_DONE (R191): The string reference has arrived and the gap has elapsed, so the input enters WALK_IN in linear current limit. -/
  | auxMatchDone (k : Fin 2)
  /-- AUX_WALK_IN_DONE (R191): The input current has been below its limit for 1 ms, so the switch enhances fully and the input enters ON. -/
  | auxWalkInDone (k : Fin 2) (i held : Nat)
  /-- COLD_CONNECT_DONE (R192): V_IN − V_bus falls below 300 mV in a cold connect, so the input enters ON. -/
  | coldConnectDone (k : Fin 2) (v : Nat)
  /-- AUX_SOA_TRIP (R193): Current limit or inrush is held for SOA_MS, so the input trips with 0x0812. -/
  | auxSoaTrip (k : Fin 2) (held : Nat)
  /-- AUX_FAST_TRIP (R193): The input current reaches FAST_MA, so the gate discharges and the input trips with 0x0813. -/
  | auxFastTrip (k : Fin 2) (i : Nat)
  /-- AUX_REVERSE_TRIP (R193): Reverse current above 2 A for 10 µs makes the input trip with 0x0814. -/
  | auxReverseTrip (k : Fin 2) (i : Int) (held : Nat)
  /-- AUX_RETRY (R193): RETRY_S elapses, so a faulted input returns to DELAY. -/
  | auxRetry (k : Fin 2)
  /-- BBM_GAP_DONE (R194): BBM_GAP_US has passed since the other auxiliary switch turned off, so the waiting switch may start to turn on. -/
  | bbmGapDone (k : Fin 2)
  /-- BUS_STATUS (R205): The command reports the bus controller state and measurements. -/
  | busStatus (o : Origin) (p : List Byte)
  /-- AUX_CONTROL (R206): The command enables, disables or clears an auxiliary input. -/
  | auxControl (o : Origin) (p : List Byte)
  /-- STRING_MATCH_DONE (R212): The converter-side node is within MATCH_MV, so the disconnect gate ramps and the string enters its aimed state. -/
  | stringMatchDone (k : Fin 2) (v : Nat)
  /-- STRING_MATCH_TIMEOUT (R212): 100 ms pass without a match, so the string trips with 0x090E. -/
  | stringMatchTimeout (k : Fin 2)
  /-- STRING_COLD_DONE (R213): The cold-connect gate ramp completes, so the string enters CONNECTED and raises the bus. -/
  | stringColdDone (k : Fin 2)
  /-- CHG_OK_DEASSERT (R214): CHG_OK is deasserted, so the charge reference goes to 0 with 0x090C. -/
  | chgOkDeassert (k : Fin 2)
  /-- CHG_OK_ASSERT (R214): CHG_OK becomes effective after BMS_FILT_MS. -/
  | chgOkAssert (k : Fin 2)
  /-- DSG_OK_DEASSERT (R214): DSG_OK is deasserted, so i_dsg_max goes to 0 and after BMS_FILT_MS the string disconnects with 0x090B. -/
  | dsgOkDeassert (k : Fin 2)
  /-- DSG_OK_ASSERT (R214): DSG_OK becomes effective after BMS_FILT_MS. -/
  | dsgOkAssert (k : Fin 2)
  /-- NTC_RECOVER (R215): A faulted NTC has read within range for 10 s, so it becomes good again. -/
  | ntcRecover (k j : Fin 2)
  /-- END_OF_DISCHARGE (R217): The end-of-discharge conditions have held for 10 s, so the string disconnects and raises 0x090D. -/
  | endOfDischarge (k : Fin 2)
  /-- STRING_RETRY (R212): RETRY_S elapses, so a faulted string returns to OPEN. -/
  | stringRetry (k : Fin 2)
  /-- STRING_FAST_TRIP (R234): |I_STRING| reaches FAST_MA, so the disconnect opens at once with 0x0908. -/
  | stringFastTrip (k : Fin 2) (i : Int)
  /-- STRING_OVERTEMP_TRIP (R234): The NTC stays above TMAX_BAT for 1 s, so the string trips with 0x0909. -/
  | stringOvertempTrip (k : Fin 2)
  /-- PACK_OVERVOLTAGE (R234): V_STRING stays above CELLS × CELL_OV_MV for 100 µs, so charge stops and the charger latches with 0x0902. -/
  | packOvervoltage (k : Fin 2) (v held : Nat)
  /-- CHARGER_TICK (R219): At each 1 s tick the charger lands its values, updates its timers, evaluates exits and hands new targets to the converter. -/
  | chargerTick
  /-- PRECHARGE_TIMER_EXPIRY (R227): The precharge count reaches PRE_TIMER_MIN, so the charger latches with 0x0903. -/
  | prechargeTimerExpiry (k : Fin 2)
  /-- CCCV_TIMER_EXPIRY (R228): T_EQ reaches CCCV_TIMER_MIN, and the thermal history decides between suspension and latch. -/
  | cccvTimerExpiry (k : Fin 2)
  /-- WALL_TIMER_EXPIRY (R227): T_WALL reaches 3 × CCCV_TIMER_MIN, so the charger latches with 0x0907. -/
  | wallTimerExpiry (k : Fin 2)
  /-- CHARGE_RESUME (R229): The resume conditions have held for 60 s, so a suspended charger returns to RUN with T_EQ cleared. -/
  | chargeResume (k : Fin 2)
  /-- STRING_TEST_END (R233): A string test ends or is abandoned, so the string returns to CONNECTED with 0x0911 or 0x0912. -/
  | stringTestEnd (k : Fin 2) (cause : Fin 4)
  /-- STRING_CONTROL (R237): The command connects, disconnects or clears a string. -/
  | stringControl (o : Origin) (p : List Byte)
  /-- CHG_CONTROL (R238): The command restarts or stops a charger, or requests or cancels equalise. -/
  | chgControl (o : Origin) (p : List Byte)
  /-- STRING_TEST (R239): The command starts or stops a string test. -/
  | stringTest (o : Origin) (p : List Byte)
  /-- CHG_STATUS (R240): The command reports one string and its charger. -/
  | chgStatus (o : Origin) (p : List Byte)
  /-- GAUGE_UPDATE (R242): The 1 s or 10 s gauge update runs the filter, the reported SOC, learning and P_BATT. -/
  | gaugeUpdate (k : Fin 2)
  /-- GAUGE_STATE_SAVE (R258): STATE_SAVE_MIN elapses, so the gauge item is written. -/
  | gaugeStateSave (k : Fin 2)
  /-- VARNISH_RETRY (R261): The gate has stayed open for 10 s, so deferred varnish writes are retried in ITEM_ID order. -/
  | varnishRetry
  /-- GAUGE_STATUS (R265): The command reports the gauge of one string. -/
  | gaugeStatus (o : Origin) (p : List Byte)
  /-- GAUGE_RESET (R266): The command resets the gauge for a new pack or a re-estimate. -/
  | gaugeReset (o : Origin) (p : List Byte)
  /-- GAUGE_SET_FCC (R266): The command sets the full-charge capacity. -/
  | gaugeSetFcc (o : Origin) (p : List Byte)
  /-- DOMAIN_INPUT_READY (R272): With the enable standing, the input has been present for 10 ms, so the domain enters CHECK. -/
  | domainInputReady (k : Fin 16)
  /-- DOMAIN_INPUT_LOST (R272): The domain's input is no longer present, so the domain goes OFF with 0x0B07. -/
  | domainInputLost (k : Fin 16)
  /-- DOMAIN_CHECK_DONE (R273): The 50 µs pre-start check ends, leading to SOFT_START or to a latch for a high-side short. -/
  | domainCheckDone (k : Fin 16) (sws : List Nat)
  /-- SOFT_START_DONE (R274): The ramp is complete with the output inside its window, so the domain enters ON. -/
  | softStartDone (k : Fin 16)
  /-- DOMAIN_SS_TIMEOUT (R274): The output is not in its window within SS_TIMEOUT_MS of the ramp end, so the domain trips with 0x0B06. -/
  | domainSsTimeout (k : Fin 16)
  /-- DOMAIN_OV (R282): Filtered over-voltage puts every phase at high impedance and trips the domain with 0x0B02. -/
  | domainOv (k : Fin 16) (v held : Nat)
  /-- DOMAIN_UV (R282): Filtered under-voltage in ON clears power-good and raises 0x0B01. -/
  | domainUv (k : Fin 16) (v held : Nat)
  /-- REMOTE_SENSE_FAULT (R282): VSNk stays outside ±300 mV for 10 µs, so the domain trips with 0x0B0C. -/
  | remoteSenseFault (k : Fin 16)
  /-- DOMAIN_OC_TRIP (R284): The domain has been in current limit for OC_TRIP_MS, so it trips with 0x0B03. -/
  | domainOcTrip (k : Fin 16)
  /-- DOMAIN_RETRY (R272): RETRY_MS elapses with the enable standing, so the domain re-enters CHECK. -/
  | domainRetry (k : Fin 16)
  /-- REFERENCE_ARRIVED (R280): The reference reaches its target, so the newest target command is answered. -/
  | referenceArrived (k : Fin 16)
  /-- SOFT_STOP_DONE (R290): The reference reaches 0 in SOFT_STOP, so the domain enters OFF. -/
  | softStopDone (k : Fin 16)
  /-- LOAD_RELEASE (R286): The overshoot exceeds LR_THRESH_MV, so brake or truncate acts. -/
  | loadRelease (k : Fin 16)
  /-- LOAD_RELEASE_END (R286): The brake ends when the overshoot falls, or at LR_MAX_US with 0x0B0B. -/
  | loadReleaseEnd (k : Fin 16) (atMax : Bool)
  /-- PHASE_FAIL (R289): A phase meets a failure condition, so it is put at high impedance and marked failed with 0x0B05. -/
  | phaseFail (k : Fin 16) (ph : Fin 32)
  /-- SYNC_LOST (R277): SYNC_IN shows no edge for 4 periods, so the reference holds its last period with 0x0B08. -/
  | syncLost
  /-- SYNC_RELOCK (R277): SYNC_IN returns and the reference relocks gradually. -/
  | syncRelock (period : Nat) (stable : Bool)
  /-- DOM_CONTROL (R299): The command switches, margins or clears domains. -/
  | domControl (o : Origin) (p : List Byte)
  /-- DOM_VOUT (R300): The command sets a new nominal target and reports its arrival. -/
  | domVout (o : Origin) (p : List Byte)
  /-- DOM_STATUS (R301): The command reports one domain. -/
  | domStatus (o : Origin) (p : List Byte)
  /-- PHASE_STATUS (R302): The command reports the phases of one domain. -/
  | phaseStatus (o : Origin) (p : List Byte)
  /-- METERING_SLOT (R316): A port's voltage entry completes, which updates its metering and judges the breaker curve, the window and landing values. -/
  | meteringSlot (n : Fin 24)
  /-- PORT_WINDOW_ENTER (R307): The bus enters the port's window, so a waiting port enters DELAY. -/
  | portWindowEnter (n : Fin 24)
  /-- PORT_WINDOW_EXIT (R307): The bus leaves the port's window, so the port goes to WAIT, with 0x0C05 from INRUSH or ON. -/
  | portWindowExit (n : Fin 24)
  /-- PORT_INSERT_DONE (R306): INSERT_MS elapses, so the port enters CHECK. -/
  | portInsertDone (n : Fin 24)
  /-- PORT_CHECK_PASS (R308): V_OUT falls below half the bus after the 1 ms minimum, so the port enters INRUSH. -/
  | portCheckPass (n : Fin 24) (v : Nat)
  /-- PORT_SWITCH_SHORT (R308): V_OUT is still at half the bus or more after 1 s, so the port latches with 0x0C04. -/
  | portSwitchShort (n : Fin 24) (v : Nat)
  /-- PORT_INRUSH_DONE (R307): V_OUT reaches V_bus − 300 mV, so the port enters ON. -/
  | portInrushDone (n : Fin 24) (v : Nat)
  /-- PORT_SOA_TRIP (R307): SOA_MS expires in INRUSH, so the port trips with 0x0C03. -/
  | portSoaTrip (n : Fin 24)
  /-- PORT_FAST_TRIP (R309): The shunt voltage reaches FAST_MA × SHUNT_UOHM, so the gate pull-down latches within 200 ns with 0x0C01. -/
  | portFastTrip (n : Fin 24) (uv : Nat)
  /-- PORT_REVERSE_CURRENT (R311): I_PORT stays below −2 A for 10 µs, so the port turns off, enters DELAY and raises 0x0C07. -/
  | portReverseCurrent (n : Fin 24) (i : Int) (held : Nat)
  /-- PORT_RETRY (R312): The retry interval elapses, so a tripped port returns to WAIT. -/
  | portRetry (n : Fin 24)
  /-- PORT_UNSHED (R315): Ports no longer shed leave SHED one at a time, 1 ms apart, with 0x0C0A. -/
  | portUnshed
  /-- PORT_CONTROL (R321): The command switches, clears or resets the energy of ports. -/
  | portControl (o : Origin) (p : List Byte)
  /-- PORT_STATUS (R322): The command reports one port. -/
  | portStatus (o : Origin) (p : List Byte)
  /-- PORT_METER (R323): The command reports all 24 ports from one snapshot. -/
  | portMeter (o : Origin) (p : List Byte)
  /-- LINK_TRAIN_SWITCH (R327): 100 µs without receiver lock, so the port switches between generation 2 and generation 1 idles. -/
  | linkTrainSwitch (p : Fin 3)
  /-- LINK_PORT_UP (R328): A port has received 1,024 valid symbols and an IDENT, so it is up. -/
  | linkPortUp (p : Fin 3) (valid : Nat)
  /-- LINK_PORT_DOWN (R328): Loss of symbols or too many errors takes the port down with 0x0D01. -/
  | linkPortDown (p : Fin 3) (quiet errs : Nat)
  /-- SHARE_FRAME (R335): A share frame is received and forwarded, or turned round with this node's figures added. -/
  | shareFrame (p : Fin 3) (t : Nat) (f : List Byte)
  /-- SHARE_FRAME_RETURN (R343): The whole share frame is back at the root, which computes the level and sends the decision. -/
  | shareFrameReturn (p : Fin 3) (loopNs : Nat) (f : List Byte)
  /-- DECISION_FRAME (R336): A decision frame is received, held until its APPLY tick, or discarded if late. -/
  | decisionFrame (p : Fin 3) (t : Nat) (f : List Byte)
  /-- SHARE_PERIOD_MISSED (R347): A share period passes with no valid share frame, which holds the last decision or, after three, starts local capping. -/
  | sharePeriodMissed
  /-- ROOT_ELECTION (R332): At the tick that ends a missed period, eligible nodes flood ROOT_CLAIM and the best claimant becomes root. -/
  | rootElection
  /-- FAULT_EVENT (R338): A link FAULT event is received, logged and flooded. -/
  | faultEvent (p : Fin 3) (f : List Byte)
  /-- DROP_EVENT (R344): A link DROP event is received, and the root subtracts the supply at risk. -/
  | dropEvent (p : Fin 3) (f : List Byte)
  /-- DROP_CLEAR_EVENT (R344): A DROP_CLEAR event ends the root's subtraction. -/
  | dropClearEvent (p : Fin 3) (f : List Byte)
  /-- BREAK_EVENT (R347): A BREAK event is received, and the root may wrap the ring through the closure. -/
  | breakEvent (p : Fin 3) (f : List Byte)
  /-- ROOT_CLAIM (R332): A ROOT_CLAIM event is received and forwarded if it is at least as good as the best seen. -/
  | rootClaim (p : Fin 3) (f : List Byte)
  /-- GEN1_EVENT (R327): A GEN1 event makes the node retrain all of its ports at generation 1. -/
  | gen1Event (p : Fin 3) (f : List Byte)
  /-- IDENT (R329): An IDENT event from the neighbour gives its port number and serial, and measures the link delay. -/
  | ident (p : Fin 3) (f : List Byte) (roundNs upNs : Nat)
  /-- COMMAND_FRAME (R339): A command frame segment of a Korisk packet is received and assembled. -/
  | commandFrame (p : Fin 3) (f : List Byte)
  /-- RING_RESTORE (R347): The broken ring link has been up for 100 ms, so the closure returns to standby. -/
  | ringRestore
  /-- LINK_STATUS (R350): The command reports the node's view of the link. -/
  | linkStatus (o : Origin) (p : List Byte)
  /-- NODE_TABLE (R351): The command lists the enumeration table. -/
  | nodeTable (o : Origin) (p : List Byte)
  /-- ENUMERATE (R352): The command runs enumeration on the head to assign or renumber addresses. -/
  | enumerate (o : Origin) (p : List Byte)
  /-- CAP_STATUS (R353): The command reports capping on this node. -/
  | capStatus (o : Origin) (p : List Byte)
  /-- CC_DEBOUNCE_DONE (R358): tCCDebounce expires in AttachWait, so the port attaches. -/
  | ccDebounceDone (k : Fin 2)
  /-- PD_DEBOUNCE_DONE (R365): tPDDebounce expires after a CC change, so the Type-C state changes. -/
  | pdDebounceDone (k : Fin 2)
  /-- DRP_TOGGLE (R365): The tDRP period toggles an unattached DRP port between source and sink. -/
  | drpToggle (k : Fin 2)
  /-- ERROR_RECOVERY_DONE (R365): tErrorRecovery expires, so the port goes to its unattached state. -/
  | errorRecoveryDone (k : Fin 2)
  /-- PD_DETACH (R361): A detach is detected, so the converter stops, VCONN turns off, VBUS is discharged and the port becomes unattached. -/
  | pdDetach (k : Fin 2) (v : Option Nat) (held : Nat)
  /-- PD_MESSAGE_RECEIVED (R362): A valid message is acknowledged with GoodCRC and queued. -/
  | pdMessageReceived (k : Fin 2) (sop : Fin 3) (header : Nat) (data : List Byte)
  /-- CRC_RECEIVE_TIMEOUT (R362): No GoodCRC within 1.0 ms, so the message is retried or fails. -/
  | crcReceiveTimeout (k : Fin 2)
  /-- SINK_TX_WAIT_DONE (R363): The 18 ms SinkTxNG wait ends, so the held transmission is sent. -/
  | sinkTxWaitDone (k : Fin 2)
  /-- AMS_TIMEOUT (R363): 500 ms after AMS_START, Rp returns to SinkTxOk, or a sink gives up with RESULT 0x04. -/
  | amsTimeout (k : Fin 2)
  /-- SENDER_RESPONSE_EXPIRY (R366): SenderResponse expires, so the port escalates to Soft_Reset or Hard_Reset. -/
  | senderResponseExpiry (k : Fin 2)
  /-- PS_TRANSITION_EXPIRY (R366): PSTransition expires, so Hard_Reset is sent with 0x0E0A. -/
  | psTransitionExpiry (k : Fin 2)
  /-- PS_SOURCE_TIMEOUT (R366): PSSourceOff or PSSourceOn expires, so Hard_Reset is sent. -/
  | psSourceTimeout (k : Fin 2)
  /-- HARD_RESET_RECEIVED (R368): Hard_Reset signalling is received, so the hardware hard-reset sequence for the port's role starts. -/
  | hardResetReceived (k : Fin 2)
  /-- PS_HARD_RESET_DONE (R368): tPSHardReset expires, so a source turns off VCONN and ramps VBUS down. -/
  | psHardResetDone (k : Fin 2)
  /-- SAFE0V_TIMEOUT (R365): VBUS has not reached vSafe0V within T_SAFE0V_MS, so 0x0E05 is raised. -/
  | safe0vTimeout (k : Fin 2)
  /-- SRC_RECOVER_DONE (R368): tSrcRecover expires, so VBUS ramps to vSafe5V and VCONN and Rp are restored. -/
  | srcRecoverDone (k : Fin 2)
  /-- SINK_HARD_RESET_WAIT_END (R368): A sink's 1,925 ms wait for VBUS after a hard reset ends, and the port detaches. -/
  | sinkHardResetWaitEnd (k : Fin 2)
  /-- SRC_TRANSITION_DONE (R369): tSrcTransition expires, so the VBUS slew or turn-off starts. -/
  | srcTransitionDone (k : Fin 2)
  /-- SOURCE_CHANGE_DONE (R369): VBUS has been within ±5% of the target for 1 ms, so the device sends PS_RDY. -/
  | sourceChangeDone (k : Fin 2) (v held : Nat)
  /-- SRC_SETTLE_TIMEOUT (R365): tSrcSettle expires, so 0x0E05 is raised and Hard_Reset is sent. -/
  | srcSettleTimeout (k : Fin 2)
  /-- FRS_SIGNAL_RECEIVED (R370): CC held low for 8–120 µs is recorded as an FRS signal with 0x0E10. -/
  | frsSignalReceived (k : Fin 2) (low : Nat)
  /-- FRS_VBUS_DROP (R370): After an FRS signal, VBUS falls below 4,750 mV, so the port sources vSafe5V within 150 µs. -/
  | frsVbusDrop (k : Fin 2) (v : Nat)
  /-- SOURCE_LIMIT_RESTORED (R372): P_LIM has been at least 2.5 W for 1 s, so the port leaves ErrorRecovery or Unattached.SNK. -/
  | sourceLimitRestored (k : Fin 2)
  /-- PD_SRC_OV (R373): Source VBUS over-voltage turns the converter off, discharges VBUS and enters ErrorRecovery with 0x0E01. -/
  | pdSrcOv (k : Fin 2) (v : Nat)
  /-- PD_SRC_OC (R373): Source over-current turns the converter off and enters ErrorRecovery with 0x0E02. -/
  | pdSrcOc (k : Fin 2) (i held : Nat)
  /-- PD_SINK_OV (R373): Sink VBUS over-voltage turns the sink converter off with 0x0E03. -/
  | pdSinkOv (k : Fin 2) (v : Nat)
  /-- CC_OV (R373): A CC pin above 6.0 V opens the CC switches with 0x0E0F. -/
  | ccOv (k : Fin 2) (v : Nat)
  /-- VCONN_OC (R373): VCONN above 300 mA for 1 ms turns VCONN off with 0x0E04. -/
  | vconnOc (k : Fin 2) (i held : Nat)
  /-- PD_CONTROL (R376): The command acts on a port: PD enable, Type-C only, disable, resets, FRS or BIST. -/
  | pdControl (o : Origin) (p : List Byte)
  /-- PD_TX (R377): The command sends one PD message and reports its acknowledgement. -/
  | pdTx (o : Origin) (p : List Byte)
  /-- PD_EVENT (R378): The command takes queued PD events, oldest first. -/
  | pdEvent (o : Origin) (p : List Byte)
  /-- PD_POWER (R379): The command arms a contract change. -/
  | pdPower (o : Origin) (p : List Byte)
  /-- PD_SWAP (R380): The command arms a power-role, fast-role, VCONN or data-role swap. -/
  | pdSwap (o : Origin) (p : List Byte)
  /-- PD_STATUS (R381): The command reports one PD port. -/
  | pdStatus (o : Origin) (p : List Byte)
  /-- SEQ_STEP_SETTLED (R386): The wait condition has held for SETTLE, so the step passes to its delay. -/
  | seqStepSettled
  /-- SEQ_STEP_TIMEOUT (R389): TIMEOUT_MS expires in the wait, so the step fails and its ON_FAIL applies. -/
  | seqStepTimeout
  /-- SEQ_DELAY_DONE (R386): DELAY_MS ends, so the step completes and the next begins or the sequence completes. -/
  | seqDelayDone
  /-- SEQ_CHATTER (R388): Nine transitions within one settle window make the step fail with 0x0F02. -/
  | seqChatter
  /-- SEQ_MEMBER_LOST (R389): A member of a completed step loses its wait term during the sequence, with 0x0F04. -/
  | seqMemberLost (j : Fin 32)
  /-- SEQ_IN_CHANGE (R392): SEQ_IN holds a new level for SEQ_IN_FILT_US. -/
  | seqInChange (level : Bool) (held : Nat)
  /-- SEQ_FLT_SENSED (R393): SEQ_FLT_N has been low for 2 µs, so 0x0F05 is raised and FLT_ACTION applies. -/
  | seqFltSensed (low : Nat)
  /-- EM_WINDOW_EXIT (R394): FILT consecutive samples fall outside the window, so the monitor's ACTION applies. -/
  | emWindowExit (m : Fin 16)
  /-- EM_WINDOW_ENTER (R394): FILT consecutive samples lie inside the window again. -/
  | emWindowEnter (m : Fin 16)
  /-- WDI_EDGE (R396): A rising WDI edge is judged against the watchdog window. -/
  | wdiEdge (t : Nat)
  /-- WDI_EXPIRY (R396): An early edge or no edge by the limit asserts RST_OUT_N for RST_PULSE_MS, raises 0x0F08 and applies WD_SEQ. -/
  | wdiExpiry
  /-- RST_PULSE_END (R397): The watchdog reset pulse ends and the watchdog re-arms. -/
  | rstPulseEnd
  /-- SEQ_START (R401): The command runs a sequence. -/
  | seqStart (o : Origin) (p : List Byte)
  /-- SEQ_CONTROL (R402): The command aborts or resumes the sequencer, or releases SEQ_FLT_N. -/
  | seqControl (o : Origin) (p : List Byte)
  /-- SEQ_STATUS (R403): The command reports the sequencer. -/
  | seqStatus (o : Origin) (p : List Byte)
  /-- EM_STATUS (R404): The command reports all sixteen monitors and restarts their minima and maxima. -/
  | emStatus (o : Origin) (p : List Byte)
  /-- ADC_CONVERSION (R410): A unit completes a conversion and writes its data register, which the telemetry engine drains. -/
  | adcConversion (k : Fin 10) (v : Int) (spares : List Int) (drained : Bool)
  /-- TRIGGER_MISS (R409): No trigger event within 20 µs, so the entry converts untriggered with 0x1007. -/
  | triggerMiss (k : Fin 8) (v : Int) (spares : List Int)
  /-- TRIAD_DISAGREE (R415): A bus result differs from the triad median for 256 samples, so a self-check is forced with 0x100A. -/
  | triadDisagree (t : SelfTest)
  /-- CAL_PASS_START (R425): A calibration pass starts after firmware ready, on a temperature move or on CAL_RUN. -/
  | calPassStart (tests : SelfTests)
  /-- CAL_PASS_COMPUTED (R426): The pass computation completes, and the accepted corrections are sent to their boundaries. -/
  | calPassComputed
  /-- CAL_PASS_TIMEOUT (R425): The computation has not finished within 250 ms, so the pass is discarded with 0x1004. -/
  | calPassTimeout
  /-- CAL_PASS_ACCEPTED (R427): Every element has landed its correction, so the pass is accepted, counted and varnished. -/
  | calPassAccepted
  /-- CAPTURE_EDGE (R419): A filtered capture-input edge updates the capture registers. -/
  | captureEdge (k : Fin 8) (rising : Bool) (held : Nat)
  /-- TACH_EDGE (R420): A falling tachometer edge updates the fan speed. -/
  | tachEdge (m : Fin 4)
  /-- TACH_TIMEOUT (R420): No tachometer edge for 1 s, so the speed is reported as 0. -/
  | tachTimeout (m : Fin 4)
  /-- ADC_STATUS (R432): The command reports the ten units. -/
  | adcStatus (o : Origin) (p : List Byte)
  /-- MEAS_PEEK (R433): The command reads the diagnostic copy or a timebase half. -/
  | measPeek (o : Origin) (p : List Byte)
  /-- TELEM_READ (R434): The command reports one telemetry channel and optionally restarts its statistics. -/
  | telemRead (o : Origin) (p : List Byte)
  /-- CAL_RUN (R435): The command starts a calibration pass. -/
  | calRun (o : Origin) (p : List Byte)
  /-- CAL_STATUS (R435): The command reports calibration. -/
  | calStatus (o : Origin) (p : List Byte)
  /-- CC_STATUS (R436): The command reports one capture/compare channel. -/
  | ccStatus (o : Origin) (p : List Byte)
  /-- THERMAL_WINDOW (R438): A 10 µs ring-oscillator count window closes, which updates the temperatures and the zone votes. -/
  | thermalWindow (temps : Vector Int 20)
  /-- THERMAL_SHUTDOWN (R441): A control-die zone votes hot, so its power stages stop and are held with S4 fault 0x1102. -/
  | thermalShutdown (z : Fin 4)
  /-- THERMAL_SHUTDOWN_END (R442): The zone has stayed below 125 °C for 100 ms, so the holds end and the plant restarts. -/
  | thermalShutdownEnd (z : Fin 5)
  /-- FAN_UPDATE (R449): Every 100 ms the duty of each fitted fan is recomputed. -/
  | fanUpdate
  /-- FAN_STALL (R450): The speed stays below STALL_RPM for STALL_S, so the fan is stalled, driven at 100%, with 0x1106. -/
  | fanStall (m : Fin 4) (held : Nat)
  /-- FAN_STALL_CLEAR (R450): The speed holds at or above STALL_RPM for STALL_S, so the stall clears. -/
  | fanStallClear (m : Fin 4) (held : Nat)
  /-- THERMAL_STATUS (R453): The command reports the thermal state. -/
  | thermalStatus (o : Origin) (p : List Byte)
  /-- FAN_STATUS (R454): The command reports the four fans. -/
  | fanStatus (o : Origin) (p : List Byte)
  /-- HISTORY_RECORD (R459): At each second the telemetry engine closes a history record and queues it. -/
  | historyRecord
  /-- EVENT_FLUSH (R462): 1 s after the oldest pending event entry, a sector of event entries is queued for programming. -/
  | eventFlush
  /-- NAND_OP_DONE (R471): A NAND operation completes, and the next waiting operation is started by rank. -/
  | nandOpDone (ok : Bool)
  /-- NAND_TIMEOUT (R475): A NAND operation does not complete within 10 ms, so the die is failed with 0x1201. -/
  | nandTimeout
  /-- CAPTURE_FREEZE (R466): A triggered area reaches 8,192 samples and freezes for commit, and a free area takes over the recording. -/
  | captureFreeze
  /-- CAPTURE_COMMIT (R469): A capture's data and header are programmed and verified, and its area is freed. -/
  | captureCommit
  /-- SCRUB_START (R474): SCRUB_H hours elapse, so a scrub of every programmed sector starts. -/
  | scrubStart
  /-- SCRUB_SLICE (R474): A scrub slice of at most 10 ms runs in each 100 ms. -/
  | scrubSlice (sectors bits : Nat) (worn : List (Fin 16192)) (lost : List (Fin 4 × Nat)) (last : Bool)
  /-- STREAM_TIMEOUT (R477): 10 s pass without a STREAM_READ, so the stream ends and its data is discarded. -/
  | streamTimeout
  /-- SKB_STATUS (R479): The command reports the recorder. -/
  | skbStatus (o : Origin) (p : List Byte)
  /-- SKB_READ (R476): The command returns recorded data by reply or by stream. -/
  | skbRead (o : Origin) (p : List Byte)
  /-- SKB_STREAM_STOP (R479): The command ends the open stream. -/
  | skbStreamStop (o : Origin) (p : List Byte)
  /-- SKB_CAPTURE_INFO (R469): The command returns a capture header. -/
  | skbCaptureInfo (o : Origin) (p : List Byte)
  /-- SKB_TRIGGER (R466): The command triggers a manual capture. -/
  | skbTrigger (o : Origin) (p : List Byte)
  /-- SKB_MARK (R479): The command makes a host-mark event entry. -/
  | skbMark (o : Origin) (p : List Byte)
  /-- SKB_CLEAR (R479): The command erases the selected partitions. -/
  | skbClear (o : Origin) (p : List Byte)
  /-- FAULT_RAISE (R483): A fault is raised, so the hardware makes the entry, card, capture, flags and link event and places the queue entry. -/
  | faultRaise (code ch : Nat)
  /-- HANDLER_COMPLETE (R485): A fault handler completes, so its entry leaves the queue and the next handler runs or resumes. -/
  | handlerComplete
  /-- IMG_BEGIN (R495): The command opens an image download into the area that did not boot. -/
  | imgBegin (o : Origin) (p : List Byte)
  /-- IMG_DATA (R495): The command appends image bytes. -/
  | imgData (o : Origin) (p : List Byte)
  /-- IMG_END (R494): The command checks and stores the downloaded image. -/
  | imgEnd (o : Origin) (p : List Byte)
  /-- IMG_ACTIVATE (R496): The command marks a valid image active, optionally with a restart. -/
  | imgActivate (o : Origin) (p : List Byte)
  /-- IMG_CONFIRM (R497): The command raises the rollback counter to the booted SEC_VER. -/
  | imgConfirm (o : Origin) (p : List Byte)
  /-- IMG_STATUS (R498): The command reports the image areas. -/
  | imgStatus (o : Origin) (p : List Byte)
  /-- FAULT_STATUS (R499): The command reports the fault queue. -/
  | faultStatus (o : Origin) (p : List Byte)
  /-- FAULT_ACTIVE (R499): The command lists the active S3 and S4 faults. -/
  | faultActive (o : Origin) (p : List Byte)
  /-- BANK_SUPPLY_CHANGE (R44): VIO_HOST or VIO_PWM crosses 1.5 V, so the outputs of that bank go to or leave high impedance, its inputs are ignored or heeded, and its open-drain outputs are released. -/
  | bankSupplyChange (host valid : Bool)
  /-- SPI_UNKNOWN_INSTRUCTION (R97): An SPI frame whose first byte is not a defined instruction is discarded and counted in SPI_DISCARDS. -/
  | spiUnknownInstruction (b : Byte)
  /-- PMBUS_UNSUPPORTED_COMMAND (R100): A PMBus command byte outside the supported set is not acknowledged and sets STATUS_CML bit 7. -/
  | pmbusUnsupportedCommand (c : Byte) (w : Option (List Byte))
  /-- CONVERTER_PERIOD_END (R184): A switching period of an LLC, synchronous-rectifier, string or PD converter ends, which recomputes its current reference and limits and is its boundary. -/
  | converterPeriodEnd (c : Conv)
  /-- DOMAIN_PWM_PERIOD (R275): An active phase of a domain starts its PWM period, so the compensator, the limit LIM and diode emulation update and the domain boundary falls. -/
  | domainPwmPeriod (k : Fin 16) (ph : Fin 32) (e : Int) (zero : Bool) (ocp : Option Nat)
  /-- BULK_DROP_CONFIRMATION (R154): The bulk falls below BULK_DROP_MV in WALK_IN or RUN, which confirms a line loss with 0x070B and sends the channel to LOST. -/
  | bulkDropConfirmation (k : Fin 2) (bulk : Nat)
  /-- BULK_OV_RELEASE (R166): The bulk falls below BULK_MV + 10,000 mV after the soft bulk over-voltage limit, so the PFC gates switch again. -/
  | bulkOvRelease (k : Fin 2) (bulk : Nat)
  /-- DOMAIN_UV_CLEAR (R282): Filtered under-voltage of a domain in ON ends, so power-good returns and sequencer wait terms can hold again. -/
  | domainUvClear (k : Fin 16) (v held : Nat)
  /-- DOMAIN_TRIP_COUNT_CLEAR (R272): A domain has stayed in ON for 60 s without a break, so its trip count is cleared. -/
  | domainTripCountClear (k : Fin 16)
  /-- PORT_TRIP_COUNT_CLEAR (R312): A port has stayed in ON for RESET_S without a break, so its trip count clears. -/
  | portTripCountClear (n : Fin 24)
  /-- CC_STATE_CHANGE (R358): The Rp, Rd or Ra seen on a CC pin changes, so an unattached port enters AttachWait, VCONN is applied, or a sink reads SinkTxNG or SinkTxOk. -/
  | ccStateChange (k : Fin 2) (cc1 cc2 : CcPin)
  /-- VBUS_LEVEL_REACHED (R368): VBUS reaches the level a ramp or discharge aims at (5 V, vSafe0V below 800 mV, or vSafe5V), which stops the converter, starts tSrcRecover or restores VCONN and Rp. -/
  | vbusLevelReached (k : Fin 2) (level : Fin 3)
  /-- BIST_CARRIER_END (R376): The 45 ms of BIST Carrier Mode started by PD_CONTROL ends and the port stops transmitting the carrier. -/
  | bistCarrierEnd (k : Fin 2)
  /-- SEQ_FLT_RELEASED (R385): SEQ_FLT_N returns high, so a power-up sequence deferred while it was low starts. -/
  | seqFltReleased
  /-- CC_COUNTER_WRAP (R418): A capture/compare channel counter wraps from PERIOD to 0, which copies the preloaded PERIOD and COMPARE into the live registers. -/
  | ccCounterWrap (k : Fin 8)
  /-- CC_COMPARE_MATCH (R418): A CC channel counter reaches COMPARE, which changes its output level and gives the event that triggered ADC entries wait on. -/
  | ccCompareMatch (k : Fin 8)
  /-- CAPTURE_SAMPLE (R466): At every INTERVAL of the armed set, the recording area takes the latest value of each channel as one capture sample. -/
  | captureSample
  deriving DecidableEq, Repr

end Sys2Proof
end

