-- ==== Sys2Proof/Decode.lean ====
section
/-! DEFINITION. Decoding of the opcode table's words. The table gives no row a bit: a command of this block is a bus
transaction, a packet, a frame or an event, so no word spells one. -/

namespace Sys2Proof

/-- The command that a word of the table's bits spells: none, since no row has bits. -/
def decodeTableWord (_nbits _w : Nat) : Option Instr := none

end Sys2Proof
end

