-- ==== Sys2Proof/Machine/Numeric.lean ====
section
/-! DEFINITION. Real functions the spec uses in its formulas (exp in R242 and R310, log in R134 and R215, the square
root of a variance), in fixed point with 64 fraction bits. The spec states no rounding: DESIGN CHOICE, log entry 30. -/

namespace Sys2Proof.Machine

/-- One in fixed point. -/
abbrev fone : Nat := 2 ^ 64

/-- ln 2 in fixed point. -/
abbrev fln2 : Nat := 12786308645202655660

/-- Taylor terms of exp on [0, ln 2): the sum from term `k` on, `n` terms, given the previous term. -/
def expTerms : Nat → Nat → Nat → Nat → Nat
  | 0, _, _, _ => 0
  | n + 1, k, x, t =>
    let t' := t * x / (k * fone)
    t' + expTerms n (k + 1) x t'

/-- e^x for a fixed-point x, in fixed point; below 2⁻⁶⁴ it is 0, and exponents above 200 are cut there.
(DESIGN CHOICE, log entry 30.) -/
def fexp (x : Int) : Nat :=
  let k := x / (fln2 : Int)
  let r := (x - k * fln2).toNat
  let m := fone + expTerms 30 1 r fone
  if 0 ≤ k then m * 2 ^ (min 200 k.toNat) else m / 2 ^ (min 200 (-k).toNat)

/-- e^(−n/d) in fixed point. -/
def fexpNeg (n d : Nat) : Nat := fexp (-((n * fone / max 1 d : Nat) : Int))

/-- Terms of the series of 2·atanh z. -/
def atanhTerms : Nat → Nat → Nat → Nat → Nat
  | 0, _, _, _ => 0
  | n + 1, k, z2, t => t / k + atanhTerms n (k + 2) z2 (t * z2 / fone)

/-- ln(n/d) in fixed point, for positive n and d (DESIGN CHOICE, log entry 30). -/
def fln (n d : Nat) : Int :=
  let y := max 1 (n * fone / max 1 d)
  let e : Int := (Nat.log2 y : Int) - 64
  let m := if 0 ≤ e then y / 2 ^ e.toNat else y * 2 ^ (-e).toNat
  let z := (m - fone) * fone / (m + fone)
  e * fln2 + (2 * atanhTerms 40 1 (z * z / fone) z : Nat)

/-- The integer square root (DESIGN CHOICE, log entry 30). -/
def isqrt (n : Nat) : Nat := Nat.sqrt n

/-- R215: the temperature, 0.1 °C, at which an NTC of resistance `r25` at 25 °C and constant `beta` in K, biased from 2.500 V
through 10.0 kΩ, has `uv` µV across it: R = 10.0 kΩ × V / (2.500 V − V) and 1 / T = 1 / 298.15 K + ln(R / R25) / BETA. A
shorted input is past every temperature, an open one below every temperature (DESIGN CHOICE, log entry 30). -/
def ntcTenths (r25 beta : Nat) (uv : Int) : Int :=
  if uv ≤ 0 then 32767
  else if 2500000 ≤ uv then -2731
  else
    let d : Int := 100 * beta * fone + 29815 * fln (10000 * uv.toNat) (r25 * (2500000 - uv).toNat)
    if d ≤ 0 then 32767 else min 32767 ((2 * (beta * 298150 * fone : Nat) / d - 5463) / 2)

end Sys2Proof.Machine
end

