-- ==== Sys2Proof/Config.lean ====
section
/-! DEFINITION. What the spec leaves open: free values. Each is an opaque constant, applied to the model's draw
counter (`State.free`) or to the operands it depends on; nothing can evaluate it. -/

namespace Sys2Proof

/-- R119: byte `i` of the 16-byte random NONCE of draw `n` (DESIGN CHOICE, log entry 11). -/
opaque Config.nonceByte : Nat → Nat → Byte

/-- R260: P_KEEP in mW, the keep supply's input power over the last 1 ms, which no command of the table brings.
(DESIGN CHOICE, log entry 12.) -/
opaque Config.keepPower : Nat → Nat


/-- R184: the output of the string loop's pi(), whose gains the spec does not give, mA at draw `n`, from the integrator as it
stands, mA (DESIGN CHOICE, log entry 14). -/
opaque Config.stringPi : Nat → Nat → Nat

/-- R217: eod_foldback while its voltage loop acts, mA at draw `n`; the spec does not give the loop.
(DESIGN CHOICE, log entry 15.) -/
opaque Config.eodFold : Nat → Nat

/-- R275, R283: the duty, in 2⁻¹⁶, at which the current-limit clamp of a domain holds it, at draw `n`.
(DESIGN CHOICE, log entry 16.) -/
opaque Config.limDuty : Nat → Nat

/-- R434: MIN, MAX and MEAN of statistics that hold no sample, at draw `n` (DESIGN CHOICE, log entry 17). -/
opaque Config.noSamples : Nat → Int

/-- R337: by how much a share frame trims the rate of the timebase, ppm at draw `n`; the spec gives the limit of 200 ppm and not
the control law (DESIGN CHOICE, log entry 144). -/
opaque Config.rateTrim : Nat → Nat

/-- R421: the OTP trim of a calibration element at the temperature set 0–4: kind 0 the offset, in LSB; kind 1 + g the gain for
gain code g, in 0.0001% (DESIGN CHOICE, log entry 120). -/
opaque Config.otpTrim : Nat → Nat → Nat → Int

/-- R421: one step of a trim DAC, by the kind of trim (DESIGN CHOICE, log entry 120). -/
opaque Config.dacStep : Nat → Nat

/-- R408: the full scale at ×1 of a channel that is no shunt input, in the unit in which `State.quantity` reads it: the spec
gives that of shunt inputs only (R511) (DESIGN CHOICE, log entry 154). -/
opaque Config.fullScale : Nat → Nat

/-- R423: the code that a channel's converter gives for an input that is zero (DESIGN CHOICE, log entry 156). -/
opaque Config.zeroCode : Nat → Int

/-- R331: what the head's visit of the plant finds, at draw `n`: how many nodes are visited before this one, and the
other nodes in visiting order (DESIGN CHOICE, log entry 18). -/
opaque Config.visit : Nat → Nat × List Visit

/-- R331: how many places before this node its neighbour toward the head stands, and whether the visit finds the wiring
closed to a ring (R329), at draw `n` (DESIGN CHOICE, log entry 18). -/
opaque Config.visitUp : Nat → Nat
/-- DESIGN CHOICE, log entry 18. -/
opaque Config.ring : Nat → Bool

/-- R14, R506: the forward drop of the keep OR's channels, mV: the rule gives it at 1 A only.
(DESIGN CHOICE, log entry 157.) -/
opaque Config.keepDrop : Nat

end Sys2Proof
end

