-- ==== Sys2Proof/Machine/Fields.lean ====
section
/-! DEFINITION. The field maps of every easel record of the spec: offset, bits, access class, reset value,
range, privilege and boundary of each field, transcribed from the record tables of the block chapters
(R174, R175, R202, R203, R235, R263, R264, R295–R297, R318, R319, R348, R349, R374, R398, R399, R428–R430,
R451, R478). -/

namespace Sys2Proof.Machine

/-- When a written value takes effect: live, boundary, stopped-only (R123); `ro` is a reserved field. -/
inductive Cls where
  | L | B | S | ro
  deriving DecidableEq, Repr

/-- One field of an easel record: `off` is the byte offset, then `width` bits from bit `lo` of the
little-endian value there. An empty `ranges` admits every value of the width (R8). `install` marks a
field that needs 2 Install. -/
structure Field where
  record : RecId
  off : Nat
  lo : Nat
  width : Nat
  signed : Bool
  cls : Cls
  install : Bool
  bnd : Bnd
  reset : Nat
  ranges : List (Int × Int)
  deriving DecidableEq, Repr

/-- A reserved field: reads as 0, must be written 0 (R7). -/
def Fld.reserved (r : RecId) (off lo width : Nat) : Field :=
  { record := r, off := off, lo := lo, width := width, signed := false, cls := .ro, install := false,
    bnd := .main, reset := 0, ranges := [(0, 0)] }

/-- Bytes the field spans. -/
def Field.nbytes (f : Field) : Nat := (f.lo + f.width + 7) / 8

/-- The raw bits of a field in a record's bytes. -/
def Field.getRaw (f : Field) (bs : List Byte) : Nat := u bs f.off f.nbytes / 2 ^ f.lo % 2 ^ f.width

/-- The value of a field, signed fields read as two's complement (R6). -/
def Field.get (f : Field) (bs : List Byte) : Int :=
  if f.signed then signedOf f.width (f.getRaw bs) else (f.getRaw bs : Nat)

/-- A record's bytes with a field's bits replaced. -/
def Field.set (f : Field) (v : Nat) (bs : List Byte) : List Byte :=
  let old := u bs f.off f.nbytes
  let nw := old - f.getRaw bs * 2 ^ f.lo + (v % 2 ^ f.width) * 2 ^ f.lo
  bs.take f.off ++ toLE f.nbytes nw ++ bs.drop (f.off + f.nbytes)

/-- A value lies inside the field's range (R8). -/
def Field.inRange (f : Field) (v : Nat) : Bool :=
  let x : Int := if f.signed then signedOf f.width v else (v : Nat)
  f.ranges.isEmpty || f.ranges.any fun r => r.1 ≤ x && x ≤ r.2

/-- R174, record 0: 0 declares the channel absent (R152). -/
def Fld.Rect.PRESENT : Field :=
  { record := .rect0, off := 0, lo := 0, width := 1, signed := false, cls := .S, install := true, bnd := .main, reset := 1,
    ranges := [] }

/-- R174, record 0: 0: after establishment the channel waits in DISABLED. -/
def Fld.Rect.AUTO_START : Field :=
  { record := .rect0, off := 0, lo := 1, width := 1, signed := false, cls := .L, install := true, bnd := .main, reset := 1,
    ranges := [] }

/-- R174, record 0: Dropout predictor enabled. ZC. -/
def Fld.Rect.PRED_EN : Field :=
  { record := .rect0, off := 0, lo := 2, width := 1, signed := false, cls := .L, install := true, bnd := .zc, reset := 1,
    ranges := [] }

/-- R174, record 0: 100–60,000 ms. Applies from the next start of the timer. ZC. -/
def Fld.Rect.QUAL_MS : Field :=
  { record := .rect0, off := 2, lo := 0, width := 16, signed := false, cls := .L, install := true, bnd := .zc, reset := 0x07D0,
    ranges := [(100, 60000)] }

/-- R174, record 0: RMS, 70,000–100,000 mV. ZC. -/
def Fld.Rect.BROWNIN_MV : Field :=
  { record := .rect0, off := 4, lo := 0, width := 32, signed := false, cls := .L, install := true, bnd := .zc, reset := 0x14050,
    ranges := [(70000, 100000)] }

/-- R174, record 0: RMS, 65,000–95,000 mV. ZC. -/
def Fld.Rect.BROWNOUT_MV : Field :=
  { record := .rect0, off := 8, lo := 0, width := 32, signed := false, cls := .L, install := true, bnd := .zc, reset := 0x124F8,
    ranges := [(65000, 95000)] }

/-- R174, record 0: RMS, 270,000–300,000 mV. ZC. -/
def Fld.Rect.LINE_OV_MV : Field :=
  { record := .rect0, off := 12, lo := 0, width := 32, signed := false, cls := .L, install := true, bnd := .zc, reset := 0x445C0,
    ranges := [(270000, 300000)] }

/-- R174, record 0: 40–50 Hz. ZC. -/
def Fld.Rect.F_MIN_HZ : Field :=
  { record := .rect0, off := 16, lo := 0, width := 8, signed := false, cls := .L, install := true, bnd := .zc, reset := 0x2D,
    ranges := [(40, 50)] }

/-- R174, record 0: 55–70 Hz. ZC. -/
def Fld.Rect.F_MAX_HZ : Field :=
  { record := .rect0, off := 17, lo := 0, width := 8, signed := false, cls := .L, install := true, bnd := .zc, reset := 0x42,
    ranges := [(55, 70)] }

/-- R174, record 0: Predictor threshold, 5–50%. ZC. -/
def Fld.Rect.DEV_PCT : Field :=
  { record := .rect0, off := 18, lo := 0, width := 8, signed := false, cls := .L, install := true, bnd := .zc, reset := 0x0F,
    ranges := [(5, 50)] }

/-- R174, record 0: 0–50%. ZC. -/
def Fld.Rect.PFC_SHED_PCT : Field :=
  { record := .rect0, off := 19, lo := 0, width := 8, signed := false, cls := .B, install := true, bnd := .zc, reset := 0x0F,
    ranges := [(0, 50)] }

/-- R174, record 0: 200–2,000 µs. ZC. -/
def Fld.Rect.ZC_LATE_US : Field :=
  { record := .rect0, off := 20, lo := 0, width := 16, signed := false, cls := .L, install := true, bnd := .zc, reset := 0x01F4,
    ranges := [(200, 2000)] }

/-- R174, record 0: 10–100 ms. ZC. -/
def Fld.Rect.RELAY_MS : Field :=
  { record := .rect0, off := 22, lo := 0, width := 16, signed := false, cls := .L, install := true, bnd := .zc, reset := 0x001E,
    ranges := [(10, 100)] }

/-- R174, record 0: 360,000–410,000 mV. ZC. -/
def Fld.Rect.BULK_MV : Field :=
  { record := .rect0, off := 24, lo := 0, width := 32, signed := false, cls := .B, install := true, bnd := .zc, reset := 0x5F370,
    ranges := [(360000, 410000)] }

/-- R174, record 0: Confirmation threshold, 300,000–380,000 mV. ZC. -/
def Fld.Rect.BULK_DROP_MV : Field :=
  { record := .rect0, off := 28, lo := 0, width := 32, signed := false, cls := .B, install := true, bnd := .zc, reset := 0x53020,
    ranges := [(300000, 380000)] }

/-- R174, record 0: LLC stop after a confirmed loss, 250,000–350,000 mV. ZC. -/
def Fld.Rect.BULK_MIN_MV : Field :=
  { record := .rect0, off := 32, lo := 0, width := 32, signed := false, cls := .B, install := true, bnd := .zc, reset := 0x493E0,
    ranges := [(250000, 350000)] }

/-- R174, record 0: 65–140 kHz. ZC. -/
def Fld.Rect.PFC_KHZ : Field :=
  { record := .rect0, off := 36, lo := 0, width := 16, signed := false, cls := .S, install := true, bnd := .zc, reset := 0x0064,
    ranges := [(65, 140)] }

/-- R174, record 0: 10–500 ms. ZC. -/
def Fld.Rect.PFC_SS_MS : Field :=
  { record := .rect0, off := 38, lo := 0, width := 16, signed := false, cls := .L, install := true, bnd := .zc, reset := 0x0032,
    ranges := [(10, 500)] }

/-- R174, record 0: 2–100 µs. ZC. -/
def Fld.Rect.ZC_BLANK_US : Field :=
  { record := .rect0, off := 40, lo := 0, width := 8, signed := false, cls := .B, install := true, bnd := .zc, reset := 0x14,
    ranges := [(2, 100)] }

/-- R174, record 0: 2–20%. -/
def Fld.Rect.BURST_ENTER_PCT : Field :=
  { record := .rect0, off := 41, lo := 0, width := 8, signed := false, cls := .B, install := true, bnd := .main, reset := 0x08,
    ranges := [(2, 20)] }

/-- R174, record 0: 4–30%. -/
def Fld.Rect.BURST_EXIT_PCT : Field :=
  { record := .rect0, off := 42, lo := 0, width := 8, signed := false, cls := .B, install := true, bnd := .main, reset := 0x0C,
    ranges := [(4, 30)] }

/-- R174, record 0: 50–500 mV. -/
def Fld.Rect.BURST_BAND_MV : Field :=
  { record := .rect0, off := 44, lo := 0, width := 16, signed := false, cls := .B, install := true, bnd := .main, reset := 0x0096,
    ranges := [(50, 500)] }

/-- R174, record 0: 150–449 kHz. SW. -/
def Fld.Rect.LLC_FMIN_KHZ : Field :=
  { record := .rect0, off := 46, lo := 0, width := 16, signed := false, cls := .S, install := true, bnd := .sw, reset := 0x0096,
    ranges := [(150, 449)] }

/-- R174, record 0: 151–450 kHz. SW. -/
def Fld.Rect.LLC_FMAX_KHZ : Field :=
  { record := .rect0, off := 48, lo := 0, width := 16, signed := false, cls := .S, install := true, bnd := .sw, reset := 0x01C2,
    ranges := [(151, 450)] }

/-- R174, record 0: 5–200 ms. -/
def Fld.Rect.LLC_SS_MS : Field :=
  { record := .rect0, off := 50, lo := 0, width := 16, signed := false, cls := .L, install := true, bnd := .main, reset := 0x0014,
    ranges := [(5, 200)] }

/-- R174, record 0: Primary-to-secondary ratio in 0.001, 6,800–12,000. -/
def Fld.Rect.TR_RATIO : Field :=
  { record := .rect0, off := 52, lo := 0, width := 16, signed := false, cls := .S, install := true, bnd := .main, reset := 0x1C7A,
    ranges := [(6800, 12000)] }

/-- R174, record 0: PFC current-sense scale, 1–1,000 mV/A. ZC. -/
def Fld.Rect.PCS_MV_A : Field :=
  { record := .rect0, off := 54, lo := 0, width := 16, signed := false, cls := .S, install := true, bnd := .zc, reset := 0x0014,
    ranges := [(1, 1000)] }

/-- R174, record 0: LLC current-sense scale, 1–1,000 mV/A. SW. -/
def Fld.Rect.LCS_MV_A : Field :=
  { record := .rect0, off := 56, lo := 0, width := 16, signed := false, cls := .S, install := true, bnd := .sw, reset := 0x0032,
    ranges := [(1, 1000)] }

/-- R174, record 0: 100–1,600 W. -/
def Fld.Rect.P_LIMIT_W : Field :=
  { record := .rect0, off := 58, lo := 0, width := 16, signed := false, cls := .L, install := true, bnd := .main, reset := 0x0640,
    ranges := [(100, 1600)] }

/-- R175, record 1: 50–20,000 W/s (R164). -/
def Fld.Rect.WALKIN_W_S : Field :=
  { record := .rect1, off := 0, lo := 0, width := 16, signed := false, cls := .L, install := true, bnd := .main, reset := 0x03E8,
    ranges := [(50, 20000)] }

/-- R175, record 1: 0 local; 1 plant (R165); 2–255 out of range. -/
def Fld.Rect.SHARE_MODE : Field :=
  { record := .rect1, off := 2, lo := 0, width := 8, signed := false, cls := .L, install := true, bnd := .main, reset := 0x00,
    ranges := [(0, 1)] }

/-- R175, record 1: 50–1,000 mV. -/
def Fld.Rect.SHARE_TRIM_MV : Field :=
  { record := .rect1, off := 4, lo := 0, width := 16, signed := false, cls := .L, install := true, bnd := .main, reset := 0x01F4,
    ranges := [(50, 1000)] }

/-- R202, record 0: 44,000–57,600 mV, multiple of 10 (R181). -/
def Fld.Bus.BUS_SET_MV : Field :=
  { record := .bus0, off := 0, lo := 0, width := 32, signed := false, cls := .L, install := true, bnd := .main, reset := 0xD0FC,
    ranges := [(44000, 57600)] }

/-- R202, record 0: 500–4,000 mV (R183). -/
def Fld.Bus.STBY_OFFSET_MV : Field :=
  { record := .bus0, off := 4, lo := 0, width := 16, signed := false, cls := .L, install := true, bnd := .main, reset := 0x05DC,
    ranges := [(500, 4000)] }

/-- R202, record 0: 100–5,000 mV/ms. -/
def Fld.Bus.REF_SLEW_MV_MS : Field :=
  { record := .bus0, off := 6, lo := 0, width := 16, signed := false, cls := .L, install := true, bnd := .main, reset := 0x03E8,
    ranges := [(100, 5000)] }

/-- R202, record 0: 36,000–44,000 mV (R182). -/
def Fld.Bus.BUS_UV_MV : Field :=
  { record := .bus0, off := 8, lo := 0, width := 32, signed := false, cls := .L, install := true, bnd := .main, reset := 0x9E34,
    ranges := [(36000, 44000)] }

/-- R202, record 0: 0–100% (R185). -/
def Fld.Bus.PREPOS_PCT : Field :=
  { record := .bus0, off := 12, lo := 0, width := 8, signed := false, cls := .L, install := true, bnd := .main, reset := 0x5A,
    ranges := [(0, 100)] }

/-- R202, record 0: 5–500 µs (R194). -/
def Fld.Bus.BBM_GAP_US : Field :=
  { record := .bus0, off := 14, lo := 0, width := 16, signed := false, cls := .L, install := true, bnd := .main, reset := 0x0014,
    ranges := [(5, 500)] }

/-- R202, record 0: 100–1,000 mV (R191). -/
def Fld.Bus.AUX_WALK_MV : Field :=
  { record := .bus0, off := 16, lo := 0, width := 16, signed := false, cls := .B, install := true, bnd := .main, reset := 0x00C8,
    ranges := [(100, 1000)] }

/-- R202, record 0: 100–1,000 mV (R200). -/
def Fld.Bus.PD_FOLD_START_MV : Field :=
  { record := .bus0, off := 18, lo := 0, width := 16, signed := false, cls := .L, install := true, bnd := .main, reset := 0x00FA,
    ranges := [(100, 1000)] }

/-- R202, record 0: 200–2,000 mV. -/
def Fld.Bus.PD_FOLD_END_MV : Field :=
  { record := .bus0, off := 20, lo := 0, width := 16, signed := false, cls := .L, install := true, bnd := .main, reset := 0x02EE,
    ranges := [(200, 2000)] }

/-- R203, record 1: 0 declares the input absent (R47, R190). -/
def Fld.Bus.PRESENT : Field :=
  { record := .bus1, off := 0, lo := 0, width := 1, signed := false, cls := .S, install := true, bnd := .main, reset := 1,
    ranges := [] }

/-- R203, record 1: 0: DISABLED after power-on reset until AUX_CONTROL enable. -/
def Fld.Bus.AUTO_ENABLE : Field :=
  { record := .bus1, off := 0, lo := 1, width := 1, signed := false, cls := .L, install := true, bnd := .main, reset := 1,
    ranges := [] }

/-- R203, record 1: 10–10,000 ms. -/
def Fld.Bus.INSERT_MS : Field :=
  { record := .bus1, off := 2, lo := 0, width := 16, signed := false, cls := .L, install := true, bnd := .main, reset := 0x0064,
    ranges := [(10, 10000)] }

/-- R203, record 1: 40,000–57,000 mV. -/
def Fld.Bus.UV_MV : Field :=
  { record := .bus1, off := 4, lo := 0, width := 32, signed := false, cls := .L, install := true, bnd := .main, reset := 0xADD4,
    ranges := [(40000, 57000)] }

/-- R203, record 1: 45,000–60,000 mV. -/
def Fld.Bus.OV_MV : Field :=
  { record := .bus1, off := 8, lo := 0, width := 32, signed := false, cls := .L, install := true, bnd := .main, reset := 0xDFD4,
    ranges := [(45000, 60000)] }

/-- R203, record 1: 100–2,000 mV. -/
def Fld.Bus.HYST_MV : Field :=
  { record := .bus1, off := 12, lo := 0, width := 16, signed := false, cls := .L, install := true, bnd := .main, reset := 0x01F4,
    ranges := [(100, 2000)] }

/-- R203, record 1: 10–1,000 µs. -/
def Fld.Bus.UV_FILT_US : Field :=
  { record := .bus1, off := 14, lo := 0, width := 16, signed := false, cls := .L, install := true, bnd := .main, reset := 0x0032,
    ranges := [(10, 1000)] }

/-- R203, record 1: 1,000–40,000 mA. -/
def Fld.Bus.ILIM_MA : Field :=
  { record := .bus1, off := 16, lo := 0, width := 32, signed := false, cls := .B, install := true, bnd := .main, reset := 0x9C40,
    ranges := [(1000, 40000)] }

/-- R203, record 1: 5,000–60,000 mA. -/
def Fld.Bus.FAST_MA : Field :=
  { record := .bus1, off := 20, lo := 0, width := 32, signed := false, cls := .B, install := true, bnd := .main, reset := 0xD6D8,
    ranges := [(5000, 60000)] }

/-- R203, record 1: 250–20,000 mA. -/
def Fld.Bus.INRUSH_MA : Field :=
  { record := .bus1, off := 24, lo := 0, width := 32, signed := false, cls := .B, install := true, bnd := .main, reset := 0x2710,
    ranges := [(250, 20000)] }

/-- R203, record 1: 1–500 ms. -/
def Fld.Bus.SOA_MS : Field :=
  { record := .bus1, off := 28, lo := 0, width := 16, signed := false, cls := .L, install := true, bnd := .main, reset := 0x0032,
    ranges := [(1, 500)] }

/-- R203, record 1: 1–600 s. -/
def Fld.Bus.RETRY_S : Field :=
  { record := .bus1, off := 30, lo := 0, width := 16, signed := false, cls := .L, install := true, bnd := .main, reset := 0x000A,
    ranges := [(1, 600)] }

/-- R203, record 1: Shunt value, 100–10,000 µΩ. -/
def Fld.Bus.SHUNT_UOHM : Field :=
  { record := .bus1, off := 32, lo := 0, width := 16, signed := false, cls := .S, install := true, bnd := .main, reset := 0x03E8,
    ranges := [(100, 10000)] }

/-- R235, record 0: 0 declares the string absent (R47). -/
def Fld.Chg.PRESENT : Field :=
  { record := .chg0, off := 0, lo := 0, width := 1, signed := false, cls := .S, install := true, bnd := .main, reset := 1,
    ranges := [] }

/-- R235, record 0: 0: DISABLED at firmware ready. SW. -/
def Fld.Chg.AUTO_CONNECT : Field :=
  { record := .chg0, off := 0, lo := 1, width := 1, signed := false, cls := .L, install := true, bnd := .sw, reset := 1,
    ranges := [] }

/-- R235, record 0: 0: charger DISABLED. -/
def Fld.Chg.CHG_EN : Field :=
  { record := .chg0, off := 0, lo := 2, width := 1, signed := false, cls := .L, install := true, bnd := .main, reset := 1,
    ranges := [] }

/-- R235, record 0: 0x00 LFP; 0x01 VRLA. -/
def Fld.Chg.CHEM : Field :=
  { record := .chg0, off := 1, lo := 0, width := 8, signed := false, cls := .S, install := true, bnd := .main, reset := 0x00,
    ranges := [(0, 1)] }

/-- R235, record 0: Cells in series (R236). -/
def Fld.Chg.CELLS : Field :=
  { record := .chg0, off := 2, lo := 0, width := 8, signed := false, cls := .S, install := true, bnd := .main, reset := 0x10,
    ranges := [] }

/-- R235, record 0: Charge profile instance 0–3. On landing, the charger enters the new profile's INITIAL; counts are kept. -/
def Fld.Chg.PROFILE : Field :=
  { record := .chg0, off := 3, lo := 0, width := 8, signed := false, cls := .B, install := true, bnd := .main, reset := 0x00,
    ranges := [(0, 3)] }

/-- R235, record 0: 10,000–2,000,000 mAh. -/
def Fld.Chg.RATED_MAH : Field :=
  { record := .chg0, off := 4, lo := 0, width := 32, signed := false, cls := .B, install := true, bnd := .main, reset := 0x186A0,
    ranges := [(10000, 2000000)] }

/-- R235, record 0: Programmed charge current, 0–30,000 mA. -/
def Fld.Chg.I_CHG_MA : Field :=
  { record := .chg0, off := 8, lo := 0, width := 32, signed := false, cls := .L, install := true, bnd := .main, reset := 0x4E20,
    ranges := [(0, 30000)] }

/-- R235, record 0: 1,000–40,000 mA. SW. -/
def Fld.Chg.I_DSG_MAX_MA : Field :=
  { record := .chg0, off := 12, lo := 0, width := 32, signed := false, cls := .B, install := true, bnd := .sw, reset := 0x9C40,
    ranges := [(1000, 40000)] }

/-- R235, record 0: End-of-discharge voltage, mV/cell (R236). SW. -/
def Fld.Chg.EOD_MV_CELL : Field :=
  { record := .chg0, off := 16, lo := 0, width := 16, signed := false, cls := .L, install := true, bnd := .sw, reset := 0x0A8C,
    ranges := [] }

/-- R235, record 0: Pack over-voltage, mV/cell (R236). SW. -/
def Fld.Chg.CELL_OV_MV : Field :=
  { record := .chg0, off := 18, lo := 0, width := 16, signed := false, cls := .B, install := true, bnd := .sw, reset := 0x0E74,
    ranges := [] }

/-- R235, record 0: 1–600 min. -/
def Fld.Chg.PRE_TIMER_MIN : Field :=
  { record := .chg0, off := 20, lo := 0, width := 16, signed := false, cls := .L, install := true, bnd := .main, reset := 0x003C,
    ranges := [(1, 600)] }

/-- R235, record 0: 60–2,880 min. -/
def Fld.Chg.CCCV_TIMER_MIN : Field :=
  { record := .chg0, off := 22, lo := 0, width := 16, signed := false, cls := .L, install := true, bnd := .main, reset := 0x02D0,
    ranges := [(60, 2880)] }

/-- R235, record 0: Fast trip, 42,000–60,000 mA. SW. -/
def Fld.Chg.FAST_MA : Field :=
  { record := .chg0, off := 24, lo := 0, width := 32, signed := false, cls := .B, install := true, bnd := .sw, reset := 0xD6D8,
    ranges := [(42000, 60000)] }

/-- R235, record 0: 100–400 kHz. -/
def Fld.Chg.FSW_KHZ : Field :=
  { record := .chg0, off := 28, lo := 0, width := 16, signed := false, cls := .S, install := true, bnd := .main, reset := 0x00C8,
    ranges := [(100, 400)] }

/-- R235, record 0: 100–10,000 µΩ. -/
def Fld.Chg.SHUNT_UOHM : Field :=
  { record := .chg0, off := 30, lo := 0, width := 16, signed := false, cls := .S, install := true, bnd := .main, reset := 0x03E8,
    ranges := [(100, 10000)] }

/-- R235, record 0: 1,000–50,000 Ω. -/
def Fld.Chg.NTC_R25_OHM : Field :=
  { record := .chg0, off := 32, lo := 0, width := 16, signed := false, cls := .L, install := true, bnd := .main, reset := 0x2710,
    ranges := [(1000, 50000)] }

/-- R235, record 0: 2,000–5,000 K. -/
def Fld.Chg.NTC_BETA : Field :=
  { record := .chg0, off := 34, lo := 0, width := 16, signed := false, cls := .L, install := true, bnd := .main, reset := 0x0D6B,
    ranges := [(2000, 5000)] }

/-- R235, record 0: NTC1 fitted. -/
def Fld.Chg.NTC1_EN : Field :=
  { record := .chg0, off := 36, lo := 0, width := 1, signed := false, cls := .L, install := true, bnd := .main, reset := 1,
    ranges := [] }

/-- R235, record 0: NTC2 fitted. -/
def Fld.Chg.NTC2_EN : Field :=
  { record := .chg0, off := 36, lo := 1, width := 1, signed := false, cls := .L, install := true, bnd := .main, reset := 1,
    ranges := [] }

/-- R235, record 0: i16, 0.1 °C, 400–900. SW. -/
def Fld.Chg.TMAX_BAT : Field :=
  { record := .chg0, off := 38, lo := 0, width := 16, signed := true, cls := .L, install := true, bnd := .sw, reset := 0x02BC,
    ranges := [(400, 900)] }

/-- R235, record 0: 100–2,000 mV. SW. -/
def Fld.Chg.MATCH_MV : Field :=
  { record := .chg0, off := 40, lo := 0, width := 16, signed := false, cls := .L, install := true, bnd := .sw, reset := 0x01F4,
    ranges := [(100, 2000)] }

/-- R235, record 0: 1–600 s. SW. -/
def Fld.Chg.RETRY_S : Field :=
  { record := .chg0, off := 42, lo := 0, width := 16, signed := false, cls := .L, install := true, bnd := .sw, reset := 0x001E,
    ranges := [(1, 600)] }

/-- R235, record 0: 1–255 ms. SW. -/
def Fld.Chg.BMS_FILT_MS : Field :=
  { record := .chg0, off := 44, lo := 0, width := 8, signed := false, cls := .L, install := true, bnd := .sw, reset := 0x0A,
    ranges := [(1, 255)] }

/-- R235, record 0: 1,000–20,000 mA. SW. -/
def Fld.Chg.COLD_ILIM_MA : Field :=
  { record := .chg0, off := 46, lo := 0, width := 16, signed := false, cls := .L, install := true, bnd := .sw, reset := 0x2710,
    ranges := [(1000, 20000)] }

/-- R263, record 0: Capacity learning enabled. -/
def Fld.Gauge.LEARN_EN : Field :=
  { record := .gauge0, off := 0, lo := 0, width := 1, signed := false, cls := .L, install := true, bnd := .main, reset := 1,
    ranges := [] }

/-- R263, record 0: OCV instance 0–3. Its CHEM must equal the string's CHEM, or the write returns BAD_PARAM. -/
def Fld.Gauge.OCV_INST : Field :=
  { record := .gauge0, off := 1, lo := 0, width := 8, signed := false, cls := .B, install := true, bnd := .main, reset := 0x00,
    ranges := [(0, 3)] }

/-- R263, record 0: Charge efficiency, 9,000–10,000 in 0.01%. -/
def Fld.Gauge.CHG_EFF : Field :=
  { record := .gauge0, off := 2, lo := 0, width := 16, signed := false, cls := .L, install := true, bnd := .main, reset := 0x2706,
    ranges := [(9000, 10000)] }

/-- R263, record 0: Ohmic resistance of the string, 1,000–1,000,000 µΩ. -/
def Fld.Gauge.R0_UOHM : Field :=
  { record := .gauge0, off := 4, lo := 0, width := 32, signed := false, cls := .B, install := true, bnd := .main, reset := 0x4E20,
    ranges := [(1000, 1000000)] }

/-- R263, record 0: 1,000–1,000,000 µΩ. -/
def Fld.Gauge.R1_UOHM : Field :=
  { record := .gauge0, off := 8, lo := 0, width := 32, signed := false, cls := .B, install := true, bnd := .main, reset := 0x2710,
    ranges := [(1000, 1000000)] }

/-- R263, record 0: 1–600 s. -/
def Fld.Gauge.TAU1_S : Field :=
  { record := .gauge0, off := 12, lo := 0, width := 16, signed := false, cls := .B, install := true, bnd := .main, reset := 0x001E,
    ranges := [(1, 600)] }

/-- R263, record 0: 60–36,000 s; must exceed TAU1_S. -/
def Fld.Gauge.TAU2_S : Field :=
  { record := .gauge0, off := 14, lo := 0, width := 16, signed := false, cls := .B, install := true, bnd := .main, reset := 0x0384,
    ranges := [(60, 36000)] }

/-- R263, record 0: 1,000–1,000,000 µΩ. -/
def Fld.Gauge.R2_UOHM : Field :=
  { record := .gauge0, off := 16, lo := 0, width := 32, signed := false, cls := .B, install := true, bnd := .main, reset := 0x3A98,
    ranges := [(1000, 1000000)] }

/-- R263, record 0: Qualified rest, 5–720 min. -/
def Fld.Gauge.ANCHOR_MIN : Field :=
  { record := .gauge0, off := 20, lo := 0, width := 16, signed := false, cls := .L, install := true, bnd := .main, reset := 0x001E,
    ranges := [(5, 720)] }

/-- R263, record 0: 5–1,440 min. -/
def Fld.Gauge.STATE_SAVE_MIN : Field :=
  { record := .gauge0, off := 22, lo := 0, width := 16, signed := false, cls := .L, install := true, bnd := .main, reset := 0x000F,
    ranges := [(5, 1440)] }

/-- R264, record 1: Backup time protected by the reserve, 0–1,440 min. -/
def Fld.Gauge.BACKUP_MIN : Field :=
  { record := .gauge1, off := 0, lo := 0, width := 16, signed := false, cls := .L, install := true, bnd := .main, reset := 0x00F0,
    ranges := [(0, 1440)] }

/-- R264, record 1: Load protected, 0–20,000 W; 0 disables the reserve. -/
def Fld.Gauge.BACKUP_W : Field :=
  { record := .gauge1, off := 4, lo := 0, width := 32, signed := false, cls := .L, install := true, bnd := .main, reset := 0x0000,
    ranges := [(0, 20000)] }

/-- R295, record 0: 0x00 bus; 0x01 HK12; 0x10–0x1F domain D0–D15 (R270). I. -/
def Fld.Dom.INPUT_SRC : Field :=
  { record := .dom0, off := 0, lo := 0, width := 8, signed := false, cls := .S, install := true, bnd := .main, reset := 0x00,
    ranges := [(0, 1), (16, 31)] }

/-- R295, record 0: 0 low; 1 high (R278). -/
def Fld.Dom.RANGE : Field :=
  { record := .dom0, off := 1, lo := 0, width := 1, signed := false, cls := .S, install := false, bnd := .main, reset := 0,
    ranges := [] }

/-- R295, record 0: Diode emulation (R285). -/
def Fld.Dom.DE_EN : Field :=
  { record := .dom0, off := 1, lo := 1, width := 1, signed := false, cls := .L, install := false, bnd := .main, reset := 1,
    ranges := [] }

/-- R295, record 0: 0 none; 1 brake; 2 truncate; 3 out of range. -/
def Fld.Dom.LR_MODE : Field :=
  { record := .dom0, off := 1, lo := 2, width := 2, signed := false, cls := .L, install := false, bnd := .main, reset := 0x1,
    ranges := [(0, 2)] }

/-- R295, record 0: R277. -/
def Fld.Dom.SYNC_EN : Field :=
  { record := .dom0, off := 1, lo := 4, width := 1, signed := false, cls := .S, install := false, bnd := .main, reset := 0,
    ranges := [] }

/-- R295, record 0: 1: an over-voltage latches. -/
def Fld.Dom.OV_LATCH : Field :=
  { record := .dom0, off := 1, lo := 5, width := 1, signed := false, cls := .L, install := false, bnd := .main, reset := 1,
    ranges := [] }

/-- R295, record 0: 0 percentage; 1 absolute (R281). -/
def Fld.Dom.WIN_MODE : Field :=
  { record := .dom0, off := 1, lo := 6, width := 1, signed := false, cls := .B, install := false, bnd := .main, reset := 0,
    ranges := [] }

/-- R295, record 0: Fold-back instance 0–3. -/
def Fld.Dom.FOLD_INST : Field :=
  { record := .dom0, off := 2, lo := 0, width := 8, signed := false, cls := .B, install := false, bnd := .main, reset := 0x00,
    ranges := [(0, 3)] }

/-- R295, record 0: Shedding instance 0–3; 0xFF none. -/
def Fld.Dom.SHED_INST : Field :=
  { record := .dom0, off := 3, lo := 0, width := 8, signed := false, cls := .B, install := false, bnd := .main, reset := 0xFF,
    ranges := [(0, 3), (255, 255)] }

/-- R295, record 0: Phase mask; 0 unused, otherwise 1–8 bits set. I. -/
def Fld.Dom.PHASES : Field :=
  { record := .dom0, off := 4, lo := 0, width := 32, signed := false, cls := .S, install := true, bnd := .main, reset := 0x00000000,
    ranges := [] }

/-- R295, record 0: Nominal target. -/
def Fld.Dom.VOUT_MV : Field :=
  { record := .dom0, off := 8, lo := 0, width := 32, signed := false, cls := .L, install := false, bnd := .main, reset := 0x000003E8,
    ranges := [] }

/-- R295, record 0: High margin target. -/
def Fld.Dom.MARGIN_HIGH_MV : Field :=
  { record := .dom0, off := 12, lo := 0, width := 32, signed := false, cls := .L, install := false, bnd := .main, reset := 0x0000041A,
    ranges := [] }

/-- R295, record 0: Low margin target. -/
def Fld.Dom.MARGIN_LOW_MV : Field :=
  { record := .dom0, off := 16, lo := 0, width := 32, signed := false, cls := .L, install := false, bnd := .main, reset := 0x000003B6,
    ranges := [] }

/-- R295, record 0: 5–2,000, in 0.01 mV/µs. -/
def Fld.Dom.SLEW : Field :=
  { record := .dom0, off := 20, lo := 0, width := 16, signed := false, cls := .L, install := false, bnd := .main, reset := 0x0064,
    ranges := [(5, 2000)] }

/-- R295, record 0: 2–1,000 (0.2–100 ms). -/
def Fld.Dom.SS_0P1MS : Field :=
  { record := .dom0, off := 22, lo := 0, width := 16, signed := false, cls := .B, install := false, bnd := .main, reset := 0x0014,
    ranges := [(2, 1000)] }

/-- R295, record 0: 0–1,000; 0 makes soft off immediate. -/
def Fld.Dom.SOFT_STOP_0P1MS : Field :=
  { record := .dom0, off := 24, lo := 0, width := 16, signed := false, cls := .L, install := false, bnd := .main, reset := 0x0014,
    ranges := [(0, 1000)] }

/-- R295, record 0: 200–2,000. -/
def Fld.Dom.FSW_KHZ : Field :=
  { record := .dom0, off := 26, lo := 0, width := 16, signed := false, cls := .S, install := false, bnd := .main, reset := 0x01F4,
    ranges := [(200, 2000)] }

/-- R295, record 0: R275. -/
def Fld.Dom.KP : Field :=
  { record := .dom0, off := 28, lo := 0, width := 16, signed := false, cls := .B, install := false, bnd := .main, reset := 0x0040,
    ranges := [] }

/-- R295, record 0: R275. -/
def Fld.Dom.KI : Field :=
  { record := .dom0, off := 30, lo := 0, width := 16, signed := false, cls := .B, install := false, bnd := .main, reset := 0x0004,
    ranges := [] }

/-- R295, record 0: R275. -/
def Fld.Dom.KD : Field :=
  { record := .dom0, off := 32, lo := 0, width := 16, signed := false, cls := .B, install := false, bnd := .main, reset := 0x0100,
    ranges := [] }

/-- R295, record 0: 0–255. -/
def Fld.Dom.DPOLE : Field :=
  { record := .dom0, off := 34, lo := 0, width := 8, signed := false, cls := .B, install := false, bnd := .main, reset := 0x80,
    ranges := [(0, 255)] }

/-- R295, record 0: 1–8. -/
def Fld.Dom.SYNC_MULT : Field :=
  { record := .dom0, off := 35, lo := 0, width := 8, signed := false, cls := .S, install := false, bnd := .main, reset := 0x01,
    ranges := [(1, 8)] }

/-- R295, record 0: 0–63, in 1/64 of the domain period. -/
def Fld.Dom.PHASE_OFS : Field :=
  { record := .dom0, off := 36, lo := 0, width := 8, signed := false, cls := .S, install := false, bnd := .main, reset := 0x00,
    ranges := [(0, 63)] }

/-- R295, record 0: 1–8. -/
def Fld.Dom.MIN_PH : Field :=
  { record := .dom0, off := 37, lo := 0, width := 8, signed := false, cls := .B, install := false, bnd := .main, reset := 0x01,
    ranges := [(1, 8)] }

/-- R295, record 0: 2–20%. -/
def Fld.Dom.OV_PCT : Field :=
  { record := .dom0, off := 38, lo := 0, width := 8, signed := false, cls := .L, install := false, bnd := .main, reset := 0x03,
    ranges := [(2, 20)] }

/-- R295, record 0: 2–20%. -/
def Fld.Dom.UV_PCT : Field :=
  { record := .dom0, off := 39, lo := 0, width := 8, signed := false, cls := .L, install := false, bnd := .main, reset := 0x03,
    ranges := [(2, 20)] }

/-- R295, record 0: Absolute OV limit. -/
def Fld.Dom.OV_MV : Field :=
  { record := .dom0, off := 40, lo := 0, width := 32, signed := false, cls := .L, install := false, bnd := .main, reset := 0x00000406,
    ranges := [] }

/-- R295, record 0: Absolute UV limit. -/
def Fld.Dom.UV_MV : Field :=
  { record := .dom0, off := 44, lo := 0, width := 32, signed := false, cls := .L, install := false, bnd := .main, reset := 0x000003CA,
    ranges := [] }

/-- R295, record 0: 5–5,000, in 0.1 µs. -/
def Fld.Dom.OV_FILT : Field :=
  { record := .dom0, off := 48, lo := 0, width := 16, signed := false, cls := .L, install := false, bnd := .main, reset := 0x000A,
    ranges := [(5, 5000)] }

/-- R295, record 0: 5–5,000, in 0.1 µs. -/
def Fld.Dom.UV_FILT : Field :=
  { record := .dom0, off := 50, lo := 0, width := 16, signed := false, cls := .L, install := false, bnd := .main, reset := 0x0064,
    ranges := [(5, 5000)] }

/-- R295, record 0: 500–200,000 mA. -/
def Fld.Dom.ILIM_MA : Field :=
  { record := .dom0, off := 52, lo := 0, width := 32, signed := false, cls := .B, install := false, bnd := .main, reset := 0x00002710,
    ranges := [(500, 200000)] }

/-- R295, record 0: 1–1,000 ms. -/
def Fld.Dom.OC_TRIP_MS : Field :=
  { record := .dom0, off := 56, lo := 0, width := 16, signed := false, cls := .L, install := false, bnd := .main, reset := 0x000A,
    ranges := [(1, 1000)] }

/-- R295, record 0: 10–10,000 ms. -/
def Fld.Dom.RETRY_MS : Field :=
  { record := .dom0, off := 58, lo := 0, width := 16, signed := false, cls := .L, install := false, bnd := .main, reset := 0x03E8,
    ranges := [(10, 10000)] }

/-- R295, record 0: 0–7. -/
def Fld.Dom.RETRIES : Field :=
  { record := .dom0, off := 60, lo := 0, width := 8, signed := false, cls := .L, install := false, bnd := .main, reset := 0x03,
    ranges := [(0, 7)] }

/-- R295, record 0: 5–500 mV. -/
def Fld.Dom.LR_THRESH_MV : Field :=
  { record := .dom0, off := 62, lo := 0, width := 16, signed := false, cls := .L, install := false, bnd := .main, reset := 0x001E,
    ranges := [(5, 500)] }

/-- R295, record 0: 1–100 µs. -/
def Fld.Dom.LR_MAX_US : Field :=
  { record := .dom0, off := 64, lo := 0, width := 16, signed := false, cls := .L, install := false, bnd := .main, reset := 0x000A,
    ranges := [(1, 100)] }

/-- R295, record 0: 1–1,000 ms. -/
def Fld.Dom.SS_TIMEOUT_MS : Field :=
  { record := .dom0, off := 66, lo := 0, width := 16, signed := false, cls := .L, install := false, bnd := .main, reset := 0x000A,
    ranges := [(1, 1000)] }

/-- R296, record 1: Divider ratio in 0.01, 100–10,000 (20.00:1 by default). I. -/
def Fld.Dom.SWS_RATIO (k : Nat) : Field :=
  { record := .dom1, off := 12 * k, lo := 0, width := 16, signed := false, cls := .S, install := true, bnd := .main, reset := 0x07D0,
    ranges := [(100, 10000)] }

/-- R296, record 1: 1–1,000 mV/A. I. -/
def Fld.Dom.CS_MV_A (k : Nat) : Field :=
  { record := .dom1, off := 12 * k + 2, lo := 0, width := 16, signed := false, cls := .S, install := true, bnd := .main, reset := 0x0005,
    ranges := [(1, 1000)] }

/-- R296, record 1: 300–2,700 mV. I. -/
def Fld.Dom.CS_ZERO_MV (k : Nat) : Field :=
  { record := .dom1, off := 12 * k + 4, lo := 0, width := 16, signed := false, cls := .S, install := true, bnd := .main, reset := 0x05DC,
    ranges := [(300, 2700)] }

/-- R296, record 1: 1,000–200,000 mA. -/
def Fld.Dom.PH_OCP_MA (k : Nat) : Field :=
  { record := .dom1, off := 12 * k + 8, lo := 0, width := 32, signed := false, cls := .B, install := false, bnd := .main, reset := 0x00007530,
    ranges := [(1000, 200000)] }

/-- R297, record 2: Bit k: Dk is a member of channel group g. -/
def Fld.Dom.GROUP (k : Nat) : Field :=
  { record := .dom2, off := 2 * k, lo := 0, width := 16, signed := false, cls := .L, install := false, bnd := .main, reset := 0x0000,
    ranges := [] }

/-- R297, record 2: Internal reference, 200–2,000 kHz. -/
def Fld.Dom.REF_KHZ : Field :=
  { record := .dom2, off := 32, lo := 0, width := 16, signed := false, cls := .B, install := false, bnd := .main, reset := 0x01F4,
    ranges := [(200, 2000)] }

/-- R297, record 2: 0 internal; 1 SYNC_IN. -/
def Fld.Dom.SYNC_SRC : Field :=
  { record := .dom2, off := 34, lo := 0, width := 1, signed := false, cls := .L, install := false, bnd := .main, reset := 0,
    ranges := [] }

/-- R297, record 2: R277. -/
def Fld.Dom.SYNC_OUT_EN : Field :=
  { record := .dom2, off := 34, lo := 1, width := 1, signed := false, cls := .L, install := false, bnd := .main, reset := 0,
    ranges := [] }

/-- R318, record 0: 0 declares the port absent (R47). -/
def Fld.Feed.PRESENT : Field :=
  { record := .feed0, off := 0, lo := 0, width := 1, signed := false, cls := .S, install := false, bnd := .main, reset := 1,
    ranges := [] }

/-- R318, record 0: 1: enable set at firmware ready. -/
def Fld.Feed.AUTO_ON : Field :=
  { record := .feed0, off := 0, lo := 1, width := 1, signed := false, cls := .L, install := false, bnd := .main, reset := 0,
    ranges := [] }

/-- R318, record 0: R313. -/
def Fld.Feed.LATCH_KEEP : Field :=
  { record := .feed0, off := 0, lo := 2, width := 1, signed := false, cls := .L, install := false, bnd := .main, reset := 1,
    ranges := [] }

/-- R318, record 0: Priority class 0–7 (R314). -/
def Fld.Feed.CLASS : Field :=
  { record := .feed0, off := 1, lo := 0, width := 8, signed := false, cls := .L, install := false, bnd := .main, reset := 0x04,
    ranges := [(0, 7)] }

/-- R318, record 0: Breaker curve instance 0–7. I. -/
def Fld.Feed.CURVE : Field :=
  { record := .feed0, off := 2, lo := 0, width := 8, signed := false, cls := .B, install := true, bnd := .main, reset := 0x00,
    ranges := [(0, 7)] }

/-- R318, record 0: 0–15. -/
def Fld.Feed.RETRIES : Field :=
  { record := .feed0, off := 3, lo := 0, width := 8, signed := false, cls := .L, install := false, bnd := .main, reset := 0x03,
    ranges := [(0, 15)] }

/-- R318, record 0: 5,000–60,000 mA. I. -/
def Fld.Feed.FAST_MA : Field :=
  { record := .feed0, off := 4, lo := 0, width := 32, signed := false, cls := .B, install := true, bnd := .main, reset := 0x9C40,
    ranges := [(5000, 60000)] }

/-- R318, record 0: 250–10,000 mA. -/
def Fld.Feed.INRUSH_MA : Field :=
  { record := .feed0, off := 8, lo := 0, width := 32, signed := false, cls := .B, install := false, bnd := .main, reset := 0x07D0,
    ranges := [(250, 10000)] }

/-- R318, record 0: 1–500 ms. -/
def Fld.Feed.SOA_MS : Field :=
  { record := .feed0, off := 12, lo := 0, width := 16, signed := false, cls := .L, install := false, bnd := .main, reset := 0x0032,
    ranges := [(1, 500)] }

/-- R318, record 0: 10–10,000 ms. -/
def Fld.Feed.INSERT_MS : Field :=
  { record := .feed0, off := 14, lo := 0, width := 16, signed := false, cls := .L, install := false, bnd := .main, reset := 0x0064,
    ranges := [(10, 10000)] }

/-- R318, record 0: 36,000–57,000 mV. -/
def Fld.Feed.UV_MV : Field :=
  { record := .feed0, off := 16, lo := 0, width := 32, signed := false, cls := .L, install := false, bnd := .main, reset := 0xA410,
    ranges := [(36000, 57000)] }

/-- R318, record 0: 45,000–60,000 mV. -/
def Fld.Feed.OV_MV : Field :=
  { record := .feed0, off := 20, lo := 0, width := 32, signed := false, cls := .L, install := false, bnd := .main, reset := 0xE484,
    ranges := [(45000, 60000)] }

/-- R318, record 0: 100–2,000 mV. -/
def Fld.Feed.HYST_MV : Field :=
  { record := .feed0, off := 24, lo := 0, width := 16, signed := false, cls := .L, install := false, bnd := .main, reset := 0x01F4,
    ranges := [(100, 2000)] }

/-- R318, record 0: 10–1,000 µs. -/
def Fld.Feed.UV_FILT_US : Field :=
  { record := .feed0, off := 26, lo := 0, width := 16, signed := false, cls := .L, install := false, bnd := .main, reset := 0x0064,
    ranges := [(10, 1000)] }

/-- R318, record 0: 100–10,000 µΩ. I. -/
def Fld.Feed.SHUNT_UOHM : Field :=
  { record := .feed0, off := 28, lo := 0, width := 16, signed := false, cls := .S, install := true, bnd := .main, reset := 0x03E8,
    ranges := [(100, 10000)] }

/-- R318, record 0: 10–3,600 s (R312). -/
def Fld.Feed.RESET_S : Field :=
  { record := .feed0, off := 30, lo := 0, width := 16, signed := false, cls := .L, install := false, bnd := .main, reset := 0x012C,
    ranges := [(10, 3600)] }

/-- R319, record 1: Bit n: FPn is a member of channel group g. Bits [31:24] reserved. -/
def Fld.Feed.GROUP (k : Nat) : Field :=
  { record := .feed1, off := 4 * k, lo := 0, width := 32, signed := false, cls := .L, install := false, bnd := .main, reset := 0x00000000,
    ranges := [(0, 16777215)] }

/-- R348, record 0: 0: ports send idles only, forward nothing and take part in nothing. -/
def Fld.Link.LINK_EN : Field :=
  { record := .link0, off := 0, lo := 0, width := 1, signed := false, cls := .L, install := true, bnd := .main, reset := 1,
    ranges := [] }

/-- R348, record 0: Generation 2 allowed (R327). -/
def Fld.Link.GEN2_EN : Field :=
  { record := .link0, off := 0, lo := 1, width := 1, signed := false, cls := .S, install := true, bnd := .main, reset := 1,
    ranges := [] }

/-- R348, record 0: Eligible as root (R332, R333). -/
def Fld.Link.ROOT_CAPABLE : Field :=
  { record := .link0, off := 0, lo := 2, width := 1, signed := false, cls := .L, install := true, bnd := .main, reset := 1,
    ranges := [] }

/-- R348, record 0: 1 plant capping; 0 local (R345). -/
def Fld.Link.PLANT_CAP : Field :=
  { record := .link0, off := 0, lo := 3, width := 1, signed := false, cls := .L, install := true, bnd := .main, reset := 1,
    ranges := [] }

/-- R348, record 0: 0x00 none; 0x01–0xEF pinned address (R331). -/
def Fld.Link.PIN_ADDR : Field :=
  { record := .link0, off := 1, lo := 0, width := 8, signed := false, cls := .S, install := true, bnd := .main, reset := 0x00,
    ranges := [(0, 239)] }

/-- R348, record 0: 10–1,000 µs, multiple of 10 (R341). -/
def Fld.Link.SHARE_US : Field :=
  { record := .link0, off := 2, lo := 0, width := 16, signed := false, cls := .S, install := true, bnd := .main, reset := 0x000A,
    ranges := [(10, 1000)] }

/-- R348, record 0: 1–1,000, threshold multiplier used when this node is root. -/
def Fld.Link.CAP_SCALE : Field :=
  { record := .link0, off := 4, lo := 0, width := 16, signed := false, cls := .L, install := true, bnd := .main, reset := 0x0001,
    ranges := [(1, 1000)] }

/-- R348, record 0: Bit p: ZLp enabled. -/
def Fld.Link.PORT_EN : Field :=
  { record := .link0, off := 6, lo := 0, width := 3, signed := false, cls := .S, install := true, bnd := .main, reset := 0x7,
    ranges := [] }

/-- R349, record 1: Lowest cap level this node requests, 0–15. -/
def Fld.Link.CAP_FLOOR : Field :=
  { record := .link1, off := 0, lo := 0, width := 8, signed := false, cls := .L, install := true, bnd := .main, reset := 0x00,
    ranges := [(0, 15)] }

/-- R349, record 1: 0–100,000 W; 0xFFFFFFFF no limit. -/
def Fld.Link.HEAD_MAX_W : Field :=
  { record := .link1, off := 4, lo := 0, width := 32, signed := false, cls := .L, install := true, bnd := .main, reset := 0xFFFFFFFF,
    ranges := [(0, 100000), (4294967295, 4294967295)] }

/-- R374, record 0: 0 declares the port absent (R47). -/
def Fld.Pd.PRESENT : Field :=
  { record := .pd0, off := 0, lo := 0, width := 1, signed := false, cls := .S, install := false, bnd := .main, reset := 1,
    ranges := [] }

/-- R374, record 0: 0: Type-C only from each attach. -/
def Fld.Pd.PD_EN : Field :=
  { record := .pd0, off := 0, lo := 1, width := 1, signed := false, cls := .L, install := false, bnd := .main, reset := 1,
    ranges := [] }

/-- R374, record 0: R360. -/
def Fld.Pd.VCONN_EN : Field :=
  { record := .pd0, off := 0, lo := 2, width := 1, signed := false, cls := .L, install := false, bnd := .main, reset := 1,
    ranges := [] }

/-- R374, record 0: R366. -/
def Fld.Pd.ESC_EN : Field :=
  { record := .pd0, off := 0, lo := 3, width := 1, signed := false, cls := .L, install := false, bnd := .main, reset := 1,
    ranges := [] }

/-- R374, record 0: R370. -/
def Fld.Pd.FRS_RX_EN : Field :=
  { record := .pd0, off := 0, lo := 4, width := 1, signed := false, cls := .L, install := false, bnd := .main, reset := 0,
    ranges := [] }

/-- R374, record 0: R370. -/
def Fld.Pd.FRS_TX_EN : Field :=
  { record := .pd0, off := 0, lo := 5, width := 1, signed := false, cls := .L, install := false, bnd := .main, reset := 0,
    ranges := [] }

/-- R374, record 0: SOP′ received. -/
def Fld.Pd.SOP1_EN : Field :=
  { record := .pd0, off := 0, lo := 6, width := 1, signed := false, cls := .L, install := false, bnd := .main, reset := 1,
    ranges := [] }

/-- R374, record 0: SOP″ received. -/
def Fld.Pd.SOP2_EN : Field :=
  { record := .pd0, off := 0, lo := 7, width := 1, signed := false, cls := .L, install := false, bnd := .main, reset := 0,
    ranges := [] }

/-- R374, record 0: 0 sink; 1 source; 2 DRP; 3 DRP with Try.SNK; 4 DRP with Try.SRC; 5–7 out of range. I. -/
def Fld.Pd.ROLE : Field :=
  { record := .pd0, off := 1, lo := 0, width := 3, signed := false, cls := .S, install := true, bnd := .main, reset := 0x3,
    ranges := [(0, 4)] }

/-- R374, record 0: 0 Default; 1 1.5 A; 2 3.0 A; 3 out of range. -/
def Fld.Pd.RP_MAX : Field :=
  { record := .pd0, off := 1, lo := 3, width := 2, signed := false, cls := .L, install := false, bnd := .main, reset := 0x2,
    ranges := [(0, 2)] }

/-- R374, record 0: 24–33. -/
def Fld.Pd.T_SENDER_RESP_MS : Field :=
  { record := .pd0, off := 2, lo := 0, width := 8, signed := false, cls := .L, install := false, bnd := .main, reset := 0x1B,
    ranges := [(24, 33)] }

/-- R374, record 0: 10–20. -/
def Fld.Pd.T_PD_DEBOUNCE_MS : Field :=
  { record := .pd0, off := 3, lo := 0, width := 8, signed := false, cls := .L, install := false, bnd := .main, reset := 0x0F,
    ranges := [(10, 20)] }

/-- R374, record 0: 100–200. -/
def Fld.Pd.T_CC_DEBOUNCE_MS : Field :=
  { record := .pd0, off := 4, lo := 0, width := 16, signed := false, cls := .L, install := false, bnd := .main, reset := 0x0096,
    ranges := [(100, 200)] }

/-- R374, record 0: 450–550. -/
def Fld.Pd.T_PS_TRANS_MS : Field :=
  { record := .pd0, off := 6, lo := 0, width := 16, signed := false, cls := .L, install := false, bnd := .main, reset := 0x01F4,
    ranges := [(450, 550)] }

/-- R374, record 0: 830–1,020. -/
def Fld.Pd.T_PS_TRANS_EPR_MS : Field :=
  { record := .pd0, off := 8, lo := 0, width := 16, signed := false, cls := .L, install := false, bnd := .main, reset := 0x039D,
    ranges := [(830, 1020)] }

/-- R374, record 0: 50–650. -/
def Fld.Pd.T_SAFE0V_MS : Field :=
  { record := .pd0, off := 10, lo := 0, width := 16, signed := false, cls := .L, install := false, bnd := .main, reset := 0x028A,
    ranges := [(50, 650)] }

/-- R374, record 0: 660–1,000. -/
def Fld.Pd.T_SRC_RECOVER_MS : Field :=
  { record := .pd0, off := 12, lo := 0, width := 16, signed := false, cls := .L, install := false, bnd := .main, reset := 0x02EE,
    ranges := [(660, 1000)] }

/-- R374, record 0: 0–3. -/
def Fld.Pd.N_HARD_RESET : Field :=
  { record := .pd0, off := 14, lo := 0, width := 8, signed := false, cls := .L, install := false, bnd := .main, reset := 0x02,
    ranges := [(0, 3)] }

/-- R374, record 0: 0–3. -/
def Fld.Pd.N_RETRY_3X : Field :=
  { record := .pd0, off := 15, lo := 0, width := 4, signed := false, cls := .L, install := false, bnd := .main, reset := 0x2,
    ranges := [(0, 3)] }

/-- R374, record 0: 0–3. -/
def Fld.Pd.N_RETRY_20 : Field :=
  { record := .pd0, off := 15, lo := 4, width := 4, signed := false, cls := .L, install := false, bnd := .main, reset := 0x3,
    ranges := [(0, 3)] }

/-- R374, record 0: 0–240 W. SW. -/
def Fld.Pd.SRC_LIMIT_W : Field :=
  { record := .pd0, off := 16, lo := 0, width := 16, signed := false, cls := .L, install := false, bnd := .sw, reset := 0x00F0,
    ranges := [(0, 240)] }

/-- R374, record 0: 0–240 W. SW. -/
def Fld.Pd.SNK_LIMIT_W : Field :=
  { record := .pd0, off := 18, lo := 0, width := 16, signed := false, cls := .L, install := false, bnd := .sw, reset := 0x00F0,
    ranges := [(0, 240)] }

/-- R374, record 0: 1–300, in 0.1 mV/µs. SW. -/
def Fld.Pd.VBUS_SLEW : Field :=
  { record := .pd0, off := 20, lo := 0, width := 16, signed := false, cls := .L, install := false, bnd := .sw, reset := 0x0032,
    ranges := [(1, 300)] }

/-- R374, record 0: 200–600. SW. -/
def Fld.Pd.FSW_KHZ : Field :=
  { record := .pd0, off := 22, lo := 0, width := 16, signed := false, cls := .S, install := false, bnd := .sw, reset := 0x012C,
    ranges := [(200, 600)] }

/-- R374, record 0: 1,000–10,000 µΩ. I. -/
def Fld.Pd.SHUNT_UOHM : Field :=
  { record := .pd0, off := 24, lo := 0, width := 16, signed := false, cls := .S, install := true, bnd := .main, reset := 0x1388,
    ranges := [(1000, 10000)] }

/-- R398, record 0: Run PWRUP_INST at firmware ready. -/
def Fld.Seq.AUTO_SEQ : Field :=
  { record := .seq0, off := 0, lo := 0, width := 1, signed := false, cls := .L, install := true, bnd := .main, reset := 1,
    ranges := [] }

/-- R398, record 0: R389 may assert SEQ_FLT_N. -/
def Fld.Seq.FLT_OUT_EN : Field :=
  { record := .seq0, off := 0, lo := 1, width := 1, signed := false, cls := .L, install := true, bnd := .main, reset := 1,
    ranges := [] }

/-- R398, record 0: 0 none; 1 stop and hold; 2 power-down; 3 out of range (R393). -/
def Fld.Seq.FLT_ACTION : Field :=
  { record := .seq0, off := 0, lo := 2, width := 2, signed := false, cls := .L, install := true, bnd := .main, reset := 0x1,
    ranges := [(0, 2)] }

/-- R398, record 0: WDI watchdog enabled. -/
def Fld.Seq.WD_EN : Field :=
  { record := .seq0, off := 0, lo := 4, width := 1, signed := false, cls := .L, install := true, bnd := .main, reset := 0,
    ranges := [] }

/-- R398, record 0: 0–7, KIND 0. -/
def Fld.Seq.PWRUP_INST : Field :=
  { record := .seq0, off := 1, lo := 0, width := 8, signed := false, cls := .B, install := true, bnd := .main, reset := 0x00,
    ranges := [(0, 7)] }

/-- R398, record 0: 1–1,000 µs. -/
def Fld.Seq.SEQ_IN_FILT_US : Field :=
  { record := .seq0, off := 2, lo := 0, width := 16, signed := false, cls := .L, install := true, bnd := .main, reset := 0x000A,
    ranges := [(1, 1000)] }

/-- R398, record 0: 0–65,534 ms; 0 no lower bound. -/
def Fld.Seq.WD_MIN_MS : Field :=
  { record := .seq0, off := 4, lo := 0, width := 16, signed := false, cls := .B, install := true, bnd := .main, reset := 0x0000,
    ranges := [(0, 65534)] }

/-- R398, record 0: 1–65,535 ms. -/
def Fld.Seq.WD_MAX_MS : Field :=
  { record := .seq0, off := 6, lo := 0, width := 16, signed := false, cls := .B, install := true, bnd := .main, reset := 0x03E8,
    ranges := [(1, 65535)] }

/-- R398, record 0: 1–65,535 ms. -/
def Fld.Seq.WD_START_MS : Field :=
  { record := .seq0, off := 8, lo := 0, width := 16, signed := false, cls := .B, install := true, bnd := .main, reset := 0x2710,
    ranges := [(1, 65535)] }

/-- R398, record 0: 1–1,000 ms. -/
def Fld.Seq.RST_PULSE_MS : Field :=
  { record := .seq0, off := 10, lo := 0, width := 16, signed := false, cls := .L, install := true, bnd := .main, reset := 0x0064,
    ranges := [(1, 1000)] }

/-- R398, record 0: Instance 0–7 run at expiry; 0xFF none. -/
def Fld.Seq.WD_SEQ : Field :=
  { record := .seq0, off := 12, lo := 0, width := 8, signed := false, cls := .L, install := true, bnd := .main, reset := 0xFF,
    ranges := [(0, 7), (255, 255)] }

/-- R399, record 1: Input judged. -/
def Fld.Seq.EN : Field :=
  { record := .seq1, off := 0, lo := 0, width := 1, signed := false, cls := .L, install := true, bnd := .main, reset := 0,
    ranges := [] }

/-- R399, record 1: R394; 3 out of range. -/
def Fld.Seq.ACTION : Field :=
  { record := .seq1, off := 0, lo := 1, width := 2, signed := false, cls := .L, install := true, bnd := .main, reset := 0x1,
    ranges := [(0, 2)] }

/-- R399, record 1: Domain 1–15; 0xFF none. -/
def Fld.Seq.LINK : Field :=
  { record := .seq1, off := 1, lo := 0, width := 8, signed := false, cls := .L, install := true, bnd := .main, reset := 0xFF,
    ranges := [(1, 15), (255, 255)] }

/-- R399, record 1: 100–10,000, in 0.01. -/
def Fld.Seq.DIV_RATIO : Field :=
  { record := .seq1, off := 2, lo := 0, width := 16, signed := false, cls := .S, install := true, bnd := .main, reset := 0x0064,
    ranges := [(100, 10000)] }

/-- R399, record 1: 0–65,000 mV at the rail. -/
def Fld.Seq.OV_MV : Field :=
  { record := .seq1, off := 4, lo := 0, width := 32, signed := false, cls := .L, install := true, bnd := .main, reset := 0x00000000,
    ranges := [(0, 65000)] }

/-- R399, record 1: 0–65,000 mV at the rail. -/
def Fld.Seq.UV_MV : Field :=
  { record := .seq1, off := 8, lo := 0, width := 32, signed := false, cls := .L, install := true, bnd := .main, reset := 0x00000000,
    ranges := [(0, 65000)] }

/-- R399, record 1: 1–255 samples. -/
def Fld.Seq.FILT : Field :=
  { record := .seq1, off := 12, lo := 0, width := 8, signed := false, cls := .L, install := true, bnd := .main, reset := 0x04,
    ranges := [(1, 255)] }

/-- R428, record 0: 0 normal; 1 low-power; 2 automatic (R244), A6 only; 3 out of range. -/
def Fld.Meas.LP_MODE : Field :=
  { record := .meas0, off := 0, lo := 0, width := 2, signed := false, cls := .L, install := true, bnd := .main, reset := 0,
    ranges := [(0, 2)] }

/-- R428, record 0: 1–16. -/
def Fld.Meas.ENTRIES : Field :=
  { record := .meas0, off := 1, lo := 0, width := 8, signed := false, cls := .B, install := true, bnd := .main, reset := 0x10,
    ranges := [(1, 16)] }

/-- R428, record 0: First channel converted; 0xFF unused. -/
def Fld.Meas.CHANNEL (k : Nat) : Field :=
  { record := .meas0, off := 8 * k + 4, lo := 0, width := 8, signed := false, cls := .B, install := true, bnd := .main, reset := 0xFF,
    ranges := [] }

/-- R428, record 0: Members of a rotating entry, 1–8. -/
def Fld.Meas.ROT_N (k : Nat) : Field :=
  { record := .meas0, off := 8 * k + 5, lo := 0, width := 8, signed := false, cls := .B, install := true, bnd := .main, reset := 0,
    ranges := [(0, 8)] }

/-- R428, record 0: 1–32, in 0.25 µs. -/
def Fld.Meas.SAMPLE (k : Nat) : Field :=
  { record := .meas0, off := 8 * k + 6, lo := 0, width := 8, signed := false, cls := .B, install := true, bnd := .main, reset := 0x01,
    ranges := [(0, 32)] }

/-- R428, record 0: 0 ×1; 1 ×2; 2 ×4; 3 ×8. -/
def Fld.Meas.GAIN (k : Nat) : Field :=
  { record := .meas0, off := 8 * k + 7, lo := 0, width := 2, signed := false, cls := .B, install := true, bnd := .main, reset := 0x0,
    ranges := [] }

/-- R428, record 0: Triggered entry. -/
def Fld.Meas.TRIG (k : Nat) : Field :=
  { record := .meas0, off := 8 * k + 7, lo := 2, width := 1, signed := false, cls := .B, install := true, bnd := .main, reset := 0,
    ranges := [] }

/-- R428, record 0: R409. -/
def Fld.Meas.TRIG_SRC (k : Nat) : Field :=
  { record := .meas0, off := 8 * k + 8, lo := 0, width := 8, signed := false, cls := .B, install := true, bnd := .main, reset := 0,
    ranges := [] }

/-- R428, record 0: 0–2,000, in 10 ns. -/
def Fld.Meas.DELAY (k : Nat) : Field :=
  { record := .meas0, off := 8 * k + 10, lo := 0, width := 16, signed := false, cls := .B, install := true, bnd := .main, reset := 0x0000,
    ranges := [(0, 2000)] }

/-- R429, record 1: Passes allowed. -/
def Fld.Meas.CAL_EN : Field :=
  { record := .meas1, off := 0, lo := 0, width := 1, signed := false, cls := .L, install := true, bnd := .main, reset := 1,
    ranges := [] }

/-- R429, record 1: R411. -/
def Fld.Meas.DIAG_EN : Field :=
  { record := .meas1, off := 0, lo := 1, width := 1, signed := false, cls := .L, install := true, bnd := .main, reset := 0,
    ranges := [] }

/-- R429, record 1: 2–30 °C. -/
def Fld.Meas.CAL_DELTA_C : Field :=
  { record := .meas1, off := 1, lo := 0, width := 8, signed := false, cls := .L, install := true, bnd := .main, reset := 0x08,
    ranges := [(2, 30)] }

/-- R429, record 1: 0–7 for A0–A7. -/
def Fld.Meas.DIAG_UNIT : Field :=
  { record := .meas1, off := 2, lo := 0, width := 8, signed := false, cls := .L, install := true, bnd := .main, reset := 0x00,
    ranges := [(0, 7)] }

/-- R429, record 1: 0–15. -/
def Fld.Meas.DIAG_ENTRY : Field :=
  { record := .meas1, off := 3, lo := 0, width := 8, signed := false, cls := .L, install := true, bnd := .main, reset := 0x00,
    ranges := [(0, 15)] }

/-- R429, record 1: Pulses per revolution, 1–8. -/
def Fld.Meas.TACH_PPR (k : Nat) : Field :=
  { record := .meas1, off := 1 * k + 4, lo := 0, width := 8, signed := false, cls := .L, install := true, bnd := .main, reset := 0x02,
    ranges := [(1, 8)] }

/-- R430, record 2: R418. -/
def Fld.Meas.MODE : Field :=
  { record := .meas2, off := 0, lo := 0, width := 8, signed := false, cls := .S, install := false, bnd := .main, reset := 0x00,
    ranges := [(0, 3)] }

/-- R430, record 2: Capture input 0–7 (R419). -/
def Fld.Meas.INPUT : Field :=
  { record := .meas2, off := 1, lo := 0, width := 8, signed := false, cls := .S, install := false, bnd := .main, reset := 0x00,
    ranges := [(0, 7)] }

/-- R430, record 2: 0–255. -/
def Fld.Meas.FILT_TICKS : Field :=
  { record := .meas2, off := 2, lo := 0, width := 8, signed := false, cls := .L, install := false, bnd := .main, reset := 0x00,
    ranges := [(0, 255)] }

/-- R430, record 2: 1 inverts the output. -/
def Fld.Meas.POL : Field :=
  { record := .meas2, off := 3, lo := 0, width := 1, signed := false, cls := .S, install := false, bnd := .main, reset := 0,
    ranges := [] }

/-- R430, record 2: 1–0xFFFFFFFF, preload. -/
def Fld.Meas.PERIOD : Field :=
  { record := .meas2, off := 4, lo := 0, width := 32, signed := false, cls := .L, install := false, bnd := .main, reset := 0x00000000,
    ranges := [(1, 4294967295)] }

/-- R430, record 2: 0 to PERIOD + 1, preload. -/
def Fld.Meas.COMPARE : Field :=
  { record := .meas2, off := 8, lo := 0, width := 32, signed := false, cls := .L, install := false, bnd := .main, reset := 0x00000000,
    ranges := [] }

/-- R451, record 0: 0: output low, no stall check. -/
def Fld.Therm.FITTED : Field :=
  { record := .therm0, off := 0, lo := 0, width := 1, signed := false, cls := .S, install := false, bnd := .main, reset := 1,
    ranges := [] }

/-- R451, record 0: R450. -/
def Fld.Therm.STALL_EN : Field :=
  { record := .therm0, off := 0, lo := 1, width := 1, signed := false, cls := .L, install := false, bnd := .main, reset := 1,
    ranges := [] }

/-- R451, record 0: 0 control die hottest; 1 mains die hottest; 2–5 NTC0–NTC3; 6 T_HOT; 7–255 out of range. -/
def Fld.Therm.SRC : Field :=
  { record := .therm0, off := 1, lo := 0, width := 8, signed := false, cls := .L, install := false, bnd := .main, reset := 0x06,
    ranges := [(0, 6)] }

/-- R451, record 0: i16, 0.1 °C, −400 to 1,450. -/
def Fld.Therm.T_LOW : Field :=
  { record := .therm0, off := 2, lo := 0, width := 16, signed := true, cls := .L, install := false, bnd := .main, reset := 0x0190,
    ranges := [(-400, 1450)] }

/-- R451, record 0: i16, 0.1 °C, −400 to 1,450. -/
def Fld.Therm.T_HIGH : Field :=
  { record := .therm0, off := 4, lo := 0, width := 16, signed := true, cls := .L, install := false, bnd := .main, reset := 0x0320,
    ranges := [(-400, 1450)] }

/-- R451, record 0: 0–100%. -/
def Fld.Therm.DUTY_MIN : Field :=
  { record := .therm0, off := 6, lo := 0, width := 8, signed := false, cls := .L, install := false, bnd := .main, reset := 0x1E,
    ranges := [(0, 100)] }

/-- R451, record 0: 0–100%. -/
def Fld.Therm.DUTY_MAX : Field :=
  { record := .therm0, off := 7, lo := 0, width := 8, signed := false, cls := .L, install := false, bnd := .main, reset := 0x64,
    ranges := [(0, 100)] }

/-- R451, record 0: 0–100, in 0.1 °C. -/
def Fld.Therm.HYST : Field :=
  { record := .therm0, off := 8, lo := 0, width := 16, signed := false, cls := .L, install := false, bnd := .main, reset := 0x0014,
    ranges := [(0, 100)] }

/-- R451, record 0: 0–20,000 rpm. -/
def Fld.Therm.STALL_RPM : Field :=
  { record := .therm0, off := 10, lo := 0, width := 16, signed := false, cls := .L, install := false, bnd := .main, reset := 0x01F4,
    ranges := [(0, 20000)] }

/-- R451, record 0: 1–60 s. -/
def Fld.Therm.STALL_S : Field :=
  { record := .therm0, off := 12, lo := 0, width := 8, signed := false, cls := .L, install := false, bnd := .main, reset := 0x05,
    ranges := [(1, 60)] }

/-- R478, record 0: 0: no history records are made. -/
def Fld.Skb.HIST_EN : Field :=
  { record := .skb0, off := 0, lo := 0, width := 1, signed := false, cls := .L, install := false, bnd := .main, reset := 1,
    ranges := [] }

/-- R478, record 0: 0: no captures start. -/
def Fld.Skb.CAP_EN : Field :=
  { record := .skb0, off := 0, lo := 1, width := 1, signed := false, cls := .L, install := false, bnd := .main, reset := 1,
    ranges := [] }

/-- R478, record 0: 2–4: lowest severity that triggers; 5: none by severity. -/
def Fld.Skb.CAP_SEV : Field :=
  { record := .skb0, off := 1, lo := 0, width := 8, signed := false, cls := .L, install := false, bnd := .main, reset := 0x03,
    ranges := [(2, 5)] }

/-- R478, record 0: Capture-set instance 0–7, adopted at the next arming (R148). -/
def Fld.Skb.CAP_SET : Field :=
  { record := .skb0, off := 2, lo := 0, width := 8, signed := false, cls := .L, install := false, bnd := .main, reset := 0x00,
    ranges := [(0, 7)] }

/-- R478, record 0: 0–3,600 s; 0 disables R467's repeat rule. -/
def Fld.Skb.CAP_REPEAT_S : Field :=
  { record := .skb0, off := 4, lo := 0, width := 16, signed := false, cls := .L, install := false, bnd := .main, reset := 0x003C,
    ranges := [(0, 3600)] }

/-- R478, record 0: Fault code that triggers; 0x0000 unused. -/
def Fld.Skb.TRIG_CODE (k : Nat) : Field :=
  { record := .skb0, off := 2 * k + 8, lo := 0, width := 16, signed := false, cls := .L, install := false, bnd := .main, reset := if k = 0 then 0x0801 else if k = 1 then 0x0803 else 0,
    ranges := [] }

/-- The field map of record `rect0`, in offset order, reserved fields included. -/
def fieldMap.rect0 : List Field :=
  [Fld.Rect.PRESENT, Fld.Rect.AUTO_START, Fld.Rect.PRED_EN, Fld.reserved .rect0 (0) 3 5, Fld.reserved .rect0 (1) 0 8, Fld.Rect.QUAL_MS] ++
  [Fld.Rect.BROWNIN_MV, Fld.Rect.BROWNOUT_MV, Fld.Rect.LINE_OV_MV, Fld.Rect.F_MIN_HZ, Fld.Rect.F_MAX_HZ, Fld.Rect.DEV_PCT] ++
  [Fld.Rect.PFC_SHED_PCT, Fld.Rect.ZC_LATE_US, Fld.Rect.RELAY_MS, Fld.Rect.BULK_MV, Fld.Rect.BULK_DROP_MV, Fld.Rect.BULK_MIN_MV] ++
  [Fld.Rect.PFC_KHZ, Fld.Rect.PFC_SS_MS, Fld.Rect.ZC_BLANK_US, Fld.Rect.BURST_ENTER_PCT, Fld.Rect.BURST_EXIT_PCT, Fld.reserved .rect0 (43) 0 8] ++
  [Fld.Rect.BURST_BAND_MV, Fld.Rect.LLC_FMIN_KHZ, Fld.Rect.LLC_FMAX_KHZ, Fld.Rect.LLC_SS_MS, Fld.Rect.TR_RATIO, Fld.Rect.PCS_MV_A] ++
  [Fld.Rect.LCS_MV_A, Fld.Rect.P_LIMIT_W]

/-- The field map of record `rect1`, in offset order, reserved fields included. -/
def fieldMap.rect1 : List Field :=
  [Fld.Rect.WALKIN_W_S, Fld.Rect.SHARE_MODE, Fld.reserved .rect1 (3) 0 8, Fld.Rect.SHARE_TRIM_MV, Fld.reserved .rect1 (6) 0 16]

/-- The field map of record `bus0`, in offset order, reserved fields included. -/
def fieldMap.bus0 : List Field :=
  [Fld.Bus.BUS_SET_MV, Fld.Bus.STBY_OFFSET_MV, Fld.Bus.REF_SLEW_MV_MS, Fld.Bus.BUS_UV_MV, Fld.Bus.PREPOS_PCT, Fld.reserved .bus0 (13) 0 8] ++
  [Fld.Bus.BBM_GAP_US, Fld.Bus.AUX_WALK_MV, Fld.Bus.PD_FOLD_START_MV, Fld.Bus.PD_FOLD_END_MV, Fld.reserved .bus0 (22) 0 16]

/-- The field map of record `bus1`, in offset order, reserved fields included. -/
def fieldMap.bus1 : List Field :=
  [Fld.Bus.PRESENT, Fld.Bus.AUTO_ENABLE, Fld.reserved .bus1 (0) 2 6, Fld.reserved .bus1 (1) 0 8, Fld.Bus.INSERT_MS, Fld.Bus.UV_MV] ++
  [Fld.Bus.OV_MV, Fld.Bus.HYST_MV, Fld.Bus.UV_FILT_US, Fld.Bus.ILIM_MA, Fld.Bus.FAST_MA, Fld.Bus.INRUSH_MA] ++
  [Fld.Bus.SOA_MS, Fld.Bus.RETRY_S, Fld.Bus.SHUNT_UOHM, Fld.reserved .bus1 (34) 0 16]

/-- The field map of record `chg0`, in offset order, reserved fields included. -/
def fieldMap.chg0 : List Field :=
  [Fld.Chg.PRESENT, Fld.Chg.AUTO_CONNECT, Fld.Chg.CHG_EN, Fld.reserved .chg0 (0) 3 5, Fld.Chg.CHEM, Fld.Chg.CELLS] ++
  [Fld.Chg.PROFILE, Fld.Chg.RATED_MAH, Fld.Chg.I_CHG_MA, Fld.Chg.I_DSG_MAX_MA, Fld.Chg.EOD_MV_CELL, Fld.Chg.CELL_OV_MV] ++
  [Fld.Chg.PRE_TIMER_MIN, Fld.Chg.CCCV_TIMER_MIN, Fld.Chg.FAST_MA, Fld.Chg.FSW_KHZ, Fld.Chg.SHUNT_UOHM, Fld.Chg.NTC_R25_OHM] ++
  [Fld.Chg.NTC_BETA, Fld.Chg.NTC1_EN, Fld.Chg.NTC2_EN, Fld.reserved .chg0 (36) 2 6, Fld.reserved .chg0 (37) 0 8, Fld.Chg.TMAX_BAT] ++
  [Fld.Chg.MATCH_MV, Fld.Chg.RETRY_S, Fld.Chg.BMS_FILT_MS, Fld.reserved .chg0 (45) 0 8, Fld.Chg.COLD_ILIM_MA]

/-- The field map of record `gauge0`, in offset order, reserved fields included. -/
def fieldMap.gauge0 : List Field :=
  [Fld.Gauge.LEARN_EN, Fld.reserved .gauge0 (0) 1 7, Fld.Gauge.OCV_INST, Fld.Gauge.CHG_EFF, Fld.Gauge.R0_UOHM, Fld.Gauge.R1_UOHM] ++
  [Fld.Gauge.TAU1_S, Fld.Gauge.TAU2_S, Fld.Gauge.R2_UOHM, Fld.Gauge.ANCHOR_MIN, Fld.Gauge.STATE_SAVE_MIN]

/-- The field map of record `gauge1`, in offset order, reserved fields included. -/
def fieldMap.gauge1 : List Field :=
  [Fld.Gauge.BACKUP_MIN, Fld.reserved .gauge1 (2) 0 16, Fld.Gauge.BACKUP_W]

/-- The field map of record `dom0`, in offset order, reserved fields included. -/
def fieldMap.dom0 : List Field :=
  [Fld.Dom.INPUT_SRC, Fld.Dom.RANGE, Fld.Dom.DE_EN, Fld.Dom.LR_MODE, Fld.Dom.SYNC_EN, Fld.Dom.OV_LATCH] ++
  [Fld.Dom.WIN_MODE, Fld.reserved .dom0 (1) 7 1, Fld.Dom.FOLD_INST, Fld.Dom.SHED_INST, Fld.Dom.PHASES, Fld.Dom.VOUT_MV] ++
  [Fld.Dom.MARGIN_HIGH_MV, Fld.Dom.MARGIN_LOW_MV, Fld.Dom.SLEW, Fld.Dom.SS_0P1MS, Fld.Dom.SOFT_STOP_0P1MS, Fld.Dom.FSW_KHZ] ++
  [Fld.Dom.KP, Fld.Dom.KI, Fld.Dom.KD, Fld.Dom.DPOLE, Fld.Dom.SYNC_MULT, Fld.Dom.PHASE_OFS] ++
  [Fld.Dom.MIN_PH, Fld.Dom.OV_PCT, Fld.Dom.UV_PCT, Fld.Dom.OV_MV, Fld.Dom.UV_MV, Fld.Dom.OV_FILT] ++
  [Fld.Dom.UV_FILT, Fld.Dom.ILIM_MA, Fld.Dom.OC_TRIP_MS, Fld.Dom.RETRY_MS, Fld.Dom.RETRIES, Fld.reserved .dom0 (61) 0 8] ++
  [Fld.Dom.LR_THRESH_MV, Fld.Dom.LR_MAX_US, Fld.Dom.SS_TIMEOUT_MS]

/-- The field map of record `dom1`, in offset order, reserved fields included. -/
def fieldMap.dom1 : List Field :=
  ((List.range 32).flatMap fun k => [Fld.Dom.SWS_RATIO k, Fld.Dom.CS_MV_A k, Fld.Dom.CS_ZERO_MV k, Fld.reserved .dom1 (12 * k + 6) 0 16, Fld.Dom.PH_OCP_MA k])

/-- The field map of record `dom2`, in offset order, reserved fields included. -/
def fieldMap.dom2 : List Field :=
  ((List.range 16).flatMap fun k => [Fld.Dom.GROUP k]) ++
  [Fld.Dom.REF_KHZ, Fld.Dom.SYNC_SRC, Fld.Dom.SYNC_OUT_EN, Fld.reserved .dom2 (34) 2 6, Fld.reserved .dom2 (35) 0 8]

/-- The field map of record `feed0`, in offset order, reserved fields included. -/
def fieldMap.feed0 : List Field :=
  [Fld.Feed.PRESENT, Fld.Feed.AUTO_ON, Fld.Feed.LATCH_KEEP, Fld.reserved .feed0 (0) 3 5, Fld.Feed.CLASS, Fld.Feed.CURVE] ++
  [Fld.Feed.RETRIES, Fld.Feed.FAST_MA, Fld.Feed.INRUSH_MA, Fld.Feed.SOA_MS, Fld.Feed.INSERT_MS, Fld.Feed.UV_MV] ++
  [Fld.Feed.OV_MV, Fld.Feed.HYST_MV, Fld.Feed.UV_FILT_US, Fld.Feed.SHUNT_UOHM, Fld.Feed.RESET_S]

/-- The field map of record `feed1`, in offset order, reserved fields included. -/
def fieldMap.feed1 : List Field :=
  ((List.range 16).flatMap fun k => [Fld.Feed.GROUP k])

/-- The field map of record `link0`, in offset order, reserved fields included. -/
def fieldMap.link0 : List Field :=
  [Fld.Link.LINK_EN, Fld.Link.GEN2_EN, Fld.Link.ROOT_CAPABLE, Fld.Link.PLANT_CAP, Fld.reserved .link0 (0) 4 4, Fld.Link.PIN_ADDR] ++
  [Fld.Link.SHARE_US, Fld.Link.CAP_SCALE, Fld.Link.PORT_EN, Fld.reserved .link0 (6) 3 5, Fld.reserved .link0 (7) 0 8]

/-- The field map of record `link1`, in offset order, reserved fields included. -/
def fieldMap.link1 : List Field :=
  [Fld.Link.CAP_FLOOR, Fld.reserved .link1 (1) 0 8, Fld.reserved .link1 (2) 0 16, Fld.Link.HEAD_MAX_W]

/-- The field map of record `pd0`, in offset order, reserved fields included. -/
def fieldMap.pd0 : List Field :=
  [Fld.Pd.PRESENT, Fld.Pd.PD_EN, Fld.Pd.VCONN_EN, Fld.Pd.ESC_EN, Fld.Pd.FRS_RX_EN, Fld.Pd.FRS_TX_EN] ++
  [Fld.Pd.SOP1_EN, Fld.Pd.SOP2_EN, Fld.Pd.ROLE, Fld.Pd.RP_MAX, Fld.reserved .pd0 (1) 5 3, Fld.Pd.T_SENDER_RESP_MS] ++
  [Fld.Pd.T_PD_DEBOUNCE_MS, Fld.Pd.T_CC_DEBOUNCE_MS, Fld.Pd.T_PS_TRANS_MS, Fld.Pd.T_PS_TRANS_EPR_MS, Fld.Pd.T_SAFE0V_MS, Fld.Pd.T_SRC_RECOVER_MS] ++
  [Fld.Pd.N_HARD_RESET, Fld.Pd.N_RETRY_3X, Fld.Pd.N_RETRY_20, Fld.Pd.SRC_LIMIT_W, Fld.Pd.SNK_LIMIT_W, Fld.Pd.VBUS_SLEW] ++
  [Fld.Pd.FSW_KHZ, Fld.Pd.SHUNT_UOHM, Fld.reserved .pd0 (26) 0 48]

/-- The field map of record `seq0`, in offset order, reserved fields included. -/
def fieldMap.seq0 : List Field :=
  [Fld.Seq.AUTO_SEQ, Fld.Seq.FLT_OUT_EN, Fld.Seq.FLT_ACTION, Fld.Seq.WD_EN, Fld.reserved .seq0 (0) 5 3, Fld.Seq.PWRUP_INST] ++
  [Fld.Seq.SEQ_IN_FILT_US, Fld.Seq.WD_MIN_MS, Fld.Seq.WD_MAX_MS, Fld.Seq.WD_START_MS, Fld.Seq.RST_PULSE_MS, Fld.Seq.WD_SEQ] ++
  [Fld.reserved .seq0 (13) 0 8, Fld.reserved .seq0 (14) 0 16]

/-- The field map of record `seq1`, in offset order, reserved fields included. -/
def fieldMap.seq1 : List Field :=
  [Fld.Seq.EN, Fld.Seq.ACTION, Fld.reserved .seq1 (0) 3 5, Fld.Seq.LINK, Fld.Seq.DIV_RATIO, Fld.Seq.OV_MV] ++
  [Fld.Seq.UV_MV, Fld.Seq.FILT, Fld.reserved .seq1 (13) 0 8, Fld.reserved .seq1 (14) 0 16]

/-- The field map of record `meas0`, in offset order, reserved fields included. -/
def fieldMap.meas0 : List Field :=
  [Fld.Meas.LP_MODE, Fld.reserved .meas0 (0) 2 6, Fld.Meas.ENTRIES, Fld.reserved .meas0 (2) 0 16] ++
  ((List.range 16).flatMap fun k => [Fld.Meas.CHANNEL k, Fld.Meas.ROT_N k, Fld.Meas.SAMPLE k, Fld.Meas.GAIN k, Fld.Meas.TRIG k, Fld.reserved .meas0 (8 * k + 7) 3 5, Fld.Meas.TRIG_SRC k, Fld.reserved .meas0 (8 * k + 9) 0 8, Fld.Meas.DELAY k])

/-- The field map of record `meas1`, in offset order, reserved fields included. -/
def fieldMap.meas1 : List Field :=
  [Fld.Meas.CAL_EN, Fld.Meas.DIAG_EN, Fld.reserved .meas1 (0) 2 6, Fld.Meas.CAL_DELTA_C, Fld.Meas.DIAG_UNIT, Fld.Meas.DIAG_ENTRY] ++
  ((List.range 4).flatMap fun k => [Fld.Meas.TACH_PPR k]) ++
  [Fld.reserved .meas1 (8) 0 32]

/-- The field map of record `meas2`, in offset order, reserved fields included. -/
def fieldMap.meas2 : List Field :=
  [Fld.Meas.MODE, Fld.Meas.INPUT, Fld.Meas.FILT_TICKS, Fld.Meas.POL, Fld.reserved .meas2 (3) 1 7, Fld.Meas.PERIOD] ++
  [Fld.Meas.COMPARE]

/-- The field map of record `therm0`, in offset order, reserved fields included. -/
def fieldMap.therm0 : List Field :=
  [Fld.Therm.FITTED, Fld.Therm.STALL_EN, Fld.reserved .therm0 (0) 2 6, Fld.Therm.SRC, Fld.Therm.T_LOW, Fld.Therm.T_HIGH] ++
  [Fld.Therm.DUTY_MIN, Fld.Therm.DUTY_MAX, Fld.Therm.HYST, Fld.Therm.STALL_RPM, Fld.Therm.STALL_S, Fld.reserved .therm0 (13) 0 8] ++
  [Fld.reserved .therm0 (14) 0 16]

/-- The field map of record `skb0`, in offset order, reserved fields included. -/
def fieldMap.skb0 : List Field :=
  [Fld.Skb.HIST_EN, Fld.Skb.CAP_EN, Fld.reserved .skb0 (0) 2 6, Fld.Skb.CAP_SEV, Fld.Skb.CAP_SET, Fld.reserved .skb0 (3) 0 8] ++
  [Fld.Skb.CAP_REPEAT_S, Fld.reserved .skb0 (6) 0 16] ++
  ((List.range 16).flatMap fun k => [Fld.Skb.TRIG_CODE k])

/-- The field map of each record. -/
def fieldsOf : RecId → List Field
  | .rect0 => fieldMap.rect0
  | .rect1 => fieldMap.rect1
  | .bus0 => fieldMap.bus0
  | .bus1 => fieldMap.bus1
  | .chg0 => fieldMap.chg0
  | .gauge0 => fieldMap.gauge0
  | .gauge1 => fieldMap.gauge1
  | .dom0 => fieldMap.dom0
  | .dom1 => fieldMap.dom1
  | .dom2 => fieldMap.dom2
  | .feed0 => fieldMap.feed0
  | .feed1 => fieldMap.feed1
  | .link0 => fieldMap.link0
  | .link1 => fieldMap.link1
  | .pd0 => fieldMap.pd0
  | .seq0 => fieldMap.seq0
  | .seq1 => fieldMap.seq1
  | .meas0 => fieldMap.meas0
  | .meas1 => fieldMap.meas1
  | .meas2 => fieldMap.meas2
  | .therm0 => fieldMap.therm0
  | .skb0 => fieldMap.skb0

end Sys2Proof.Machine
end

