-- ==== Sys2Proof/Machine/Tables.lean ====
section
/-! DEFINITION. CRC arithmetic (R80, R106, R130) and the built-in default palette (R149) with the tables the
consumers' chapters give it (R188, R224, R225, R256, R283, R317, R346, R384, R446–R448, R470). -/

namespace Sys2Proof.Machine

/-- One bit step of a non-reflected CRC of width `w` with polynomial `p`. -/
def crcBit (w p r : Nat) (b : Bool) : Nat :=
  let top := r.testBit (w - 1)
  let s := (r * 2) % 2 ^ w
  if top != b then s ^^^ p else s

/-- One byte of a non-reflected CRC, most significant bit first. -/
def crcByte (w p r : Nat) (b : Byte) : Nat :=
  [7, 6, 5, 4, 3, 2, 1, 0].foldl (fun r k => crcBit w p r (b.toNat.testBit k)) r

/-- CRC-16 of R106: polynomial 0x1021, initial value 0xFFFF. -/
def crc16 (bs : List Byte) : Nat := bs.foldl (crcByte 16 0x1021) 0xFFFF

/-- The SMBus PEC of R80: CRC-8, polynomial x⁸ + x² + x + 1, initial value 0. -/
def crc8 (bs : List Byte) : Nat := bs.foldl (crcByte 8 0x07) 0

/-- One bit step of the reflected CRC-32 of R130. -/
def crc32Bit (r : Nat) : Nat := if r % 2 = 1 then (r / 2) ^^^ 0xEDB88320 else r / 2

/-- One byte of the reflected CRC-32 of R130. -/
def crc32Byte (r : Nat) (b : Byte) : Nat :=
  [0, 1, 2, 3, 4, 5, 6, 7].foldl (fun r _ => crc32Bit r) (r ^^^ b.toNat)

/-- CRC-32 of R130. -/
def crc32 (bs : List Byte) : Nat := (bs.foldl crc32Byte 0xFFFFFFFF) ^^^ 0xFFFFFFFF

/-- Bytes with their CRC-32 appended (R130). -/
def withCrc32 (bs : List Byte) : List Byte := bs ++ toLE 4 (crc32 bs)

/-- One table of a palette image: type, instance, bytes. -/
structure PalTable where
  type : Nat
  inst : Nat
  bytes : List Byte
  deriving DecidableEq, Repr

/-- A table's bytes padded to a 4-byte boundary (R129). -/
def PalTable.padded (t : PalTable) : List Byte := t.bytes ++ zeros ((4 - t.bytes.length % 4) % 4)

/-- Directory entries of the tables, the first at `off` (R129). -/
def palDir : Nat → List PalTable → List Byte
  | _, [] => []
  | off, t :: ts =>
    [byte t.type, byte t.inst] ++ toLE 2 t.bytes.length ++ toLE 4 off ++ palDir (off + t.padded.length) ts

/-- The palette image of a list of tables in directory order (R129). -/
def palImage (palId : Nat) (ts : List PalTable) : List Byte :=
  let body := ts.flatMap PalTable.padded
  let dirEnd := 16 + 8 * ts.length
  withCrc32 ([0x50, 0x4C, 0x54, 0x31, 1, byte ts.length, 0, 0] ++ toLE 4 (dirEnd + body.length + 4) ++
    toLE 4 palId ++ palDir dirEnd ts ++ body)

/-- One exit of a charge profile state: COND, NEXT, VALUE, HOLD_S (R132). -/
abbrev PExit := Nat × Nat × Nat × Nat

/-- The 28 bytes of a charge profile state (R132). -/
def profState (id kind v rate : Nat) (tc : Int) (xs : List PExit) : List Byte :=
  [byte id, byte kind] ++ toLE 2 v ++ toLE 2 rate ++ toLEi 2 tc ++ [0, 0] ++
    padTo 18 (xs.flatMap fun x => [byte x.1, byte x.2.1] ++ toLE 2 x.2.2.1 ++ toLE 2 x.2.2.2)

/-- R224: charge profile instance 0, LFP. -/
def profLfp : List Byte :=
  [0, 5, 0, 0] ++
    profState 0 0 0 0 0 [(6, 1, 2800, 0), (5, 2, 0, 0)] ++
    profState 1 1 3550 50 0 [(1, 2, 2800, 0)] ++
    profState 2 2 3550 0xFFFF 0 [(1, 3, 3550, 0)] ++
    profState 3 3 3550 0xFFFF 0 [(3, 4, 20, 60)] ++
    profState 4 4 0 0 0 [(2, 0, 3350, 0), (4, 0, 9500, 0)]

/-- R224: charge profile instance 1, VRLA. -/
def profVrla : List Byte :=
  [1, 6, 0, 0] ++
    profState 0 0 0 0 0 [(6, 1, 1900, 0), (5, 2, 0, 0)] ++
    profState 1 1 2400 50 (-30) [(1, 2, 1900, 0)] ++
    profState 2 2 2400 0xFFFF (-30) [(1, 3, 2400, 0)] ++
    profState 3 3 2400 0xFFFF (-30) [(3, 4, 10, 300), (8, 4, 480, 0)] ++
    profState 4 5 2250 0xFFFF (-30) [(7, 5, 0, 0), (2, 0, 2100, 60)] ++
    profState 5 6 2450 50 (-30) [(8, 4, 180, 0)]

/-- A band table (R133): HYST 30, thresholds, six bands of 4 bytes. -/
def bandTable (ts : List Int) (bands : List (List Byte)) : List Byte :=
  toLE 2 30 ++ ts.flatMap (toLEi 2) ++ bands.flatMap (padTo 4)

/-- R225: battery bands. -/
def bandBat : List Byte :=
  bandTable [0, 100, 350, 450, 550]
    [[], toLE 2 100, toLE 2 0xFFFF, toLE 2 100 ++ toLEi 2 (-50), [], []]

/-- R447: control-die bands, SCRUB_H. -/
def bandCtrl : List Byte :=
  bandTable [0, 250, 500, 700, 1000] ([168, 168, 168, 168, 24, 24].map (toLE 2))

/-- R447: mains-die bands, DT_INST. -/
def bandMains : List Byte :=
  bandTable [-200, 250, 600, 900, 1100] [[0], [1], [2], [3], [4], [5]]

/-- R317: the default breaker curve. -/
def breakerDefault : List Byte :=
  padTo 68 ([5, 0] ++ toLE 2 600 ++
    ([(16500, 3600000), (20000, 600000), (30000, 60000), (45000, 5000), (60000, 100)] : List (Nat × Nat)).flatMap
      fun p => toLE 4 p.1 ++ toLE 4 p.2)

/-- R283: the default fold-back curve. -/
def foldDefault : List Byte :=
  padTo 36 ([2, 0, 0, 0] ++ toLE 2 3000 ++ toLE 2 3000 ++ toLE 2 9000 ++ toLE 2 10000)

/-- R384: a default sequence of the given KIND. -/
def seqDefault (kind : Nat) : List Byte :=
  [1, byte kind, 0, 0] ++ padTo 16 (zeros 8 ++ toLE 2 1 ++ toLE 2 1)

/-- R346: the default capping ladder. -/
def cappingDefault : List Byte :=
  zeros 4 ++
    ([(-32767, -32768, 100, 8, 240), (-400, -600, 50, 8, 240), (-200, -400, 0, 8, 240), (-100, -300, 0, 8, 100),
      (0, -200, 0, 8, 0), (50, -150, 0, 7, 0), (100, -100, 0, 6, 0), (150, -50, 0, 5, 0), (200, 0, 0, 4, 0),
      (250, 50, 0, 3, 0), (300, 100, 0, 2, 0), (350, 150, 0, 1, 0), (400, 200, 0, 0, 0), (450, 250, 0, 0, 0),
      (500, 300, 0, 0, 0), (550, 350, 0, 0, 0)] : List (Int × Int × Nat × Nat × Nat)).flatMap
      fun l => toLEi 2 l.1 ++ toLEi 2 l.2.1 ++ [byte l.2.2.1, byte l.2.2.2.1] ++ toLE 2 l.2.2.2.2

/-- R446: the default throttle table. -/
def throttleDefault : List Byte :=
  zeros 4 ++
    ([(1050, 1000, 50, 8, 240, 100), (1100, 1050, 0, 8, 240, 100), (1130, 1080, 0, 8, 100, 100),
      (1160, 1110, 0, 8, 0, 100), (1190, 1140, 0, 6, 0, 100), (1220, 1170, 0, 4, 0, 100),
      (1250, 1200, 0, 2, 0, 90), (1300, 1250, 0, 0, 0, 75)] :
      List (Int × Int × Nat × Nat × Nat × Nat)).flatMap
      fun l => toLEi 2 l.1 ++ toLEi 2 l.2.1 ++ [byte l.2.2.1, byte l.2.2.2.1] ++ toLE 2 l.2.2.2.2.1 ++
        [byte l.2.2.2.2.2, 0, 0, 0]

/-- Linear interpolation of anchors (x, y), `s` the scale of the result, rounded to nearest (R256). -/
def anchorAt (s : Nat) : List (Nat × Nat) → Nat → Nat
  | (x0, y0) :: (x1, y1) :: rest, x =>
    if x ≤ x1 then (2 * s * (y0 * (x1 - x0) + (y1 - y0) * (x - x0)) + (x1 - x0)) / (2 * (x1 - x0))
    else anchorAt s ((x1, y1) :: rest) x
  | [(_, y)], _ => s * y
  | [], _ => 0

/-- R256: SOC points of the default OCV tables, 0.01%. -/
def ocvSoc : List Nat := (List.range 31).map (fun p => p * 10000 / 31) ++ [10000]

/-- An OCV table from anchors in 0.01% and mV/cell (R140, R256). -/
def ocvTable (chem : Nat) (anchors : List (Nat × Nat)) : List Byte :=
  let row := ocvSoc.flatMap fun x => toLE 2 (anchorAt 10 anchors x)
  [byte chem, 0, 0, 0] ++ ([-100, 100, 250, 450] : List Int).flatMap (toLEi 2) ++ ocvSoc.flatMap (toLE 2) ++
    row ++ row ++ row ++ row

/-- R256: OCV instance 0, LFP. -/
def ocvLfp : List Byte :=
  ocvTable 0 [(0, 2800), (500, 3150), (1000, 3200), (2000, 3250), (4000, 3280), (7000, 3310), (9500, 3340),
    (10000, 3400)]

/-- R256: OCV instance 1, VRLA. -/
def ocvVrla : List Byte := ocvTable 1 [(0, 1940), (5000, 2050), (10000, 2140)]

/-- R188: the default source priority. -/
def priorityDefault : List Byte := padTo 20 [5, 0, 0, 0, 1, 1, 2, 1, 3, 1, 4, 1, 5, 1]

/-- R448: the default dead-time tables. -/
def deadDefault : List (List Byte) :=
  ([(20, 20, 100, 40, 60), (22, 22, 104, 40, 64), (24, 24, 108, 40, 68), (26, 26, 112, 40, 72),
    (30, 30, 120, 40, 80), (34, 34, 128, 40, 88)] : List (Nat × Nat × Nat × Nat × Nat)).map
    fun d => [byte d.1, byte d.2.1] ++ toLE 2 d.2.2.1 ++ toLE 2 d.2.2.2.1 ++ toLE 2 d.2.2.2.2

/-- R470: the default capture set. -/
def captureDefault : List Byte :=
  let chans := [96] ++ List.range' 97 12 ++ [117, 118, 138, 139, 146, 147] ++ List.range' 80 16 ++
    List.range 24 ++ List.range' 200 4
  [byte chans.length, 75, 0, 0] ++ toLE 4 400 ++ chans.flatMap (toLE 2) ++
    List.replicate (2 * (64 - chans.length)) 0xFF

/-- The tables of the built-in default palette, in directory order. -/
def builtInTables : List PalTable :=
  [⟨1, 0, profLfp⟩, ⟨1, 1, profVrla⟩, ⟨2, 0, bandBat⟩, ⟨2, 1, bandBat⟩, ⟨2, 2, bandCtrl⟩, ⟨2, 3, bandMains⟩] ++
    (List.range 8).map (fun k => ⟨3, k, breakerDefault⟩) ++
    [⟨4, 0, foldDefault⟩, ⟨6, 0, seqDefault 0⟩, ⟨6, 1, seqDefault 1⟩, ⟨7, 0, cappingDefault⟩,
      ⟨8, 0, throttleDefault⟩, ⟨9, 0, ocvLfp⟩, ⟨9, 1, ocvVrla⟩, ⟨10, 0, priorityDefault⟩] ++
    (List.range 6).map (fun k => ⟨11, k, deadDefault.getD k []⟩) ++
    (List.range 8).map (fun k => ⟨12, k, captureDefault⟩)

/-- R149: the built-in default palette, PAL_ID 0. -/
def builtInImage : List Byte := palImage 0 builtInTables

/-- The table of a type and instance in an image, through its directory (R129, R131). -/
def palFind (img : List Byte) (type inst : Nat) : Option (List Byte) :=
  (List.range (u img 5 1)).findSome? fun k =>
    let e := 16 + 8 * k
    if u img e 1 = type ∧ u img (e + 1) 1 = inst then some (sliceBytes img (u img (e + 4) 4) (u img (e + 2) 2))
    else none

end Sys2Proof.Machine
end

