-- ==== Sys2Proof/Machine/St/Base.lean ====
section
/-! DEFINITION. The state of the system block (power, reset, straps, time, host-contact watchdog: chapters
1–3) and of the host interfaces (chapters 4 and 5). -/

namespace Sys2Proof.Machine

/-- STATUS_SUMMARY.MODE (R83). -/
inductive Mode where
  | bootRom | bootLoader | running | hold | holdOnly | coldReset
  deriving DecidableEq, Repr

/-- The code of a mode in STATUS_SUMMARY (R83). -/
def Mode.code : Mode → Nat
  | .bootRom => 0 | .bootLoader => 1 | .running => 2 | .hold => 3 | .holdOnly => 4 | .coldReset => 5

/-- The housekeeping converter (R50). -/
inductive Hk where
  | off | ramp | good | retryWait
  deriving DecidableEq, Repr

/-- The seven channels of the keep OR (R14). -/
inductive KeepIn where
  | bus | bat (k : Fin 2) | aux (k : Fin 2) | pd (k : Fin 2)
  deriving DecidableEq, Repr

/-- Every channel of the keep OR (R14). -/
def KeepIn.all : List KeepIn := [.bus, .bat 0, .bat 1, .aux 0, .aux 1, .pd 0, .pd 1]

/-- One D0 boot record of OTP (R53), with the CRC-16 the device appended (R64). -/
structure BootRec where
  voutMv : Nat
  fswKhz : Nat
  ss : Nat
  csMvA : Nat
  oclMa : Nat
  winPct : Nat
  crc : Nat
  deriving DecidableEq, Repr

/-- R53: the default boot values of D0; no record holds them. -/
def BootRec.default : BootRec :=
  { voutMv := 3300, fswKhz := 500, ss := 20, csMvA := 5, oclMa := 3000, winPct := 3, crc := 0 }

/-- R64: the sixteen bytes of a record, as D0_BOOT_RECORD lays them out. -/
def BootRec.bytes (r : BootRec) : List Byte :=
  toLE 4 r.voutMv ++ toLE 2 r.fswKhz ++ toLE 2 r.ss ++ toLE 2 r.csMvA ++ toLE 4 r.oclMa ++ [byte r.winPct, 0]

/-- R64: a record as the device writes it. -/
def BootRec.seal (r : BootRec) : BootRec := { r with crc := crc16 r.bytes }

/-- R53, R64: a record is valid by its CRC-16. -/
def BootRec.valid (r : BootRec) : Bool := r.crc = crc16 r.bytes

/-- System block. -/
structure Sys where
  /-- R5, R87: the 64-bit timebase, 10 ns ticks since power-on reset. -/
  time : Nat
  /-- R22: when the last 10 µs tick was, none before the first. -/
  tTick : Option Nat
  /-- R49: power-on reset is asserted. -/
  por : Bool
  /-- R14, R19: the KEEP voltage last seen, mV. -/
  keepMv : Nat
  /-- R19: brown-out flag, KEEP below 9 V. -/
  brownOut : Bool
  /-- R19: KEEP below 6 V, no sketchbook write is started. -/
  nandBar : Bool
  /-- R50: the housekeeping converter. -/
  hk : Hk
  /-- R50: when the present housekeeping state began. -/
  tHk : Nat
  /-- R25: the control-die PLL runs from the internal RC oscillator. -/
  rcClock : Bool
  /-- R44: VIO_HOST at or above 1.5 V. -/
  vioHost : Bool
  /-- R44: VIO_PWM at or above 1.5 V. -/
  vioPwm : Bool
  /-- R45: since when VIO_HOST has been valid. -/
  tVioHost : Nat
  /-- R45: a strap sampling is due. -/
  strapDue : Bool
  /-- R45: the straps have been sampled since power-on reset, so the device answers on I2C. -/
  sampled : Bool
  /-- R46: ADDR[2:0] as sampled. -/
  addr : Nat
  /-- R46: ROOT as sampled. -/
  root : Bool
  /-- R83: what the device is doing. -/
  mode : Mode
  /-- R63: this power-on reset has not been counted and recorded yet. -/
  porDue : Bool
  /-- R52: firmware ready has passed since power-on reset or cold reset. -/
  fwReady : Bool
  /-- R60: RST_N is low. -/
  rstLow : Bool
  /-- R60: the pin reset in progress fell in the running state or hold mode, so firmware restarts (R519). -/
  pinRestart : Bool
  /-- R61: RST_OUT_N is asserted by power-on or cold reset. -/
  rstOut : Bool
  /-- R61: when RST_OUT_N was last asserted. -/
  tRstOut : Nat
  /-- R61: since when D0 has been inside its window. -/
  d0InWin : Option Nat
  /-- R62, R496: the reset of a RESET (kind 1 or 2) or of an IMG_ACTIVATE with RESTART (7) waits for its reply to be
  delivered or abandoned on this interface. -/
  resetDue : Option (Nat × Itf)
  /-- R63: CAUSE of RESET_CAUSE. -/
  cause : Nat
  /-- R63: FLAGS [0], staged easel values discarded at the last reset (DESIGN CHOICE, log entry 130). -/
  flagStaged : Bool
  /-- R63: FLAGS [1], image fallback taken at the last reset (DESIGN CHOICE, log entry 130). -/
  flagFallback : Bool
  /-- R63: T_RESET. -/
  tReset : Nat
  /-- R63, R68: hold-mode entries, newest first: time, and whether R68 counts them. -/
  holds : List (Nat × Bool)
  /-- R68: counted entries made since the other image was tried. -/
  otherTried : Bool
  /-- R66: when hold mode was entered. -/
  tHold : Nat
  /-- R63, R257: POR_COUNT. -/
  porCount : Nat
  /-- R64: the D0 boot records written to OTP, oldest first, at most four. -/
  bootRecs : List BootRec
  /-- R53, R64: D0's boot values in force since power-on reset. -/
  boot : BootRec
  /-- R65: C_UF in force, µF. -/
  cUf : Nat
  /-- R69: HOST_WD.TIMEOUT_S. -/
  wdTimeout : Nat
  /-- R69: the timeout the running count started from, s. -/
  wdLoaded : Nat
  /-- R69: the watchdog counts. -/
  wdRunning : Bool
  /-- R69: ticks left of the count at `wdBase`. -/
  wdLeft : Nat
  /-- R69: the time at which `wdLeft` was taken. -/
  wdBase : Nat
  /-- R70: the safe defaults are in force. -/
  safe : Bool
  /-- R117, OTP: device serial number. -/
  serial : List Byte
  /-- R119, OTP: the 32-byte install key. -/
  installKey : List Byte
  /-- R494, OTP: Tuthen's public key, x then y. -/
  pubKey : Nat × Nat
  /-- R117: FW_MINOR and FW_BUILD of the running firmware. -/
  fw : Nat × Nat
  /-- R121: node groups of this node, [14:0]. -/
  groups : Nat
  deriving DecidableEq, Repr

/-- MBX_STATUS.STATE (R88). -/
inductive MbxState where
  | idle | accept | busy | reply
  deriving DecidableEq, Repr

/-- The code of a mailbox state (R88). -/
def MbxState.code : MbxState → Nat
  | .idle => 0 | .accept => 1 | .busy => 2 | .reply => 3

/-- The I2C mailbox (R88–R90). -/
structure Mbx where
  /-- R88: MBX_STATUS.STATE. -/
  state : MbxState
  /-- R88: MBX_CTRL.PAGE. -/
  page : Nat
  /-- R88: REPLY_MORE. -/
  more : Bool
  /-- R90: SEQ_ERR. -/
  seqErr : Bool
  /-- R80: PEC_ERR. -/
  pecErr : Bool
  /-- R79: TIMEOUT. -/
  timeout : Bool
  /-- R80: REJECT. -/
  reject : Bool
  /-- R88: MBX_LEN. -/
  len : Nat
  /-- R88: MBX_SIZE.SIZE_CODE. -/
  sizeCode : Nat
  /-- R88: the bytes of the buffer (request or reply fragment); bytes past the list read 0. -/
  buf : List Byte
  /-- R89: the request bytes taken so far. -/
  asm : List Byte
  /-- R89: the reply bytes that follow the fragment in the buffer. -/
  rest : List Byte
  deriving DecidableEq, Repr

/-- The options of HIF_CONFIG (R102). -/
structure HifOpt where
  /-- PEC required. -/
  pec : Bool
  /-- OPTIONS [2:0]: SMBus timeouts, sleep allowed, PMBus window. -/
  options : Nat
  /-- Host Notify address. -/
  hnAddr : Nat
  deriving DecidableEq, Repr

/-- Reset values of HIF_CONFIG (R102). -/
def HifOpt.reset : HifOpt := { pec := false, options := 7, hnAddr := 8 }

/-- One raisable session (R118, R119). -/
structure Session where
  /-- Privilege level in force. -/
  level : Nat
  /-- R119: when the last accepted Install-level command was. -/
  tInstall : Nat
  deriving DecidableEq, Repr

/-- Reply segments held for a CONT (R113). -/
structure Segs where
  opcode : Nat
  tag : Byte
  rest : List Byte
  since : Nat
  deriving DecidableEq, Repr

/-- A command that has been accepted and waits to reply (R122): its opcode, the channels still awaited and
the channels refused or withdrawn, and the bytes its reply needs. -/
structure Wait where
  o : Origin
  op : Nat
  left : Nat
  failed : Nat
  data : List Byte
  since : Nat
  /-- R67, R292: its reply has been lost at hold-mode entry; it acts all the same. -/
  mute : Bool
  deriving DecidableEq, Repr

/-- A packet forwarded to other nodes and waiting for their replies (R109, R110): its parameters, the nodes that have not
replied and the statuses of those that have. -/
structure Fwd where
  o : Origin
  op : Nat
  dest : Nat
  params : List Byte
  left : List Nat
  entries : List (Nat × Nat)
  since : Nat
  deriving DecidableEq, Repr

/-- A fragment-free SPI packet path (R98). -/
structure Spi where
  /-- R98: a packet taken from the request buffer is running. -/
  running : Bool
  /-- R98: the reply buffer; empty when no reply is ready. -/
  reply : List Byte
  /-- R96: the previous frame was discarded. -/
  discarded : Bool
  deriving DecidableEq, Repr

/-- The PMBus window's own state for one domain page (R100). -/
structure PmPage where
  vout : Nat
  iout : Nat
  cml : Nat
  deriving DecidableEq, Repr

/-- Host interfaces. -/
structure Hif where
  /-- R73: the I2C pointer. -/
  ptr : Nat
  /-- R84: IRQ_FLAGS. -/
  irq : Nat
  /-- R85: IRQ_MASK. -/
  mask : Nat
  /-- R86: ATTN_CTRL.MODE. -/
  attnMode : Nat
  /-- R86: ATTN_CTRL.MIN_SEV. -/
  minSev : Nat
  /-- R86: ATTN_CTRL.REPLY_FLAG. -/
  replyFlag : Bool
  /-- R87: TIME_SNAP. -/
  snap : Nat
  /-- R88: the mailbox. -/
  mbx : Mbx
  /-- R102: the options in force. -/
  opt : HifOpt
  /-- R102: options held in the easel that wait for their boundary, and whether the reply they wait for is an
  SPI one. -/
  optNext : Option (HifOpt × Itf)
  /-- R78: the I2C interface sleeps. -/
  asleep : Bool
  /-- R78: when the last START was seen. -/
  tStart : Nat
  /-- R91: IRQ_N in ALERT mode is driven low. -/
  alert : Bool
  /-- R93: a Host Notify is due. -/
  notifyDue : Bool
  /-- R93: when the last notify was sent, none before the first. -/
  tNotify : Option Nat
  /-- R95: refused attempts of the present notify. -/
  notifyTries : Nat
  /-- R95: notifies are suspended. -/
  notifySusp : Bool
  /-- R94, R95: the retry interval after a refused notify or an abandoned cure ends then; 0 while none runs. -/
  notifyHold : Nat
  /-- R103: counters PEC_ERRORS, TIMEOUTS, NACKS, NOTIFIES, CURES, SPI_DISCARDS. -/
  pecErrors : Nat
  timeouts : Nat
  nacks : Nat
  notifies : Nat
  cures : Nat
  spiDiscards : Nat
  /-- R98: the SPI packet path. -/
  spi : Spi
  /-- The bytes the device drove in the last bus transaction or link frame that a command of the table describes. -/
  out : List Byte
  /-- R100: PMBus PAGE; 255 is all domains. -/
  pmPage : Nat
  /-- R100: PMBus WRITE_PROTECT. -/
  pmProtect : Nat
  /-- R100: window status bits per page. -/
  pm : Vector PmPage 16
  /-- R118: the I2C session. -/
  i2c : Session
  /-- R118: the SPI session. -/
  spiS : Session
  /-- R119: the outstanding nonce of each session and when it was given. -/
  nonceI2c : Option (List Byte × Nat)
  nonceSpi : Option (List Byte × Nat)
  /-- R119: consecutive failures. -/
  privFails : Nat
  /-- R119: challenges are refused since this time. -/
  lockout : Option Nat
  /-- R113: segments held, per session; those of link sessions by entry node. -/
  segI2c : Option Segs
  segSpi : Option Segs
  segLink : List (Nat × Segs)
  /-- R122: accepted commands waiting to reply. -/
  waits : List Wait
  /-- R109: packets forwarded and not yet answered. -/
  fwds : List Fwd
  /-- R109, R339: packets that wait to go out on the link: destination, session privilege and bytes. -/
  linkOut : List (Nat × Nat × List Byte)
  /-- R110, R121: the groups of other nodes as their replies have shown them: node address and mask. -/
  members : List (Nat × Nat)
  deriving DecidableEq, Repr

/-- The mailbox after reset (R88). -/
def Mbx.reset : Mbx :=
  { state := .idle, page := 0, more := false, seqErr := false, pecErr := false, timeout := false,
    reject := false, len := 0, sizeCode := 1, buf := [], asm := [], rest := [] }

/-- The start level of a raisable session (R118). -/
def Session.reset : Session := { level := 1, tInstall := 0 }

/-- The host interfaces after reset (R81–R103, R118). -/
def Hif.reset : Hif :=
  { ptr := 0, irq := 0, mask := 0x001FFFCE, attnMode := 1, minSev := 2, replyFlag := true, snap := 0,
    mbx := Mbx.reset, opt := HifOpt.reset, optNext := none, asleep := false, tStart := 0, alert := false,
    notifyDue := false, tNotify := none, notifyTries := 0, notifySusp := false, notifyHold := 0,
    pecErrors := 0, timeouts := 0, nacks := 0, notifies := 0, cures := 0, spiDiscards := 0,
    spi := { running := false, reply := [], discarded := false }, out := [], pmPage := 0, pmProtect := 0,
    pm := Vector.replicate 16 { vout := 0, iout := 0, cml := 0 }, i2c := Session.reset, spiS := Session.reset,
    nonceI2c := none, nonceSpi := none, privFails := 0, lockout := none, segI2c := none, segSpi := none, segLink := [],
    waits := [], fwds := [], linkOut := [], members := [] }

/-- The system block at power-on reset (R49, R53, R60, R65, R69). -/
def Sys.reset : Sys :=
  { time := 0, tTick := none, por := true, keepMv := 0, brownOut := true, nandBar := true, hk := .off, tHk := 0,
    rcClock := false, vioHost := false, vioPwm := false, tVioHost := 0, strapDue := false, sampled := false,
    addr := 0, root := false, mode := .bootRom, porDue := true, fwReady := false, rstLow := false, pinRestart := false,
    rstOut := true, tRstOut := 0, d0InWin := none, resetDue := none, cause := 1, flagStaged := false,
    flagFallback := false, tReset := 0, holds := [], otherTried := false, tHold := 0, porCount := 0,
    bootRecs := [], boot := BootRec.default, cUf := 470, wdTimeout := 0x3C, wdLoaded := 0x3C, wdRunning := false, wdLeft := 0,
    wdBase := 0, safe := false, serial := zeros 8, installKey := zeros 32, pubKey := (0, 0), fw := (0, 0),
    groups := 0 }

end Sys2Proof.Machine
end

