-- ==== Sys2Proof/Machine/St/Rec.lean ====
section
/-! DEFINITION. The state of varnish and the gauges (chapter 10), the sketchbook recorder (chapter 18), the
fault manager and the firmware images (chapter 19). -/

namespace Sys2Proof.Machine

/-- One varnish item (R257–R261): its two pages (none is an erased page) and the value deferred in SRAM. -/
structure VItem where
  id : Nat
  page0 : Option (List Byte)
  page1 : Option (List Byte)
  deferred : Option (List Byte)
  deriving DecidableEq, Repr

/-- Varnish (R257–R262). -/
structure Varn where
  /-- R257: the items, in ITEM_ID order. -/
  items : List VItem
  /-- R261: since when the gate has been open without a break. -/
  openSince : Option Nat
  deriving DecidableEq, Repr

/-- A varnish item never written (R262). -/
def VItem.blank (id : Nat) : VItem := { id := id, page0 := none, page1 := none, deferred := none }

/-- Varnish of a new device (DESIGN CHOICE, log entry 9). -/
def Varn.reset : Varn :=
  { items := [1, 2, 3, 4, 5, 0x10, 0x11, 0x20, 0x30].map VItem.blank
    openSince := none }

/-- The gauge of one string (R242–R258). -/
structure GaugeCh where
  /-- R242: internal state of charge, 0.0001%. -/
  soc : Int
  /-- R246, R250: reported SOC, 0.0001%; none is unknown (0xFFFF). -/
  rep : Option Nat
  /-- R242: V1, µV. -/
  v1 : Int
  /-- R242: V2, µV. -/
  v2 : Int
  /-- R251: SOC standard deviation, 0.0001%. -/
  sigma : Nat
  /-- R243, R258: the filter covariance of (SOC, V1, V2) but for the variance of SOC: SOC–V1, SOC–V2, V1–V1, V1–V2,
  V2–V2, in units of 0.0001% and µV. -/
  cov : List Int
  /-- R254: full-charge capacity, mAh. -/
  fcc : Nat
  /-- R219, R254: it has been learnt or set, and no longer follows RATED_MAH. -/
  fccOwn : Bool
  /-- R254: SOH, 0.01%. -/
  soh : Nat
  /-- R265: LEARN_COUNT. -/
  learnCount : Nat
  /-- R265: LEARN_STATE: 0 idle, 1 armed, 2 running, 3 complete, 4 rejected, 5 disqualified. -/
  learnState : Nat
  /-- R265: LEARN_MAH, of the last judged run. -/
  learnMah : Nat
  /-- R252: Q_LEARN, µAh. -/
  qLearn : Int
  /-- R249: T_FULL. -/
  tFull : Nat
  /-- R252: when the run started. -/
  tRun : Nat
  /-- R253: the FCC at the run's start. -/
  fccRun : Nat
  /-- R253: sum of T_BAT over the run's updates, 0.1 °C × ticks. -/
  tempSum : Int
  /-- R252: ticks of the run at or below 0.01C. -/
  idleSum : Nat
  /-- R252: the run reached the end of discharge at this time and is judged at the next update. -/
  runDone : Option Nat
  /-- R252: since when I_STRING has been below −0.01C. -/
  chgSince : Option Nat
  /-- R246: a discharge segment is in progress. -/
  seg : Bool
  /-- R246: since when the condition that changes `seg` has held. -/
  segSince : Option Nat
  /-- R244: since when |I_STRING| has been below 0.02C. -/
  restSince : Option Nat
  /-- R248: since when |I_STRING| has been below 0.01C. -/
  lowSince : Option Nat
  /-- R248: the qualified rest has been applied in this rest. -/
  anchored : Bool
  /-- R250: start of the unknown period. -/
  unknownSince : Nat
  /-- R250: V_STRING has been below 1,000 mV since the SOC was last known. -/
  wasLow : Bool
  /-- R247: GAUGE_DISAGREE. -/
  disagree : Bool
  /-- R247: 0x0A01 has been raised in this segment. -/
  disRaised : Bool
  /-- R265: a capacity write is deferred. -/
  capDeferred : Bool
  /-- R260: a learning result that no copy in NAND holds, and that has not been deferred. -/
  learntDue : Bool
  /-- R263: OCV chemistry mismatch. -/
  mismatch : Bool
  /-- R242: time of the last update. -/
  tUpd : Nat
  /-- R242: the telemetry accumulator: charge since the last update, mA × ticks, and when it last took a conversion. -/
  qAcc : Int
  tQ : Nat
  /-- R244: the telemetry maximum of |I_STRING| over hold mode, mA. -/
  iMax : Nat
  /-- R252: up to when `idleSum` has counted. -/
  tIdle : Nat
  /-- R254: mean currents of the last 60 s, newest first, mA. -/
  i60 : List Int
  /-- R258: time of the last periodic save. -/
  tSave : Nat
  /-- R249: the charger has left a state of kind 3 by COND 3; the full point is taken at the next update. -/
  full : Bool
  deriving DecidableEq, Repr

/-- The gauges (R242–R266). -/
structure Gauge where
  ch : Vector GaugeCh 2
  /-- R255: P_BATT, mW. -/
  pBatt : Int
  deriving DecidableEq, Repr

/-- A gauge with no stored item (R250, R262): FCC is RATED_MAH's reset value. -/
def GaugeCh.reset : GaugeCh :=
  { soc := 0, rep := none, v1 := 0, v2 := 0, sigma := 200000, cov := [], fcc := 100000, fccOwn := false, soh := 10000,
    learnCount := 0, learnState := 0, learnMah := 0, qLearn := 0, tFull := 0, tRun := 0, fccRun := 0,
    tempSum := 0, idleSum := 0, runDone := none, chgSince := none, seg := false, segSince := none,
    restSince := none, lowSince := none, anchored := false, unknownSince := 0, wasLow := false,
    disagree := false, disRaised := false, capDeferred := false, learntDue := false, mismatch := false, tUpd := 0,
      qAcc := 0, tQ := 0, iMax := 0, tIdle := 0, i60 := [],
    tSave := 0, full := false }

def Gauge.reset : Gauge := { ch := Vector.replicate 2 GaugeCh.reset, pBatt := 0 }

/-- What an SRAM capture area is doing (R466). -/
inductive AreaPhase where
  | free | recording | triggered | frozen | committing
  deriving DecidableEq, Repr

/-- One capture area in SRAM (R466). -/
structure Area where
  phase : AreaPhase
  /-- R469: CAP_SEQ and the slot it will take, once triggered. -/
  capSeq : Nat
  slot : Nat
  /-- The armed set: instance, channels, PRE_PCT, INTERVAL, and the palette it came from (R143, R469). -/
  setInst : Nat
  chans : List Nat
  prePct : Nat
  interval : Nat
  palId : Nat
  /-- Samples held, oldest first, one value per channel of the set. -/
  samples : List (List Int)
  /-- Time of the newest sample. -/
  tLast : Nat
  /-- R466: PRE_SAMPLES. -/
  pre : Nat
  /-- R469: trigger code, channel (0xFFFF none), event SEQ, time. -/
  code : Nat
  chan : Nat
  evSeq : Nat
  tTrig : Nat
  /-- R467: secondary triggers: code, sample, event SEQ. -/
  secs : List (Nat × Nat × Nat)
  deriving DecidableEq, Repr

/-- A free area (R466). -/
def Area.free : Area :=
  { phase := .free, capSeq := 0, slot := 0, setInst := 0, chans := [], prePct := 0, interval := 0, palId := 0,
    samples := [], tLast := 0, pre := 0, code := 0, chan := 0, evSeq := 0, tTrig := 0, secs := [] }

/-- A capture slot of the captures partition (R466, R469). -/
structure Slot where
  slot : Nat
  /-- 2 committed, 3 damaged. -/
  state : Nat
  header : List Byte
  data : List Byte
  deriving DecidableEq, Repr

/-- A reply that an operation owes when it ends. -/
structure Owed where
  o : Origin
  op : Nat
  params : List Byte
  deriving DecidableEq, Repr

/-- A NAND operation (R471). -/
inductive NandOp where
  | varnish (id : Nat) (data : List Byte) (tries : Nat)
  | card (bytes : List Byte)
  | capture (area : Nat)
  | events
  | history
  | store (area : Nat) (bytes : List Byte)
  | erase (parts : Nat)
  | move (l : Nat)
  deriving DecidableEq, Repr

/-- A waiting or running NAND operation, with the reply it owes. -/
structure Job where
  op : NandOp
  owed : Option Owed
  deriving DecidableEq, Repr

/-- What the telemetry engine gathers over the present second beside the channels' own accumulators (R460, R461):
highest cap level and throttle step; sums of S_SRC, S_BATT, D, P_HEAD over the share ticks and their number; hold mode
seen; the timebase loaded from plant time; per rectifier, the sum and number of half-cycle RMS values; per domain, its flags ORed. -/
structure HistAcc where
  level : Nat
  step : Nat
  plant : List Nat
  ticks : Nat
  hold : Bool
  loaded : Bool
  rms : List (Nat × Nat)
  dom : List Nat
  deriving DecidableEq, Repr

/-- A second that begins. -/
def HistAcc.none : HistAcc :=
  { level := 0, step := 0, plant := [0, 0, 0, 0], ticks := 0, hold := false, loaded := false, rms := [(0, 0), (0, 0)],
    dom := List.replicate 16 0 }

/-- R456: the partitions of the die beside the reserve. -/
inductive Part where
  | history | captures | events | cards | store
  deriving DecidableEq, Repr

/-- R456: a partition's first block, counted over the die, and its blocks as shipped. -/
def Part.base : Part → Nat
  | .history => 0
  | .captures => 14336
  | .events => 15360
  | .cards => 15616
  | .store => 15680
def Part.size : Part → Nat
  | .history => 14336
  | .captures => 1024
  | .events => 256
  | .cards => 64
  | .store => 512

/-- R472, R473: what the metadata hold of a block of a partition: the block of the die that stands in its place, and how often
that one has been erased. -/
structure Blk where
  l : Nat
  phys : Nat
  wear : Nat
  deriving DecidableEq, Repr

/-- R465: a live entry of the cards log: a card by CARD_SEQ, a page of a varnish item, or the header of a slot's capture. -/
inductive LogRef where
  | card (seq : Nat)
  | page (id n : Nat)
  | header (slot : Nat)
  deriving DecidableEq, Repr

/-- R459, R462, R465, R472: the recorder metadata. -/
structure Blocks where
  /-- R472, R473: the partition map with the erase counts; a block not listed stands in its own place and has never been
  erased. -/
  tab : List Blk
  /-- R472, R473: the spare blocks with their erase counts. -/
  spare : List (Nat × Nat)
  /-- R472: the bad-block table. -/
  bad : List Nat
  /-- R472: the blocks that the partitions have lost. -/
  lost : List Part
  /-- R459: records programmed in the history ring. -/
  histPos : Nat
  /-- R462: entries programmed in the event ring. -/
  evPos : Nat
  /-- R465: the next sector of the cards log. -/
  cardPos : Nat
  /-- R465: the oldest block of the cards log. -/
  cardLow : Nat
  /-- R465: the entries of the cards log, with their sectors. -/
  log : List (Nat × LogRef)
  deriving DecidableEq, Repr

/-- R456, R472: the die as shipped (DESIGN CHOICE, log entry 9). -/
def Blocks.reset : Blocks :=
  { tab := [], spare := (List.range 192).map fun j => (16192 + j, 0), bad := [], lost := [], histPos := 0, evPos := 0,
    cardPos := 0, cardLow := 0, log := [] }

/-- R476, R477: an open stream: SOURCE, the first record and how many (0 and 1: the rings), the bytes of the other sources,
the bytes already read, and TOTAL. -/
structure Stream where
  src : Nat
  first : Nat
  n : Nat
  data : List Byte
  pos : Nat
  total : Nat
  deriving DecidableEq, Repr

/-- The sketchbook recorder (R456–R480). -/
structure Skb where
  /-- R460: the present second. -/
  hist : HistAcc
  /-- R463: SEQ of the next event entry. -/
  evSeq : Nat
  /-- R462: entries waiting in SRAM, oldest first. -/
  evBuf : List (List Byte)
  /-- R462: when the oldest pending entry was made. -/
  evOldest : Nat
  /-- R462: entries discarded since the last one written. -/
  evPendLost : Nat
  /-- R462: the event ring on NAND, oldest first. -/
  evRing : List (List Byte)
  /-- R464: CARD_SEQ of the next card. -/
  cardSeq : Nat
  /-- R465: the cards held, newest first. -/
  cards : List (List Byte)
  /-- R460: SEQ of the next history record. -/
  histSeq : Nat
  /-- R459: history records queued in SRAM, oldest first. -/
  histQ : List (List Byte)
  /-- R459: the history ring on NAND, oldest first. -/
  histRing : List (List Byte)
  /-- R459: records dropped before the next one written. -/
  gap : Nat
  /-- R460: event entries made in this second. -/
  evSecond : Nat
  /-- R466: the capture areas. -/
  areas : List Area
  /-- R469: next CAP_SEQ. -/
  capSeq : Nat
  /-- R466: next slot of the captures partition. -/
  nextSlot : Nat
  /-- R469: captures held on NAND. -/
  slots : List Slot
  /-- R467: code, channel and time of the captures triggered. -/
  capHist : List (Nat × Nat × Nat)
  /-- R467: 0x1207 has been raised for the present bar. -/
  barRaised : Bool
  /-- R475: the NAND die is failed. -/
  failed : Bool
  /-- R475: the blocks on which consecutive operations have failed. -/
  failRun : List Nat
  /-- R471: the running operation. -/
  running : Option Job
  /-- R475: when the running operation was started. -/
  tRun : Nat
  /-- R471: the operations that wait, in order of arrival. -/
  waiting : List Job
  /-- R456, R472, R473: the blocks of the die. -/
  blk : Blocks
  /-- R474: a scrub is running, sectors it has read. -/
  scrub : Bool
  scrubPos : Nat
  /-- R474: when the scrub's next slice may run. -/
  tSlice : Nat
  /-- R474: when the next scrub is due. -/
  scrubDue : Nat
  /-- R479: ECC_MAX of the last scrub and of the running one. -/
  eccMax : Nat
  eccRun : Nat
  /-- R479: T_SCRUB. -/
  tScrub : Nat
  /-- R479: LOST_EVENTS and MISSED_CAPTURES since POR. -/
  lostEvents : Nat
  missedCaps : Nat
  /-- R477: the open stream, and when it was last read. -/
  stream : Option Stream
  tStream : Nat
  deriving DecidableEq, Repr

/-- The recorder of a new device (R456, R457) (DESIGN CHOICE, log entry 9). -/
def Skb.reset : Skb :=
  { hist := HistAcc.none, evSeq := 0, evBuf := [], evOldest := 0, evPendLost := 0, evRing := [], cardSeq := 0, cards := [],
    histSeq := 0, histQ := [], histRing := [], gap := 0, evSecond := 0, areas := List.replicate 8 Area.free, capSeq := 0,
    nextSlot := 0, slots := [], capHist := [], barRaised := false, failed := false, failRun := [],
    running := none, tRun := 0, waiting := [], blk := Blocks.reset,
    scrub := false, scrubPos := 0, tSlice := 0, scrubDue := 0, eccMax := 0, eccRun := 0, tScrub := 0, lostEvents := 0,
    missedCaps := 0, stream := none, tStream := 0 }

/-- One entry of the fault queue (R485). -/
structure QEntry where
  code : Nat
  ch : Nat
  sev : Nat
  seq : Nat
  time : Nat
  count : Nat
  deriving DecidableEq, Repr

/-- One active S3 or S4 fault (R490, R499). -/
structure ActiveFault where
  code : Nat
  ch : Nat
  sev : Nat
  seq : Nat
  time : Nat
  deriving DecidableEq, Repr

/-- The fault manager (R481–R490, R499). -/
structure Flt where
  /-- R485: pending entries, head first. -/
  queue : List QEntry
  /-- R486: the running handler. -/
  running : Option QEntry
  /-- R486: suspended handlers, innermost first. -/
  susp : List QEntry
  /-- R499: OVERFLOWS and LOST since POR. -/
  overflows : Nat
  lost : Nat
  /-- R489: handlers lost during the present hold mode. -/
  lostHold : Nat
  /-- R499: RAISED per severity, since POR. -/
  raised : Vector Nat 5
  /-- R490: the active faults, oldest first. -/
  active : List ActiveFault
  /-- R484: the time of the last raise of each code. -/
  last : List (Nat × Nat)
  /-- R484: the SEQ of the last handled entry, 0xFFFFFFFF before the first. -/
  lastDone : Nat
  deriving DecidableEq, Repr

/-- The fault manager after power-on reset. -/
def Flt.reset : Flt :=
  { queue := [], running := none, susp := [], overflows := 0, lost := 0, lostHold := 0,
    raised := Vector.replicate 5 0, active := [], last := [], lastDone := 0xFFFFFFFF }

/-- A firmware image area (R457, R498). -/
inductive AreaState where
  | empty | invalid | valid
  deriving DecidableEq, Repr

/-- The code of an area's state (R498). -/
def AreaState.code : AreaState → Nat
  | .empty => 0 | .invalid => 1 | .valid => 2

structure ImgArea where
  st : AreaState
  bytes : List Byte
  deriving DecidableEq, Repr

/-- Firmware images (R493–R498). -/
structure Img where
  /-- Areas A and B. -/
  area : Vector ImgArea 2
  /-- R54: the image marked active. -/
  active : Option (Fin 2)
  /-- R54: the booted image. -/
  booted : Option (Fin 2)
  /-- R66, R496: the image resident in SRAM, from which a hold-mode restart runs; none when the restart must load the booted
  image from NAND. -/
  sram : Option (Fin 2)
  /-- R498: LAST_ERROR. -/
  lastError : Nat
  /-- R498: DOWNLOAD: 0 none, 1 open, 2 stored. -/
  download : Nat
  /-- R495: the open download's target and TOTAL. -/
  target : Fin 2
  total : Nat
  /-- R497: rollback counter in force. -/
  rollback : Nat
  deriving DecidableEq, Repr

/-- Images of the model's reset state: both areas empty (DESIGN CHOICE, log entry 9). -/
def Img.reset : Img :=
  { area := Vector.replicate 2 { st := .empty, bytes := [] }, active := none, booted := none, sram := none, lastError := 0,
    download := 0, target := 0, total := 0, rollback := 0 }

end Sys2Proof.Machine
end

