-- ==== Sys2Proof/Machine/St/Cfg.lean ====
section
/-! DEFINITION. The configuration state: easel and live copies of every record (R123–R128) and the palette
banks (chapter 6). -/

namespace Sys2Proof.Machine

/-- Staged values on their way to the hardware (R123, R125, R126): field index and raw value of each, whether
they include fields of the slower and of the faster boundary, whether the slower boundary has passed, when the commit
was made, the number of the commit command they belong to (0 for L values), and the channel they land with (31:
block-wide; of the phase table the domain that owns the entries, R296). -/
structure Batch where
  vals : List (Nat × Nat)
  slow : Bool
  fast : Bool
  slowDone : Bool
  since : Nat
  id : Nat
  own : Nat
  deriving DecidableEq, Repr

/-- The two copies of one record of one channel (R123): what the hardware uses, what has been written, the L
values not yet landed, the B values staged and not committed (field indices), and the armed commits, oldest
first. -/
structure RecCopy where
  live : List Byte
  easel : List Byte
  pendL : List Batch
  stagedB : List Nat
  armed : List Batch
  deriving DecidableEq, Repr

/-- A record whose easel equals its live copy. -/
def RecCopy.settled (bs : List Byte) : RecCopy :=
  { live := bs, easel := bs, pendL := [], stagedB := [], armed := [] }

/-- Position of a record in the configuration. -/
def recIdx : RecId → Nat
  | .rect0 => 0 | .rect1 => 1 | .bus0 => 2 | .bus1 => 3 | .chg0 => 4 | .gauge0 => 5 | .gauge1 => 6 | .dom0 => 7
  | .dom1 => 8 | .dom2 => 9 | .feed0 => 10 | .feed1 => 11 | .link0 => 12 | .link1 => 13 | .pd0 => 14
  | .seq0 => 15 | .seq1 => 16 | .meas0 => 17 | .meas1 => 18 | .meas2 => 19 | .therm0 => 20 | .skb0 => 21

/-- Every record, in the order of `recIdx`. -/
def allRecs : List RecId :=
  [.rect0, .rect1, .bus0, .bus1, .chg0, .gauge0, .gauge1, .dom0, .dom1, .dom2, .feed0, .feed1, .link0, .link1,
    .pd0, .seq0, .seq1, .meas0, .meas1, .meas2, .therm0, .skb0]

/-- The bytes of each record (chapters 7–18). -/
def recLen : RecId → Nat
  | .rect0 => 60 | .rect1 => 8 | .bus0 => 24 | .bus1 => 36 | .chg0 => 48 | .gauge0 => 24 | .gauge1 => 8
  | .dom0 => 68 | .dom1 => 384 | .dom2 => 36 | .feed0 => 32 | .feed1 => 64 | .link0 => 8 | .link1 => 8
  | .pd0 => 32 | .seq0 => 16 | .seq1 => 16 | .meas0 => 132 | .meas1 => 12 | .meas2 => 12 | .therm0 => 16
  | .skb0 => 40

/-- How many copies a record has: one per channel, or one for the block. -/
def recChans : RecId → Nat
  | .rect0 => 2 | .bus1 => 2 | .chg0 => 2 | .gauge0 => 2 | .dom0 => 16 | .feed0 => 24 | .pd0 => 2
  | .seq1 => 16 | .meas0 => 8 | .meas2 => 8 | .therm0 => 4
  | .rect1 | .bus0 | .gauge1 | .dom1 | .dom2 | .feed1 | .link0 | .link1 | .seq0 | .meas1 | .skb0 => 1

/-- A record belongs to the block, not to a channel (R518). -/
def recWide : RecId → Bool
  | .rect1 | .bus0 | .gauge1 | .dom1 | .dom2 | .feed1 | .link0 | .link1 | .seq0 | .meas1 | .skb0 => true
  | .rect0 | .bus1 | .chg0 | .gauge0 | .dom0 | .feed0 | .pd0 | .seq1 | .meas0 | .meas2 | .therm0 => false

/-- The block of a record (R115). -/
def recBlock : RecId → Nat
  | .rect0 | .rect1 => 0x07
  | .bus0 | .bus1 => 0x08
  | .chg0 => 0x09
  | .gauge0 | .gauge1 => 0x0A
  | .dom0 | .dom1 | .dom2 => 0x0B
  | .feed0 | .feed1 => 0x0C
  | .link0 | .link1 => 0x0D
  | .pd0 => 0x0E
  | .seq0 | .seq1 => 0x0F
  | .meas0 | .meas1 | .meas2 => 0x10
  | .therm0 => 0x11
  | .skb0 => 0x12

/-- A record's bytes with every field at its reset value. -/
def recDefaults (r : RecId) : List Byte :=
  (fieldsOf r).foldl (fun bs f => f.set f.reset bs) (zeros (recLen r))

/-- One saved configuration of EASEL_SAVE (R128): the live bytes of every record, node groups, HIF options. -/
structure SaveCopy where
  recs : List (List (List Byte))
  groups : Nat
  opt : HifOpt
  ok : Bool
  deriving DecidableEq, Repr

/-- Configuration. -/
structure Cfg where
  /-- R123: the copies of every record, by `recIdx` and channel. -/
  recs : List (List RecCopy)
  /-- R124: GEN of each block, by block code. -/
  gen : Vector Nat 21
  /-- The model's own numbering of the commit commands made, so that a reply can wait for its own landings (R126). -/
  commits : Nat
  /-- R457: the easel saves, with the order they were written in. -/
  save : Vector (Option (Nat × SaveCopy)) 2
  deriving DecidableEq, Repr

/-- STAGED_STATE of a palette bank (R146). -/
inductive BankState where
  | empty | loading | valid | invalid
  deriving DecidableEq, Repr

/-- The code of a bank's state (R146). -/
def BankState.code : BankState → Nat
  | .empty => 0 | .loading => 1 | .valid => 2 | .invalid => 3

/-- A palette bank in SRAM (R146). -/
structure Bank where
  st : BankState
  bytes : List Byte
  deriving DecidableEq, Repr

/-- Which bank a consumer uses (R147–R149): bank 0, bank 1 or the built-in palette. -/
inductive BankSel where
  | bank0 | bank1 | builtIn
  deriving DecidableEq, Repr

/-- Palette. -/
structure Pal where
  /-- R146: the two banks. -/
  bank : Vector Bank 2
  /-- R147: the active bank. -/
  active : BankSel
  /-- R147: the bank active before the last switch. -/
  previous : BankSel
  /-- R146: the bank of the last exchange's other side, which a download overwrites. -/
  staged : Fin 2
  /-- R146: IMAGE_LEN of the open PAL_BEGIN. -/
  opened : Option Nat
  /-- R146: ERROR, ERROR_TABLE, ERROR_OFFSET. -/
  error : Nat
  errTable : Nat
  errOffset : Nat
  /-- R146, R148: consumers that have not adopted the active bank. -/
  pending : Nat
  /-- R148: of the consumers that adopt channel by channel, the channels still on the previous bank: strings,
  string bands, feed ports, domains, mains sections. -/
  pendStr : Nat
  pendBand : Nat
  pendPort : Nat
  pendDom : Nat
  pendSec : Nat
  /-- R146, R336: under PLANT, the share tick named by the decision frame, 0 before it is known. -/
  plant : Option Nat
  /-- R147: a switch is not complete. -/
  switching : Bool
  /-- R147: the bank last switched to, whose mark is in varnish or on its way there (bank 0 as shipped). -/
  mark : Fin 2
  /-- R457: the banks in the store partition. -/
  store : Vector (Option (List Byte)) 2
  deriving DecidableEq, Repr

/-- The palette of a new device (R149). -/
def Pal.reset : Pal :=
  { bank := #v[{ st := .valid, bytes := builtInImage }, { st := .empty, bytes := [] }], active := .bank0,
    previous := .bank0, staged := 1, opened := none, error := 0, errTable := 0xFF, errOffset := 0, pending := 0,
    pendStr := 0, pendBand := 0, pendPort := 0, pendDom := 0, pendSec := 0, plant := none, switching := false, mark := 0,
    store := #v[some builtInImage, none] }

end Sys2Proof.Machine
end

