-- ==== Sys2Proof/Machine/St/Meas.lean ====
section
/-! DEFINITION. The state of measurement, timebase channels and calibration (chapter 16), and the reset
configuration with the default sequences of R407, the CC records of R430 and the D0 record of R291. -/

namespace Sys2Proof.Machine

/-- STATE of a unit in ADC_STATUS (R432). -/
inductive UnitState where
  | normal | shadowed | takenOver | substituted | noConverter | unpowered
  deriving DecidableEq, Repr

/-- The code of a unit's state (R432). -/
def UnitState.code : UnitState → Nat
  | .normal => 0 | .shadowed => 1 | .takenOver => 2 | .substituted => 3 | .noConverter => 4 | .unpowered => 5

/-- The data register of a unit (R410). -/
structure DataReg where
  result : Nat
  entry : Nat
  channel : Nat
  untrig : Bool
  subst : Bool
  lowPwr : Bool
  overrun : Bool
  deriving DecidableEq, Repr

/-- The 32 bits of a data register (R410). -/
def DataReg.word (d : DataReg) : Nat :=
  d.result % 4096 + 4096 * (d.entry % 16) + 65536 * (d.channel % 256) + 2 ^ 24 * b2n d.untrig +
    2 ^ 25 * b2n d.subst + 2 ^ 26 * b2n d.lowPwr + 2 ^ 31 * b2n d.overrun

/-- A data register after power-on reset (R410). -/
def DataReg.reset : DataReg :=
  { result := 0, entry := 0, channel := 0, untrig := false, subst := false, lowPwr := false, overrun := false }

/-- One monitor ADC unit (R407–R410, R415, R432). -/
structure AdcUnit where
  /-- R432: STATE. -/
  st : UnitState
  /-- R410: the data register, and whether the telemetry engine has drained it. -/
  reg : DataReg
  drained : Bool
  /-- R408: the next entry to convert, and the wraps made. -/
  pos : Nat
  wraps : Nat
  /-- R408, R432: low-power mode in force. -/
  lp : Bool
  /-- R432: OVERRUNS and TRIG_MISSES, saturating. -/
  overruns : Nat
  trigMisses : Nat
  /-- R410: 0x1001 has been raised since the last pass. -/
  ovRaised : Bool
  /-- R409: when 0x1007 was last raised. -/
  tMiss : Option Nat
  /-- R432: time of the last wrap and the last sequence period, ticks. -/
  tWrap : Nat
  period : Nat
  /-- R415: what a self-check that is due, or that runs under takeover, measures. -/
  test : Option SelfTest
  /-- R424: wraps of the present pass in which the unit has been shadowed. -/
  shadowN : Nat
  /-- R409: when the event came that the present entry waits for. -/
  event : Option Nat
  /-- R408: when the present entry's sampling began. -/
  tPos : Nat
  deriving DecidableEq, Repr

/-- R423: the known-zero samples of a channel. -/
structure ZeroAcc where
  /-- R423: since when the channel is known to be zero. -/
  since : Option Nat
  /-- R423: the last 1,024 that count, newest first, in LSB. -/
  last : List Int
  /-- R423: of the line voltage, the sum of the samples of the running line cycle. -/
  sum : Int
  /-- R423: of the line voltage, the number of samples of the running line cycle. -/
  n : Nat
  /-- R423: of the line voltage, that the last sample was negative. -/
  neg : Bool
  deriving DecidableEq, Repr

/-- No known-zero sample yet. -/
def ZeroAcc.reset : ZeroAcc := { since := none, last := [], sum := 0, n := 0, neg := false }

/-- The pairs of a fit through the origin (R424): the unit (y), the gain code, the pairs that count, Σxy and Σx². -/
structure PairSum where
  unit : Nat
  gain : Nat
  pairs : Nat
  sxy : Int
  sxx : Int
  deriving DecidableEq, Repr

/-- One telemetry channel (R413): its latest value and flags, its statistics, its energy accumulators (mW × 10 ns),
the snapshot of R22, and the sketchbook's own accumulators over the present second (R413, R460). -/
structure Tel where
  latest : Int
  invalid : Bool
  subst : Bool
  lowPwr : Bool
  mn : Int
  mx : Int
  sum : Int
  cnt : Nat
  tStart : Nat
  ePos : Nat
  eNeg : Nat
  tLast : Nat
  snap : Int
  hMin : Int
  hMax : Int
  hSum : Int
  hCnt : Nat
  hE : Int
  deriving DecidableEq, Repr

/-- A telemetry channel after reset. -/
def Tel.reset : Tel :=
  { latest := 0, invalid := true, subst := false, lowPwr := false, mn := 0, mx := 0, sum := 0, cnt := 0,
    tStart := 0, ePos := 0, eNeg := 0, tLast := 0, snap := 0, hMin := 0, hMax := 0, hSum := 0, hCnt := 0,
    hE := 0 }

/-- One capture/compare channel (R418, R419). -/
structure Cc where
  /-- R418: when the counter was last 0. -/
  tZero : Nat
  /-- R418: the live PERIOD and COMPARE. -/
  period : Nat
  compare : Nat
  /-- R418: the output level. -/
  out : Bool
  /-- R419: the capture registers. -/
  rise : Nat
  fall : Nat
  prevRise : Nat
  width : Nat
  periodCap : Nat
  /-- R419: rising edges seen (0, 1, or 2 for two or more), and a WIDTH taken. -/
  rises : Nat
  widthOk : Bool
  /-- R419: the filtered input level. -/
  level : Bool
  deriving DecidableEq, Repr

/-- A channel of CC0–CC3 after reset runs at 100% (R430); the others are off. -/
def Cc.reset (fan : Bool) : Cc :=
  { tZero := 0, period := if fan then 3999 else 0, compare := if fan then 4000 else 0, out := fan, rise := 0,
    fall := 0, prevRise := 0, width := 0, periodCap := 0, rises := 0, widthOk := false, level := false }

/-- One tachometer (R420). -/
structure Tach where
  tLast : Option Nat
  rpm : Nat
  deriving DecidableEq, Repr

/-- STATE of calibration (R435). -/
inductive CalState where
  | idle | triad | shadow | computing | applying
  deriving DecidableEq, Repr

/-- The code of a calibration state (R435). -/
def CalState.code : CalState → Nat
  | .idle => 0 | .triad => 1 | .shadow => 2 | .computing => 3 | .applying => 4

/-- A correction of one element (R422, R426): element, kind (0 offset, 1 gain), value (LSB, or 0.0001%). -/
abbrev Corr := Nat × Nat × Int

/-- Measurement, timebase channels and calibration. -/
structure Meas where
  /-- R407, R432: A0–A7, then P0 of sections 0 and 1. -/
  unit : Vector AdcUnit 10
  /-- R411: the diagnostic register and whether the host has read it. -/
  diag : DataReg
  diagRead : Bool
  /-- R413: the telemetry channels of R412. -/
  tel : Vector Tel 256
  /-- R414, R415: the spare slices S0, S1 and PS of each section: the unit each replaces for good. -/
  spare : Vector (Option Nat) 4
  /-- R418: CC0–CC7. -/
  cc : Vector Cc 8
  /-- R420: TACH0–TACH3. -/
  tach : Vector Tach 4
  /-- R435: the pass in progress. -/
  cal : CalState
  calUnit : Nat
  tCal : Nat
  /-- R424: bus samples or shadowed wraps gathered; R415: what the self-checks of this pass measure, by unit. -/
  calN : Nat
  calTests : List SelfTest
  /-- R425: the mains sections' units whose part of the pass is not over. -/
  mains : List Nat
  /-- R425: when the pass of 10 s after firmware ready is due. -/
  calDue : Option Nat
  /-- R435: DISCARDED, CAL_COUNT, T_PASS, T_LAST. -/
  discarded : Nat
  calCount : Nat
  tPass : Int
  tLast : Nat
  /-- R422: the field set, and the corrections computed and not yet landed. -/
  field : List Corr
  landing : List Corr
  /-- R425: the temperature the running pass was started at. -/
  calTemp : Int
  /-- R421: the factory trims loaded into the trim DACs. -/
  dac : List Corr
  /-- R423: the known-zero samples, by channel. -/
  zero : Vector ZeroAcc 256
  /-- R424: the sums of A6, S0 and S1 over the bus samples of the triad, and the pairs of this pass. -/
  triad : Int × Int × Int
  pairs : List PairSum
  /-- R415: consecutive bus samples of A6, S0 and S1 away from the median of the triad. -/
  triadOff : Vector Nat 3
  deriving DecidableEq, Repr

/-- A unit after power-on reset. -/
def AdcUnit.reset (st : UnitState) : AdcUnit :=
  { st := st, reg := DataReg.reset, drained := true, pos := 0, wraps := 0, lp := false, overruns := 0,
    trigMisses := 0, ovRaised := false, tMiss := none, tWrap := 0, period := 0, test := none, shadowN := 0, event := none,
    tPos := 0 }

/-- Measurement after power-on reset: both mains sections unpowered. -/
def Meas.reset : Meas :=
  { unit := Vector.replicate 10 (AdcUnit.reset .normal),
    diag := DataReg.reset, diagRead := true, tel := Vector.replicate 256 Tel.reset,
    spare := Vector.replicate 4 none, cc := Vector.ofFn fun k => Cc.reset (k.val < 4),
    tach := Vector.replicate 4 { tLast := none, rpm := 0 }, cal := .idle, calUnit := 0, tCal := 0, calN := 0,
      calTests := [], mains := [],
    calDue := none, discarded := 0, calCount := 0, tPass := 0, tLast := 0, field := [], landing := [],
    calTemp := 0, dac := [], zero := Vector.replicate 256 ZeroAcc.reset, triad := (0, 0, 0), pairs := [],
    triadOff := Vector.replicate 3 0 }

/-- One entry of a sequence: CHANNEL, ROT_N, triggered, TRIG_SRC (R428). -/
abbrev SeqEntry := Nat × Nat × Bool × Nat

/-- R407: the default sequence of units A0–A7. -/
def defaultSeq (unit : Nat) : List SeqEntry :=
  if unit < 3 then
    (List.range 8).flatMap fun k => [(8 * unit + k, 1, false, 0), (24 + 8 * unit + k, 1, false, 0)]
  else if unit = 3 then (List.range 16).map fun e => (48 + e, 1, true, e)
  else if unit = 4 then (List.range 16).map fun e => (64 + e, 1, true, 16 + e)
  else if unit = 5 then (List.range 16).map fun e => (80 + e, 1, false, 0)
  else if unit = 6 then
    [(98, 1, true, 0x28), (97, 1, false, 0), (100, 1, true, 0x29), (99, 1, false, 0), (96, 1, false, 0),
      (101, 1, false, 0), (102, 1, false, 0), (103, 1, false, 0), (104, 1, false, 0), (105, 1, false, 0),
      (106, 1, true, 0x2A), (107, 1, false, 0), (108, 1, true, 0x2B), (109, 8, false, 0), (117, 3, false, 0),
      (120, 2, false, 0)]
  else (List.range 16).map fun m => (122 + m, 1, false, 0)

/-- The 8 bytes of a sequence entry (R428): SAMPLE 1, GAIN 0, DELAY 0. -/
def entryBytes (e : SeqEntry) : List Byte :=
  [byte e.1, byte e.2.1, 1, if e.2.2.1 then 4 else 0, byte e.2.2.2, 0, 0, 0]

/-- R428: the reset value of a unit's record. -/
def measDefault (unit : Nat) : List Byte :=
  [if unit = 6 then 2 else 0, 16, 0, 0] ++ (defaultSeq unit).flatMap entryBytes

/-- R430: the reset value of a CC channel's record. -/
def ccDefault (k : Nat) : List Byte :=
  if k < 4 then
    Fld.Meas.COMPARE.set 4000 (Fld.Meas.PERIOD.set 3999 (Fld.Meas.MODE.set 1 (recDefaults .meas2)))
  else recDefaults .meas2


/-- R291: the reset value of D0's record, from a boot record. -/
def d0Default (b : BootRec) : List Byte :=
  let w := [(Fld.Dom.INPUT_SRC, 1), (Fld.Dom.RANGE, 0), (Fld.Dom.PHASES, 1), (Fld.Dom.VOUT_MV, b.voutMv),
    (Fld.Dom.MARGIN_HIGH_MV, 3465), (Fld.Dom.MARGIN_LOW_MV, 3135), (Fld.Dom.SS_0P1MS, b.ss),
    (Fld.Dom.FSW_KHZ, b.fswKhz), (Fld.Dom.OV_PCT, b.winPct), (Fld.Dom.UV_PCT, b.winPct),
    (Fld.Dom.OV_MV, 3399), (Fld.Dom.UV_MV, 3201), (Fld.Dom.ILIM_MA, b.oclMa)]
  w.foldl (fun bs p => p.1.set p.2 bs) (recDefaults .dom0)

/-- R291: the reset value of the phase table, entry 0 from the boot record. -/
def phaseDefault (b : BootRec) : List Byte := (Fld.Dom.CS_MV_A 0).set b.csMvA (recDefaults .dom1)

/-- The reset value of one record of one channel. -/
def recReset (b : BootRec) (r : RecId) (ch : Nat) : List Byte :=
  match r with
  | .meas0 => measDefault ch
  | .meas2 => ccDefault ch
  | .dom0 => if ch = 0 then d0Default b else recDefaults .dom0
  | .dom1 => phaseDefault b
  | _ => recDefaults r

/-- Every record at its reset value (R8, R123). -/
def recsReset (b : BootRec) : List (List RecCopy) :=
  allRecs.map fun r => (List.range (recChans r)).map fun ch => RecCopy.settled (recReset b r ch)

/-- The configuration after power-on reset. -/
def Cfg.reset : Cfg :=
  { recs := recsReset BootRec.default, gen := Vector.replicate 21 1, commits := 0, save := Vector.replicate 2 none }

end Sys2Proof.Machine
end

