-- ==== Sys2Proof/Machine/St/Rect.lean ====
section
/-! DEFINITION. The state of the rectifier channels and their barrier links (chapter 7). -/

namespace Sys2Proof.Machine

/-- The states of a rectifier channel (R150). -/
inductive RState where
  | off | autonomous | listen | qualify | relay | pfcRamp | llcStart | walkIn | run | lost | disabled | latched
  deriving DecidableEq, Repr

/-- STATE of RECT_STATUS (R178). -/
def RState.code : RState → Nat
  | .off => 0 | .autonomous => 1 | .listen => 2 | .qualify => 3 | .relay => 4 | .pfcRamp => 5 | .llcStart => 6
  | .walkIn => 7 | .run => 8 | .lost => 9 | .disabled => 10 | .latched => 11

/-- LINK of BARRIER_STATUS (R179). -/
inductive BLink where
  | down | establishing | up
  deriving DecidableEq, Repr

/-- The code of a barrier link's state (R179). -/
def BLink.code : BLink → Nat
  | .down => 0 | .establishing => 1 | .up => 2

/-- The barrier link of one section (R167–R173). -/
structure Barrier where
  link : BLink
  romVer : Nat
  hbBad : Nat
  frameErr : Nat
  resends : Nat
  silences : Nat
  delayNs : Nat
  tEst : Nat
  /-- R169: SEQ of the last good heartbeat from each side, control's receiver first, and whether one has come since the link
  was last silent. -/
  seqRx : Nat
  seqTx : Nat
  rxHeard : Bool
  txHeard : Bool
  /-- R167: running disparity of what each side receives, the control die's first; none before its first symbol. -/
  rdControl : Option Bool
  rdMains : Option Bool
  /-- R169: bad heartbeats that the control die has received since the last good one. -/
  badSince : Nat
  /-- R172: consecutive good heartbeats counted by the control die and by the mains die, and the time of the last good one
  (R170). -/
  goodRun : Nat
  goodMains : Nat
  tGood : Nat
  /-- R172: HELLO has been received and INIT sent. -/
  hello : Bool
  init : Bool
  /-- R168: the frame that awaits its ACK: TYPE and sequence, and the attempts made. -/
  awaiting : Option (Nat × Nat)
  attempts : Nat
  /-- R168: when that frame was last sent. R172: the ACK of INIT has arrived. -/
  tSent : Nat
  initAck : Bool
  /-- R29: the link has been established since the section powered up. -/
  everUp : Bool
  /-- R169: the LLC period command and the present LLC period, 2 ns units. -/
  cmdPeriod : Nat
  period : Nat
  /-- R159, R168: SR conduction times of the two legs, 2 ns units. -/
  srTime : Nat × Nat
  /-- R168: the mains die's shadow timebase. -/
  shadowTime : Nat
  /-- R172: the oscillator is locked to the recovered clock. -/
  locked : Bool
  /-- R173: the section's copy of record 0, its shadow set, the commit token's set, and that a commit has landed. -/
  secRec : List Byte
  shadow : List Byte
  token : Option Nat
  landed : Bool
  /-- R173: the set that the commit that landed named. -/
  landedSet : Nat
  /-- R173: for a token naming both sets, the boundary of the PFC and line set has passed. -/
  zcSeen : Bool
  /-- R151: FLT is asserted and the FAULT frame with its cause has not arrived. -/
  fltWait : Bool
  /-- R171: fault lines FLT and DROP to the control die; STOP to the section, asserted for a cause of R166 or for silence. -/
  flt : Bool
  drop : Bool
  stop : Bool
  stopSil : Bool
  deriving DecidableEq, Repr

/-- One rectifier channel (R150–R166). -/
structure RectCh where
  st : RState
  tState : Nat
  /-- R57: the section is powered. -/
  powered : Bool
  /-- R58: an autonomous start has timed out and is tried again at this time; timeouts since the last establishment. -/
  autoAt : Option Nat
  autoTimeouts : Nat
  /-- R58, R151: firmware has ordered the normal start of a channel held in AUTONOMOUS, or COMMAND start has been
  received in QUALIFY. -/
  ordered : Bool
  /-- R153, R58: start of the qualification (the section's own while no link is up); when it reached QUAL_MS. -/
  qualFrom : Option Nat
  qualDone : Option Nat
  /-- R57, R58: what of the section's own qualification, and of AUTONOMOUS, ran before the timebase last started over, ticks.
  -/
  qualRan : Nat
  stRan : Nat
  /-- R155: relay closed. -/
  relay : Bool
  /-- R156, R157: the PFC and the LLC switch. -/
  pfc : Bool
  llc : Bool
  /-- R162: the LLC runs on from the bulk. -/
  runOn : Bool
  /-- R168: COMMAND 'stop at period end' waits for the end of the LLC period. -/
  stopDue : Bool
  /-- R159: SR gates run; the SR is disabled. -/
  sr : Bool
  srOff : Bool
  /-- R156: phase B shed. R158: burst, and between packets. -/
  shedB : Bool
  burst : Bool
  idle : Bool
  /-- R166: PFC gates stopped for the rest of the half-cycle, or by the soft bulk limit. -/
  peakHold : Bool
  peakCount : Nat
  bulkHold : Bool
  /-- R153, R154: the last two half-cycles' RMS (mV), the last one's peak (mV), half-period (ticks), end, and
  consecutive half-cycles below BROWNOUT_MV and outside the frequency window. -/
  rms : Nat
  rmsPrev : Nat
  peak : Nat
  half : Nat
  tZc : Nat
  /-- R174: QUAL_MS as the running qualification timer took it at its start. -/
  qualMs : Nat
  /-- R155: the bulk measured as PFC_RAMP was entered, from which its reference rises. -/
  bulkFrom : Nat
  /-- R156: the slow leg's position, changed at each zero-crossing. -/
  slowLeg : Bool
  /-- R58: the limit of the LLC primary current, % of rated. -/
  primPct : Nat
  /-- R157: periods left of the capacitive-mode guard, and consecutive periods that called for it. -/
  guard : Nat
  guardRun : Nat
  /-- R163: the output-current limit applied at the last LLC period end, mA. -/
  iLim : Nat
  /-- R180: a dropout confirmed by the bulk is raised at the next 10 µs tick, unless a silence falls before it. -/
  dropDue : Bool
  /-- R168: the state and flags that STATUS or HELLO last reported, and the cause of the section's last reset. -/
  secState : Nat
  secFlags : Nat
  secCause : Nat
  /-- R168: largest deviation of the last half-cycle reported, 0.01%. -/
  maxDev : Nat
  lowCount : Nat
  freqCount : Nat
  /-- R160: the template, the samples of this half-cycle (bin and magnitude), good half-cycles, armed. -/
  template : List Nat
  samples : List (Nat × Nat)
  goodHalf : Nat
  armed : Bool
  /-- R161: since when a deviation has been continuous; the prediction in force, and good half-cycles since it. -/
  devSince : Option Nat
  devSeen : Bool
  predicted : Option Nat
  goodSince : Nat
  predTrue : Nat
  predFalse : Nat
  /-- Figures of the last STATUS frame (R168). -/
  bulk : Nat
  iOut : Int
  pCap : Nat
  pAvail : Nat
  tMax : Int
  band : Nat
  dtInst : Nat
  /-- R159: the dead-time instance the SR uses. -/
  srInst : Nat
  /-- R164: the walk-in limit in units of 0.00001 mW, and when it was last moved. -/
  walk : Nat
  tWalk : Nat
  /-- R177: a soft disable lets the walk-in limit fall. -/
  softOff : Bool
  /-- R188: disabled by the bus controller. R199: the LLC start waits for a string in hot standby. -/
  heldOff : Bool
  llcHeld : Bool
  /-- R165: the share trim (mV) in force, the share tolerance held, since when it is outside, and plant share in use. -/
  trim : Int
  shareOk : Bool
  shareBad : Option Nat
  plantShare : Bool
  /-- R166: times of the trips of the last 60 s. -/
  trips : List Nat
  lastFault : Nat
  losses : Nat
  bar : Barrier
  deriving DecidableEq, Repr

/-- The barrier link of an unpowered section. -/
def Barrier.reset : Barrier :=
  { link := .down, romVer := 0, hbBad := 0, frameErr := 0, resends := 0, silences := 0, delayNs := 0, tEst := 0,
    seqRx := 0, seqTx := 0, rxHeard := false, txHeard := false, rdControl := none, rdMains := none, badSince := 0,
    goodRun := 0, goodMains := 0, tGood := 0, hello := false, init := false, awaiting := none,
    attempts := 0, tSent := 0, initAck := false, everUp := false, cmdPeriod := 0, period := 0, srTime := (0, 0),
    shadowTime := 0, locked := false, secRec := recDefaults .rect0, shadow := [], token := none, landed := false,
    landedSet := 0, zcSeen := false, fltWait := false, flt := false, drop := false, stop := false, stopSil := false }

/-- A channel after power-on reset, its section unpowered (R150). -/
def RectCh.reset : RectCh :=
  { st := .off, tState := 0, powered := false, autoAt := none, autoTimeouts := 0, ordered := false,
    qualFrom := none, qualDone := none, qualRan := 0, stRan := 0, relay := false, pfc := false, llc := false,
      runOn := false, stopDue := false, sr := false,
    srOff := false, shedB := false, burst := false, idle := false, peakHold := false, peakCount := 0,
    bulkHold := false, rms := 0, rmsPrev := 0, peak := 0, half := 0, tZc := 0, qualMs := 2000, bulkFrom := 0,
    slowLeg := false, primPct := 100, guard := 0, guardRun := 0, iLim := 0, dropDue := false, secState := 0, secFlags := 0,
    secCause := 0, maxDev := 0, lowCount := 0, freqCount := 0,
    template := List.replicate 128 0, samples := [], goodHalf := 0, armed := false, devSince := none,
    devSeen := false, predicted := none, goodSince := 0, predTrue := 0, predFalse := 0, bulk := 0, iOut := 0,
    pCap := 0, pAvail := 0, tMax := 0, band := 0, dtInst := 0, srInst := 0, walk := 0, tWalk := 0,
    softOff := false, heldOff := false, llcHeld := false, trim := 0, shareOk := true, shareBad := none, plantShare := false, trips := [],
    lastFault := 0, losses := 0, bar := Barrier.reset }

/-- The rectifiers. -/
structure Rect where
  ch : Vector RectCh 2
  deriving DecidableEq, Repr

def Rect.reset : Rect := { ch := Vector.replicate 2 RectCh.reset }

end Sys2Proof.Machine
end

