-- ==== Sys2Proof/Machine/St/Bus.lean ====
section
/-! DEFINITION. The state of the bus controller and the auxiliary inputs (chapter 8). -/

namespace Sys2Proof.Machine

/-- The bus states (R186). -/
inductive BState where
  | dead | mains | mainsWalkIn | aux | auxWalkIn | outage
  deriving DecidableEq, Repr

/-- STATE of BUS_STATUS (R205). -/
def BState.code : BState → Nat
  | .dead => 0 | .mains => 1 | .mainsWalkIn => 2 | .aux => 3 | .auxWalkIn => 4 | .outage => 5

/-- The states of an auxiliary input (R190). -/
inductive AState where
  | off | disabled | absent | delay | qualified | matching | walkIn | coldConnect | on | ready | fault | latched
  deriving DecidableEq, Repr

/-- AUXA_STATE of BUS_STATUS (R205). -/
def AState.code : AState → Nat
  | .off => 0 | .disabled => 1 | .absent => 2 | .delay => 3 | .qualified => 4 | .matching => 5 | .walkIn => 6
  | .coldConnect => 7 | .on => 8 | .ready => 9 | .fault => 10 | .latched => 11

/-- One auxiliary input (R189–R194). -/
structure AuxCh where
  st : AState
  /-- When the state was entered. -/
  tState : Nat
  /-- R190: the input is inside its window. -/
  inWin : Bool
  /-- R183: V_IN, mV, refreshed every 1 ms. -/
  vin : Nat
  /-- R191: the walk-in limit P_WALK in units of 0.00001 mW. -/
  walk : Nat
  /-- R193: times of the trips of the last 10 minutes. -/
  trips : List Nat
  /-- R194: when the switch last turned off. -/
  tOff : Option Nat
  /-- R191: MATCH waits for the gap: it has elapsed. -/
  gap : Bool
  /-- R196: the switch is opened on purpose once i_ff has risen: since when, and the state it then enters. -/
  opening : Option (Nat × AState)
  deriving DecidableEq, Repr

/-- How i_ff moves (R185): absent, rising or held at its value, falling to 0 after a release or after a loss that left
another channel carrying, or kept until the bus reaches V_STBY. -/
inductive FfMode where
  | none | rise | fall | fallLost | kept
  deriving DecidableEq, Repr

/-- The feed-forward current of each string in hot standby (R185), µA: the value it moves to (or falls from), the
value it started from, when it started, and the sum of the predicted currents it is computed from (mA). -/
structure Ff where
  mode : FfMode
  val : Nat
  from_ : Nat
  t0 : Nat
  sum : Nat
  /-- R185: the number of strings in hot standby it was computed with. -/
  n : Nat
  deriving DecidableEq, Repr

/-- The bus controller (R181–R200). -/
structure Bus where
  st : BState
  /-- R205: time of entry into STATE. -/
  tState : Nat
  /-- R186: the bus has been below BUS_UV_MV for 100 µs and not above it since. -/
  uv : Bool
  /-- R186: some source has held the bus since power-on reset. -/
  held : Bool
  /-- R183, R191: the strings' reference, µV. -/
  ref : Nat
  /-- R187: the loop references of the rectifier channels, µV. -/
  rectRef : Vector Nat 2
  ff : Ff
  aux : Vector AuxCh 2
  /-- R199: a hand-back is deferred. -/
  deferred : Bool
  /-- R205: HANDOVERS and HANDBACKS. -/
  handovers : Nat
  handbacks : Nat
  /-- R188: the rectifier channels are held disabled by the source priority table or a higher-ranked input. -/
  rectHeld : Bool
  /-- R186, R188: a hand-over to the strings is in progress: OUTAGE was entered from a source and the strings' loop does not
  carry the bus yet. -/
  handing : Bool
  /-- R182: the last A6 bus sample lay outside the commitment window. -/
  outWin : Bool
  deriving DecidableEq, Repr

/-- An auxiliary input after power-on reset (R52). -/
def AuxCh.reset : AuxCh :=
  { st := .absent, tState := 0, inWin := false, vin := 0, walk := 0, trips := [], tOff := none, gap := false,
    opening := none }

def Ff.none : Ff := { mode := .none, val := 0, from_ := 0, t0 := 0, sum := 0, n := 0 }

/-- The bus controller after power-on reset (R186). -/
def Bus.reset : Bus :=
  { st := .dead, tState := 0, uv := false, held := false, ref := 52000000, rectRef := Vector.replicate 2 0,
    ff := Ff.none, aux := Vector.replicate 2 AuxCh.reset, deferred := false, handovers := 0,
    handbacks := 0, rectHeld := false, handing := false, outWin := false }

end Sys2Proof.Machine
end

