-- ==== Sys2Proof/Machine/St/Str.lean ====
section
/-! DEFINITION. The state of the battery strings and their chargers (chapter 9). -/

namespace Sys2Proof.Machine

/-- The states of a string (R211). -/
inductive SState where
  | absent | disabled | opened | matching | cold | connected | chargeOnly | test | fault | latched
  deriving DecidableEq, Repr

/-- STRING_STATE of CHG_STATUS (R240). -/
def SState.code : SState → Nat
  | .absent => 0 | .disabled => 1 | .opened => 2 | .matching => 3 | .cold => 4 | .connected => 5 | .chargeOnly => 6
  | .test => 7 | .fault => 8 | .latched => 9

/-- The states of a charger (R218). -/
inductive CState where
  | idle | run | suspended | latched | disabled
  deriving DecidableEq, Repr

/-- CHG_STATE of CHG_STATUS (R240). -/
def CState.code : CState → Nat
  | .idle => 0 | .run => 1 | .suspended => 2 | .latched => 3 | .disabled => 4

/-- One NTC of a string (R215): faulted, and since when its readings have been within range without a break. -/
structure NtcSt where
  faulted : Bool
  goodSince : Option Nat
  deriving DecidableEq, Repr

/-- A string test (R231–R233, R240). -/
structure TestSt where
  /-- TEST_STATE: 0 none, 1 running, 2 complete, 3 abandoned; TEST_CAUSE. -/
  state : Nat
  cause : Nat
  /-- END, P_TEST_W, MAX_MIN, END_VALUE of the test. -/
  end_ : Nat
  pTest : Nat
  maxMin : Nat
  value : Nat
  /-- R232: P_ACT, mW. -/
  pAct : Nat
  /-- R232, R240: charge removed, mA × ticks; when the test began and ended. -/
  q : Nat
  t0 : Nat
  tEnd : Option Nat
  deriving DecidableEq, Repr

/-- One string and its charger (R208–R240). -/
structure StrCh where
  st : SState
  tState : Nat
  /-- R212: the state MATCH aims for, and the 1 ms gate ramp after the match. -/
  aim : SState
  /-- R212: the disconnect is closed; when it opens at the latest. -/
  closed : Bool
  openAt : Option Nat
  /-- R212: since when I_STRING has been above 1,000 mA at the 10 µs tick. R217: since when the end-of-discharge conditions
  have held together. -/
  outSince : Option Nat
  eodSince : Option Nat
  /-- R214: BMS inputs at the pin, since when, and as effective after BMS_FILT_MS. -/
  chgPin : Bool
  tChg : Nat
  chgOk : Bool
  dsgPin : Bool
  tDsg : Nat
  dsgOk : Bool
  /-- R215: the NTCs, and the last good T_BAT, 0.1 °C. -/
  ntc : Vector NtcSt 2
  tGood : Int
  /-- R216: i_dsg_max, battery side, mA. R217: eod_foldback and the end-of-discharge flag. -/
  iDsgMax : Nat
  fold : Nat
  eod : Bool
  /-- R213: 0x0901 raised since the last entry into OPEN; the COLD current limit applies. -/
  lowRaised : Bool
  coldLim : Bool
  /-- R184: integrator of the string loop and the current reference, bus side, mA. -/
  integ : Nat
  iRef : Int
  /-- R185: the integrator has been preset to i_ff and pi() has not run since. -/
  preset : Bool
  /-- R212: times of the trips of the last 10 minutes; R240: LAST_FAULT. -/
  trips : List Nat
  lastFault : Nat
  /-- R218: the charger; disabled by CHG_CONTROL stop. -/
  chg : CState
  byCmd : Bool
  /-- R240: PROFILE_STATE, when entered; R220: hold counts of its three exits. -/
  ps : Nat
  tPs : Nat
  /-- R66: how much of the time since `tPs` passed in hold mode, where the profile's bookkeeping is frozen. -/
  psHeld : Nat
  holds : List Nat
  /-- R221–R223: V_CHG, I_LIM, LIMIT, I_PROG; the shares: i_bat (mA, battery side) and i_chg (mA, bus side). -/
  vChg : Int
  iLim : Nat
  limit : Nat
  iProg : Nat
  iBat : Nat
  iChg : Nat
  /-- R226–R229: the counts: T_EQ (µs), T_WALL and precharge (s), resume used, equalise requested, thermal history
  (newest first), band in force at expiry, seconds the resume condition has held. -/
  tEq : Nat
  tWall : Nat
  tPre : Nat
  resumeUsed : Bool
  eqReq : Bool
  therm : List Bool
  bandExp : Nat
  resumeFor : Nat
  /-- R133: temperature band in force. -/
  band : Nat
  /-- R70, R230: the caps of the safe defaults are in force at the charger. -/
  safe : Bool
  test : TestSt
  deriving DecidableEq, Repr

def TestSt.none : TestSt :=
  { state := 0, cause := 0, end_ := 0, pTest := 0, maxMin := 0, value := 0, pAct := 0, q := 0, t0 := 0, tEnd := Option.none }

/-- A string after power-on reset: OPEN with its gates pulled down (R211); its pins are not driven. -/
def StrCh.reset : StrCh :=
  { st := .opened, tState := 0, aim := .connected, closed := false, openAt := none, outSince := none,
    eodSince := none, chgPin := false, tChg := 0,
    chgOk := false, dsgPin := false, tDsg := 0, dsgOk := false,
    ntc := Vector.replicate 2 { faulted := false, goodSince := none }, tGood := 250, iDsgMax := 0, fold := 40000,
    eod := false, lowRaised := false, coldLim := false, integ := 0, iRef := 0, preset := false, trips := [], lastFault := 0,
    chg := .idle, byCmd := false, ps := 0, tPs := 0, psHeld := 0, holds := [0, 0, 0], vChg := 0, iLim := 0, limit := 8,
    iProg := 0, iBat := 0, iChg := 0, tEq := 0, tWall := 0, tPre := 0, resumeUsed := false, eqReq := false,
    therm := [], bandExp := 0, resumeFor := 0, band := 0, safe := false, test := TestSt.none }

/-- The strings. -/
structure Str where
  ch : Vector StrCh 2
  deriving DecidableEq, Repr

def Str.reset : Str := { ch := Vector.replicate 2 StrCh.reset }

end Sys2Proof.Machine
end

