-- ==== Sys2Proof/Machine/St/Dom.lean ====
section
/-! DEFINITION. The state of the power domains (chapter 11) and the feed ports (chapter 12). -/

namespace Sys2Proof.Machine

/-- The states of a domain (R271). -/
inductive DState where
  | off | check | softStart | on | softStop | retryWait | latched
  deriving DecidableEq, Repr

/-- STATE of DOM_STATUS (R301). -/
def DState.code : DState → Nat
  | .off => 0 | .check => 1 | .softStart => 2 | .on => 3 | .softStop => 4 | .retryWait => 5 | .latched => 6

/-- A reference that moves from one value to another (µV) at `num / den` µV per 10 ns tick since `t0` (R274, R279,
R290). -/
structure Ramp where
  from_ : Nat
  goal : Nat
  num : Nat
  den : Nat
  t0 : Nat
  deriving DecidableEq, Repr

/-- A reference at rest. -/
def Ramp.rest (v : Nat) : Ramp := { from_ := v, goal := v, num := 0, den := 1, t0 := 0 }

/-- The reference at a time: the generator updates every 200 ns in steps of 0.01 mV (R278). -/
def Ramp.value (r : Ramp) (now : Nat) : Nat :=
  let moved := r.num * ((now - r.t0) / 20 * 20) / r.den
  if r.from_ ≤ r.goal then
    if r.goal ≤ r.from_ + moved then r.goal else (r.from_ + moved) / 10 * 10
  else if r.from_ ≤ r.goal + moved then r.goal else (r.from_ - moved + 9) / 10 * 10

/-- One domain (R268–R302). -/
structure DomCh where
  st : DState
  tState : Nat
  /-- R271: the enable. R278: margin state. -/
  enable : Bool
  margin : Nat
  /-- R278, R279: the reference, and the slew of the DOM_VOUT in force (0: the SLEW field). -/
  ref : Ramp
  slew : Nat
  /-- R274: the start is into a pre-biased output. -/
  preBias : Bool
  /-- R272: trip count. R301: LAST_FAULT. -/
  trips : Nat
  lastFault : Nat
  /-- R272: since when the input has been present without a break. -/
  inputSince : Option Nat
  /-- R282, R281: under-voltage asserted after its filter; since when the clamp acts (R283). -/
  uv : Bool
  limSince : Option Nat
  /-- R283: LIM, mA, and the fold-back factor, 0.01%. -/
  lim : Nat
  fold : Nat
  /-- R272, R290: a soft off came in CHECK and acts as soft-start begins. -/
  offDue : Bool
  /-- R285, R286: the phases in whose present period diode emulation acts; load release acts, and since when. -/
  de : Nat
  lr : Option Nat
  /-- R289: failed phases; R287: shed phases and the last change. -/
  failed : Nat
  shed : Nat
  tShed : Nat
  /-- R288: trims, 0.01%, by phase number of the domain's mask order. -/
  trims : List Int
  /-- R275: integrator (2⁻¹⁷ of duty), derivative filter and last error (0.5 mV), and the duty in 2⁻¹⁶. -/
  acc : Int
  dflt : Int
  ePrev : Int
  duty : Int
  /-- R269: the number of active phases that the spacing is for, the spacing it moves from in 1/13,440 of the period, and the
  periods of the move that are left. -/
  spN : Nat
  spFrom : Nat
  spLeft : Nat
  /-- R277: locked to the reference, and the switching frequency in force, 0.1 kHz. -/
  locked : Bool
  fsw : Nat
  lockRaised : Bool
  /-- R293: CAUSE_PHASE of the last fault. -/
  cause : Nat
  deriving DecidableEq, Repr

/-- The domains. -/
structure Dom where
  ch : Vector DomCh 16
  /-- R277: SYNC_IN is lost; the reference's period as it follows SYNC_IN, 100 ps (0: it never has); the period it moves to;
  since when it moves. -/
  syncLost : Bool
  syncPeriod : Nat
  syncGoal : Nat
  tSync : Nat
  /-- R269, R283, R288: the on-time of each phase's present high-side pulse, 100 ps; 0: none is issued. -/
  pulse : Vector Nat 32
  deriving DecidableEq, Repr

/-- A domain after power-on reset (R52, R271). -/
def DomCh.reset : DomCh :=
  { st := .off, tState := 0, enable := false, margin := 0, ref := Ramp.rest 0, slew := 0, preBias := false,
    trips := 0, lastFault := 0, inputSince := none, uv := false, limSince := none, lim := 0, fold := 10000,
    offDue := false, de := 0, lr := none, failed := 0, shed := 0, tShed := 0, trims := [], acc := 0, dflt := 0, ePrev := 0,
    duty := 0, spN := 0, spFrom := 0, spLeft := 0, locked := false, fsw := 0, lockRaised := false, cause := 0xFF }

def Dom.reset : Dom :=
  { ch := Vector.replicate 16 DomCh.reset, syncLost := false, syncPeriod := 0, syncGoal := 0, tSync := 0,
    pulse := Vector.replicate 32 0 }

/-- The states of a feed port (R305). -/
inductive PState where
  | absent | off | wait | delay | check | inrush | on | shed | retryWait | latched
  deriving DecidableEq, Repr

/-- STATE of PORT_STATUS (R322). -/
def PState.code : PState → Nat
  | .absent => 0 | .off => 1 | .wait => 2 | .delay => 3 | .check => 4 | .inrush => 5 | .on => 6 | .shed => 7
  | .retryWait => 8 | .latched => 9

/-- One feed port (R303–R324). -/
structure PortCh where
  st : PState
  tState : Nat
  enable : Bool
  /-- R307: the bus is inside the port's window; since when it has been below UV_MV. -/
  inWin : Bool
  uvSince : Option Nat
  /-- R312: trip count, and when the retry interval ends. -/
  trips : Nat
  retryAt : Nat
  /-- R310: thermal memory H in 10⁻⁸ A²s (H itself is this over 10⁶); the time of the last metering slot. -/
  h : Nat
  tSlot : Nat
  aboveI0 : Bool
  /-- R316: I_MA, V_MV, P_MW and the energy in mW × 10 ns. -/
  iMa : Int
  vMv : Nat
  pMw : Int
  energy : Nat
  /-- R318: the class in force, as the last share tick took it. -/
  cls : Nat
  /-- R323: energy, state and class as the snapshot of the last 10 µs tick has them. -/
  snapE : Nat
  snapSt : PState
  snapCls : Nat
  /-- R313: the latch was restored at firmware ready. -/
  restored : Bool
  lastFault : Nat
  /-- R342: held demand while shed, mW. -/
  held : Nat
  /-- R324: metered currents of the last 1 ms, newest first, with their times. -/
  peaks : List (Nat × Int)
  deriving DecidableEq, Repr

/-- The feed ports. -/
structure Feed where
  ch : Vector PortCh 24
  /-- R315: ports waiting to leave SHED, in order, and when the last one left. -/
  unshed : List Nat
  tUnshed : Nat
  /-- R314: SHED_MIN in force at the last share tick. -/
  shedMin : Nat
  deriving DecidableEq, Repr

/-- A port after power-on reset (R52). -/
def PortCh.reset : PortCh :=
  { st := .off, tState := 0, enable := false, inWin := false, uvSince := none, trips := 0, retryAt := 0, h := 0, tSlot := 0,
    aboveI0 := false, iMa := 0, vMv := 0, pMw := 0, energy := 0, cls := 4, snapE := 0, snapSt := .off, snapCls := 4,
      restored := false, lastFault := 0, held := 0,
    peaks := [] }

def Feed.reset : Feed :=
  { ch := Vector.replicate 24 PortCh.reset, unshed := [], tUnshed := 0, shedMin := 8 }

end Sys2Proof.Machine
end

