-- ==== Sys2Proof/Machine/St/Link.lean ====
section
/-! DEFINITION. The state of the Zwijan link and capping (chapter 13). -/

namespace Sys2Proof.Machine

/-- The line state of a link port (R327, R328, R350). -/
inductive LineState where
  | down | training | up1 | up2
  deriving DecidableEq, Repr

/-- PORT [1:0] of LINK_STATUS (R350). -/
def LineState.code : LineState → Nat
  | .down => 0 | .training => 1 | .up1 => 2 | .up2 => 3

/-- The use of a link port (R330, R350). -/
inductive PortUse where
  | unused | toRoot | away | standby
  deriving DecidableEq, Repr

/-- PORT [3:2] of LINK_STATUS (R350). -/
def PortUse.code : PortUse → Nat
  | .unused => 0 | .toRoot => 1 | .away => 2 | .standby => 3

/-- One link port ZLp (R326–R329). -/
structure LinkPort where
  line : LineState
  use : PortUse
  /-- R327: generation 1 idles are being sent, and since when the present idles are. -/
  gen1 : Bool
  tTrain : Nat
  /-- R329: the neighbour's port number and serial bits, from its IDENT. -/
  peer : Option (Nat × Nat)
  /-- R337: measured link delay, ns; the port's path delay, ns. -/
  delay : Nat
  path : Nat
  /-- R347: since when the port has been up. -/
  tUp : Nat
  deriving DecidableEq, Repr

/-- One entry of the enumeration table (R351). -/
structure NodeEnt where
  addr : Nat
  depth : Nat
  flags : Nat
  parent : Nat
  deriving DecidableEq, Repr

/-- The contents of a decision frame (R336). -/
structure Decision where
  seq : Nat
  flags : Nat
  level : Nat
  apply : Nat
  head : Nat
  chgReq : Nat
  iShare : Nat
  sSrc : Nat
  sBatt : Nat
  d : Nat
  root : Nat
  nodes : Nat
  deriving DecidableEq, Repr

/-- The contents of a share frame (R335). -/
structure ShareFig where
  sSrc : Nat
  sBatt : Nat
  d : Nat
  chgReq : Nat
  reserve : Nat
  iRect : Nat
  nRect : Nat
  vMin : Nat
  capFlt : Nat
  deriving DecidableEq, Repr

/-- No figures. -/
def ShareFig.zero : ShareFig :=
  { sSrc := 0, sBatt := 0, d := 0, chgReq := 0, reserve := 0, iRect := 0, nRect := 0, vMin := 0xFFFF, capFlt := 0 }

/-- A Korisk packet being assembled from command frames (R339): entry node, level, next segment, bytes. -/
structure CmdAsm where
  src : Nat
  level : Nat
  next : Nat
  bytes : List Byte
  deriving DecidableEq, Repr

/-- The link and capping (R326–R353). -/
structure Link where
  port : Vector LinkPort 3
  nodeAddr : Nat
  rootAddr : Nat
  /-- R350: ROLE: 0 alone, 1 node, 2 root; when entered. -/
  role : Nat
  tRole : Nat
  /-- R350: GEN: the plant's generation, 1 or 2. -/
  gen : Nat
  /-- R350: CAPPING: 0 plant, 1 local by PLANT_CAP, 2 local after loss, 3 holding the last decision. -/
  capping : Nat
  table : List NodeEnt

  /-- R329, R331: the plant is wired as a ring, as enumeration found it. -/
  ring : Bool
  /-- R337: PATH_DELAY_NS (16 bits). -/
  pathDelay : Nat
  /-- R337: the trim of the timebase's rate, ppm. -/
  trim : Int
  /-- R350: T_LOOP_NS (32 bits), last measured. -/
  tLoop : Nat
  /-- R350: MISSED (32 bits): share periods missed. -/
  missed : Nat
  /-- R350: LATE (32 bits): decisions discarded. -/
  late : Nat
  /-- R350: EVENTS_RX (32 bits): event frames received. -/
  eventsRx : Nat
  /-- R335: SEQ of the share frames originated or last seen; a valid share frame has passed since the last share
  tick; consecutive missed periods; share frames have been seen since the last start of the count. -/
  seq : Nat
  seen : Bool
  missedRun : Nat
  everSeen : Bool
  /-- R336, R340: the frame this root has in flight: its SEQ, TIME, and that it may still be answered. -/
  flight : Option (Nat × Nat × Bool)
  /-- R336: decisions held for their APPLY tick, and the last one applied. -/
  heldDec : List Decision
  last : Option Decision
  tApply : Nat
  /-- R332: best claim seen in the election in progress (strap, address), and whether this node has claimed. -/
  best : Option (Bool × Nat)
  claimed : Bool
  /-- R330, R347: the ring is wrapped through the closure; a broken ring link is up again since. -/
  wrapped : Bool
  /-- R347: the closure returns to standby at the root's next share tick. -/
  restoreDue : Bool
  /-- R341: SHARE_US mismatch found. -/
  mismatch : Bool
  /-- R343: BASE and level. -/
  base : Nat
  level : Nat
  /-- R342: own figures at the last share tick; figures of the plant's last decision stand in `last`. -/
  fig : ShareFig
  /-- R345: P_HEAD, mW, as the decision in force or local capping fixed it. -/
  head : Nat
  /-- R344: supply at risk by node: W, and 0 until the next share frame is originated, 1 while it is subtracted, 2 once
  the clear has arrived. A second DROP of a node stands beside its first until then. -/
  risk : List (Nat × Nat × Nat)
  /-- R336: a PLANT switch reached this node at this time and has not been announced. -/
  plantAt : Option Nat
  /-- R341: the last share tick. -/
  tShare : Option Nat
  /-- R22, R125: the values of the link that land at this share tick wait for its table engine. -/
  landDue : Bool
  /-- R332: the period that the last share tick ended was missed and is not yet counted. -/
  missNow : Bool
  /-- R332: a missed period has been counted at this tick and the election of this tick has not yet run. -/
  electDue : Bool
  /-- R333: this root stops originating at its next share tick. -/
  yielding : Bool
  /-- R333, R337: a better root's claim has come while the own root sends: 1 until the next share tick, 2 until the first
  share frame after it. -/
  joining : Nat
  /-- R330: SEQ of the share frame forwarded outward whose return is awaited, and the branches that have returned: port, and
  figures unless the frame was void. -/
  outSeq : Option Nat
  merge : List (Nat × Option ShareFig)
  /-- R339: packets being assembled. -/
  asm : List CmdAsm
  /-- Frames that this node has been made to send since the last 10 µs tick: port and bytes of the frame. -/
  out : List (Nat × List Byte)
  deriving DecidableEq, Repr

/-- A link port that trains (R327). -/
def LinkPort.reset : LinkPort :=
  { line := .training, use := .unused, gen1 := false, tTrain := 0, peer := none, delay := 0, path := 0, tUp := 0 }

/-- The link after power-on reset: transmitters idle until firmware is ready (R52), alone, capping locally (R336).
(DEDUCED, log entry 104.) -/
def Link.reset : Link :=
  { port := Vector.replicate 3 { LinkPort.reset with line := .down }, nodeAddr := 0, rootAddr := 0, role := 0, tRole := 0, gen := 2,
    capping := 2, table := [], ring := false, pathDelay := 0, trim := 0, tLoop := 0, missed := 0, late := 0, eventsRx := 0,
    seq := 0, seen := false, missedRun := 0, everSeen := false, flight := none, heldDec := [], last := none,
    tApply := 0, best := none, claimed := false, wrapped := false, restoreDue := false, mismatch := false, base := 0, level := 0,
    fig := ShareFig.zero, head := 0, risk := [], plantAt := none, tShare := none, landDue := false,
    missNow := false, electDue := false, yielding := false, joining := 0, outSeq := none, merge := [], asm := [],
    out := [] }

end Sys2Proof.Machine
end

