-- ==== Sys2Proof/Machine/St/Pd.lean ====
section
/-! DEFINITION. The state of the USB Type-C and PD service ports (chapter 14). -/

namespace Sys2Proof.Machine

/-- The Type-C states of a port (R381). -/
inductive TcState where
  | disabled | errorRecovery | unattachedSnk | unattachedSrc | attachWaitSnk | attachWaitSrc | trySrc | tryWaitSnk
  | trySnk | tryWaitSrc | attachedSnk | attachedSrc
  deriving DecidableEq, Repr

/-- STATE of PD_STATUS (R381). -/
def TcState.code : TcState → Nat
  | .disabled => 0 | .errorRecovery => 1 | .unattachedSnk => 2 | .unattachedSrc => 3 | .attachWaitSnk => 4
  | .attachWaitSrc => 5 | .trySrc => 6 | .tryWaitSnk => 7 | .trySnk => 8 | .tryWaitSrc => 9 | .attachedSnk => 10
  | .attachedSrc => 11

/-- A message being sent (R362, R363). -/
structure PdTx where
  sop : Nat
  /-- RESP, AMS_START and AMS_END of PD_TX; `soft` where the device itself sends Soft_Reset (R366), `own` where it sends
  a PS_RDY of its own (R369). -/
  resp : Nat
  amsStart : Bool
  amsEnd : Bool
  soft : Bool
  own : Bool
  header : Nat
  data : List Byte
  tries : Nat
  /-- Sent and waiting for GoodCRC; false while it waits for SinkTx. -/
  sent : Bool
  t : Nat
  /-- The PD_TX awaiting its RESULT. -/
  owed : Option Owed
  deriving DecidableEq, Repr

/-- What PD_POWER or PD_SWAP has armed (R369, R379): armed code (1 contract change, 2 PR_Swap, 3 FR_Swap,
4 VCONN_Swap, 5 DR_Swap), the new contract and the command that waits. -/
structure Armed where
  kind : Nat
  epr : Bool
  v : Nat
  i : Nat
  p : Nat
  owed : Option Owed
  deriving DecidableEq, Repr

/-- A hard reset in progress (R368). -/
inductive HrPhase where
  | none | psHardReset | rampDown | discharge | recover | restore | sinkWait
  deriving DecidableEq, Repr

/-- One PD port (R355–R381). -/
structure PdCh where
  st : TcState
  tState : Nat
  cc1 : CcPin
  cc2 : CcPin
  /-- R365: when a CC pin last changed. -/
  tCc : Nat
  /-- R381: ROLES: source, DFP, VCONN source, explicit contract, Type-C only, EPR, CC2, attach role source. -/
  source : Bool
  dfp : Bool
  vconnSrc : Bool
  contract : Bool
  typeC : Bool
  epr : Bool
  flip : Bool
  attachSrc : Bool
  /-- R381: Rp advertised or seen. -/
  rp : Nat
  /-- R378: PD_STATE [3:0], and what is armed; the phase in progress belongs to `run`. -/
  phase : Nat
  armed : Option Armed
  run : Option Armed
  tPhase : Nat
  /-- R369, R381: V_TARGET, I_LIMIT, P_CONTRACT (mV, mA, mW), P_LIM and the sink's P_SINK in mW. -/
  vTarget : Nat
  /-- R369: where the converter's reference stood when V_TARGET last changed, mV, and when. -/
  vFrom : Nat
  tSlew : Nat
  /-- R381: I_LIMIT, mA (32 bits). -/
  iLimit : Nat
  /-- R372: the contract current, mA. -/
  iContract : Nat
  /-- R381: P_CONTRACT, mW (32 bits). -/
  pContract : Nat
  /-- R372, R381: P_LIM of a source, P_SINK of a sink, mW (32 bits). -/
  pLim : Nat
  /-- R368, R369: the converter runs. -/
  conv : Bool
  /-- R361, R368: DSCHG is applied; since when, where a detach applies it (R365). -/
  dschg : Bool
  tDschg : Nat
  /-- R361: VCONN is switched on. -/
  vconn : Bool
  /-- R373: CC switches open. -/
  ccOpen : Bool
  /-- R367: hard-reset counter. -/
  hardResets : Nat
  hr : HrPhase
  tHr : Nat
  /-- R368, R371: PD_STATE as it stood at the reset, and whether this port sent it; the swap it broke is being undone. -/
  hrState : Nat
  hrSent : Bool
  hrSwap : Bool
  /-- R378: the event queue, oldest first (whole events as bytes); R364: messages in the PHY, and 0x0E0E raised. -/
  queue : List (List Byte)
  phy : List (List Byte)
  fullRaised : Bool
  /-- R362: MessageID counters for SOP, SOP′, SOP″, and the last MessageIDs received, 8 more where a Soft_Reset brought it.
  -/
  txId : Vector Nat 3
  rxId : Vector (Option Nat) 3
  tx : Option PdTx
  /-- The device's own messages that wait for the one being sent. -/
  later : List PdTx
  /-- R366: SenderResponse runs: RESP, and since when; the message was the device's Soft_Reset. -/
  resp : Option (Nat × Nat)
  softOut : Bool
  /-- R363: AMS_START's 500 ms run since; a sink reads SinkTxOk. -/
  ams : Option Nat
  sinkTxOk : Bool
  /-- R370: FRS signal recorded; VBUS has reached vSafe5V from this port since. R376: BIST carrier runs since. -/
  frs : Bool
  frsUp : Bool
  bist : Option Nat
  /-- R372: P_LIM has been at least 2.5 W since; the port waits for it; 0x0E0D raised. -/
  okSince : Option Nat
  limited : Bool
  belowRaised : Bool
  /-- R372: P_LIM of the last share tick, mW, for the converter's next switching period end. -/
  limNext : Nat
  /-- R373: VCONN is off after an over-current. -/
  vconnTrip : Bool
  lastFault : Nat
  /-- What the last PD command made the port put on the CC line, one list each: 0–2 and a message's header and data for
  SOP, SOP′ and SOP″; 0xF0 Hard_Reset, 0xF1 Cable_Reset, 0xF2 an FRS signal, 0xF3 the BIST carrier. -/
  out : List (List Byte)
  deriving DecidableEq, Repr

/-- The PD ports. -/
structure Pd where
  ch : Vector PdCh 2
  deriving DecidableEq, Repr

/-- A PD port after power-on reset: dead-battery Rd (R359). -/
def PdCh.reset : PdCh :=
  { st := .unattachedSnk, tState := 0, cc1 := .open_, cc2 := .open_, tCc := 0, source := false, dfp := false,
    vconnSrc := false, contract := false, typeC := false, epr := false, flip := false, attachSrc := false, rp := 0,
    phase := 0, armed := none, run := none, tPhase := 0, vTarget := 0, vFrom := 0, tSlew := 0, iLimit := 0, iContract := 0, pContract := 0, pLim := 0,
    conv := false, dschg := false, tDschg := 0, vconn := false, ccOpen := false, hardResets := 0, hr := .none,
      tHr := 0, hrState := 0, hrSent := false, hrSwap := false,
    queue := [], phy := [], fullRaised := false, txId := Vector.replicate 3 0, rxId := Vector.replicate 3 none,
    tx := none, later := [], resp := none, softOut := false, ams := none, sinkTxOk := false, frs := false,
      frsUp := false, bist := none,
    okSince := none, limited := false, belowRaised := false, limNext := 0, vconnTrip := false, lastFault := 0,
    out := [] }

def Pd.reset : Pd := { ch := Vector.replicate 2 PdCh.reset }

end Sys2Proof.Machine
end

