-- ==== Sys2Proof/Machine/St/Seq.lean ====
section
/-! DEFINITION. The state of sequencing and supervision (chapter 15) and thermal management (chapter 17). -/

namespace Sys2Proof.Machine

/-- The sequencer's states (R383). -/
inductive QState where
  | idle | running | held
  deriving DecidableEq, Repr

/-- STATE of SEQ_STATUS (R403). -/
def QState.code : QState → Nat
  | .idle => 0 | .running => 1 | .held => 2

/-- The phases of a step (R386). -/
inductive QPhase where
  | action | wait | delay
  deriving DecidableEq, Repr

/-- PHASE of SEQ_STATUS (R403). -/
def QPhase.code : QPhase → Nat
  | .action => 0 | .wait => 1 | .delay => 2

/-- One extended monitor (R394, R404). -/
structure Em where
  vRail : Nat
  out : Bool
  /-- Consecutive samples that contradict `out`. -/
  count : Nat
  /-- R404: least and greatest since the last read, and that no sample has come since then. -/
  mn : Nat
  mx : Nat
  fresh : Bool
  deriving DecidableEq, Repr

/-- Sequencing and supervision (R383–R405). -/
structure Seq where
  st : QState
  inst : Nat
  step : Nat
  phase : QPhase
  /-- R385: the sequence table in use, read at the start. -/
  table : List Byte
  tStep : Nat
  tPhase : Nat
  /-- R386, R388: the wait condition and since when it holds; times of the last nine transitions; their count. -/
  cond : Bool
  settleSince : Option Nat
  trans : List Nat
  transCount : Nat
  /-- R403: FAILED; R401: some failure was continued. -/
  failed : Nat
  /-- R389: completed steps that have lost a member, oldest first: their ON_FAIL applies at the next tick. -/
  lost : List Nat
  /-- R405: the members of the step that do not meet their wait term: domains and ports. -/
  bad : Nat × Nat
  /-- R388: the members whose flags moved last. -/
  moved : Nat × Nat
  /-- R385: an instance that a trigger starts at the next tick, and whether it is the forced power-down. -/
  startDue : Option (Nat × Bool)
  /-- R391–R393: pins, SEQ_IN after its filter. -/
  seqIn : Bool
  seqOut : Bool
  fltPin : Bool
  fltOwn : Bool
  /-- R393: FLT_ACTION is due; R51, R59, R385: the power-up of firmware ready is due at the next tick that lets it start. -/
  fltDue : Bool
  deferred : Bool
  /-- R60: a cold reset waits for the power-down sequence. -/
  coldDue : Bool
  em : Vector Em 16
  /-- R396: WDI watchdog: armed since, last edge, pulse running since; WD_EXPIRIES. -/
  wdArm : Option Nat
  wdEdge : Option Nat
  pulse : Option Nat
  expiries : Nat
  /-- R405: EM and VALUE of the last monitor fault. -/
  emFault : Nat
  emValue : Nat
  deriving DecidableEq, Repr

def Em.reset : Em := { vRail := 0, out := false, count := 0, mn := 0, mx := 0, fresh := true }

/-- The sequencer after power-on reset (R391, R393). -/
def Seq.reset : Seq :=
  { st := .idle, inst := 0, step := 0, phase := .action, table := [], tStep := 0, tPhase := 0, cond := false,
    settleSince := none, trans := [], transCount := 0, failed := 0, lost := [], bad := (0, 0), moved := (0, 0),
      startDue := none,
    seqIn := false, seqOut := false, fltPin := true, fltOwn := false, fltDue := false,
    deferred := false, coldDue := false, em := Vector.replicate 16 Em.reset, wdArm := none, wdEdge := none,
    pulse := none, expiries := 0, emFault := 0xFF, emValue := 0 }

/-- One ring-oscillator sensor (R438–R440): its last windows, newest first (0.1 °C), and broken. -/
structure Sensor where
  win : List Int
  broken : Bool
  deriving DecidableEq, Repr

/-- One zone of the shutdown vote (R441, R442): shut down, and since when fewer than two sensors read 125 °C. -/
structure Zone where
  shut : Bool
  coolSince : Option Nat
  deriving DecidableEq, Repr

/-- One fan (R449, R450): duty, stalled, forced to 100%, the temperature used with its lag, and the source's. -/
structure Fan where
  duty : Nat
  stalled : Bool
  forced : Bool
  tUsed : Int
  tSrc : Int
  deriving DecidableEq, Repr

/-- Thermal management (R438–R454). -/
structure Therm where
  sens : Vector Sensor 20
  /-- C0–C3, then M. -/
  zone : Vector Zone 5
  /-- R443: entries into shutdown of the control die and the mains die within 60 min; latches. -/
  ctrlIn : List Nat
  mainsIn : List Nat
  ctrlLatch : Bool
  mainsLatch : Bool
  /-- R443, R453: lifetime shutdowns and latches of the control die and of the mains die (varnish 0x0004). -/
  life : Nat × Nat × Nat × Nat
  /-- R444: the throttle step, when entered, and T_HOT, 0.1 °C. -/
  step : Nat
  tStep : Nat
  tHot : Int
  /-- R447: bands: control die, sections 0 and 1. -/
  bandCtrl : Nat
  bandSec : Vector Nat 2
  fan : Vector Fan 4
  deriving DecidableEq, Repr

/-- Thermal management after power-on reset: fans at 100% (R52). -/
def Therm.reset : Therm :=
  { sens := Vector.replicate 20 { win := [], broken := false },
    zone := Vector.replicate 5 { shut := false, coolSince := none }, ctrlIn := [], mainsIn := [], ctrlLatch := false,
    mainsLatch := false, life := (0, 0, 0, 0), step := 0, tStep := 0, tHot := 0, bandCtrl := 0,
    bandSec := Vector.replicate 2 0,
    fan := Vector.replicate 4
      { duty := 100, stalled := false, forced := true, tUsed := 0, tSrc := 0 } }

end Sys2Proof.Machine
end

