-- ==== Sys2Proof/Machine/State.lean ====
section
/-! DEFINITION. The state of the block: the queue of waiting commands and every piece of state the spec gives the
device, block by block; the reasons a step can stop; and the state after reset. -/

namespace Sys2Proof.Machine

/-- The machine state. Each block's own fields carry the rule that names them. -/
structure State where
  /-- Commands waiting, first in first out. -/
  pending : List Instr
  /-- The model's own counter of the free values drawn (no value of the spec). -/
  free : Nat
  /-- Power, reset, straps, time and the host-contact watchdog (chapters 1–3). -/
  sys : Sys
  /-- Host interfaces and sessions (chapters 4 and 5). -/
  hif : Hif
  /-- Easel and live configuration (R123–R128). -/
  cfg : Cfg
  /-- Palette banks (chapter 6). -/
  pal : Pal
  /-- Mains rectifiers and barrier links (chapter 7). -/
  rect : Rect
  /-- Bus controller and auxiliary inputs (chapter 8). -/
  bus : Bus
  /-- Battery strings and chargers (chapter 9). -/
  str : Str
  /-- Battery gauges (chapter 10). -/
  gauge : Gauge
  /-- Varnish (R257–R262). -/
  varn : Varn
  /-- Power domains (chapter 11). -/
  dom : Dom
  /-- Feed ports (chapter 12). -/
  feed : Feed
  /-- Zwijan link and capping (chapter 13). -/
  link : Link
  /-- PD service ports (chapter 14). -/
  pd : Pd
  /-- Sequencing and supervision (chapter 15). -/
  seq : Seq
  /-- Measurement, telemetry, CC channels and calibration (chapter 16). -/
  meas : Meas
  /-- Thermal management (chapter 17). -/
  therm : Therm
  /-- Sketchbook recorder (chapter 18). -/
  skb : Skb
  /-- Fault manager (chapter 19). -/
  flt : Flt
  /-- Firmware images (chapter 19). -/
  img : Img
  deriving DecidableEq, Repr

/-- Why a step stops. No command of the table stops by a fault of the spec: every fault of the device is an event of
the fault manager and leaves a next state. Safe. -/
inductive Fault where
  /-- Raised by nothing: kept so that the type has a name for a stop. Safe. -/
  | stuck
  deriving DecidableEq, Repr

/-- Why a command is refused. -/
inductive Refusal where
  /-- The command has no meaning yet; raised by its arm of `exec`. Safe. -/
  | notModelled (mnemonic : String)
  deriving DecidableEq, Repr

/-- The machine in power-on reset, before its release: every register at the value the spec gives, every other at the
value that log entries 8 and 9 name (DESIGN CHOICE). -/
def State.reset : State :=
  { pending := [], free := 0, sys := Sys.reset, hif := Hif.reset, cfg := Cfg.reset, pal := Pal.reset,
    rect := Rect.reset, bus := Bus.reset, str := Str.reset, gauge := Gauge.reset,
    varn := Varn.reset, dom := Dom.reset, feed := Feed.reset, link := Link.reset,
    pd := Pd.reset, seq := Seq.reset, meas := Meas.reset, therm := Therm.reset,
    skb := Skb.reset, flt := Flt.reset, img := Img.reset }

/-- The state with its `sys` part changed. -/
def State.onSys (g : Sys → Sys) (s : State) : State := { s with sys := g s.sys }

/-- The state with its `hif` part changed. -/
def State.onHif (g : Hif → Hif) (s : State) : State := { s with hif := g s.hif }

/-- The state with its `cfg` part changed. -/
def State.onCfg (g : Cfg → Cfg) (s : State) : State := { s with cfg := g s.cfg }

/-- The state with its `pal` part changed. -/
def State.onPal (g : Pal → Pal) (s : State) : State := { s with pal := g s.pal }

/-- The state with its `rect` part changed. -/
def State.onRect (g : Rect → Rect) (s : State) : State := { s with rect := g s.rect }

/-- The state with its `bus` part changed. -/
def State.onBus (g : Bus → Bus) (s : State) : State := { s with bus := g s.bus }

/-- The state with its `str` part changed. -/
def State.onStr (g : Str → Str) (s : State) : State := { s with str := g s.str }

/-- The state with its `gauge` part changed. -/
def State.onGauge (g : Gauge → Gauge) (s : State) : State := { s with gauge := g s.gauge }

/-- The state with its `varn` part changed. -/
def State.onVarn (g : Varn → Varn) (s : State) : State := { s with varn := g s.varn }

/-- The state with its `dom` part changed. -/
def State.onDom (g : Dom → Dom) (s : State) : State := { s with dom := g s.dom }

/-- The state with its `feed` part changed. -/
def State.onFeed (g : Feed → Feed) (s : State) : State := { s with feed := g s.feed }

/-- The state with its `link` part changed. -/
def State.onLink (g : Link → Link) (s : State) : State := { s with link := g s.link }

/-- The state with its `pd` part changed. -/
def State.onPd (g : Pd → Pd) (s : State) : State := { s with pd := g s.pd }

/-- The state with its `seq` part changed. -/
def State.onSeq (g : Seq → Seq) (s : State) : State := { s with seq := g s.seq }

/-- The state with its `meas` part changed. -/
def State.onMeas (g : Meas → Meas) (s : State) : State := { s with meas := g s.meas }

/-- The state with its `therm` part changed. -/
def State.onTherm (g : Therm → Therm) (s : State) : State := { s with therm := g s.therm }

/-- The state with its `skb` part changed. -/
def State.onSkb (g : Skb → Skb) (s : State) : State := { s with skb := g s.skb }

/-- The state with its `flt` part changed. -/
def State.onFlt (g : Flt → Flt) (s : State) : State := { s with flt := g s.flt }

/-- The state with its `img` part changed. -/
def State.onImg (g : Img → Img) (s : State) : State := { s with img := g s.img }

/-- The state after a free value has been drawn. -/
def State.drew (s : State) : State := { s with free := s.free + 1 }

end Sys2Proof.Machine
end

