-- ==== Sys2Proof/Machine/Ops.lean ====
section
/-! DEFINITION. Named operations over the state: time, configuration records, palette tables, telemetry. -/

namespace Sys2Proof.Machine

/-- R87: the timebase. -/
abbrev State.now (s : State) : Nat := s.sys.time

/-- 10 ns ticks in a microsecond, a millisecond and a second (R5). -/
abbrev us (n : Nat) : Nat := 100 * n
abbrev ms (n : Nat) : Nat := 100000 * n
abbrev sec (n : Nat) : Nat := 100000000 * n

/-- Time moves on to `t`, never back (R416) (DESIGN CHOICE, log entry 4). -/
def State.advanceTo (t : Nat) (s : State) : State := s.onSys fun y => { y with time := max y.time t }

/-- The settled copy of an absent record. -/
def RecCopy.none : RecCopy := RecCopy.settled []

/-- The copies of a record of a channel. -/
def State.copy (s : State) (r : RecId) (ch : Nat) : RecCopy :=
  (s.cfg.recs.getD (recIdx r) []).getD ch RecCopy.none

/-- The state with the copies of a record of a channel changed. -/
def State.onCopy (r : RecId) (ch : Nat) (f : RecCopy → RecCopy) (s : State) : State :=
  s.onCfg fun c => { c with recs := c.recs.modify (recIdx r) fun l => l.modify ch f }

/-- The raw live value of a field (R123: the live copy is what the hardware uses). -/
def State.fld (s : State) (f : Field) (ch : Nat := 0) : Nat := f.getRaw (s.copy f.record ch).live

/-- The live value of a field, signed where the field is. -/
def State.fldI (s : State) (f : Field) (ch : Nat := 0) : Int := f.get (s.copy f.record ch).live

/-- A one-bit live field. -/
def State.flag (s : State) (f : Field) (ch : Nat := 0) : Bool := s.fld f ch = 1

/-- The bytes of a palette bank or of the built-in palette (R149). -/
def State.bankBytes (s : State) : BankSel → List Byte
  | .bank0 => (s.pal.bank[0]).bytes
  | .bank1 => (s.pal.bank[1]).bytes
  | .builtIn => builtInImage

/-- The bank a consumer uses: the previous one until it has adopted the active one (R148). -/
def State.bankOf (s : State) (old : Bool) : BankSel := if old then s.pal.previous else s.pal.active

/-- A palette table as a consumer sees it (R131, R148); absent tables read as no bytes. -/
def State.table (s : State) (old : Bool) (type inst : Nat) : List Byte :=
  (palFind (s.bankBytes (s.bankOf old)) type inst).getD []

/-- A palette instance exists in the active bank (R145). -/
def State.hasTable (s : State) (type inst : Nat) : Bool :=
  (palFind (s.bankBytes s.pal.active) type inst).isSome

/-- A consumer that adopts as one has not yet adopted the active bank (R148). -/
def State.palOld (s : State) (c : Nat) : Bool := s.pal.pending.testBit c

/-- A telemetry channel (R412, R413). -/
def State.telOf (s : State) (c : Nat) : Tel := s.meas.tel[fin 256 c]

/-- The latest value of a telemetry channel (R413) (DEDUCED, log entry 7). -/
abbrev State.tel (s : State) (c : Nat) : Int := (s.telOf c).latest

/-- The value of a telemetry channel in the snapshot of R22 (DEDUCED, log entry 7). -/
abbrev State.snap (s : State) (c : Nat) : Int := (s.telOf c).snap

/-- A telemetry channel takes a new value: statistics and energies follow (R413). -/
def Tel.take (t : Tel) (now : Nat) (v : Int) (power : Bool) : Tel :=
  let dt := now - t.tLast
  { t with
    latest := v, invalid := false, tLast := now,
    mn := if t.cnt = 0 then v else min t.mn v, mx := if t.cnt = 0 then v else max t.mx v,
    sum := t.sum + v, cnt := t.cnt + 1,
    ePos := if power ∧ 0 < t.latest then t.ePos + t.latest.toNat * dt else t.ePos,
    eNeg := if power ∧ t.latest < 0 then t.eNeg + (-t.latest).toNat * dt else t.eNeg,
    hE := if power then t.hE + t.latest * dt else t.hE }

/-- A channel of R413's power channels. -/
def isPower (c : Nat) : Bool := (160 ≤ c && c ≤ 183) || (200 ≤ c && c ≤ 203)

/-- A measurement reaches the telemetry engine (R413). -/
def State.measure (c : Nat) (v : Int) (s : State) : State :=
  s.onMeas fun m => { m with tel := upd m.tel (fin 256 c) fun t => t.take s.now v (isPower c) }

/-- An active set bit list of a mask below `n`. -/
def maskBits (n m : Nat) : List Nat := (List.range n).filter fun k => m.testBit k

/-- A list of times with those older than `span` dropped and the present added. -/
def recent (now span : Nat) (ts : List Nat) : List Nat := now :: ts.filter fun t => now < t + span

/-- Rounded division of naturals (DESIGN CHOICE, log entry 30). -/
def rdiv (a b : Nat) : Nat := (2 * a + b) / (2 * b)

/-- R296: the domain that owns a phase. -/
def State.ownerOf (s : State) (ph : Nat) : Option Nat := (List.range 16).find? fun k => (s.fld Fld.Dom.PHASES k).testBit ph

/-- The phase whose entry holds a field of the phase table (R296). -/
def phaseOfField (f : Field) : Nat := f.off / 12

/-- R296: the channel with which a field of a copy of channel `ch` lands: a phase's entry with the domain that owns it (31:
block-wide, or a phase that no domain owns). -/
def State.landsWith (s : State) (r : RecId) (ch : Nat) (f : Field) : Nat :=
  if r = .dom1 then (s.ownerOf (phaseOfField f)).getD 31 else if recWide r then 31 else ch

/-- A Boolean condition's effect. -/
abbrev State.when (b : Bool) (f : State → State) (s : State) : State := if b then f s else s

/-- An effect applied to each index in turn. -/
def State.each {α : Type} (xs : List α) (f : α → State → State) (s : State) : State := xs.foldl (fun s x => f x s) s

/-- The state of a rectifier channel. -/
def State.rectCh (s : State) (k : Nat) : RectCh := s.rect.ch[fin 2 k]

/-- A change of the state of a rectifier channel. -/
def State.onRectCh (k : Nat) (f : RectCh → RectCh) (s : State) : State :=
  s.onRect fun b => { b with ch := upd b.ch (fin 2 k) f }

/-- The state of a auxiliary input. -/
def State.auxCh (s : State) (k : Nat) : AuxCh := s.bus.aux[fin 2 k]

/-- A change of the state of a auxiliary input. -/
def State.onAuxCh (k : Nat) (f : AuxCh → AuxCh) (s : State) : State :=
  s.onBus fun b => { b with aux := upd b.aux (fin 2 k) f }

/-- The state of a string. -/
def State.strCh (s : State) (k : Nat) : StrCh := s.str.ch[fin 2 k]

/-- A change of the state of a string. -/
def State.onStrCh (k : Nat) (f : StrCh → StrCh) (s : State) : State :=
  s.onStr fun b => { b with ch := upd b.ch (fin 2 k) f }

/-- The state of a gauge of a string. -/
def State.gaugeCh (s : State) (k : Nat) : GaugeCh := s.gauge.ch[fin 2 k]

/-- A change of the state of a gauge of a string. -/
def State.onGaugeCh (k : Nat) (f : GaugeCh → GaugeCh) (s : State) : State :=
  s.onGauge fun b => { b with ch := upd b.ch (fin 2 k) f }

/-- The state of a domain. -/
def State.domCh (s : State) (k : Nat) : DomCh := s.dom.ch[fin 16 k]

/-- A change of the state of a domain. -/
def State.onDomCh (k : Nat) (f : DomCh → DomCh) (s : State) : State :=
  s.onDom fun b => { b with ch := upd b.ch (fin 16 k) f }

/-- The state of a feed port. -/
def State.portCh (s : State) (k : Nat) : PortCh := s.feed.ch[fin 24 k]

/-- A change of the state of a feed port. -/
def State.onPortCh (k : Nat) (f : PortCh → PortCh) (s : State) : State :=
  s.onFeed fun b => { b with ch := upd b.ch (fin 24 k) f }

/-- The state of a PD port. -/
def State.pdCh (s : State) (k : Nat) : PdCh := s.pd.ch[fin 2 k]

/-- A change of the state of a PD port. -/
def State.onPdCh (k : Nat) (f : PdCh → PdCh) (s : State) : State :=
  s.onPd fun b => { b with ch := upd b.ch (fin 2 k) f }

/-- R441, R443: the control die's power stages are held: a zone of C0–C3 is in shutdown, or the die is latched. -/
def State.ctrlDown (s : State) : Bool :=
  s.therm.ctrlLatch || (List.range 4).any fun z => (s.therm.zone[fin 5 z]).shut

end Sys2Proof.Machine
end

