-- ==== Sys2Proof/Machine/Quant.lean ====
section
/-! DEFINITION. Figures that several blocks read: measurements by name (R412), supplies, limits and setpoints as
functions of the state. -/

namespace Sys2Proof.Machine

/-- The bus voltage, mV (R412) (DEDUCED, log entry 7). -/
def State.vBus (s : State) : Nat := (s.tel 96).toNat

/-- V_STRING, mV, and I_STRING, mA, positive into the bus (R208, R412) (DEDUCED, log entry 7). -/
def State.strV (s : State) (k : Nat) : Int := s.tel (97 + 2 * k)
def State.strI (s : State) (k : Nat) : Int := s.tel (98 + 2 * k)

/-- An auxiliary input's voltage, mV, and current, mA (R412). -/
def State.auxV (s : State) (k : Nat) : Int := s.tel (101 + 2 * k)
def State.auxI (s : State) (k : Nat) : Int := s.tel (102 + 2 * k)

/-- A PD port's VBUS, mV, and current, mA, positive while sourcing (R412). -/
def State.pdV (s : State) (k : Nat) : Int := s.tel (105 + 2 * k)
def State.pdI (s : State) (k : Nat) : Int := s.tel (106 + 2 * k)

/-- R14: the source that a keep-OR channel taps, mV: the bus; a string at the pack side of its switches (R15); an auxiliary
input; VBUS of a PD port. -/
def State.keepSource (s : State) : KeepIn → Int
  | .bus => s.tel 96
  | .bat k => s.strV k.val
  | .aux k => s.auxV k.val
  | .pd k => s.pdV k.val

/-- Rp of the code RP of PD_STATUS, mA (R357). -/
def rpMa (code : Nat) : Nat := if code = 3 then 3000 else if code = 2 then 1500 else if code = 1 then 500 else 0

/-- R359, R374: the Rp a source port advertises. -/
def State.advert (s : State) (k : Nat) : Nat :=
  let top := s.fld Fld.Pd.RP_MAX k + 1
  let c := s.pdCh k
  if !c.typeC then top
  else
    (([3, 2, 1].find? fun r => r ≤ top ∧ 5 * rpMa r ≤ c.pLim ∧ (!s.sys.safe ∨ r ≤ 2))).getD 1

/-- R365: the unattached state for ROLE (PRESUMED, log entry 107). -/
def State.unattachedOf (s : State) (k : Nat) : TcState :=
  if s.fld Fld.Pd.ROLE k = 1 then .unattachedSrc else .unattachedSnk

/-- R15, R370: a PD port is the source of its VBUS, its converter driving it from a fast role swap on. -/
def PdCh.sourcing (c : PdCh) : Bool := c.st = .attachedSrc || (c.conv && c.source)

/-- R15: hardware disables the channel of a string whose DSG_OK is deasserted (R214), and that of a PD port that is the
source. -/
def State.keepEnabled (s : State) : KeepIn → Bool
  | .bus => true
  | .bat k => (s.strCh k.val).dsgOk
  | .aux _ => true
  | .pd k => !(s.pdCh k.val).sourcing

/-- R14: a channel whose source is above KEEP. -/
def State.keepAbove (s : State) (j : KeepIn) : Bool := s.keepEnabled j && (s.sys.keepMv : Int) < s.keepSource j

/-- R14: a channel conducts only while its source is above KEEP, and no further below the highest than the forward drop.
(DESIGN CHOICE, log entry 157.) -/
def State.keepConducts (s : State) (j : KeepIn) : Bool :=
  s.keepAbove j && KeepIn.all.all fun i => !s.keepAbove i || s.keepSource i ≤ s.keepSource j + Config.keepDrop


/-- R14, R357: the most a channel passes forward, mA, a sink port without a contract the Rp current it sees; it passes nothing in
reverse. -/
def State.keepLimit (s : State) (j : KeepIn) : Nat :=
  if !s.keepConducts j then 0
  else
    match j with
    | .pd k => let c := s.pdCh k.val; min 3500 (if c.contract then c.iContract else rpMa c.rp)
    | .bus | .bat _ | .aux _ => 3500


/-- R14: a channel blocks reverse current: its source is not above KEEP, or hardware has disabled it. -/
def State.keepBlocks (s : State) (j : KeepIn) : Bool := !s.keepConducts j

/-- R14: a channel carries the load: it conducts, and no conducting source is higher. -/
def State.keepCarries (s : State) (j : KeepIn) : Bool :=
  s.keepConducts j && KeepIn.all.all fun i => !s.keepConducts i || s.keepSource i ≤ s.keepSource j

/-- R327, R348: a port starts training; with GEN2_EN 0, or in a plant held at generation 1, its idles are generation 1. -/
def State.trainPort (s : State) : LinkPort :=
  { LinkPort.reset with gen1 := !s.flag Fld.Link.GEN2_EN || s.link.gen = 1, tTrain := s.now }

/-- R348: an enabled port trains; the others are down. -/
def State.portFrom (s : State) (p : Nat) : LinkPort :=
  if (s.fld Fld.Link.PORT_EN).testBit p then s.trainPort else { LinkPort.reset with line := .down }

/-- R357: the current that KIN_PDx takes from VBUS, mA: the keep supply's input while its channel carries the load.
(DESIGN CHOICE, log entry 12.) -/
def State.kinPd (s : State) (k : Nat) : Nat :=
  let j := KeepIn.pd (fin 2 k)
  if s.keepCarries j then min (s.keepLimit j) (Config.keepPower s.free * 1000 / max 1 (s.pdV k).toNat) else 0

/-- R357: the most VBUS current that a sink's converter takes, mA: the contract current less the KIN_PDx current. -/
def State.sinkDraw (s : State) (k : Nat) : Nat := (s.pdCh k).iContract - s.kinPd k

/-- R163: the capacity at a line voltage in mV RMS, mW (DESIGN CHOICE, log entry 30; DEDUCED, log entry 85). -/
def capAt (mv : Nat) : Nat :=
  if 176000 ≤ mv then 1600000 else if mv ≤ 85000 then 1000000 else 1000000 + (mv - 85000) * 600 / 91

/-- R151, R170: the link of a channel is established, and its section is powered: the control die keeps the link until
silence. -/
def RectCh.linked (c : RectCh) : Bool := c.powered && c.bar.link = .up

/-- R171: STOP is asserted, for a cause of R166 or for silence. -/
def Barrier.stopped (b : Barrier) : Bool := b.stop || b.stopSil

/-- A channel delivers power (R150). -/
def RectCh.delivers (c : RectCh) : Bool := c.st = .walkIn ∨ c.st = .run

/-- R163, R164: min(P_CAP, P_LIMIT_W) of a channel, mW. -/
def State.pMax (s : State) (k : Nat) : Nat := min (s.rectCh k).pCap (1000 * s.fld Fld.Rect.P_LIMIT_W k)

/-- R163, R177: P_AVAIL of a channel, mW; 0 outside WALK_IN and RUN. A soft disable in RUN applies its falling limit. -/
def State.pAvail (s : State) (k : Nat) : Nat :=
  let c := s.rectCh k
  if c.st = .walkIn ∨ (c.st = .run ∧ c.softOff) then min (s.pMax k) (c.walk / 100000)
  else if c.st = .run then s.pMax k else 0

/-- The entries of the source priority table in force: source and enabled (R141, R148). -/
def State.sources (s : State) : List (Nat × Bool) :=
  let t := s.table (s.palOld 8) 0x0A 0
  (List.range (u t 0 1)).map fun k => (u t (4 + 2 * k) 1, bitOf (u t (5 + 2 * k) 1) 0)

/-- A source is listed and enabled (R188). -/
def State.sourceOn (s : State) (src : Nat) : Bool := s.sources.any fun e => e.1 = src && e.2

/-- The rank of a source: its place in the table, past every place when it is not listed. -/
def State.rankOf (s : State) (src : Nat) : Nat := s.sources.findIdx fun e => e.1 = src

/-- R200, R372: P_SINK of a PD port, mW: the lesser of the contract and SNK_LIMIT_W, 0 unless it sinks under an
explicit contract and its source priority entry is enabled. -/
def State.pSink (s : State) (k : Nat) : Nat :=
  let c := s.pdCh k
  if c.st = .attachedSnk ∧ !c.source ∧ c.contract ∧ c.conv ∧ s.sourceOn (4 + k) then
    min c.pContract (1000 * s.fld Fld.Pd.SNK_LIMIT_W k)
  else 0

/-- R183: V_HOLD, mV: V_IN of the auxiliary input walking in or on, BUS_SET_MV otherwise. -/
def State.auxVin (s : State) : Nat :=
  let live (c : AuxCh) : Bool := c.st = .on ∨ c.st = .walkIn ∨ c.st = .coldConnect
  if live (s.auxCh 0) then (s.auxCh 0).vin else (s.auxCh 1).vin

def State.vHold (s : State) : Nat :=
  match s.bus.st with
  | .aux | .auxWalkIn => s.auxVin
  | .mains | .mainsWalkIn | .outage | .dead => s.fld Fld.Bus.BUS_SET_MV

/-- R183: V_STBY, mV. -/
def State.vStby (s : State) : Nat :=
  match s.bus.st with
  | .aux => max 44000 (s.auxVin - s.fld Fld.Bus.STBY_OFFSET_MV)
  | .auxWalkIn => s.auxVin - s.fld Fld.Bus.AUX_WALK_MV
  | .mains | .mainsWalkIn | .outage | .dead => s.fld Fld.Bus.BUS_SET_MV - s.fld Fld.Bus.STBY_OFFSET_MV

/-- R200, R357: the injection of a PD sink at the present bus voltage, mA, within what its VBUS current may bring.
(DEDUCED, log entry 88.) -/
def State.iPd (s : State) (k : Nat) : Nat :=
  let v := s.vBus
  let lo := s.vHold + s.fld Fld.Bus.PD_FOLD_START_MV
  let hi := s.vHold + s.fld Fld.Bus.PD_FOLD_END_MV
  let full := s.pSink k * 1000 / max 1 v
  let fold := if s.bus.st = .dead then 0 else if v ≤ lo then full else if hi ≤ v then 0 else full * (hi - v) / (hi - lo)
  min fold (s.sinkDraw k * (s.pdV k).toNat / max 1 v)

/-- R185: i_ff of each string at present, mA (DEDUCED, log entry 88). -/
def State.iff (s : State) : Nat :=
  let f := s.bus.ff
  let dt := s.now - f.t0
  match f.mode with
  | .none => 0
  | .rise => min f.val (f.from_ + f.val * dt / us 50)
  | .fall | .fallLost => f.val - f.val * dt / ms 10
  | .kept => f.val

/-- R211: a string is in hot standby. -/
def StrCh.standby (c : StrCh) : Bool := c.st = .connected && 0 < c.iDsgMax

/-- R185: the number of strings in hot standby. -/
def State.standbys (s : State) : Nat := b2n (s.strCh 0).standby + b2n (s.strCh 1).standby

/-- A string's bus-side current, mA, positive into the bus: battery current scaled by the voltages (R216). -/
def State.strBusI (s : State) (k : Nat) : Int := s.strI k * s.strV k / max 1 (s.vBus : Int)

/-- R215: T_BAT: the hotter of the good enabled NTCs; 25.0 °C with none enabled; none while every enabled one is
faulted. -/
def State.tBat (s : State) (k : Nat) : Option Int :=
  let en (j : Nat) : Bool := s.flag (if j = 0 then Fld.Chg.NTC1_EN else Fld.Chg.NTC2_EN) k
  let good := (List.range 2).filter fun j => en j && !((s.strCh k).ntc[fin 2 j]).faulted
  if !en 0 && !en 1 then some 250
  else (good.map fun j => s.tel (109 + 2 * k + j)).max?

/-- R215: no NTC of the string is enabled, or every enabled one is faulted: no band is in use. -/
def State.noBand (s : State) (k : Nat) : Bool :=
  (!s.flag Fld.Chg.NTC1_EN k && !s.flag Fld.Chg.NTC2_EN k) || (s.tBat k).isNone

/-- R215: the temperature that the gauge and R221 use. -/
def State.tBatUsed (s : State) (k : Nat) : Int := (s.tBat k).getD (s.strCh k).tGood

/-- R133: the band in force after a temperature, from the band in force before, with its hysteresis. -/
def bandNext (t : List Byte) (old : Nat) (temp : Int) : Nat :=
  let th (j : Nat) : Int := i t (2 + 2 * j) 2
  let up := ((List.range 5).filter fun j => th j ≤ temp).length
  let stay := ((List.range 5).filter fun j => th j - (u t 0 2 : Nat) < temp).length
  if old < up then up else min old (max up stay)

/-- R138: a field of the capping level in force, from the capping table in use. -/
def State.capRow (s : State) (level : Nat) : List Byte := sliceBytes (s.table (s.palOld 5) 0x07 0) (4 + 8 * level) 8

/-- R139: the row of the throttle step in force; none at step 0. -/
def State.thrRow (s : State) : Option (List Byte) :=
  if s.therm.step = 0 then none
  else some (sliceBytes (s.table (s.palOld 6) 0x08 0) (4 + 12 * (s.therm.step - 1)) 12)

/-- R139: limits of the throttle step in force. -/
def State.thrChg (s : State) : Nat := (s.thrRow.map fun r => u r 4 1).getD 100
def State.thrShed (s : State) : Nat := (s.thrRow.map fun r => u r 5 1).getD 8
def State.thrPd (s : State) : Nat := (s.thrRow.map fun r => u r 6 2).getD 240
def State.thrDom (s : State) : Nat := (s.thrRow.map fun r => u r 8 1).getD 100

/-- R345: limits of the cap level in force. -/
def State.capChg (s : State) : Nat := u (s.capRow s.link.level) 4 1
def State.capShed (s : State) : Nat := u (s.capRow s.link.level) 5 1
def State.capPd (s : State) : Nat := u (s.capRow s.link.level) 6 2

/-- R268: the phases of a domain, ascending. -/
def State.phases (s : State) (k : Nat) : List Nat := maskBits 32 (s.fld Fld.Dom.PHASES k)

/-- The active phases of a domain: assigned, not failed, not shed (R268, R287, R289). -/
def State.activePh (s : State) (k : Nat) : List Nat :=
  (s.phases k).filter fun p => !((s.domCh k).failed.testBit p) && !((s.domCh k).shed.testBit p)

/-- The healthy phases of a domain (R289). -/
def State.healthyPh (s : State) (k : Nat) : List Nat := (s.phases k).filter fun p => !((s.domCh k).failed.testBit p)

/-- R271: a domain switches. -/
def DomCh.running (c : DomCh) : Bool := c.st = .softStart ∨ c.st = .on ∨ c.st = .softStop

/-- The phases that switch now, as a mask: none while the domain is stopped. -/
def State.activeMask (s : State) (k : Nat) : Nat :=
  if (s.domCh k).running then (s.activePh k).foldl (fun m p => m ||| 2 ^ p) 0 else 0

/-- R278: the target selected by the margin state, mV. -/
def State.domTarget (s : State) (k : Nat) : Nat :=
  let m := (s.domCh k).margin
  s.fld (if m = 1 then Fld.Dom.MARGIN_LOW_MV else if m = 2 then Fld.Dom.MARGIN_HIGH_MV else Fld.Dom.VOUT_MV) k

/-- The reference of a domain, µV (R278). -/
def State.domRef (s : State) (k : Nat) : Nat := (s.domCh k).ref.value s.now

/-- The remote-sense voltage, mV, and the current of a domain, mA (R412) (DEDUCED, log entry 7). -/
def State.domV (s : State) (k : Nat) : Int := s.tel (80 + k)
def State.domI (s : State) (k : Nat) : Int := s.tel (184 + k)

/-- R279, R281: a reference that moves, and what it moves in 2 µs, µV. -/
def Ramp.moving (r : Ramp) (now : Nat) : Bool := r.value now ≠ r.goal
def Ramp.wide (r : Ramp) (now : Nat) : Nat := if r.moving now then r.num * us 2 / max 1 r.den else 0

/-- R274, R281: the over-voltage limit of a domain, µV: in SOFT_START it is judged against the ramp's final target; while the
reference falls it is widened. -/
def State.ovLimit (s : State) (k : Nat) : Nat :=
  let c := s.domCh k
  let v := if c.st = .softStart then c.ref.goal else s.domRef k
  let lim := if s.flag Fld.Dom.WIN_MODE k then 1000 * s.fld Fld.Dom.OV_MV k else v * (100 + s.fld Fld.Dom.OV_PCT k) / 100
  if c.ref.goal < s.domRef k then lim + c.ref.wide s.now else lim

/-- R281: the under-voltage limit, µV; while the reference rises it is widened. -/
def State.uvLimit (s : State) (k : Nat) : Nat :=
  let c := s.domCh k
  let lim :=
    if s.flag Fld.Dom.WIN_MODE k then 1000 * s.fld Fld.Dom.UV_MV k else s.domRef k * (100 - s.fld Fld.Dom.UV_PCT k) / 100
  if s.domRef k < c.ref.goal then lim - c.ref.wide s.now else lim

/-- R269: the spacing of a domain's active phases, in 1/13,440 of its period: 1/n, reached evenly over 16 periods. -/
def DomCh.spacing (c : DomCh) : Nat := (c.spFrom * c.spLeft + 13440 / max 1 c.spN * (16 - c.spLeft)) / 16

/-- R269, R277: the period of a domain, 100 ps. -/
def DomCh.period (c : DomCh) : Nat := 100000000 / max 1 c.fsw

/-- R269, R277: when the `j`-th active phase of a domain starts its period, 100 ps after the domain period starts, which for a
domain locked to the reference is PHASE_OFS / 64 of the period after the reference's rising edge. -/
def State.phaseStart (s : State) (k j : Nat) : Nat :=
  let c := s.domCh k
  j * c.spacing * c.period / 13440 + (if c.locked then s.fld Fld.Dom.PHASE_OFS k * c.period / 64 else 0)

/-- R286: a brake holds the domain's phases at high impedance; a truncation withholds their high-side pulses. -/
def State.braking (s : State) (k : Nat) : Bool := (s.domCh k).lr.isSome && s.fld Fld.Dom.LR_MODE k = 1
def State.truncating (s : State) (k : Nat) : Bool := (s.domCh k).lr.isSome && s.fld Fld.Dom.LR_MODE k = 2

/-- R282: power-good: ON, with neither window limit asserted (OV after its filter trips at once). -/
def State.powerGood (s : State) (k : Nat) : Bool := (s.domCh k).st = .on && !(s.domCh k).uv

/-- R270: the input of a domain is present. -/
def State.inputPresent (s : State) (k : Nat) : Bool :=
  let src := s.fld Fld.Dom.INPUT_SRC k
  if src = 0 then s.bus.st ≠ .dead else if src = 1 then s.sys.hk = .good else s.powerGood (src - 16)

/-- R270: the input voltage of a domain, mV. -/
def State.domVin (s : State) (k : Nat) : Int :=
  let src := s.fld Fld.Dom.INPUT_SRC k
  if src = 0 then s.tel 96 else if src = 1 then s.tel 118 else s.domV (src - 16)

/-- R438: a sensor is absent: its mains-die section is unpowered (DEDUCED, log entry 124). -/
def State.sensorAbsent (s : State) (j : Nat) : Bool := 16 ≤ j && !(s.rectCh ((j - 16) / 2)).powered

/-- R440: the filtered reading of a sensor, the mean of its last 100 windows; none when it has none. -/
def State.sensorMean (s : State) (j : Nat) : Option Int :=
  let c := s.therm.sens[fin 20 j]
  if c.broken || s.sensorAbsent j || c.win.isEmpty then none else some (c.win.sum / (c.win.length : Int))

/-- R438, R439: what a sensor reports, 0.1 °C (DEDUCED, log entry 124). -/
def State.sensorReport (s : State) (j : Nat) : Int :=
  if s.sensorAbsent j then -32768 else if (s.therm.sens[fin 20 j]).broken then 2000
  else (s.sensorMean j).getD 0

/-- R439, R441: a sensor's newest window reads `t` or more; a broken one does, an absent one does not. -/
def State.sensorAt (s : State) (t : Int) (j : Nat) : Bool :=
  let c := s.therm.sens[fin 20 j]
  !s.sensorAbsent j && (c.broken || (c.win.head?.map fun x => decide (t ≤ x)).getD false)

/-- R441: at least two of a zone's four sensors read `t` or more. -/
def State.zoneAt (s : State) (t : Int) (z : Nat) : Bool :=
  2 ≤ ((List.range 4).filter fun j => s.sensorAt t (4 * z + j)).length

/-- The hottest of some sensors' filtered readings. -/
def State.hottest (s : State) (js : List Nat) : Option Int := (js.filterMap s.sensorMean).max?

/-- R421, R425: the temperature of a die section: the mean of its good sensors, 0.1 °C (DEDUCED, log entry 117). -/
def State.meanTemp (s : State) (js : List Nat) : Option Int :=
  let g := js.filterMap s.sensorMean
  if g.isEmpty then none else some (g.sum / (g.length : Int))

/-- R425: the temperature of the control die. -/
def State.dieTemp (s : State) : Option Int := s.meanTemp (List.range 16)

/-- R421: the elements on a mains die: P0, PS, its channels' amplifiers and its comparators, of the line's zero-crossings,
the two PFC currents and the LLC primary current (DESIGN CHOICE, log entry 114). -/
def elemMains (k e : Nat) : Bool :=
  e = 8 + k || e = 12 + k || (394 + 8 * k ≤ e && e < 402 + 8 * k) || (594 + 4 * k ≤ e && e < 598 + 4 * k)

/-- R427: the elements whose boundary is the LLC period end of a section: those of its mains die, and its
synchronous-rectifier comparators, which are on the control die (DESIGN CHOICE, log entry 114). -/
def elemSec (k e : Nat) : Bool := elemMains k e || e = 532 + k

/-- R421: the elements that have trims: units, spares, the current-sense amplifiers of the channels, comparators.
(DESIGN CHOICE, log entry 114.) -/
def calElems : List Nat :=
  List.range 14 ++ (List.range 153).map (· + 256) ++ (List.range 90).map (· + 512)

/-- R421: the temperature of the section of an element. -/
def State.elemTemp (s : State) (e : Nat) : Option Int :=
  if elemMains 0 e then s.meanTemp [16, 17] else if elemMains 1 e then s.meanTemp [18, 19] else s.dieTemp

/-- R427: the comparators of a domain: its window's, and its phases' current comparators. -/
def State.elemDom (s : State) (k e : Nat) : Bool :=
  e = 512 + k || (562 ≤ e && e < 594 && s.ownerOf (e - 562) = some k)

/-- R421: the temperatures of the OTP sets, 0.1 °C. -/
def otpTemp : Nat → Int
  | 0 => -400 | 1 => 0 | 2 => 250 | 3 => 700 | _ => 1100

/-- R421: a value of five sets at a temperature: linear between the two either side, the end set outside. -/
def interpolate (f : Nat → Int) (t : Int) : Int :=
  if t ≤ otpTemp 0 then f 0
  else if otpTemp 4 ≤ t then f 4
  else
    let j := if t < otpTemp 1 then 0 else if t < otpTemp 2 then 1 else if t < otpTemp 3 then 2 else 3
    f j + (f (j + 1) - f j) * (t - otpTemp j) / (otpTemp (j + 1) - otpTemp j)

/-- R421: the interpolated factory trim of an element; none while its section has no temperature. -/
def State.factoryTrim (s : State) (e kind : Nat) : Option Int := (s.elemTemp e).map (interpolate (Config.otpTrim e kind))

/-- R421: the trim loaded for an element. -/
def Meas.loaded (m : Meas) (e kind : Nat) : Option Int := (m.dac.find? fun c => c.1 = e ∧ c.2.1 = kind).map (·.2.2)

/-- R421: an element's boundary loads the trim that has moved by one DAC step or more. -/
def State.trimLoad (e kind : Nat) (s : State) : State :=
  match s.factoryTrim e kind with
  | none => s
  | some t =>
    let due : Bool := match s.meas.loaded e kind with
      | some x => Config.dacStep kind ≤ (t - x).natAbs
      | none => true
    if due then
      s.onMeas fun m => { m with dac := (m.dac.filter fun c => !(c.1 = e ∧ c.2.1 = kind)) ++ [(e, kind, t)] }
    else s

/-- R421: the trims of the elements that `p` selects, at their boundary: the offset, and the gain for each gain code. -/
def State.trimLoads (p : Nat → Bool) (s : State) : State :=
  s.each (calElems.filter p) fun e s => s.each (List.range 5) fun kind s => s.trimLoad e kind

/-- R422: a correction of the field set in force (DESIGN CHOICE, log entry 120). -/
def Meas.corr (m : Meas) (e kind : Nat) : Int := ((m.field.find? fun c => c.1 = e ∧ c.2.1 = kind).map (·.2.2)).getD 0

/-- R422: the trim of an element as it acts: the field correction on top of the factory trim; gains, in 0.0001%, multiply. -/
def State.netTrim (s : State) (e kind : Nat) : Int :=
  let f := (s.meas.loaded e kind).getD 0
  let c := s.meas.corr e kind
  if kind = 0 then f + c else f + c + f * c / 1000000

/-- R511: a shunt input, ±75 mV at ×1. -/
def shuntInput (c : Nat) : Bool := c < 24 || c = 98 || c = 100 || c = 102 || c = 104 || c = 106 || c = 108

/-- R408, R511: full scale at ×1, of a shunt input in µV. -/
def fullScale (c : Nat) : Nat := if shuntInput c then 75000 else Config.fullScale c

/-- R424, R511: the codes of full scale: a shunt input's 4,096 codes span both signs (DEDUCED, log entry 155). -/
def fullCodes (c : Nat) : Nat := if shuntInput c then 2048 else 4096

/-- R408, R410, R422: the trimmed result of a conversion of channel `c` with gain code `gain` by unit or spare `e`: each step
of GAIN halves the full scale, and the trims of the converter and of the channel's amplifier act on what `e` reads, `v`.
(DESIGN CHOICE, log entry 154.) -/
def State.code (s : State) (e c gain : Nat) (v : Int) : Nat :=
  let x := v * (2 ^ gain * fullCodes c : Nat) / (max 1 (fullScale c) : Nat)
  let trim (kind : Nat) : Int := s.netTrim e kind + s.netTrim (256 + c) kind
  (max 0 (min 4095 (Config.zeroCode c + x + x * trim (gain + 1) / 1000000 + trim 0))).toNat

/-- R408: what a result says of its input. -/
def reading (c gain code : Nat) : Int :=
  ((code : Int) - Config.zeroCode c) * (fullScale c : Nat) / (2 ^ gain * fullCodes c : Nat)

/-- R409: a trigger source gives its event to the entries that wait for it, within their 20 µs. An event counts from the
command that brings it: the start of the phase's PWM period, the end of a converter's switching period, the compare match; a
capture/compare channel with a period above 20 µs gives none (DESIGN CHOICE, log entry 166). -/
def State.adcTrigger (src : Nat) (s : State) : State :=
  s.onMeas fun m =>
    { m with unit := Vector.ofFn fun k =>
        let a := m.unit[k]
        let waits : Bool := k.val < 8 && a.event.isNone && s.fld (Fld.Meas.TRIG_SRC a.pos) k.val = src && s.flag (Fld.Meas.TRIG a.pos) k.val
        if waits && s.now ≤ a.tPos + us 20 then { a with event := some s.now } else a }

/-- R419: a filtered edge of a capture channel's input at `t`; a rising edge that has counted counts once.
(DEDUCED, log entry 119.) -/
def Cc.edge (t : Nat) (rising : Bool) (c : Cc) : Cc :=
  let diff (a b : Nat) : Nat := (a + 2 ^ 32 - b % 2 ^ 32) % 2 ^ 32
  if rising then
    if c.level && 0 < c.rises && c.rise = t then c
    else { c with prevRise := c.rise, rise := t, periodCap := diff t c.rise, rises := min 2 (c.rises + 1), level := true }
  else { c with fall := t, width := diff t c.rise, widthOk := c.widthOk || 0 < c.rises, level := false }

/-- R44, R419: the input of a channel in capture mode has held its new level for `held` ticks; TACHm and SYNC_IN are on
VIO_PWM, the others on VIO_HOST. -/
def State.capture (k : Nat) (rising : Bool) (held : Nat) (s : State) : State :=
  let supply := if s.fld Fld.Meas.INPUT k ≤ 4 then s.sys.vioPwm else s.sys.vioHost
  if s.fld Fld.Meas.MODE k = 2 ∧ s.fld Fld.Meas.FILT_TICKS k ≤ held ∧ supply then
    s.onMeas fun m => { m with cc := upd m.cc (fin 8 k) (Cc.edge ((s.now - held) % 2 ^ 32) rising) }
  else s

/-- R419: an edge of a pin reaches the capture channels that take it as their input (DEDUCED, log entry 119). -/
def State.pinEdge (input : Nat) (rising : Bool) (held : Nat) (s : State) : State :=
  s.each ((List.range 8).filter fun k => s.fld Fld.Meas.INPUT k = input) fun k s => s.capture k rising held

/-- R133, R447: the control die's band follows its hottest sensor. -/
def State.ctrlBand (s : State) : State :=
  match s.hottest (List.range 16) with
  | none => s
  | some t => s.onTherm fun h => { h with bandCtrl := bandNext (s.table (s.palOld 10) 0x02 2) h.bandCtrl t }

/-- R148: consumer `c` reads the active bank from now on, for channel `ch` where it has channels; the switch completes once
every consumer does (R147). -/
def State.adopt (c ch : Nat) (s : State) : State :=
  if !s.pal.pending.testBit c then s
  else
    s.onPal fun q =>
      let q :=
        match c with
        | 0 => { q with pendStr := setBitTo q.pendStr ch false }
        | 1 => { q with pendBand := setBitTo q.pendBand ch false }
        | 2 => { q with pendPort := setBitTo q.pendPort ch false }
        | 3 => { q with pendDom := setBitTo q.pendDom ch false }
        | 9 => { q with pendSec := setBitTo q.pendSec ch false }
        | _ => q
      let left : Nat :=
        match c with
        | 0 => q.pendStr
        | 1 => q.pendBand
        | 2 => q.pendPort
        | 3 => q.pendDom
        | 9 => q.pendSec
        | _ => 0
      if left = 0 then { q with pending := setBitTo q.pending c false } else q

/-- R244: a string is at rest: |I_STRING| below 0.02C for more than 60 s. -/
def State.atRest (s : State) (k : Nat) : Bool :=
  match (s.gaugeCh k).restSince with
  | some t => t + sec 60 < s.now
  | none => false

/-- R254: remaining charge, mAh; an unknown SOC holds none. -/
def GaugeCh.remain (g : GaugeCh) : Nat := g.rep.getD 0 * g.fcc / 1000000

/-- R254: remaining energy, mJ: charge × V_STRING × 0.97. -/
def State.eRemain (s : State) (k : Nat) : Nat :=
  (s.gaugeCh k).remain * (s.strV k).toNat * 3600 * 97 / 100 / 1000

/-- R254: time to empty, s. -/
def GaugeCh.tte (g : GaugeCh) : Nat :=
  let m := if g.i60.isEmpty then 0 else g.i60.sum / (g.i60.length : Int)
  if 0 < m then min 0xFFFFFFFE (g.remain * 3600 / m.toNat) else 0xFFFFFFFF

/-- R251: the confidence; 0 while the SOC is unknown (R250). -/
def GaugeCh.conf (g : GaugeCh) : Nat := if g.rep.isNone then 0 else 100 - (5 * g.sigma + 9999) / 10000

/-- R342: power that the rectifiers and the auxiliary inputs put into the bus, mW: a channel puts power into it while its LLC
switches, in AUTONOMOUS (R58) and as it runs on in LOST (R162) too. -/
def State.pSources (s : State) : Int :=
  let r (k : Nat) : Int := if (s.rectCh k).delivers || (s.rectCh k).llc then (s.rectCh k).iOut * s.vBus / 1000 else 0
  r 0 + r 1 + s.auxI 0 * s.vBus / 1000 + s.auxI 1 * s.vBus / 1000

/-- R342: power that the strings put into the bus, mW; negative while charging. -/
def State.pStrings (s : State) : Int := s.strI 0 * s.strV 0 / 1000 + s.strI 1 * s.strV 1 / 1000

/-- R342, R345: power that a PD port takes from the bus as a source, and puts into it as a sink, mW. -/
def State.pdSource (s : State) (k : Nat) : Nat := if (s.pdCh k).source then (s.pdI k * s.pdV k / 1000).toNat else 0
def State.pdSinkIn (s : State) (k : Nat) : Nat := if (s.pdCh k).source then 0 else (-(s.pdI k * s.pdV k / 1000)).toNat

/-- R342: P_OUT, mW. -/
def State.pOut (s : State) : Int := s.pSources + s.pStrings + (s.pdSinkIn 0 + s.pdSinkIn 1 : Nat)

/-- R342: D, mW. -/
def State.demand (s : State) : Nat :=
  let contract (k : Nat) : Nat :=
    if (s.pdCh k).source ∧ (s.pdCh k).st = .attachedSrc then (s.pdCh k).pContract else 0
  let held := ((List.range 24).map fun k => (s.portCh k).held).sum
  (s.pOut - (s.pdSource 0 + s.pdSource 1 : Nat) + (contract 0 + contract 1 + held : Nat)).toNat

/-- R214: DSG_OK has been asserted, and deasserted, for BMS_FILT_MS. -/
def State.dsgUp (s : State) (k : Nat) : Bool :=
  let c := s.strCh k
  c.dsgPin && c.tDsg + ms (s.fld Fld.Chg.BMS_FILT_MS k) ≤ s.now

def State.dsgDown (s : State) (k : Nat) : Bool :=
  let c := s.strCh k
  !c.dsgPin && c.tDsg + ms (s.fld Fld.Chg.BMS_FILT_MS k) ≤ s.now

/-- R219: C of a string, mAh: the gauge's full-charge capacity, limited to 50–110% of RATED_MAH. -/
def State.capC (s : State) (k : Nat) : Nat :=
  let r := s.fld Fld.Chg.RATED_MAH k
  max (r / 2) (min (r * 110 / 100) (s.gaugeCh k).fcc)

end Sys2Proof.Machine
end

