-- ==== Sys2Proof/Machine/Crypto.lean ====
section
/-! DEFINITION. The cryptography the spec names: SHA-256 and HMAC-SHA-256 (R119, R493), ECDSA P-256
verification (R54, R493, R494). -/

namespace Sys2Proof.Machine

/-- A rotation right of a 32-bit word. -/
def rotr (x n : Nat) : Nat := x / 2 ^ n + x % 2 ^ n * 2 ^ (32 - n)

/-- The `n` 32-bit words of a number, most significant first. -/
def words32 (n v : Nat) : List Nat := (List.range n).map fun j => v / 2 ^ (32 * (n - 1 - j)) % 2 ^ 32

/-- The first 32 bits of the fractional parts of the cube roots of the first 64 primes, eight primes to a number: the round
constants of SHA-256 (R119, R493). -/
def shaRoots : List Nat :=
  [ 0x428a2f9871374491b5c0fbcfe9b5dba53956c25b59f111f1923f82a4ab1c5ed5,
    0xd807aa9812835b01243185be550c7dc372be5d7480deb1fe9bdc06a7c19bf174,
    0xe49b69c1efbe47860fc19dc6240ca1cc2de92c6f4a7484aa5cb0a9dc76f988da,
    0x983e5152a831c66db00327c8bf597fc7c6e00bf3d5a7914706ca635114292967,
    0x27b70a852e1b21384d2c6dfc53380d13650a7354766a0abb81c2c92e92722c85,
    0xa2bfe8a1a81a664bc24b8b70c76c51a3d192e819d6990624f40e3585106aa070,
    0x19a4c1161e376c082748774c34b0bcb5391c0cb34ed8aa4a5b9cca4f682e6ff3,
    0x748f82ee78a5636f84c878148cc7020890befffaa4506cebbef9a3f7c67178f2]

/-- The round constants of SHA-256. -/
def shaK : List Nat := shaRoots.flatMap (words32 8)

/-- The initial hash of SHA-256: the square roots' fractions of the first eight primes. -/
def shaH : List Nat := words32 8 0x6a09e667bb67ae853c6ef372a54ff53a510e527f9b05688c1f83d9ab5be0cd19

/-- Big-endian value of bytes. -/
def beNat (bs : List Byte) : Nat := bs.foldl (fun n b => n * 256 + b.toNat) 0

/-- `n` big-endian bytes of `v`. -/
def toBE (n v : Nat) : List Byte := (toLE n v).reverse

/-- The bytes in groups of `n`; `fuel` bounds the groups. -/
def chunks : Nat → Nat → List Byte → List (List Byte)
  | 0, _, _ => []
  | f + 1, n, bs => if bs.isEmpty then [] else bs.take n :: chunks f n (bs.drop n)

/-- The padded message (SHA-256). -/
def shaPad (bs : List Byte) : List Byte :=
  bs ++ [0x80] ++ zeros ((119 - bs.length % 64) % 64) ++ toBE 8 (8 * bs.length)

/-- The message schedule, newest word first. -/
def shaSchedule : Nat → List Nat → List Nat
  | 0, w => w
  | n + 1, w =>
    let w15 := w.getD 14 0
    let w2 := w.getD 1 0
    let s0 := rotr w15 7 ^^^ rotr w15 18 ^^^ (w15 / 8)
    let s1 := rotr w2 17 ^^^ rotr w2 19 ^^^ (w2 / 1024)
    shaSchedule n (((w.getD 15 0 + s0 + w.getD 6 0 + s1) % 2 ^ 32) :: w)

/-- One round. -/
def shaRound (h : List Nat) (kw : Nat × Nat) : List Nat :=
  let g := fun i => h.getD i 0
  let s1 := rotr (g 4) 6 ^^^ rotr (g 4) 11 ^^^ rotr (g 4) 25
  let c := (g 4 &&& g 5) ^^^ ((2 ^ 32 - 1 - g 4) &&& g 6)
  let t1 := g 7 + s1 + c + kw.1 + kw.2
  let s0 := rotr (g 0) 2 ^^^ rotr (g 0) 13 ^^^ rotr (g 0) 22
  let m := (g 0 &&& g 1) ^^^ (g 0 &&& g 2) ^^^ (g 1 &&& g 2)
  [(t1 + s0 + m) % 2 ^ 32, g 0, g 1, g 2, (g 3 + t1) % 2 ^ 32, g 4, g 5, g 6]

/-- One block. -/
def shaBlock (h : List Nat) (blk : List Byte) : List Nat :=
  let w := (shaSchedule 48 ((chunks 16 4 blk).map beNat).reverse).reverse
  ((shaK.zip w).foldl shaRound h).zipWith (fun a b => (a + b) % 2 ^ 32) h

/-- SHA-256. -/
def sha256 (bs : List Byte) : List Byte :=
  ((chunks (bs.length / 64 + 2) 64 (shaPad bs)).foldl shaBlock shaH).flatMap (toBE 4)

/-- HMAC-SHA-256 with a key of at most 64 bytes (R119). -/
def hmac256 (key msg : List Byte) : List Byte :=
  let k := padTo 64 key
  sha256 (k.map (· ^^^ 0x5C) ++ sha256 (k.map (· ^^^ 0x36) ++ msg))

/-- The field prime, order and coefficient of P-256, and its base point. -/
def p256 : Nat := 0xffffffff00000001000000000000000000000000ffffffffffffffffffffffff
def n256 : Nat := 0xffffffff00000000ffffffffffffffffbce6faada7179e84f3b9cac2fc632551
def b256 : Nat := 0x5ac635d8aa3a93e7b3ebbd55769886bc651d06b0cc53b0f63bce3c3e27d2604b
def gx256 : Nat := 0x6b17d1f2e12c4247f8bce6e563a440f277037d812deb33a0f4a13945d898c296
def gy256 : Nat := 0x4fe342e2fe1a7f9b8ee7eb4a7c0f9e162bce33576b315ececbb6406837bf51f5

/-- Extended Euclid: the inverse of `b` modulo `m`; `fuel` bounds the steps. -/
def invGo (m : Nat) : Nat → Nat → Nat → Int → Int → Nat
  | 0, _, _, _, _ => 0
  | f + 1, a, b, x, y => if b = 0 then (x % (m : Int)).toNat else invGo m f b (a % b) y (x - (a / b : Nat) * y)

/-- The inverse of `a` modulo `m`. -/
def invMod (m a : Nat) : Nat := invGo m 800 m (a % m) 0 1

/-- Addition of affine points of P-256; none is the point at infinity. -/
def ecAdd : Option (Nat × Nat) → Option (Nat × Nat) → Option (Nat × Nat)
  | none, q => q
  | p, none => p
  | some (x1, y1), some (x2, y2) =>
    if x1 = x2 ∧ (y1 + y2) % p256 = 0 then none
    else
      let l := if x1 = x2 then (3 * x1 * x1 + p256 - 3) * invMod p256 (2 * y1) % p256
        else (y2 + p256 - y1) * invMod p256 (x2 + p256 - x1) % p256
      let x := (l * l + 2 * p256 - x1 - x2) % p256
      some (x, (l * (x1 + p256 - x) + p256 - y1) % p256)

/-- Scalar multiplication over the low `n` bits. -/
def ecMul : Nat → Nat → Option (Nat × Nat) → Option (Nat × Nat)
  | 0, _, _ => none
  | n + 1, k, q =>
    let r := ecMul n (k / 2) (ecAdd q q)
    if k % 2 = 1 then ecAdd q r else r

/-- A point of the curve. -/
def onCurve (q : Nat × Nat) : Bool :=
  q.1 < p256 && q.2 < p256 && (q.2 * q.2) % p256 == (q.1 * q.1 * q.1 + (p256 - 3) * q.1 + b256) % p256

/-- ECDSA P-256 verification of a 64-byte signature over the SHA-256 of a message (R493). -/
def ecdsaOk (key : Nat × Nat) (msg sig : List Byte) : Bool :=
  let r := beNat (sig.take 32)
  let t := beNat (sig.drop 32)
  if r = 0 ∨ n256 ≤ r ∨ t = 0 ∨ n256 ≤ t ∨ !onCurve key then false
  else
    let w := invMod n256 t
    let e := beNat (sha256 msg)
    match ecAdd (ecMul 256 (e * w % n256) (some (gx256, gy256))) (ecMul 256 (r * w % n256) (some key)) with
    | none => false
    | some (x, _) => x % n256 == r

end Sys2Proof.Machine
end

