-- ==== Sys2Proof/Machine/Flags.lean ====
section
/-! DEFINITION. Status and attention: IRQ_FLAGS, STATUS_SUMMARY, IRQ_N and Host Notify conditions (R83–R86,
R91–R95). -/

namespace Sys2Proof.Machine

/-- R83, R91: some enabled flag is set. -/
def State.attn (s : State) : Bool := s.hif.irq &&& s.hif.mask ≠ 0

/-- R83: some S3 fault is active. -/
def State.tripped (s : State) : Bool := s.flt.active.any fun a => a.sev = 3

/-- R83: some S4 fault is active. -/
def State.system (s : State) : Bool := s.flt.active.any fun a => a.sev = 4

/-- R83: the STATUS_SUMMARY register. -/
def State.summary (s : State) : Byte :=
  byte (s.sys.mode.code + 8 * b2n s.attn + 16 * b2n s.sys.safe + 32 * b2n s.tripped + 64 * b2n s.system +
    128 * b2n (decide (s.hif.mbx.state = .reply)))

/-- R91, R44: the device drives IRQ_N low. -/
def State.irqLow (s : State) : Bool :=
  s.sys.vioHost && !s.sys.por &&
    (if s.hif.attnMode = 1 ∨ s.hif.attnMode = 3 then s.attn else if s.hif.attnMode = 2 then s.hif.alert else false)

/-- Attention follows IRQ_FLAGS and IRQ_MASK: ALERT is released and notifies resume once no enabled flag is set
(R91, R95); `rise` says that an enabled flag has just changed from 0 to 1 (R91, R93) (DEDUCED, log entry 35). A notify that is
due is dropped once no enabled flag is set (DEDUCED, log entry 35; DESIGN CHOICE, log entry 141). -/
def Hif.attend (h : Hif) (rise : Bool) : Hif :=
  let on : Bool := h.irq &&& h.mask ≠ 0
  { h with
    alert := if on then h.alert || (rise && h.attnMode = 2) else false,
    notifyDue := if on then h.notifyDue || (rise && h.attnMode = 3 && !h.notifySusp) else false,
    notifySusp := h.notifySusp && on,
    notifyTries := if on then h.notifyTries else 0,
    notifyHold := if on then h.notifyHold else 0 }

/-- R84: a flag of IRQ_FLAGS sets. -/
def Hif.setIrq (h : Hif) (bit : Nat) : Hif :=
  let rise := !h.irq.testBit bit && h.mask.testBit bit
  Hif.attend { h with irq := h.irq ||| 2 ^ bit } rise

/-- R84: a W1C write clears the flags it names, but for those hardware sets in the same cycle. -/
def Hif.clearIrq (h : Hif) (m hw : Nat) : Hif :=
  let kept := h.irq.ldiff m ||| hw
  Hif.attend { h with irq := kept } (hw &&& (h.mask.ldiff h.irq) ≠ 0)

/-- R84: block `blk` signals an attention event. -/
def State.irq (blk : Nat) (s : State) : State := s.onHif fun h => h.setIrq blk

end Sys2Proof.Machine
end

