-- ==== Sys2Proof/Machine/Operands.lean ====
section
/-! DEFINITION. Operand forms of Korisk commands: channel selectors (R111, R112), status codes (R113) and block
codes (R115). -/

namespace Sys2Proof.Machine

/-- Status codes of R113. -/
abbrev st.ok : Nat := 0x00
abbrev st.busy : Nat := 0x01
abbrev st.badOpcode : Nat := 0x02
abbrev st.badParam : Nat := 0x03
abbrev st.notPermitted : Nat := 0x04
abbrev st.state : Nat := 0x05
abbrev st.crc : Nat := 0x06
abbrev st.more : Nat := 0x07
abbrev st.timeout : Nat := 0x08
abbrev st.partly : Nat := 0x09
abbrev st.noRoute : Nat := 0x0A

/-- A resolved channel selector (R111): its mode (0 single, 1 group, 2 all) and the channels. -/
structure Sel where
  mode : Nat
  mask : Nat
  deriving DecidableEq, Repr

/-- The members of channel group `g` of a block, as a mask; none where the block has no channel groups. -/
def State.group (s : State) (blk g : Nat) : Option Nat :=
  if blk = 0x0B then some (s.fld (Fld.Dom.GROUP g))
  else if blk = 0x0C then some (s.fld (Fld.Feed.GROUP g))
  else if blk = 0x07 ∨ blk = 0x08 ∨ blk = 0x09 ∨ blk = 0x0A ∨ blk = 0x0E then some (if g = 0 then 3 else 0)
  else if blk = 0x0F then some (if g = 0 then 0xFFFF else 0)
  else if blk = 0x10 then some (if g = 0 then 0xFF else 0)
  else if blk = 0x11 then some (if g = 0 then 0xF else 0)
  else none

/-- The channels of a block. -/
def blockChans (blk : Nat) : Nat :=
  if blk = 0x0B then 16 else if blk = 0x0C then 24 else if blk = 0x0F then 16 else if blk = 0x10 then 8
  else if blk = 0x11 then 4
  else if blk = 0x07 ∨ blk = 0x08 ∨ blk = 0x09 ∨ blk = 0x0A ∨ blk = 0x0E then 2 else 0

/-- R111: a channel selector word against a block's channels and groups. -/
def State.sel (s : State) (blk v : Nat) : Option Sel :=
  let idx := v % 256
  let mode := v / 2 ^ 14 % 4
  if v / 256 % 64 ≠ 0 then none
  else if mode = 0 then if idx < blockChans blk then some ⟨0, 2 ^ idx⟩ else none
  else if mode = 1 then if idx < 16 then (s.group blk idx).map (Sel.mk 1) else none
  else if mode = 2 then if idx = 0 then some ⟨2, 2 ^ blockChans blk - 1⟩ else none
  else none

/-- A selector that must be in single mode: the channel. -/
def State.single (s : State) (blk v : Nat) : Option Nat :=
  match s.sel blk v with
  | some ⟨0, _⟩ => some (v % 256)
  | _ => none

/-- How a command ends once it has been accepted: with a status and reply parameters, or with the reply owed. -/
inductive Res where
  | done (status : Nat) (data : List Byte)
  | later
  deriving DecidableEq, Repr

/-- R112: an action applied channel by channel to the selected ones; a status other than OK refuses the channel and
the state the action answers with it is not used. -/
def State.perChannel (s : State) (sel : Sel) (act : Nat → State → Nat × State) : State × Nat × Nat :=
  (maskBits 32 sel.mask).foldl (fun (a : State × Nat × Nat) k =>
    let r := act k a.1
    if r.1 = st.ok then (r.2, a.2) else (a.1, a.2.1 ||| 2 ^ k, if a.2.1 = 0 then r.1 else a.2.2)) (s, 0, 0)

/-- R112: the reply of a command on a selector: the refusal's own status in single mode, PARTIAL otherwise. -/
def selReply (sel : Sel) (failed cause : Nat) (data : List Byte) : Nat × List Byte :=
  if failed = 0 then (st.ok, data)
  else if sel.mode = 0 then (cause, [])
  else (st.partly, toLE 4 failed ++ [byte cause])

end Sys2Proof.Machine
end

