-- ==== Sys2Proof/Machine/Reply.lean ====
section
/-! DEFINITION. How an accepted Korisk command runs and how its reply is delivered (R69, R104–R114, R118). -/

namespace Sys2Proof.Machine

/-- The node address of this device (R117). -/
def State.nodeAddr (s : State) : Nat := s.link.nodeAddr

/-- The bytes of a packet (R104, R106). -/
def packet (flags op : Nat) (tag : Byte) (dest : Nat) (params : List Byte) : List Byte :=
  let body := [0xA5, byte flags] ++ toLE 2 op ++ [tag, byte dest] ++ toLE 2 params.length ++ params
  body ++ toLE 2 (crc16 body)

/-- A reply packet (R107): FLAGS has VERSION 1 and REPLY; DEST is the replying node. -/
def replyPacket (op : Nat) (tag : Byte) (node status : Nat) (data : List Byte) : List Byte :=
  packet 0x41 op tag node (byte status :: data)

/-- The mailbox's size in bytes (R88). -/
def Mbx.size (m : Mbx) : Nat := 64 * 2 ^ m.sizeCode

/-- The mailbox with a reply's next fragment in its buffer (R88, R89). -/
def Mbx.load (m : Mbx) (bytes : List Byte) : Mbx :=
  { m with
    state := .reply, buf := bytes.take m.size, rest := bytes.drop m.size,
    more := !(bytes.drop m.size).isEmpty, len := (bytes.take m.size).length, asm := [] }

/-- The mailbox returned to IDLE with nothing held (R89) (DESIGN CHOICE, log entry 19). -/
def Mbx.clear (m : Mbx) : Mbx := { m with state := .idle, more := false, buf := [], asm := [], rest := [] }

/-- A whole reply packet reaches the interface the request came in on (R109, R122); entry into REPLY sets
IRQ_FLAGS bit 2 while REPLY_FLAG is 1 (R84). -/
def State.deliver (o : Origin) (bytes : List Byte) (s : State) : State :=
  match o.itf with
  | .i2c => s.onHif fun h =>
      let h := { h with mbx := h.mbx.load bytes }
      if h.replyFlag then h.setIrq 2 else h
  | .spi => s.onHif fun h => { h with spi := { h.spi with running := false, reply := bytes } }
  | .link => s.onHif fun h => { h with linkOut := h.linkOut ++ [(o.src, o.level, bytes)] }

/-- A packet ends without a reply (R89, R105). -/
def State.noReply (o : Origin) (s : State) : State :=
  match o.itf with
  | .i2c => s.onHif fun h => { h with mbx := if h.mbx.state = .busy then h.mbx.clear else h.mbx }
  | .spi => s.onHif fun h => { h with spi := { h.spi with running := false } }
  | .link => s

/-- The collected reply of a packet sent to a group or to all nodes (R110) (DESIGN CHOICE, log entry 49). -/
def Fwd.reply (f : Fwd) : Nat × List Byte :=
  let es := f.entries.mergeSort fun a b => a.1 ≤ b.1
  (if es.all fun e => e.2 = st.ok then st.ok else st.partly,
    byte es.length :: es.flatMap fun e => [byte e.1, byte e.2])

/-- A node's status joins the collected reply it belongs to (R110). -/
def Fwd.note (f : Fwd) (node status : Nat) : Fwd :=
  { f with left := f.left.filter (· ≠ node), entries := f.entries ++ [(node, status)] }

/-- The local status of a group packet reaches its collection; the last one sends the reply (R110).
(DESIGN CHOICE, log entry 49.) -/
def State.collect (o : Origin) (op status : Nat) (s : State) : State :=
  match s.hif.fwds.find? fun f => f.o.fanned && f.o = o && f.op = op with
  | none => s
  | some f =>
    let g := f.note s.nodeAddr status
    if g.left.isEmpty then
      (s.onHif fun h => { h with fwds := h.fwds.erase f }).deliver o
        (replyPacket op o.tag s.nodeAddr g.reply.1 g.reply.2)
    else s.onHif fun h => { h with fwds := h.fwds.replace f g }

/-- The most reply parameters a reply carries (R107). -/
abbrev maxData : Nat := 4085

/-- The segments held for a session (R113). -/
def Hif.setSeg (h : Hif) (o : Origin) (g : Option Segs) : Hif :=
  match o.itf with
  | .i2c => { h with segI2c := g }
  | .spi => { h with segSpi := g }
  | .link =>
    let rest := h.segLink.filter fun x => x.1 ≠ o.src
    { h with segLink := match g with
        | some g => rest ++ [(o.src, g)]
        | none => rest }

/-- The segments held for a session (R113). -/
def Hif.seg (h : Hif) (o : Origin) : Option Segs :=
  match o.itf with
  | .i2c => h.segI2c
  | .spi => h.segSpi
  | .link => (h.segLink.find? fun x => x.1 = o.src).map (·.2)

/-- A reply that answers a packet whatever NO_REPLY says: longer data goes in segments (R107, R113). -/
def State.answer (o : Origin) (op status : Nat) (data : List Byte) (s : State) : State :=
  if o.fanned && o.itf ≠ .link then s.collect o op status
  else
    let full := status = st.ok ∨ status = st.more ∨ status = st.partly
    let data := if full then data else []
    if maxData < data.length then
      (s.onHif fun h => h.setSeg o (some ⟨op, o.tag, data.drop maxData, s.now⟩)).deliver o
        (replyPacket op o.tag s.nodeAddr st.more (data.take maxData))
    else s.deliver o (replyPacket op o.tag s.nodeAddr status data)

/-- The reply of an accepted command, which NO_REPLY withholds (R105). -/
def State.finish (o : Origin) (op status : Nat) (data : List Byte) (s : State) : State :=
  if o.noReply && !o.fanned then s.noReply o else s.answer o op status data

/-- The privilege level of a packet's session (R118). -/
def State.level (s : State) (o : Origin) : Nat :=
  match o.itf with
  | .i2c => s.hif.i2c.level
  | .spi => s.hif.spiS.level
  | .link => o.level

/-- R69, R71: the host-contact watchdog reloads and the safe defaults end. -/
def Sys.reload (y : Sys) : Sys :=
  { y with wdLeft := sec y.wdTimeout, wdLoaded := y.wdTimeout, wdBase := y.time, safe := false }

/-- R119: an Install-level command of a session has been accepted at time `t`. -/
def Hif.installed (i : Itf) (t : Nat) (h : Hif) : Hif :=
  match i with
  | .i2c => { h with i2c := { h.i2c with tInstall := t } }
  | .spi => { h with spiS := { h.spiS with tInstall := t } }
  | .link => h

/-- What the acceptance of a command does: a command above Observe reloads the watchdog (R69), one that needs
Install restarts the session's 15 minutes (R119). -/
def State.accepted (o : Origin) (priv : Nat) (s : State) : State :=
  let s := if 1 ≤ priv then s.onSys Sys.reload else s
  if 2 ≤ priv then s.onHif (Hif.installed o.itf s.now) else s

/-- Opcodes the boot loader answers (R55) (DEDUCED, log entry 54). -/
def bootOps : List Nat := [0x1401, 0x1402, 0x1403, 0x1404, 0x1406, 0x0101, 0x0111]

/-- Checks 2, 5 and the device-wide part of 7 of R114, for an opcode that exists: the device takes packets only
when running (R67), and in the boot loader only the opcodes of R55 (DEDUCED, log entry 54). -/
def State.gate (s : State) (o : Origin) (op priv : Nat) : Nat :=
  match s.sys.mode with
  | .running => if s.level o < priv then st.notPermitted else st.ok
  | .bootLoader => if op ∈ bootOps then st.ok else st.state
  | .bootRom | .hold | .holdOnly | .coldReset => st.busy

/-- A Korisk command at the node that executes it: the checks of R114 in order (`chk` is the command's own check of
privilege, parameters and state, OK when it passes, and bad FLAGS are a bad parameter), then the acceptance, then its act and
its reply. An act that ends at once with STATE has failed check 7: nothing is accepted, and the packet is answered (R105). -/
def State.run (o : Origin) (op priv chk : Nat) (act : State → Res × State) (s : State) : State :=
  if s.gate o op priv ≠ st.ok then s.answer o op (s.gate o op priv) []
  else if !o.form ∧ chk ≠ st.notPermitted then s.answer o op st.badParam []
  else if chk ≠ st.ok then s.answer o op chk []
  else
    match act (s.accepted o priv) with
    | (.done status data, s') => if status = st.state then s.answer o op st.state [] else s'.finish o op status data
    | (.later, s') => s'

/-- A parameter check: BAD_PARAM unless it holds. -/
abbrev param (b : Bool) : Nat := if b then st.ok else st.badParam

/-- A parameter check followed by a state check (R114). -/
abbrev paramState (b c : Bool) : Nat := if b then (if c then st.ok else st.state) else st.badParam

/-- An accepted command waits to reply (R122). -/
def State.await (o : Origin) (op left failed : Nat) (data : List Byte) (s : State) : State :=
  s.onHif fun h => { h with waits := h.waits ++ [⟨o, op, left, failed, data, s.now, false⟩] }

/-- The waiting commands that `p` selects get their reply, unless it has been lost, and leave the list (R67, R122). -/
def State.wake (p : Wait → Bool) (r : Wait → Nat × List Byte) (s : State) : State :=
  let ws := s.hif.waits.filter p
  ws.foldl (fun s w => if w.mute then s else s.finish w.o w.op (r w).1 (r w).2)
    (s.onHif fun h => { h with waits := h.waits.filter fun w => !p w })

/-- A reporting command: privilege Observe, parameters checked, reply data from the state. -/
def State.report (o : Origin) (op chk : Nat) (data : State → List Byte) (s : State) : State :=
  s.run o op 0 chk (fun s => (.done st.ok (data s), s))

end Sys2Proof.Machine
end

