-- ==== Sys2Proof/Machine/Supervise.lean ====
section
/-! DEFINITION. The wait condition of a sequence step, which hardware evaluates as the flags of its members arrive
(R386–R388). -/

namespace Sys2Proof.Machine

/-- R137: a step of a sequence table. -/
def seqStepOf (t : List Byte) (j : Nat) : List Byte := sliceBytes t (4 + 16 * j) 16

/-- R387: an enabled EM linked to a domain lies outside its window. -/
def State.emBad (s : State) (k : Nat) : Bool :=
  (List.range 16).any fun m => s.flag Fld.Seq.EN m && s.fld Fld.Seq.LINK m = k && (s.seq.em[fin 16 m]).out

/-- R387: a domain meets its wait term under WAIT 1. -/
def State.domTerm (s : State) (off : Bool) (k : Nat) : Bool :=
  let c := s.domCh k
  if off then
    (c.st = .off || c.st = .retryWait || c.st = .latched) && 10 * s.domV k < (s.fld Fld.Dom.VOUT_MV k : Nat)
  else s.powerGood k && !s.emBad k

/-- R387: a port meets its wait term under WAIT 1. -/
def State.portTerm (s : State) (off : Bool) (n : Nat) : Bool :=
  let c := s.portCh n
  if off then c.st ≠ .inrush && c.st ≠ .on && 10 * c.vMv < s.vBus else c.st = .on

/-- R387, R405: members of a step that do not meet their wait term, WAIT 1 only. -/
def State.stepBad (s : State) (t : List Byte) : Nat × Nat :=
  if u t 7 1 ≠ 1 then (0, 0)
  else
    let off : Bool := u t 6 1 = 1
    let pick (n m : Nat) (ok : Nat → Bool) : Nat := ((maskBits n m).filter fun k => !ok k).foldl (fun a k => a ||| 2 ^ k) 0
    (pick 16 (u t 0 2) (s.domTerm off), pick 24 (u t 2 4) (s.portTerm off))

/-- R387: the combined wait condition of a step. -/
def State.stepHolds (s : State) (t : List Byte) : Bool :=
  match u t 7 1 with
  | 1 => s.stepBad t = (0, 0)
  | 2 => s.seq.seqIn
  | 3 => !s.seq.seqIn
  | _ => true

/-- R387, R388: the condition of the running step as it stands: its edges are transitions, and SETTLE starts again at
each falling one. -/
def State.seqEval (s : State) : State :=
  let q := s.seq
  if q.st ≠ .running ∨ q.phase ≠ .wait then s
  else
    let t := seqStepOf q.table q.step
    let c := s.stepHolds t
    let b := s.stepBad t
    s.onSeq fun q =>
      let q := { q with moved := if b = q.bad then q.moved else (b.1 ^^^ q.bad.1, b.2 ^^^ q.bad.2), bad := b }
      if c = q.cond then q
      else
        { q with
          cond := c, settleSince := if c then some s.now else none, trans := (s.now :: q.trans).take 9,
          transCount := q.transCount + 1 }

end Sys2Proof.Machine
end

