-- ==== Sys2Proof/Machine/Reports.lean ====
section
/-! DEFINITION. The status reports of the blocks, as functions of the state: the reply parameters of the status
commands, which are also the payloads of fault cards (R464, R484). -/

namespace Sys2Proof.Machine

/-- Little-endian fields of a report: unsigned and signed, of 1, 2, 4 and 8 bytes; unsigned values too large for the
field show its maximum. -/
abbrev r1 (n : Nat) : List Byte := toLE 1 n
abbrev r2 (n : Nat) : List Byte := toLE 2 n
abbrev r4 (n : Nat) : List Byte := toLE 4 n
abbrev r8 (n : Nat) : List Byte := toLE 8 n
abbrev ri2 (n : Int) : List Byte := toLEi 2 n
abbrev ri4 (n : Int) : List Byte := toLEi 4 n

/-- RECT_STATUS (R178). -/
def State.rectStatus (s : State) (k : Nat) : List Byte :=
  let c := s.rectCh k
  let trips := c.trips.filter fun t => s.now < t + sec 60
  r1 c.st.code ++
    r1 (bitsOf [c.predicted.isSome, c.armed, c.burst, c.shedB, c.shareOk, c.srOff, c.plantShare]) ++
    r2 c.lastFault ++ r4 c.rms ++ r2 (if c.half = 0 then 0 else 5000000000 / c.half) ++ r2 0 ++ r4 c.bulk ++
    ri4 c.iOut ++ ri4 (c.iOut * s.vBus / 1000) ++ r4 c.pCap ++ r4 (s.pAvail k) ++ ri2 c.tMax ++ r1 c.band ++
    r1 c.dtInst ++ r2 c.predTrue ++ r2 c.predFalse ++ r2 c.losses ++ r1 trips.length ++ r1 0 ++ r8 c.tState

/-- BARRIER_STATUS (R179). -/
def State.barrierStatus (s : State) (k : Nat) : List Byte :=
  let b := (s.rectCh k).bar
  r1 b.link.code ++ r1 0 ++ r2 b.romVer ++ r4 b.hbBad ++ r4 b.frameErr ++ r2 b.resends ++ r2 b.silences ++
    r2 b.delayNs ++ r2 0 ++ r8 b.tEst

/-- R182: the bus stands outside the commitment window. -/
def State.outOfWindow (s : State) : Bool := s.vBus < 44000 || 57600 < s.vBus

/-- SOURCE of BUS_STATUS (R205) (DEDUCED, log entry 84). -/
def State.busSource (s : State) : Nat :=
  match s.bus.st with
  | .dead => 0
  | .mains => 1
  | .aux => if (s.auxCh 0).st = .on then 2 else 3
  | .mainsWalkIn | .outage => 4
  | .auxWalkIn =>
    if (s.auxCh 0).st = .coldConnect then 2 else if (s.auxCh 1).st = .coldConnect then 3 else 4

/-- BUS_STATUS (R205). -/
def State.busStatus (s : State) : List Byte :=
  let a := s.auxCh 0
  let b := s.auxCh 1
  let drop := (s.rectCh 0).bar.drop || (s.rectCh 1).bar.drop
  let recentTrips (c : AuxCh) : Nat := (c.trips.filter fun t => s.now < t + sec 600).length
  r1 s.bus.st.code ++ r1 s.busSource ++ r1 a.st.code ++ r1 b.st.code ++ r4 s.vBus ++ r4 s.vHold ++ r4 s.vStby ++
    ri4 (s.strBusI 0 + s.strBusI 1) ++ r4 (s.iff * s.standbys) ++ r4 (s.iPd 0 + s.iPd 1) ++
    r4 (s.auxV 0).toNat ++ r4 (s.auxV 1).toNat ++ ri4 (s.auxI 0) ++ ri4 (s.auxI 1) ++
    r1 (bitsOf [drop, s.iff ≠ 0, s.bus.deferred, s.vStby < 44000, s.outOfWindow]) ++ r1 0 ++
    r2 s.bus.handovers ++ r2 s.bus.handbacks ++ r1 (recentTrips a) ++ r1 (recentTrips b) ++ r8 s.bus.tState

/-- The entry of a charge profile's state (R132). -/
def profEntry (t : List Byte) (id : Nat) : List Byte := sliceBytes t (4 + 28 * id) 28

/-- The charge profile that a string uses (R148, R235). -/
def State.profile (s : State) (k : Nat) : List Byte :=
  s.table (s.pal.pendStr.testBit k) 0x01 (s.fld Fld.Chg.PROFILE k)

/-- KIND of a string's profile state. -/
def State.kind (s : State) (k : Nat) : Nat := u (profEntry (s.profile k) (s.strCh k).ps) 1 1

/-- R240: TEST_MAH, and how long the test has run or ran, ticks. -/
def TestSt.mah (t : TestSt) : Nat := t.q / (3600 * sec 1)
def TestSt.ticks (t : TestSt) (now : Nat) : Nat := if t.state = 0 then 0 else t.tEnd.getD now - t.t0

/-- CHG_STATUS (R240). -/
def State.chgStatus (s : State) (k : Nat) : List Byte :=
  let c := s.strCh k
  r1 c.st.code ++ r1 c.chg.code ++ r1 c.ps ++ r1 (s.kind k) ++ r1 c.limit ++
    r1 (bitsOf [c.chgOk, c.dsgOk, c.standby, s.sys.safe, c.eqReq, c.resumeUsed, c.eod, c.st = .test]) ++
    r2 c.lastFault ++ r4 (s.strV k).toNat ++ ri4 (s.strI k) ++ ri4 c.vChg ++ r4 c.iLim ++
    ri2 ((s.tBat k).getD (-32768)) ++ r1 (if s.noBand k then 0xFF else c.band) ++
    r1 (c.trips.filter fun t => s.now < t + sec 600).length ++ r4 (c.tEq / 1000000) ++ r4 c.tWall ++ r4 c.tPre ++
    r2 (c.therm.filter id).length ++ r1 c.test.state ++ r1 c.test.cause ++ r4 c.test.mah ++
    r4 (c.test.ticks s.now / sec 1) ++ r4 0 ++ r8 c.tPs

/-- GAUGE_STATUS (R265). -/
def State.gaugeStatus (s : State) (k : Nat) : List Byte :=
  let g := s.gaugeCh k
  r2 ((g.rep.map fun r => r / 100).getD 0xFFFF) ++ ri2 (g.soc / 100) ++ r1 g.conf ++
    r1 (bitsOf [g.disagree, g.seg, s.atRest k, g.anchored, g.capDeferred, g.mismatch]) ++ r2 g.soh ++
    r4 g.remain ++ r4 g.fcc ++ r4 g.tte ++ r2 g.learnCount ++ r1 g.learnState ++ r1 0 ++ r4 g.learnMah ++
    r8 (s.eRemain k) ++ ri4 s.gauge.pBatt ++ r8 g.tFull

/-- DOM_STATUS (R301). -/
def State.domStatus (s : State) (k : Nat) : List Byte :=
  let c := s.domCh k
  let moving : Bool := s.domRef k ≠ c.ref.goal
  let target := if c.st = .off ∨ c.st = .check ∨ c.st = .retryWait ∨ c.st = .latched then s.domTarget k
    else if c.st = .softStop then 0 else if c.st = .softStart then c.ref.goal / 1000 else s.domTarget k
  r1 c.st.code ++
    r1 (bitsOf [c.enable, s.powerGood k, moving, c.limSince.isSome, decide (c.de ≠ 0), c.lr.isSome, c.locked, c.uv]) ++
    r1 c.margin ++ r1 c.trips ++ r4 (s.domV k).toNat ++ r4 (s.domRef k) ++ r4 target ++ ri4 (s.domI k) ++
    r4 (s.domVin k).toNat ++ r4 c.lim ++ r2 c.fold ++ r2 c.lastFault ++ r4 (s.activeMask k) ++ r4 c.failed ++
    r2 c.fsw ++ r2 0 ++ r8 c.tState

/-- The payload of a domain's fault card (R293). -/
def State.domCard (s : State) (k code : Nat) : List Byte :=
  let c := s.domCh k
  let ph := s.phases k
  r2 code ++ r1 c.st.code ++ r1 (maskBits 32 (s.activeMask k)).length ++ r4 (s.activeMask k) ++ r4 c.failed ++
    r4 (s.domRef k) ++ r4 (s.domV k).toNat ++ ri4 (s.domI k) ++ r4 (s.domVin k).toNat ++ r4 c.lim ++
    padTo 32 (ph.flatMap fun p => ri4 (s.tel (48 + p))) ++
    padTo 16 ((List.range ph.length).flatMap fun j => ri2 (c.trims.getD j 0)) ++ r8 s.now ++ r1 c.trips ++
    r1 c.cause ++ r2 0

/-- The breaker curve of a port (R134, R148). -/
def State.curve (s : State) (k : Nat) : List Byte :=
  s.table (s.pal.pendPort.testBit k) 0x03 (s.fld Fld.Feed.CURVE k)

/-- R134: the current of a curve's first point, mA; its TAU_S. -/
def curveI0 (t : List Byte) : Nat := u t 4 4
def curveTau (t : List Byte) : Nat := u t 2 2

/-- R134: t(I) of a curve in ms for a current in mA, log-log between points, flat above the last. -/
def curveT (t : List Byte) (i : Nat) : Nat :=
  let n := u t 0 1
  let pt (j : Nat) : Nat × Nat := (u t (4 + 8 * j) 4, u t (8 + 8 * j) 4)
  let j := ((List.range n).filter fun j => (pt j).1 ≤ i).length
  if j = 0 then (pt 0).2
  else if n ≤ j then (pt (n - 1)).2
  else
    let a := pt (j - 1)
    let b := pt j
    let y := fln a.2 1 + (fln b.2 1 - fln a.2 1) * fln i a.1 / fln b.1 a.1
    rdiv (fexp y) fone

/-- R310: the trip level of H at a current above I0, in 0.01 A²s (DESIGN CHOICE, log entry 30). -/
def hTrip (t : List Byte) (i : Nat) : Nat :=
  let d := i * i - curveI0 t * curveI0 t
  rdiv (d * curveTau t * (fone - fexpNeg (curveT t i) (1000 * curveTau t))) (10000 * fone)

/-- R310: the trip level at a metered current, 0 at or below I0. -/
def State.hTripAt (s : State) (k : Nat) (i : Int) : Nat :=
  if i ≤ (curveI0 (s.curve k) : Nat) then 0 else hTrip (s.curve k) i.toNat

/-- PORT_STATUS (R322). -/
def State.portStatus (s : State) (k : Nat) : List Byte :=
  let c := s.portCh k
  r1 c.st.code ++ r1 (bitsOf [c.enable, c.inWin, c.aboveI0, c.restored]) ++ r1 c.trips ++
    r1 c.cls ++ r2 c.lastFault ++ r2 0 ++ ri4 c.iMa ++ r4 c.vMv ++ ri4 c.pMw ++ r4 (c.h / 1000000) ++
    r4 (if c.st = .retryWait then (c.retryAt - s.now) / 100000 else 0) ++ r4 0 ++ r8 (c.energy / 100000000) ++
    r8 c.tState

/-- The payload of a port's fault card (R324). -/
def State.portCard (s : State) (k code : Nat) : List Byte :=
  let c := s.portCh k
  let pk := (c.peaks.filter fun p => s.now < p.1 + ms 1).foldl (fun m p => max m p.2) c.iMa
  r2 code ++ r1 c.st.code ++ r1 c.trips ++ ri4 c.iMa ++ ri4 pk ++ r4 c.vMv ++ r4 s.vBus ++ r4 (c.h / 1000000) ++
    r4 (s.hTripAt k c.iMa) ++ r1 (s.fld Fld.Feed.CURVE k) ++ zeros 3 ++ r8 s.now

/-- CAP_STATUS (R353). -/
def State.capStatus (s : State) : List Byte :=
  let l := s.link
  let d (f : Decision → Nat) : Nat := (l.last.map f).getD 0
  r1 l.level ++ r1 l.base ++ r1 s.feed.shedMin ++ r1 (min s.capChg s.thrChg) ++ r2 (min s.capPd s.thrPd) ++
    r1 (min 3 l.missedRun) ++ r1 0 ++ r4 l.fig.sSrc ++ r4 l.fig.sBatt ++ r4 l.fig.d ++ r4 l.fig.chgReq ++
    r4 (l.head / 1000) ++ r4 (d (·.sSrc)) ++ r4 (d (·.sBatt)) ++ r4 (d (·.d)) ++ r4 (d (·.iShare)) ++ r8 l.tApply

/-- PD_STATE of PD_EVENT and PD_STATUS (R378). -/
def PdCh.pdState (c : PdCh) : Nat :=
  c.phase + 16 * ((c.run.orElse fun _ => c.armed).map (·.kind)).getD 0 + 128 * b2n c.contract

/-- PD_STATUS (R381). -/
def State.pdStatus (s : State) (k : Nat) : List Byte :=
  let c := s.pdCh k
  r1 c.st.code ++
    r1 (bitsOf [c.source, c.dfp, c.vconnSrc, c.contract, c.typeC, c.epr, c.flip, c.attachSrc]) ++ r1 c.rp ++
    r1 c.pdState ++ r4 (s.pdV k).toNat ++ ri4 (s.pdI k) ++ r4 c.vTarget ++ r4 c.iLimit ++
    r4 (if c.source then c.pLim else s.pSink k) ++ r4 (if c.contract then c.pContract else 0) ++ r1 c.hardResets ++
    r1 c.queue.length ++ r2 c.lastFault ++ r8 c.tState

/-- R405: DOMAINS_BAD and PORTS_BAD: the members that the fault of a step concerns, for any other fault those of the present
step that do not meet their wait term, and none in IDLE. -/
def State.seqBad (s : State) (code : Nat) : Nat × Nat :=
  let q := s.seq
  if 0x0F01 ≤ code ∧ code ≤ 0x0F04 then q.bad
  else if q.st = .idle then (0, 0)
  else s.stepBad (seqStepOf q.table q.step)

/-- The payload of a sequencing fault card (R405) (DEDUCED, log entry 111). -/
def State.seqCard (s : State) (code : Nat) : List Byte :=
  let q := s.seq
  let none_ : Bool := q.st = .idle
  let em : Bool := code = 0x0F06 ∨ code = 0x0F07
  let bad := s.seqBad code
  r2 code ++ r1 (if none_ then 0xFF else q.inst) ++ r1 (if none_ then 0xFF else q.step) ++ r2 bad.1 ++
    r1 (if em then q.emFault else 0xFF) ++ r1 (min 255 q.transCount) ++ r4 bad.2 ++
    r4 (if em then q.emValue else 0) ++ r8 s.now

/-- ADC_STATUS (R432). -/
def State.adcStatus (s : State) : List Byte :=
  (List.range 10).flatMap fun k =>
    let a := s.meas.unit[fin 10 k]
    let st : UnitState := if 8 ≤ k ∧ !(s.rectCh (k - 8)).powered then .unpowered else a.st
    [byte st.code, byte (b2n a.lp)] ++ toLE 2 a.overruns ++ toLE 2 (min 0xFFFF (a.period / 10)) ++
      toLE 2 a.trigMisses

/-- THERMAL_STATUS (R453). -/
def State.thermalStatus (s : State) : List Byte :=
  let t := s.therm
  let within (l : List Nat) : Nat := (l.filter fun x => s.now < x + sec 3600).length
  let broken := bitsOf ((List.range 20).map fun j => (t.sens[fin 20 j]).broken)
  let absent := bitsOf ((List.range 4).map fun j => s.sensorAbsent (16 + j))
  r1 t.step ++
    r1 (bitsOf ((List.range 5).map (fun z => (t.zone[fin 5 z]).shut || (z < 4 && s.zoneAt 1500 z)) ++ [t.ctrlLatch, t.mainsLatch])) ++
    r1 (within t.ctrlIn) ++ r1 (within t.mainsIn) ++ r4 (broken + 2 ^ 20 * absent) ++ ri2 t.tHot ++ r1 t.bandCtrl ++
    r1 t.bandSec[0] ++ r1 t.bandSec[1] ++ r1 0 ++ ((List.range 20).flatMap fun j => ri2 (s.sensorReport j)) ++
    r2 (t.life.1 + t.life.2.2.1) ++ r2 (t.life.2.1 + t.life.2.2.2) ++ r2 0 ++ r8 t.tStep

/-- SEQ of a stored record: its first four bytes (R460, R463). -/
def seqOf (rec_ : List Byte) : Nat := u rec_ 0 4

/-- R459, R476: a record that cannot be read any more: every byte 0xFF. -/
def lostRecord (n : Nat) : List Byte := List.replicate n 0xFF

/-- The records of a ring that can be read. -/
def readable (ring : List (List Byte)) : List (List Byte) := ring.filter fun r => seqOf r ≠ 0xFFFFFFFF

/-- R479: the highest and the mean erase count of the blocks (DEDUCED, log entry 13). -/
def Blocks.eraseMax (b : Blocks) : Nat := b.tab.foldl (fun m x => max m x.wear) 0
def Blocks.eraseMean (b : Blocks) : Nat := (b.tab.map Blk.wear).sum / 16384

/-- SKB_STATUS (R479). -/
def State.skbStatus (s : State) : List Byte :=
  let k := s.skb
  let oldest (l : List (List Byte)) : Nat := ((readable l).head?.map seqOf).getD 0
  let newest (l : List (List Byte)) : Nat := ((readable l).getLast?.map seqOf).getD 0
  let top := k.slots.foldl (fun (m : Nat × Nat) x => if m.1 ≤ u x.header 0 4 then (u x.header 0 4, x.slot) else m) (0, 0)
  let pend := k.areas.any fun a => a.phase = .triggered ∨ a.phase = .frozen ∨ a.phase = .committing
  let st := if k.failed then 2 else if s.sys.mode = .hold ∨ s.sys.mode = .holdOnly then 3 else if s.sys.nandBar then 1 else 0
  r1 st ++ r1 (bitsOf [pend, k.areas.any fun a => a.phase = .recording, k.stream.isSome]) ++ r2 k.blk.spare.length ++
    r4 (oldest k.histRing) ++ r4 (newest k.histRing) ++ r4 (oldest k.evRing) ++ r4 (newest k.evRing) ++ r4 top.1 ++
    r1 top.2 ++ r1 0 ++ r2 (k.slots.filter fun x => x.state = 2).length ++ r4 k.lostEvents ++ r2 k.missedCaps ++
    r1 k.eccMax ++ r1 0 ++ r4 k.blk.eraseMax ++ r4 k.blk.eraseMean ++ r8 k.tScrub

/-- The payload of a fault card for a code and channel (R464); none for the blocks of R484's table. The card of 0x0712 shows
a dropout confirmed in the same 10 µs as LAST_FAULT (R180) (DEDUCED, log entry 149). -/
def State.payload (s : State) (code ch : Nat) : Option (List Byte) :=
  let blk := code / 256
  if blk = 0x07 then
    let s := if code = 0x0712 ∧ (s.rectCh ch).dropDue then s.onRectCh ch fun c => { c with lastFault := 0x070B } else s
    some (s.rectStatus ch)
  else if blk = 0x08 then some s.busStatus
  else if blk = 0x09 then some (s.chgStatus ch)
  else if blk = 0x0A then some (s.gaugeStatus ch)
  else if blk = 0x0B then some (s.domCard ch code)
  else if blk = 0x0C then some (s.portCard ch code)
  else if blk = 0x0D then some s.capStatus
  else if blk = 0x0E then some (s.pdStatus ch)
  else if blk = 0x0F then some (s.seqCard code)
  else if blk = 0x10 then some s.adcStatus
  else if blk = 0x11 then some s.thermalStatus
  else if blk = 0x12 then some s.skbStatus
  else none

end Sys2Proof.Machine
end

