-- ==== Sys2Proof/Machine/LinkOut.lean ====
section
/-! DEFINITION. Sending on the Zwijan link: frames as their symbols (R334–R339), and flooding events along the path
tree (R330, R338). Control symbols Kx.y are written as the byte 32·y + x. -/

namespace Sys2Proof.Machine

/-- Control symbols of R328. -/
abbrev sofShare : Byte := 0xFB
abbrev sofDecision : Byte := 0x3C
abbrev sofEvent : Byte := 0x5C
abbrev sofCommand : Byte := 0x7C
abbrev eof : Byte := 0xFD
abbrev eofAbort : Byte := 0xFE

/-- A link port carries frames of the path tree (R330). -/
def LinkPort.used (p : LinkPort) : Bool :=
  (p.line = .up1 ∨ p.line = .up2) ∧ (p.use = .toRoot ∨ p.use = .away)

/-- A frame goes out on the used ports that `on` selects; nothing is sent while LINK_EN is 0 (R348). -/
def State.sendOn (on : Nat → LinkPort → Bool) (frame : List Byte) (s : State) : State :=
  if !s.flag Fld.Link.LINK_EN then s
  else
    s.onLink fun l =>
      { l with
        out := l.out ++
          (((List.range 3).filter fun p => (l.port[fin 3 p]).used && on p l.port[fin 3 p]).map fun p => (p, frame)) }

/-- R328: the control symbols of the link; any other counts as an error. -/
def controlSymbols : List Byte := [0xBC, sofShare, sofDecision, sofEvent, sofCommand, eof, eofAbort]

/-- R334: the precedence of a frame, 1 the highest. -/
def framePrec (f : List Byte) : Nat :=
  if f.head? = some sofEvent then 1 else if f.head? = some sofShare ∨ f.head? = some sofDecision then 2 else 3

/-- R334: the frames that wait on port `p`, in the order in which they end: by precedence, and within one in the order made. -/
def Link.line (l : Link) (p : Nat) : List (List Byte) :=
  ((l.out.filter fun x => x.1 = p).map (·.2)).mergeSort fun a b => framePrec a ≤ framePrec b

/-- R326: the symbol time of the plant's generation, t_hop, and the time of a share or decision frame, ns. -/
def Link.tSymbol (l : Link) : Nat := if l.gen = 1 then 40 else 20
def Link.tHop (l : Link) : Nat := if l.gen = 1 then 200 else 120
def Link.tFrame (l : Link) : Nat := 32 * l.tSymbol

/-- R340: the loop time, ns, over `n` nodes and `wire` ns of trace, and the limit that the plant must meet. -/
def Link.loopTime (l : Link) (n wire : Nat) : Nat := 2 * n * l.tHop + l.tFrame + wire
def State.loopOk (s : State) (n wire : Nat) : Bool := s.link.loopTime n wire ≤ 800 * s.fld Fld.Link.SHARE_US

/-- A frame of symbols between SOF and EOF with its CRC (R335, R336, R338). -/
def frameOf (sof : Byte) (body : List Byte) : List Byte := [sof] ++ body ++ toLE 2 (crc16 body) ++ [eof]

/-- The body of an event frame (R338). -/
def eventBody (type src code value time : Nat) : List Byte :=
  toLE 1 type ++ toLE 1 src ++ toLE 2 code ++ toLE 4 value ++ toLE 4 time

/-- R338: the VALUE of IDENT on port `p`. -/
def State.identValue (s : State) (p : Nat) : Nat := p + 256 * u s.sys.serial 0 3

/-- R338: IDENT goes out every 1 ms on each port whose line is not down, used or not; it travels one hop. -/
def State.identTick (s : State) : State :=
  if s.now % ms 1 = 0 ∧ s.flag Fld.Link.LINK_EN then
    s.onLink fun l =>
      { l with out := l.out ++ ((List.range 3).filter fun p => (l.port[fin 3 p]).line ≠ .down).map fun p =>
          (p, frameOf sofEvent (eventBody 7 s.nodeAddr 0 (s.identValue p) s.now)) }
  else s

/-- An event of this node is flooded along the path tree (R338). -/
def State.flood (type code value : Nat) (s : State) : State :=
  s.sendOn (fun _ _ => true) (frameOf sofEvent (eventBody type s.nodeAddr code value s.now))

end Sys2Proof.Machine
end

