-- ==== Sys2Proof/Machine/Recorder.lean ====
section
/-! DEFINITION. What the recorder does at a raise, in SRAM: event entries, cards, captures (R462–R470), and the
queue of NAND operations (R471). -/

namespace Sys2Proof.Machine

/-- One event entry to be made (R463). -/
structure Entry where
  code : Nat
  sev : Nat
  kind : Nat
  parent : Nat
  node : Nat
  ch : Nat
  slot : Nat
  flags : Nat
  data : List Byte
  deriving DecidableEq, Repr

/-- The 64 bytes of an event entry (R463). -/
def Entry.bytes (e : Entry) (seq time por : Nat) : List Byte :=
  withCrc32 (toLE 4 seq ++ toLE 8 time ++ toLE 2 e.code ++ [byte e.sev, byte e.kind] ++ toLE 4 e.parent ++
    [byte e.node, byte e.ch, byte e.slot, byte e.flags] ++ toLE 4 por ++ padTo 32 e.data)

/-- FLAGS [2] and [3] of an entry made now (R463). -/
def State.entryFlags (s : State) : Nat :=
  4 * b2n (decide (s.sys.mode = .hold ∨ s.sys.mode = .holdOnly)) + 8 * b2n s.sys.safe

/-- An event entry is made: it takes the next SEQ and waits in the SRAM buffer of 4,096, or is counted and
discarded while the buffer is full (R462). -/
def State.log (e : Entry) (s : State) : State :=
  s.onSkb fun k =>
    let k := { k with evSeq := k.evSeq + 1, evSecond := k.evSecond + 1 }
    if k.evBuf.length < 4096 then
      { k with
        evOldest := if k.evBuf.isEmpty then s.now else k.evOldest,
        evBuf := k.evBuf ++ [e.bytes (k.evSeq - 1) s.now s.sys.porCount] }
    else { k with evPendLost := k.evPendLost + 1, lostEvents := k.lostEvents + 1 }

/-- The rank of a NAND operation (R471); store and erase work follows the host's own reads. -/
def NandOp.rank : NandOp → Nat
  | .varnish .. => 1
  | .card .. => 2
  | .capture .. => 3
  | .events => 4
  | .history => 5
  | .store .. | .erase .. => 6
  | .move _ => 8

/-- An operation joins those waiting (R471). -/
def State.enqueue (op : NandOp) (owed : Option Owed) (s : State) : State :=
  s.onSkb fun k => { k with waiting := k.waiting ++ [⟨op, owed⟩] }

/-- The bytes of a fault card: 32-byte header and payload (R464). -/
def cardBytes (blk ch code sev time evSeq cardSeq por : Nat) (payload : List Byte) : List Byte :=
  let pl := payload.take 224
  let head := [byte blk, byte ch] ++ toLE 2 code ++ toLE 2 pl.length ++ [byte sev, 0] ++ toLE 8 time ++
    toLE 4 evSeq ++ toLE 4 cardSeq ++ toLE 4 por
  head ++ toLE 4 (crc32 (head ++ pl)) ++ pl

/-- A card is built and queued (R464). -/
def State.card (code ch sev evSeq : Nat) (payload : List Byte) (s : State) : State :=
  (s.enqueue (.card (cardBytes (code / 256) ch code sev s.now evSeq s.skb.cardSeq s.sys.porCount payload)) none).onSkb
    fun k => { k with cardSeq := k.cardSeq + 1 }

/-- The armed channel set: COUNT, PRE_PCT, INTERVAL and channels (R143), adopted at the arming (R148). -/
def State.captureSet (s : State) : List Byte := s.table false 0x0C (s.fld Fld.Skb.CAP_SET)

/-- How many areas the ring is divided into for a set of COUNT channels (R466). -/
def areaCount (count : Nat) : Nat := min 8 (64 / max 1 count)

/-- An area that begins recording with the armed set (R466). -/
def State.armedArea (s : State) : Area :=
  let t := s.captureSet
  { Area.free with
    phase := .recording, setInst := s.fld Fld.Skb.CAP_SET,
    chans := (List.range (u t 0 1)).map fun c => u t (8 + 2 * c) 2, prePct := u t 1 1, interval := u t 4 4,
    palId := u (s.bankBytes s.pal.active) 12 4 }

/-- An area is recording: it awaits a trigger or its post-trigger samples (R466). -/
def Area.isRecording (a : Area) : Bool := a.phase = .recording ∨ a.phase = .triggered

/-- A free area takes over the recording when none records, CAP_EN is set and the ring has room (R466); the new
area adopts the capture sets of the active bank (R148). -/
def State.arm (s : State) : State :=
  let busy := s.skb.areas.filter fun a => a.phase ≠ .free
  if s.flag Fld.Skb.CAP_EN ∧ !(s.skb.areas.any Area.isRecording) ∧
      busy.length < areaCount (u s.captureSet 0 1) ∧ (s.sys.mode = .running ∨ s.sys.mode = .hold) then
    (s.onSkb fun k =>
      { k with areas := k.areas.set (k.areas.findIdx fun a => a.phase = .free) s.armedArea }).adopt 11 0
  else s

/-- R466: a trigger starts a capture in the recording area. -/
def Area.trigger (a : Area) (capSeq slot code chan evSeq now : Nat) : Area :=
  let pre := min (rdiv (8192 * a.prePct) 100) a.samples.length
  { a with
    phase := .triggered, capSeq := capSeq, slot := slot, code := code, chan := chan, evSeq := evSeq, tTrig := now,
    pre := pre, samples := a.samples.drop (a.samples.length - pre) }

/-- R466: the slots of the captures partition: four blocks each, of those it still has (R472). -/
def Skb.slotCount (k : Skb) : Nat := max 1 ((1024 - k.blk.lost.count .captures) / 4)

/-- What a trigger finds (R467): a capture started, a secondary trigger, a suppressed repeat, or no free area. -/
inductive Trig where
  | started (slot : Nat)
  | secondary (slot : Nat)
  | none
  | missed
  deriving DecidableEq, Repr

/-- A trigger for a code and channel (R466, R467). `chan` is 0xFFFF for none. -/
def State.trigger (code chan evSeq : Nat) (s : State) : Trig × State :=
  let rep := s.fld Fld.Skb.CAP_REPEAT_S
  if !s.flag Fld.Skb.CAP_EN then (.none, s)
  else
    let i := s.skb.areas.findIdx fun a => a.phase = .triggered
    let r := s.skb.areas.findIdx fun a => a.phase = .recording
    match s.skb.areas[i]?, s.skb.areas[r]? with
    | some a, _ =>
      if a.secs.length < 7 then
        (.secondary a.slot, s.onSkb fun k =>
          { k with areas := k.areas.set i { a with secs := a.secs ++ [(code, a.samples.length, evSeq)] } })
      else (.none, s)
    | none, some a =>
      if rep ≠ 0 ∧ s.skb.capHist.any fun h => h.1 = code ∧ h.2.1 = chan ∧ s.now < h.2.2 + sec rep then (.none, s)
      else
        (.started s.skb.nextSlot, s.onSkb fun k =>
          { k with
            areas := k.areas.set r (a.trigger k.capSeq k.nextSlot code chan evSeq s.now),
            capSeq := k.capSeq + 1, nextSlot := (k.nextSlot + 1) % k.slotCount,
            capHist := (code, chan, s.now) :: k.capHist.filter fun h => s.now < h.2.2 + sec 3600 })
    | none, none =>
      if rep ≠ 0 ∧ s.skb.capHist.any fun h => h.1 = code ∧ h.2.1 = chan ∧ s.now < h.2.2 + sec rep then (.none, s)
      else (.missed, s.onSkb fun k => { k with missedCaps := satAdd 0xFFFF k.missedCaps 1 })

end Sys2Proof.Machine
end

