-- ==== Sys2Proof/Machine/Faults.lean ====
section
/-! DEFINITION. The fault manager at a raise (R481–R490), hold-mode entry (R66–R68), and image acceptance
(R494). -/

namespace Sys2Proof.Machine

/-- R492: every fault code of the device with its severity. -/
def faultTable : List (Nat × List Nat) :=
  [(0, [0x0105, 0x0203, 0x0204, 0x070A, 0x0713, 0x0804, 0x0911, 0x0A03, 0x0A05, 0x0A08, 0x0C09, 0x0C0A] ++
      [0x0D0A, 0x0D0D, 0x0E10, 0x0F0A, 0x1009, 0x1103, 0x1108, 0x1210, 0x1211, 0x1404, 0x1405, 0x1407]),
    (1, [0x0101, 0x0201, 0x0202, 0x0301, 0x0302, 0x0603, 0x070C, 0x070F, 0x0710, 0x0803, 0x0805, 0x0806] ++
      [0x090A, 0x090C, 0x0912, 0x0A01, 0x0A02, 0x0A04, 0x0A06, 0x0A07, 0x0B08, 0x0B09, 0x0B0B, 0x0C08] ++
      [0x0D01, 0x0D02, 0x0D03, 0x0D05, 0x0D09, 0x0D0E, 0x0E06, 0x0E07, 0x0E08, 0x0E0C, 0x0E0D, 0x0E0E] ++
      [0x0F06, 0x0F09, 0x1001, 0x1004, 0x1005, 0x1006, 0x1007, 0x1008, 0x100A, 0x1101, 0x1107] ++
      [0x1202, 0x1204, 0x1205, 0x1206, 0x1207, 0x1208, 0x1209, 0x12C1, 0x12C3, 0x1302, 0x1403, 0x1406]),
    (2, [0x0102, 0x0103, 0x0303, 0x0601, 0x0602, 0x0701, 0x0702, 0x0703, 0x0704, 0x0709, 0x070B] ++
      [0x0801, 0x0810, 0x0811, 0x0901, 0x0903, 0x0904, 0x0905, 0x0906, 0x0907, 0x090B, 0x090D, 0x0910] ++
      [0x0A09, 0x0B01, 0x0B05, 0x0B07, 0x0C05, 0x0C07, 0x0D04, 0x0D06, 0x0D07, 0x0D08] ++
      [0x0E04, 0x0E05, 0x0E09, 0x0E0A, 0x0E0B, 0x0E0F, 0x0F01, 0x0F02, 0x0F03, 0x0F04, 0x0F05, 0x0F07] ++
      [0x0F08, 0x1002, 0x1106, 0x1201, 0x1203, 0x12C2, 0x1402]),
    (3, [0x0705, 0x0706, 0x0707, 0x0708, 0x070D, 0x070E, 0x0711, 0x0712, 0x0802, 0x0812, 0x0813, 0x0814] ++
      [0x0815, 0x0902, 0x0908, 0x0909, 0x090E, 0x090F, 0x0B02, 0x0B03, 0x0B04, 0x0B06, 0x0B0A, 0x0B0C] ++
      [0x0B0D, 0x0C01, 0x0C02, 0x0C03, 0x0C04, 0x0C06, 0x0E01, 0x0E02, 0x0E03, 0x1003, 0x1105]),
    (4, [0x0104, 0x1102, 0x1104, 0x1301, 0x1401])]

/-- The severity of a fault code; none for a code the device does not have (R482, R492). -/
def severity (code : Nat) : Option Nat := (faultTable.find? fun p => code ∈ p.2).map (·.1)

/-- The fault parameter of a block without a card payload (R484). -/
structure FaultParam where
  cause : Nat := 0
  image : Nat := 0xFF
  count : Nat := 0
  value : Nat := 0
  /-- A trigger whatever CAP_SEV says (R182, R466). -/
  force : Bool := false
  /-- R463: KIND and DATA of a host mark. -/
  mark : Option (List Byte) := none
  deriving DecidableEq, Repr

/-- The channel number of a raise that concerns a block as a whole (R481) (DEDUCED, log entry 104). -/
abbrev blockWide : Nat := 0xFF

/-- R484: the bytes of the fault parameter, and the whole card payload. -/
def State.faultData (s : State) (code ch : Nat) (p : FaultParam) : List Byte :=
  match s.payload code ch with
  | some bs => bs
  | none =>
    let tLast := ((s.flt.last.find? fun x => x.1 = code).map (·.2)).getD 0
    padTo 32 ([byte p.cause, byte p.image] ++ toLE 2 p.count ++ toLE 4 p.value ++ toLE 8 tLast)

/-- R482: a capture is due for a fault of this code and severity (R466, R478). -/
def State.captureDue (s : State) (code sev : Nat) : Bool :=
  (s.fld Fld.Skb.CAP_SEV ≤ 4 && s.fld Fld.Skb.CAP_SEV ≤ sev) ||
    (List.range 16).any fun k => code ≠ 0 && s.fld (Fld.Skb.TRIG_CODE k) = code

/-- R100: the window status bits that a domain's fault sets (PMBus positions, log entry 60): STATUS_VOUT, STATUS_IOUT.
(PRESUMED, log entry 60.) -/
def pmBits (code : Nat) : Nat × Nat :=
  match code with
  | 0x0B01 => (0x10, 0)
  | 0x0B02 => (0x80, 0)
  | 0x0B06 => (0x04, 0)
  | 0x0B03 => (0, 0x80)
  | _ => (0, 0)

/-- R100: a domain's fault reaches the window's status bits of its page (PRESUMED, log entry 60). -/
def Hif.pmFault (k : Fin 16) (code : Nat) (h : Hif) : Hif :=
  { h with pm := upd h.pm k fun x => { x with vout := x.vout ||| (pmBits code).1, iout := x.iout ||| (pmBits code).2 } }

/-- LAST_FAULT of the channel a code is raised for (R178, R240, R301, R322, R381): block 0x07's faults include its S0 events
(R180); those of the others are no faults (DEDUCED, log entry 149). -/
def State.setLast (code ch sev : Nat) (s : State) : State :=
  if sev = 0 ∧ code / 256 ≠ 0x07 then s
  else
    match code / 256 with
    | 0x07 => if ch < 2 then s.onRectCh ch fun c => { c with lastFault := code } else s
    | 0x09 => if ch < 2 then s.onStrCh ch fun c => { c with lastFault := code } else s
    | 0x0B => if ch < 16 then (s.onDomCh ch fun c => { c with lastFault := code }).onHif (Hif.pmFault (fin 16 ch) code) else s
    | 0x0C => if ch < 24 then s.onPortCh ch fun c => { c with lastFault := code } else s
    | 0x0E => if ch < 2 then s.onPdCh ch fun c => { c with lastFault := code } else s
    | _ => s

/-- R483: the hardware's part of a raise but for the queue entry: event entry, card, capture, flags, active list,
link event. `cap` withholds the capture (a missed capture's own fault). -/
def State.record (code ch sev : Nat) (p : FaultParam) (cap : Bool) (s : State) : Trig × State :=
  let s := s.setLast code ch sev
  let data := s.faultData code ch p
  let seq := s.skb.evSeq
  let chan := if ch = blockWide then 0xFFFF else ch
  let (tr, s) := if cap && (p.force || s.captureDue code sev) then s.trigger code chan seq else (.none, s)
  let slot := match tr with
    | .started k | .secondary k => k
    | .none | .missed => 0xFF
  let parent := match s.flt.running with
    | some q => q.seq
    | none => 0xFFFFFFFF
  let s := s.log
    { code := code, sev := sev, kind := if p.mark.isSome then 4 else 0, parent := parent, node := s.nodeAddr, ch := ch, slot := slot,
      flags := b2n (decide (2 ≤ sev)) + 2 * b2n (decide (tr = .missed)) + s.entryFlags, data := p.mark.getD data }
  let s := if 2 ≤ sev then s.card code ch sev seq data else s
  let s := if s.hif.minSev ≤ sev then s.irq (code / 256) else s
  let s := if 3 ≤ sev then s.flood 1 code (u data 0 4) else s
  let s := s.onFlt fun f =>
    { f with
      raised := if h : sev < 5 then f.raised.set sev (f.raised[sev] + 1) h else f.raised,
      last := (code, s.now) :: f.last.filter fun x => x.1 ≠ code,
      active := if 3 ≤ sev then
          f.active.filter (fun a => !(a.code = code && a.ch = ch)) ++ [⟨code, ch, sev, seq, s.now⟩]
        else f.active }
  (tr, s)

/-- R485, R486: an entry ranks before another: a higher severity, then an earlier raise, then, at one instant, its SEQ.
(DEDUCED, log entry 61.) -/
def QEntry.ahead (a b : QEntry) : Bool :=
  b.sev < a.sev || (a.sev = b.sev && (a.time < b.time || (a.time = b.time && a.seq < b.seq)))

/-- A pending entry's place: by severity, highest first, then by raise time (R485) (DEDUCED, log entry 61). -/
def insertEntry (e : QEntry) : List QEntry → List QEntry
  | [] => [e]
  | q :: qs => if e.ahead q then e :: q :: qs else q :: insertEntry e qs

/-- Entries held: pending, running and suspended (R485). -/
def Flt.held (f : Flt) : Nat := f.queue.length + (if f.running.isSome then 1 else 0) + f.susp.length

/-- What placing an entry needs (R485–R488): a pending entry absorbs it, the queue overflows, a handler starts or
pre-empts, or the entry waits. `idle` says that no handler may start (hold mode, R489) (DEDUCED, log entry 61). -/
def Flt.place (f : Flt) (e : QEntry) (idle : Bool) : Option Flt :=
  if f.queue.any fun q => q.code = e.code ∧ q.ch = e.ch then
    some { f with queue := f.queue.map fun q =>
      if q.code = e.code ∧ q.ch = e.ch then { q with count := q.count + 1 } else q }
  else if 32 ≤ f.held then none
  else if idle then some { f with queue := insertEntry e f.queue }
  else
    match f.running with
    | none => some { f with running := some e }
    | some r =>
      if r.sev < e.sev then some { f with running := some e, susp := r :: f.susp }
      else some { f with queue := insertEntry e f.queue }

/-- Korisk runs handlers (R485): not in hold mode or before firmware ready. -/
def State.handling (s : State) : Bool := s.sys.mode = .running

/-- R494: the first failing check of an image, 0 when every check passes. `n` is the bytes received.
(DEDUCED, log entry 64.) -/
def imageCheck (img : List Byte) (pub : Nat × Nat) (serial : List Byte) (rollback : Nat) : Nat :=
  let body := img.drop 256
  if img.length < 256 ∨ img.length ≠ 256 + u img 16 4 ∨ u img 16 4 = 0 ∨ 16777216 < u img 16 4 then 0x01
  else if sliceBytes img 0 5 ≠ [0x4B, 0x4F, 0x52, 0x33, 0x01] ∨ u img 7 1 ≠ 0 ∨ u img 10 2 ≠ 0 ∨
      u img 20 4 ≠ 0 ∨ u img 64 128 ≠ 0 then 0x02
  else if sliceBytes img 24 32 ≠ sha256 body then 0x03
  else if !ecdsaOk pub (img.take 192) (sliceBytes img 192 64) then 0x04
  else if u img 56 8 ≠ 0 ∧ sliceBytes img 56 8 ≠ serial then 0x05
  else if u img 12 4 < rollback then 0x06
  else 0

/-- R54, R494: an image area's validation code; one left invalid by an unfinished download fails check 0x01.
(DEDUCED, log entry 64.) -/
def State.imgCheck (s : State) (k : Fin 2) : Nat :=
  let a := s.img.area[k]
  let e := imageCheck a.bytes s.sys.pubKey s.sys.serial s.img.rollback
  if e = 0 ∧ a.st ≠ .valid then 0x01 else e

/-- R67, R125: the commits that have entered their crossing: the oldest armed one of each channel, `own` telling a commit's
channel; those behind it wait in the core. -/
def crossing (own : Batch → Nat) : List Batch → List Batch
  | [] => []
  | b :: bs => b :: (crossing own bs).filter fun x => own x ≠ own b

/-- R67: hold-mode entry keeps the commits in their crossing and the L values, which are handed over as they are written;
every other staged value is discarded (DESIGN CHOICE, log entry 129). -/
def RecCopy.holdEntry (own : Batch → Nat) (c : RecCopy) : RecCopy :=
  { c with easel := c.live, stagedB := [], armed := crossing own c.armed }

/-- Some staged value has not been handed to hardware (R67). -/
def RecCopy.unsent (own : Batch → Nat) (c : RecCopy) : Bool :=
  !c.stagedB.isEmpty || (crossing own c.armed).length < c.armed.length

/-- R125, R296: the channel a commit of record number `i` belongs to within its copy: a domain's for the phase table. -/
def State.batchKey (_s : State) (i : Nat) (b : Batch) : Nat := if i = recIdx .dom1 then b.own else 0

/-- R119: every session returns to its start level. -/
def Hif.dropSessions (h : Hif) : Hif := { h with i2c := Session.reset, spiS := Session.reset, nonceI2c := none, nonceSpi := none }

/-- R67, R89, R292: what hold-mode entry does to the host interfaces; a reply that already stands in the SPI buffer stays
there (DESIGN CHOICE, log entry 131). Of the commands that wait, those of the domains act at their boundary all the same. -/
def Hif.holdEntry (h : Hif) : Hif :=
  { h.dropSessions with
    waits := (h.waits.filter fun w => w.op = 0x0B01 || w.op = 0x0B02).map fun w => { w with mute := true },
      fwds := [], segI2c := none, segSpi := none, segLink := [],
    mbx := { h.mbx with state := .busy, more := false, asm := [], rest := [], buf := [] },
    spi := { h.spi with running := false } }

/-- R51, R60: what the start of a cold reset, or of the boot over again, does to the host interfaces: nothing waits on. -/
def Hif.bootEntry (h : Hif) : Hif := { h.holdEntry with waits := [] }

/-- R67: commands that an operation or a PD port would have answered get no reply. -/
def State.dropOwed (s : State) : State :=
  let s := s.onSkb fun k =>
    { k with
      waiting := k.waiting.map fun j => { j with owed := none }
      running := k.running.map fun j => { j with owed := none } }
  s.onPd fun d =>
    { d with
      ch := d.ch.map fun c =>
        { c with
          tx := c.tx.map fun x => { x with owed := none }
          armed := c.armed.map fun a => { a with owed := none }
          run := c.run.map fun a => { a with owed := none } } }

/-- R425: a pass is over; the pass of 10 s after firmware ready that fell due in it is ignored. -/
def Meas.passOver (now : Nat) (m : Meas) : Meas :=
  { m with cal := .idle, mains := [], calDue := m.calDue.filter fun t => now < t }

/-- R425: a calibration pass in progress is discarded. -/
def State.dropPass (s : State) : State :=
  s.onMeas fun m =>
    if m.cal = .idle then m
    else { m.passOver s.now with landing := [], discarded := satAdd 0xFFFF m.discarded 1 }

/-- R66–R69: the processor stops; frozen counts are taken at this moment; interrupted handlers go back to the
queue to be restarted (R488). FLAGS of RESET_CAUSE tell of this reset only (DESIGN CHOICE, log entry 130). -/
def State.holdCore (cause : Nat) (counted : Bool) (s : State) : State :=
  let staged := s.cfg.recs.zipIdx.any fun x => x.1.any (RecCopy.unsent (s.batchKey x.2))
  let y := s.sys
  let s := s.onSys fun y =>
    { y with
      mode := .hold, tHold := y.time, cause := cause, tReset := y.time, flagFallback := false,
      flagStaged := staged, wdLeft := y.wdLeft - (y.time - y.wdBase), wdBase := y.time, wdRunning := false,
      resetDue := none, holds := (y.time, counted) :: y.holds.filter fun h => y.time < h.1 + sec 600 }
  let s := s.onHif Hif.holdEntry
  let s := s.onCfg fun c => { c with recs := c.recs.zipIdx.map fun x => x.1.map (RecCopy.holdEntry (s.batchKey x.2)) }
  let s := s.dropPass
  let s := s.onFlt fun f =>
    { f with
      queue := (f.running.toList ++ f.susp).foldl (fun q e => insertEntry e q) f.queue,
      running := none, susp := [] }
  let s := s.dropOwed
  s.onSys fun y' => { y' with wdLeft := if y.wdRunning then y'.wdLeft else y.wdLeft }

/-- R484: the fault parameter of 0x1301: handlers lost, and the SEQ of the last handled entry. -/
def State.lostParam (s : State) : FaultParam := { count := s.flt.lost, value := s.flt.lastDone }

/-- R489: an entry that finds the queue full in hold mode: its handler is lost and 0x1301 is raised again outside
the queue. -/
def State.placeHeld (e : QEntry) (s : State) : State :=
  match s.flt.place e true with
  | some f => s.onFlt fun _ => f
  | none =>
    let s := s.onFlt fun f =>
      { f with overflows := satAdd 0xFFFF f.overflows 1, lost := satAdd 0xFFFF f.lost 1,
               lostHold := satAdd 0xFFFF f.lostHold 1 }
    (s.record 0x1301 blockWide 4 s.lostParam true).2

/-- A raise in hold mode (R489). -/
def State.raiseHeld (code ch sev : Nat) (p : FaultParam) (s : State) : State :=
  let seq := s.skb.evSeq
  let t := s.now
  let (tr, s) := s.record code ch sev p true
  let s := if 1 ≤ sev then s.placeHeld ⟨code, ch, sev, seq, t, 1⟩ else s
  if tr = .missed then
    let seq := s.skb.evSeq
    (s.record 0x1206 blockWide 1 {} false).2.placeHeld ⟨0x1206, blockWide, 1, seq, t, 1⟩
  else s

/-- The other image area. -/
def otherArea (k : Fin 2) : Fin 2 := if k = 0 then 1 else 0

/-- R68: after a third counted entry within 10 minutes the other image is booted if it is accepted, and otherwise
the device stays in hold-only state with 0x0104. -/
def State.holdLimit (s : State) : State :=
  if (s.sys.holds.filter fun h => h.2).length < 3 then s
  else
    let other := otherArea (s.img.booted.getD 0)
    if !s.sys.otherTried ∧ (s.img.area[other]).st ≠ .empty ∧ s.imgCheck other = 0 then
      let s := s.onSys fun y =>
        { y with flagFallback := true, otherTried := true, holds := y.holds.map fun h => (h.1, false) }
      s.onImg fun i => { i with booted := some other, sram := none }
    else (s.onSys fun y => { y with mode := .holdOnly }).raiseHeld 0x0104 blockWide 4 {}

/-- R66–R68: hold-mode entry with its cause (R63) and whether R68 counts it; raises 0x0102, and 0x0301 where staged
values were discarded. -/
def State.enterHold (cause : Nat) (counted : Bool) (s : State) : State :=
  let s := (s.holdCore cause counted).raiseHeld 0x0102 blockWide 2 { cause := cause }
  let s := if s.sys.flagStaged then s.raiseHeld 0x0301 blockWide 1 {} else s
  if counted then s.holdLimit else s

/-- R485–R489: a recorded fault's entry is placed in the firmware queue; a 33rd entry is an overflow, which raises
0x1301 outside the queue and enters hold mode with cause 0x08. -/
def State.place (e : QEntry) (s : State) : State :=
  if !s.handling then s.placeHeld e
  else
    match s.flt.place e false with
    | some f => s.onFlt fun _ => f
    | none =>
      let s := s.onFlt fun f =>
        { f with overflows := satAdd 0xFFFF f.overflows 1, lost := satAdd 0xFFFF f.lost 1 }
      ((s.record 0x1301 blockWide 4 s.lostParam true).2).enterHold 8 true

/-- R483: a fault is raised with its parameter; a code the device does not have does nothing. -/
def State.raiseWith (p : FaultParam) (code ch : Nat) (s : State) : State :=
  match severity code with
  | none => s
  | some sev =>
    let seq := s.skb.evSeq
    let t := s.now
    let (tr, s) := s.record code ch sev p true
    let s := if 1 ≤ sev then s.place ⟨code, ch, sev, seq, t, 1⟩ else s
    if tr = .missed then
      let seq := s.skb.evSeq
      (s.record 0x1206 blockWide 1 {} false).2.place ⟨0x1206, blockWide, 1, seq, t, 1⟩
    else s

/-- R483: a fault is raised. -/
def State.raise (code : Nat) (ch : Nat := blockWide) (s : State) : State := s.raiseWith {} code ch

/-- R490: active faults end. -/
def State.settle (p : ActiveFault → Bool) (s : State) : State :=
  s.onFlt fun f => { f with active := f.active.filter fun a => !p a }

/-- R490: the active S3 faults of a channel of a block end. -/
def State.settleCh (blk ch : Nat) (s : State) : State :=
  s.settle fun a => a.code / 256 = blk && a.ch = ch && a.sev = 3

end Sys2Proof.Machine
end

