-- ==== Sys2Proof/Machine/Waits.lean ====
section
/-! DEFINITION. Accepted Korisk commands that wait: for a boundary at which they act, or for a state that ends them
(R112, R122). The bytes of such a wait are the selector's mode, the cause of the first refusal, the channels that have
acted (4 bytes), and then the command's own. -/

namespace Sys2Proof.Machine

/-- The selector's mode. -/
def Wait.mode (w : Wait) : Nat := u w.data 0 1

/-- The first refusal's cause. -/
def Wait.cause (w : Wait) : Nat := u w.data 1 1

/-- The channels that have acted. -/
def Wait.started (w : Wait) : Nat := u w.data 2 4

/-- The command's own bytes. -/
def Wait.own (w : Wait) : List Byte := w.data.drop 6

/-- A command waits on some channels of its selector, the others being refused already (R112). -/
def State.awaitSel (o : Origin) (op : Nat) (sel : Sel) (left failed cause : Nat) (own : List Byte) (s : State) : State :=
  s.await o op left failed ([byte sel.mode, byte cause] ++ zeros 4 ++ own)

/-- A channel of a waiting command is settled with a status; FIRST_CAUSE is that of the lowest one refused (R112).
(DEDUCED, log entry 59.) -/
def Wait.mark (k status : Nat) (w : Wait) : Wait :=
  if status = st.ok then { w with left := setBitTo w.left k false }
  else
    { w with
      left := setBitTo w.left k false, failed := w.failed ||| 2 ^ k,
      data := if w.failed % 2 ^ (k + 1) = 0 then w.data.set 1 (byte status) else w.data }

/-- A channel of a waiting command has acted. -/
def Wait.start (k : Nat) (w : Wait) : Wait :=
  { w with data := w.data.take 2 ++ toLE 4 (w.started ||| 2 ^ k) ++ w.data.drop 6 }

/-- A block-wide record's place in the masks of a reply: bit 0 (DEDUCED, log entry 59). -/
def foldWide (m : Nat) : Nat := if m.testBit 31 then (m - 2 ^ 31) ||| 1 else m

/-- The reply of a waiting command whose every channel is settled (R112). -/
def Wait.reply (w : Wait) : Nat × List Byte := selReply ⟨w.mode, 0⟩ (foldWide w.failed) w.cause []

/-- Waiting commands that `p` selects are judged channel by channel: none leaves a channel waiting. -/
def State.judgeMark (p : Wait → Bool) (j : Wait → Nat → Option Nat) (s : State) : State :=
  let step (w : Wait) (k : Nat) : Wait :=
    match j w k with
    | some r => w.mark k r
    | none => w
  s.onHif fun h =>
    { h with waits := h.waits.map fun w => if p w then (maskBits 32 w.left).foldl step w else w }

/-- Waiting commands are judged; those with no channel left reply (R122). -/
def State.judge (p : Wait → Bool) (j : Wait → Nat → Option Nat) (s : State) : State :=
  (s.judgeMark p j).wake (fun w => p w && w.left = 0) Wait.reply

/-- A boundary of channel `k`: the commands that `p` selects and that wait to act on it act, in the order of their acceptance
(R122). A refused channel is settled with its status; one that acts is left for `judge`. -/
def State.serveAll (p : Wait → Bool) (k : Nat) (act : Wait → State → Nat × State) (s : State) : State :=
  (s.hif.waits.filter fun w => p w && w.left.testBit k && !w.started.testBit k).foldl
    (fun s w =>
      if w ∈ s.hif.waits then
        let r := act w s
        if r.1 = st.ok then r.2.onHif fun h => { h with waits := h.waits.replace w (w.start k) }
        else s.onHif fun h => { h with waits := h.waits.replace w (w.mark k r.1) }
      else s) s

/-- A boundary of channel `k` for the commands of one opcode. -/
def State.serve (op k : Nat) (act : List Byte → State → Nat × State) (s : State) : State :=
  s.serveAll (fun w => w.op = op) k fun w => act w.own

/-- A command on a selector that acts at once on every channel (R112): `act` answers each channel's status. -/
def State.selDo (s : State) (sel : Sel) (act : Nat → State → Nat × State) : Res × State :=
  let r := s.perChannel sel act
  let rep := selReply sel r.2.1 r.2.2 []
  (.done rep.1 rep.2, r.1)

/-- A command on a selector that is checked now, channel by channel, and acts later or ends later: the channels that
`chk` refuses are left out; with none left it replies at once (R112, R122). -/
def State.selWait (s : State) (o : Origin) (op : Nat) (sel : Sel) (own : List Byte) (chk : Nat → Nat) : Res × State :=
  let ks := maskBits 32 sel.mask
  let bad := ks.filter fun k => chk k ≠ st.ok
  let failed := bad.foldl (fun m k => m ||| 2 ^ k) 0
  let cause := (bad.head?.map chk).getD 0
  let left := (ks.filter fun k => chk k = st.ok).foldl (fun m k => m ||| 2 ^ k) 0
  if left = 0 then
    let rep := selReply sel failed cause []
    (.done rep.1 rep.2, s)
  else (.later, s.awaitSel o op sel left failed cause own)

end Sys2Proof.Machine
end

