-- ==== Sys2Proof/Machine/Land.lean ====
section
/-! DEFINITION. How configuration values reach the live copy: running and stopped channels (R123, R518), landing at a
boundary (R125, R173), landing when a channel stops (R126), and what a landed value does at once. -/

namespace Sys2Proof.Machine


/-- R150, R190, R211, R271, R305, R361: a channel of a block runs. -/
def RectCh.running (c : RectCh) : Bool :=
  c.st = .listen || c.st = .qualify || c.st = .relay || c.st = .pfcRamp || c.st = .llcStart || c.st = .walkIn ||
    c.st = .run || (c.st = .lost && c.powered)

def AuxCh.running (c : AuxCh) : Bool := c.st = .walkIn || c.st = .coldConnect || c.st = .on

def StrCh.running (c : StrCh) : Bool :=
  c.st = .matching || c.st = .cold || c.st = .connected || c.st = .chargeOnly || c.st = .test

def PortCh.running (c : PortCh) : Bool := c.st = .inrush || c.st = .on

def PdCh.running (c : PdCh) : Bool := c.st = .attachedSnk || c.st = .attachedSrc

/-- R123, R518: a record of a channel (0 for a block-wide record) runs. The phase table's entries follow their owners
and are not judged here (R296) (DEDUCED, log entry 67). -/
def State.running (s : State) (r : RecId) (ch : Nat) : Bool :=
  match r with
  | .rect0 => (s.rectCh ch).running
  | .rect1 => (s.rectCh 0).running || (s.rectCh 1).running
  | .bus0 => (s.auxCh 0).running || (s.auxCh 1).running
  | .bus1 => (s.auxCh ch).running
  | .chg0 => (s.strCh ch).running
  | .gauge0 => (s.strCh ch).st ≠ .absent
  | .gauge1 => (s.strCh 0).st ≠ .absent || (s.strCh 1).st ≠ .absent
  | .dom0 => (s.domCh ch).running
  | .dom1 | .dom2 => (List.range 16).any fun k => (s.domCh k).running
  | .feed0 => (s.portCh ch).running
  | .feed1 => (List.range 24).any fun k => (s.portCh k).running
  | .link0 | .link1 => s.flag Fld.Link.LINK_EN
  | .pd0 => (s.pdCh ch).running
  | .seq0 => s.seq.st = .running
  | .seq1 => s.flag Fld.Seq.EN ch
  | .meas0 | .meas1 => true
  | .meas2 => s.fld Fld.Meas.MODE ch ≠ 0
  | .therm0 => s.flag Fld.Therm.FITTED ch
  | .skb0 => true

/-- A record's bytes with some of its fields replaced (index and raw value of each) (DEDUCED, log entry 83). -/
def applyVals (r : RecId) (vals : List (Nat × Nat)) (bs : List Byte) : List Byte :=
  vals.foldl (fun bs v =>
    match (fieldsOf r)[v.1]? with
    | some f => f.set v.2 bs
    | none => bs) bs

/-- R125: the boundary kind is the slower of the record's two. -/
def slowBnd (r : RecId) (b : Bnd) : Bool :=
  match r with
  | .rect0 => b = .zc
  | _ => b ≠ .sw

/-- R125, R173: a batch lands at this boundary. The values of the PFC and line set land when the section's ACK arrives; with
other values, at the LLC period end from there on (`State.landedAck`). -/
def Batch.due (r : RecId) (b : Bnd) (x : Batch) : Bool :=
  match r with
  | .rect0 => if b = .zc then x.slow else x.fast && (!x.slow || x.slowDone)
  | _ => if b = .sw then x.fast && (!x.slow || x.slowDone) else x.slow && !x.fast

/-- R125: the slower boundary has passed for a batch. -/
def Batch.pass (r : RecId) (b : Bnd) (x : Batch) : Batch :=
  if slowBnd r b && x.slow && r ≠ .rect0 then { x with slowDone := true } else x

/-- R125: a boundary lands the L batches that are due, of those `go` selects, and the oldest armed commit if it is due; the
easel, which may have been set back to the live copy since (R67, R127), follows. -/
def RecCopy.landIf (go : Batch → Bool) (r : RecId) (b : Bnd) (c : RecCopy) : RecCopy :=
  let due (x : Batch) : Bool := x.due r b && go x
  let ls := c.pendL.filter due
  let hd := c.armed.head?.toList.filter due
  { c with
    live := (ls ++ hd).foldl (fun bs x => applyVals r x.vals bs) c.live
    easel := (ls ++ hd).foldl (fun bs x => applyVals r x.vals bs) c.easel
    pendL := (c.pendL.filter fun x => !due x).map (Batch.pass r b)
    armed := if hd.isEmpty then (c.armed.take 1).map (Batch.pass r b) ++ c.armed.drop 1 else c.armed.drop 1 }

/-- R125: a boundary lands what is due. -/
def RecCopy.land (r : RecId) (b : Bnd) (c : RecCopy) : RecCopy := c.landIf (fun _ => true) r b

/-- R173: the section's copy of record 0 holds the values of a batch that are its own. -/
def Batch.carried (sec : List Byte) (x : Batch) : Bool :=
  x.vals.all fun v =>
    match (fieldsOf .rect0)[v.1]? with
    | some f => f.bnd = .main || f.getRaw sec = v.2
    | none => true

/-- R123, R126: everything not yet landed goes into the live copy as the channel stops. -/
def RecCopy.landAll (r : RecId) (c : RecCopy) : RecCopy :=
  { c with
    live := (c.pendL ++ c.armed).foldl (fun bs x => applyVals r x.vals bs) c.live
    easel := (c.pendL ++ c.armed).foldl (fun bs x => applyVals r x.vals bs) c.easel
    pendL := []
    armed := [] }

/-- R126, R296: the batches of the phase table that `sel` selects land. -/
def RecCopy.landPhases (sel : Batch → Bool) (c : RecCopy) : RecCopy :=
  let go := (c.pendL ++ c.armed).filter sel
  { c with
    live := go.foldl (fun bs x => applyVals .dom1 x.vals bs) c.live
    easel := go.foldl (fun bs x => applyVals .dom1 x.vals bs) c.easel
    pendL := c.pendL.filter fun x => !sel x
    armed := c.armed.filter fun x => !sel x }

/-- The records of a block, with the channel of each copy; 31 stands for a block-wide record. -/
def recsOf (blk : Nat) : List (RecId × Nat) :=
  (allRecs.filter fun r => recBlock r = blk).flatMap fun r =>
    if recWide r then [(r, 31)] else (List.range (recChans r)).map fun ch => (r, ch)

/-- The copies of a record at a place of `recsOf`. -/
def State.copyAt (s : State) (x : RecId × Nat) : RecCopy := s.copy x.1 (if x.2 = 31 then 0 else x.2)


/-- The channels of a block (31: block-wide) on which commit `id` has not landed. -/
def State.armedOn (s : State) (blk id : Nat) : List Nat :=
  (recsOf blk).flatMap fun x =>
    ((s.copyAt x).armed.filter fun b => b.id = id).map fun b => if x.1 = .dom1 then b.own else x.2

/-- Blocks with an easel (R128); that of block 0x02 holds the options of HIF_CONFIG (R102) (DEDUCED, log entry 70). -/
def easelBlocks : List Nat := [0x02, 0x07, 0x08, 0x09, 0x0A, 0x0B, 0x0C, 0x0D, 0x0E, 0x0F, 0x10, 0x11, 0x12]

/-- The status of each entry of a waiting MULTI_COMMIT, whose own bytes are the first commit's number (4), then block
and status of each entry: 0xFF while it has not landed (R128). -/
def State.multiNow (s : State) (w : Wait) : List Byte :=
  let id := u w.data 0 4
  w.data.take 4 ++ (List.range ((w.data.length - 4) / 2)).flatMap fun e =>
    let blk := u w.data (4 + 2 * e) 1
    let stt := u w.data (5 + 2 * e) 1
    [byte blk, byte (if stt = 0xFF ∧ s.armedOn blk (id + e) = [] then st.ok else stt)]

/-- The statuses in a MULTI_COMMIT's bytes (DEDUCED, log entry 74). -/
def multiStatuses (data : List Byte) : List Byte :=
  (List.range ((data.length - 4) / 2)).map fun e => data.getD (5 + 2 * e) 0

/-- R126, R128: commit commands whose every channel has landed reply. -/
def State.wakeCommits (s : State) : State :=
  let s := s.judge (fun w => w.op % 256 = 0xE1) fun w k =>
    if k ∈ s.armedOn (w.op / 256) (u w.own 0 4) then none else some st.ok
  let s := s.onHif fun h =>
    { h with waits := h.waits.map fun w => if w.op = 0x0301 then { w with data := s.multiNow w } else w }
  s.wake (fun w => w.op = 0x0301 && (multiStatuses w.data).all fun b => b ≠ 0xFF) fun w =>
    let sts := multiStatuses w.data
    (if sts.all fun b => b = 0 then st.ok else st.partly, sts)

/-- R124: an accepted write advances a block's GEN, which wraps from 0xFFFF to 1 (DEDUCED, log entry 73). -/
def State.bumpGen (blk : Nat) (s : State) : State :=
  s.onCfg fun c => { c with gen := upd c.gen (fin 21 blk) fun g => if g = 0xFFFF then 1 else g + 1 }

/-- The live value of a field before a change. -/
abbrev Field.was (f : Field) (old : List Byte) : Nat := f.getRaw old

/-- R132, R235: a string's charger starts its profile at INITIAL, keeping its counts. -/
def StrCh.toInitial (now initial : Nat) (c : StrCh) : StrCh :=
  { c with ps := initial, tPs := now, psHeld := 0, holds := [0, 0, 0] }

/-- A DOM_VOUT, or a margin action of DOM_CONTROL (R280). -/
def Wait.retargets (w : Wait) : Bool := w.op = 0x0B02 || (w.op = 0x0B01 && 5 ≤ u w.own 0 1)

/-- R280: a later change of a domain's target overtakes the ones that have landed and not arrived: the last of their
bytes says so (DEDUCED, log entry 74). -/
def State.supersede (k : Nat) (s : State) : State :=
  s.onHif fun h =>
    { h with
      waits := h.waits.map fun w =>
        if w.retargets && w.left.testBit k && w.started.testBit k then
          ({ w with data := w.data.set (w.data.length - 1) 1 }).mark k st.ok
        else w }

/-- R280, R300: domain commands with no domain left reply, with the reference at this instant.
(DEDUCED, log entry 97.) -/
def State.domAnswer (s : State) : State :=
  s.wake (fun w => (w.op = 0x0B01 || w.op = 0x0B02) && w.left = 0) fun w =>
    let k := ((maskBits 16 w.started).head?).getD 0
    let c := s.domCh k
    let past := u w.data (w.data.length - 1) 1
    let res := if past = 1 then 2 else if w.mode = 0 ∧ c.st ≠ .on ∧ c.st ≠ .softStart then 3 else 1
    let data := [byte res, 0, 0, 0] ++ toLE 4 (if w.mode = 0 then s.domRef k else 0)
    selReply ⟨w.mode, 0⟩ w.failed w.cause (if w.retargets then data else [])

/-- R279: the reference of a domain turned toward its target at the slew rate in force. -/
def State.turned (s : State) (k slew : Nat) : Ramp :=
  { from_ := s.domRef k, goal := 1000 * s.domTarget k, num := if slew = 0 then s.fld Fld.Dom.SLEW k else slew, den := 10,
    t0 := s.now }

/-- R278–R280: a domain's target has changed: in ON the reference turns toward it. The commands it overtakes are answered at
this boundary. -/
def State.domRetarget (k slew : Nat) (s : State) : State :=
  let s := (s.supersede k).domAnswer
  let s := s.onDomCh k fun c => { c with slew := slew }
  if (s.domCh k).st = .on then s.onDomCh k fun c => { c with ref := s.turned k slew } else s

/-- R123, R126, R245: the values of a record whose landing does nothing more are live at once as its channel stops. -/
def State.plainStopped (r : RecId) (ch : Nat) (s : State) : State :=
  let c := s.copy r ch
  if (c.pendL.isEmpty && c.armed.isEmpty) || s.running r ch then s else (s.onCopy r ch fun _ => c.landAll r).wakeCommits

/-- What a value does at the moment it becomes live, beyond being used from then on. `old` is the record before. -/
def State.landed (r : RecId) (ch : Nat) (old : List Byte) (s : State) : State :=
  let ch' (f : Field) : Bool := f.was old ≠ s.fld f ch
  match r with
  | .rect0 =>
    let c := s.rectCh ch
    let s :=
      if ch' Fld.Rect.PRESENT then
        if s.flag Fld.Rect.PRESENT ch then
          if c.st = .off ∧ c.linked then
            s.onRectCh ch fun c =>
              { c with st := if s.flag Fld.Rect.AUTO_START ch then .listen else .disabled, tState := s.now }
          else s
        else s.onRectCh ch fun c =>
          { c with
            st := .off, tState := s.now, autoAt := none, qualFrom := none, ordered := false, relay := false, pfc := false
            llc := false, burst := false, idle := false, primPct := 100 }
      else s
    if s.flag Fld.Rect.PRED_EN ch then s else s.onRectCh ch fun c => { c with armed := false, goodHalf := 0 }
  | .bus0 =>
    if (ch' Fld.Bus.BUS_SET_MV ∨ ch' Fld.Bus.STBY_OFFSET_MV) ∧
        s.fld Fld.Bus.BUS_SET_MV < 44000 + s.fld Fld.Bus.STBY_OFFSET_MV then s.raise 0x0806
    else s
  | .bus1 =>
    if ch' Fld.Bus.PRESENT then
      s.onAuxCh ch fun c =>
        { c with
          st := if !s.flag Fld.Bus.PRESENT ch then .off else if !s.flag Fld.Bus.AUTO_ENABLE ch then .disabled
            else if c.inWin then .delay else .absent, tState := s.now }
    else s
  | .chg0 =>
    let s :=
      if ch' Fld.Chg.PRESENT then
        s.onStrCh ch fun c =>
          { c with
            st := if !s.flag Fld.Chg.PRESENT ch then .absent
              else if s.flag Fld.Chg.AUTO_CONNECT ch then .opened else .disabled,
            tState := s.now, lowRaised := false }
      else s
    let s := if ch' Fld.Chg.PROFILE then s.onStrCh ch fun c => c.toInitial s.now (u (s.profile ch) 2 1) else s
    let s := s.onGaugeCh ch fun g => if g.fccOwn then g else { g with fcc := s.fld Fld.Chg.RATED_MAH ch }
    if ch' Fld.Chg.PRESENT then (s.plainStopped .gauge0 ch).plainStopped .gauge1 0 else s
  | .dom0 =>
    if (ch' Fld.Dom.VOUT_MV ∧ (s.domCh ch).margin = 0) ∨ (ch' Fld.Dom.MARGIN_LOW_MV ∧ (s.domCh ch).margin = 1) ∨
        (ch' Fld.Dom.MARGIN_HIGH_MV ∧ (s.domCh ch).margin = 2) then s.domRetarget ch 0
    else s
  | .feed0 =>
    if ch' Fld.Feed.PRESENT then
      s.onPortCh ch fun c =>
        { c with st := if s.flag Fld.Feed.PRESENT ch then .off else .absent, tState := s.now, enable := false }
    else s
  | .link0 =>
    if ch' Fld.Link.LINK_EN then
      if s.flag Fld.Link.LINK_EN then
        s.onLink fun l => { l with port := Vector.ofFn fun p => s.portFrom p.val }
      else
        s.onLink fun l =>
          { l with port := Vector.replicate 3 { LinkPort.reset with line := .down }, role := 0, tRole := s.now,
                   rootAddr := 0, heldDec := [], flight := none, asm := [], capping := 2, gen := 2,
                   seen := false, missNow := false, electDue := false, everSeen := false, missedRun := 0, yielding := false,
                   best := none, claimed := false, outSeq := none, merge := [], wrapped := false, restoreDue := false,
                   joining := 0, mismatch := false, risk := [], pathDelay := 0, trim := 0 }
    else s
  | .pd0 =>
    let st := (s.pdCh ch).st
    let enter (st : TcState) : State :=
      let r := s.advert ch
      s.onPdCh ch fun c => { c with st := st, tState := s.now, rp := if st = .unattachedSrc then r else 0 }
    if ch' Fld.Pd.PRESENT then enter (if s.flag Fld.Pd.PRESENT ch then s.unattachedOf ch else .disabled)
    else if ch' Fld.Pd.ROLE ∧ st ≠ .disabled ∧ st ≠ .errorRecovery ∧ !(s.pdCh ch).running then enter (s.unattachedOf ch)
    else s
  | .seq1 =>
    if ch' Fld.Seq.EN then s.onSeq fun q => { q with em := upd q.em (fin 16 ch) fun m => { m with out := false, count := 0 } }
    else s
  | .meas2 =>
    s.onMeas fun m =>
      { m with cc := upd m.cc (fin 8 ch) fun c =>
          if ch' Fld.Meas.MODE then
            { c with
              tZero := s.now, rises := 0, widthOk := false, period := s.fld Fld.Meas.PERIOD ch,
                compare := s.fld Fld.Meas.COMPARE ch,
              out := s.fld Fld.Meas.MODE ch = 1 && (decide (0 < s.fld Fld.Meas.COMPARE ch) != s.flag Fld.Meas.POL ch) }
          else c }
  | .skb0 =>
    if s.flag Fld.Skb.CAP_EN then
      if ch' Fld.Skb.CAP_SET then
        (s.onSkb fun k =>
          { k with areas := k.areas.map fun a => if a.phase = .recording then Area.free else a }).arm
      else s.arm
    else
      s.onSkb fun k => { k with areas := k.areas.map fun a => if a.phase = .recording then Area.free else a }
  | .rect1 | .gauge0 | .gauge1 | .dom1 | .dom2 | .feed1 | .link1 | .seq0 | .meas0 | .meas1 | .therm0 => s

/-- The copies of a record change, and what became live takes its effect. -/
def State.setCopy (r : RecId) (ch : Nat) (c : RecCopy) (s : State) : State :=
  let old := (s.copy r ch).live
  let s := s.onCopy r ch fun _ => c
  if c.live = old then s else s.landed r ch old

/-- R123, R126: a channel that has stopped takes its values into the live copy at once (DEDUCED, log entry 67). -/
def State.landStopped (r : RecId) (ch : Nat) (s : State) : State :=
  let c := s.copy r ch
  if c.pendL.isEmpty && c.armed.isEmpty then s
  else if r = .dom1 then
    (s.setCopy r ch (c.landPhases fun x => !(x.own < 16 && (s.domCh x.own).running))).wakeCommits
  else if s.running r ch then s
  else (s.setCopy r ch (c.landAll r)).wakeCommits

/-- R518: the block-wide records that follow a channel's record stop with the last of the channels. -/
def wideOf (r : RecId) : List RecId :=
  match r with
  | .rect0 => [.rect1]
  | .bus1 => [.bus0]
  | .gauge0 => [.gauge1]
  | .dom0 => [.dom1, .dom2]
  | .feed0 => [.feed1]
  | _ => []

/-- A channel has changed state: if it stopped, its records and those that stop with it settle (R123, R518). -/
def State.settleStop (r : RecId) (ch : Nat) (s : State) : State :=
  (s.landStopped r ch).each (wideOf r) fun w s => s.landStopped w 0

/-- R427: the accepted corrections of the elements that `p` selects land (DEDUCED, log entry 115). -/
def State.fieldLand (p : Nat → Bool) (s : State) : State :=
  if s.meas.landing.isEmpty then s
  else
    s.onMeas fun m =>
      let go := m.landing.filter fun c => p c.1
      { m with
        landing := m.landing.filter fun c => !p c.1
        field := (m.field.filter fun c => !(go.any fun d => d.1 = c.1 ∧ d.2.1 = c.2.1)) ++ go }

/-- R421, R427: the boundary of the elements that `p` selects: their corrections land and their trims are loaded. -/
def State.calLand (p : Nat → Bool) (s : State) : State := (s.fieldLand p).trimLoads p

/-- R125: a boundary of a record of a channel. -/
def State.boundary (r : RecId) (ch : Nat) (b : Bnd) (s : State) : State :=
  let c := s.copy r ch
  if c.pendL.isEmpty && c.armed.isEmpty then s
  else ((s.setCopy r ch (c.land r b)).landStopped r ch).wakeCommits

/-- R173: the ACK with LANDED: the values that the section holds by now become live. Of a commit that holds others too they
wait for the LLC period end, unless the section copied both sets there or the LLC is idle. -/
def State.landedAck (k : Nat) (s : State) : State :=
  let c := s.copy .rect0 k
  let b := (s.rectCh k).bar
  let whole : Bool := b.landedSet = 2 || !(s.rectCh k).llc
  let mine := Batch.carried b.secRec
  let mark (x : Batch) : Batch := if mine x then { x with slowDone := true } else x
  if c.pendL.isEmpty && c.armed.isEmpty then s
  else
    let c := c.landIf (fun x => mine x && (whole || !x.fast)) .rect0 .zc
    let c := { c with pendL := c.pendL.map mark, armed := (c.armed.take 1).map mark ++ c.armed.drop 1 }
    ((s.setCopy .rect0 k c).landStopped .rect0 k).wakeCommits

/-- R125, R173: an LLC period end, or a heartbeat with the LLC idle, for the channel's record: what the section holds, or
what the control die alone holds, lands. -/
def State.rectBoundary (k : Nat) (s : State) : State :=
  let c := s.copy .rect0 k
  if c.pendL.isEmpty && c.armed.isEmpty then s
  else
    let c := c.landIf (Batch.carried (s.rectCh k).bar.secRec) .rect0 .sw
    ((s.setCopy .rect0 k c).landStopped .rect0 k).wakeCommits

/-- R148, R474: the scrub band follows the active bank from the next scheduling of a scrub. -/
def State.scrubAdopt (s : State) : State := if s.pal.pending.testBit 10 then (s.adopt 10 0).ctrlBand else s

/-- R148, R336: under PLANT the capping table is adopted at the share tick of the decision that names it, once that is
known; a node that applies no decision adopts at its next share tick (DEDUCED, log entry 68). -/
def State.plantReady (s : State) : Bool :=
  match s.pal.plant with
  | none => true
  | some t => s.link.capping = 1 || s.link.capping = 2 || (t ≠ 0 && t ≤ s.now)

/-- R125: a commit was made no later than another. -/
def Batch.older (x y : Batch) : Bool := x.since < y.since || (x.since = y.since && x.id ≤ y.id)

/-- R125, R296: the oldest commit armed on a domain, in its record or in its entries of the phase table. -/
def State.domOldest (s : State) (k : Nat) : Option Batch :=
  ((s.copy .dom0 k).armed ++ (s.copy .dom1 0).armed.filter fun x => x.own = k).foldl (fun m x =>
    match m with
    | some y => if y.older x then some y else some x
    | none => some x) none

/-- R125, R296: a boundary of a domain, for its record and the phase-table entries it owns: their L values land, and of the
armed commits the oldest one, whole, is not merged with the next. -/
def State.domLand (k : Nat) (s : State) : State :=
  let go (x : Batch) : Bool := x.id = 0 || (s.domOldest k).map (·.id) = some x.id
  let c := s.copy .dom0 k
  let p := s.copy .dom1 0
  let s := if c.pendL.isEmpty && c.armed.isEmpty then s else s.setCopy .dom0 k (c.landIf go .dom0 .main)
  let s := if p.pendL.isEmpty && p.armed.isEmpty then s else s.setCopy .dom1 0 (p.landPhases fun x => x.own = k && go x)
  ((s.landStopped .dom0 k).calLand (s.elemDom k)).wakeCommits

end Sys2Proof.Machine
end

