-- ==== Sys2Proof/Machine/Bus.lean ====
section
/-! DEFINITION. The bus controller's state and the auxiliary inputs (chapter 8). The selection of sources runs at the
10 µs tick, in BusTick. -/

namespace Sys2Proof.Machine

/-- R186: the bus state that the conditions give, in table order. -/
def State.busState (s : State) : BState :=
  let r (st : RState) : Bool := (s.rectCh 0).st = st || (s.rectCh 1).st = st
  let a (st : AState) : Bool := (s.auxCh 0).st = st || (s.auxCh 1).st = st
  if s.bus.uv || !s.bus.held then .dead
  else if r .run then .mains
  else if r .walkIn || r .autonomous then .mainsWalkIn
  else if a .on then .aux
  else if a .walkIn || a .coldConnect then .auxWalkIn
  else .outage

/-- R186: some source holds the bus. -/
def State.busHeld (s : State) : Bool :=
  let r (st : RState) : Bool := (s.rectCh 0).st = st || (s.rectCh 1).st = st
  r .run || r .walkIn || r .autonomous || (s.auxCh 0).running || (s.auxCh 1).running || 0 < s.standbys

/-- R186: the states a hand-over leaves. -/
def BState.holds (b : BState) : Bool := b = .mains || b = .mainsWalkIn || b = .aux || b = .auxWalkIn

/-- R186, R490: the bus state follows its conditions; a hand-over or a completed hand-back is recorded. -/
def State.busEval (s : State) : State :=
  let s := s.onBus fun b => { b with held := b.held || s.busHeld }
  let old := s.bus.st
  let new := s.busState
  if new = old then s
  else
    let s := s.onBus fun b =>
      { b with
        st := new, tState := s.now,
        handing := decide (new = .outage) && old.holds
        handovers := if new = .outage then satAdd 0xFFFF b.handovers 1 else b.handovers,
        handbacks := if new = .mains ∨ new = .aux then satAdd 0xFFFF b.handbacks 1 else b.handbacks }
    let s := if old = .dead then s.settle fun a => a.code = 0x0802 else s
    if new = .outage ∧ old.holds then s.raise 0x0803
    else if new = .mains ∨ new = .aux then s.raise 0x0804 else s

/-- R185: i_ff is set from a sum of currents to take over (mA); it rises over 50 µs. With none in hot standby, or
PREPOS_PCT 0, nothing is pre-positioned and the sum is kept. -/
def State.ffStart (sum : Nat) (s : State) : State :=
  let n := s.standbys
  let pct := s.fld Fld.Bus.PREPOS_PCT
  s.onBus fun b =>
    { b with ff :=
        if n = 0 ∨ pct = 0 then { Ff.none with sum := sum }
        else { mode := .rise, val := pct * sum / (100 * n), from_ := s.iff, t0 := s.now, sum := sum, n := n } }

/-- The channels in WALK_IN or RUN whose DROP is asserted. -/
def State.dropped (s : State) : List Nat :=
  (List.range 2).filter fun k => (s.rectCh k).bar.drop && (s.rectCh k).delivers

/-- R185: the output currents of the predicted channels, mA. -/
def State.dropSum (s : State) : Nat := (s.dropped.map fun k => (s.rectCh k).iOut.toNat).sum

/-- R185: a string has entered hot standby while DROP stays asserted: i_ff is computed with the new n and applied at once. -/
def State.ffJoin (s : State) : State :=
  if (s.bus.ff.mode = .none ∨ s.bus.ff.mode = .rise) ∧ 0 < s.bus.ff.sum ∧ !s.dropped.isEmpty ∧ s.bus.ff.n < s.standbys then
    let s := s.ffStart s.dropSum
    s.onBus fun b => { b with ff := { b.ff with from_ := b.ff.val } }
  else s

/-- R185: DROP is released without a loss. -/
def State.ffRelease (s : State) : State :=
  s.onBus fun b =>
    { b with ff := if b.ff.mode = .none then Ff.none else { b.ff with mode := .fall, val := s.iff, t0 := s.now, sum := 0 } }

/-- R185: a predicted channel enters LOST; `other` says that another channel is in WALK_IN or RUN. -/
def State.ffLost (other : Bool) (s : State) : State :=
  s.onBus fun b =>
    { b with ff :=
        if b.ff.mode = .none then Ff.none
        else if other then { b.ff with mode := .fallLost, val := s.iff, t0 := s.now, sum := 0 }
        else { b.ff with mode := .kept, val := if b.ff.mode = .rise then b.ff.val else s.iff, sum := 0 } }

/-- R183–R185, R195, R196: the bus has reached V_STBY as the strings' loop regulates it: their reference, where it is still
slewing, and V_STBY itself (DEDUCED, log entry 88). -/
def State.atStby (s : State) : Bool := 1000 * s.vBus ≤ s.bus.ref && s.vBus ≤ s.vStby

/-- R185: i_ff is cut above V_HOLD + 500 mV, and presets the integrators once the bus reaches V_STBY after a loss; a fall
ends after 10 ms. -/
def State.ffJudge (s : State) : State :=
  let f := s.bus.ff
  if f.mode = .none then s
  else if s.vHold + 500 < s.vBus then s.onBus fun b => { b with ff := Ff.none }
  else if (f.mode = .fall ∨ f.mode = .fallLost) ∧ f.t0 + ms 10 ≤ s.now then s.onBus fun b => { b with ff := Ff.none }
  else if (f.mode = .kept ∨ f.mode = .fallLost) ∧ s.atStby then
    let v := s.iff
    let s := s.onStr fun b =>
      { b with ch := b.ch.map fun c => if c.standby then { c with integ := v, preset := true } else c }
    s.onBus fun b => { b with ff := Ff.none }
  else s

/-- R190: an auxiliary input's switch is on. -/
abbrev AuxCh.closed (c : AuxCh) : Bool := c.running

/-- R190, R194, R196, R206, R490: an auxiliary input enters a state. One lost while it is being opened on purpose keeps the
pre-positioned current until the bus reaches V_STBY, as at the opening; a disable that opened it is carried out
(DEDUCED, log entry 151). -/
def State.auxTo (k : Nat) (st : AState) (s : State) : State :=
  let was := (s.auxCh k).running
  let opening := (s.auxCh k).opening
  let st := if (opening.map fun p => decide (p.2 = .disabled)).getD false then .disabled else st
  let s := s.onAuxCh k fun c =>
    { c with
      st := st, tState := s.now, walk := 0, opening := none, gap := false,
      vin := if st = .matching ∨ st = .coldConnect then (s.auxV k).toNat else c.vin,
      tOff := if was ∧ !(st = .walkIn ∨ st = .coldConnect ∨ st = .on) then some s.now else c.tOff }
  let s := if (s.auxCh k).running ≠ was then s.onAuxCh (1 - k) fun c => { c with gap := false } else s
  let s := if opening.isSome then s.ffLost false else s
  let s := if (s.auxCh k).running ∧ !was then s.settleCh 0x08 k else s
  (s.settleStop .bus1 k).busEval

/-- R187: every READY input returns to QUALIFIED when a channel enters RUN or an input enters ON.
(DEDUCED, log entry 90.) -/
def State.readyBack (s : State) : State :=
  s.each (List.range 2) fun k s => if (s.auxCh k).st = .ready then s.auxTo k .qualified else s

/-- R194: the other switch is off, and the gap after it turned off has passed for input `k`. -/
def State.gapOk (s : State) (k : Nat) : Bool :=
  !(s.auxCh (1 - k)).running &&
    ((s.auxCh k).gap || ((s.auxCh (1 - k)).tOff.map fun t => decide (t + us (s.fld Fld.Bus.BBM_GAP_US) ≤ s.now)).getD true)

/-- R193: a trip of an auxiliary input; the fourth within 10 minutes latches it. -/
def State.auxTrip (k code : Nat) (s : State) : State :=
  let trips := recent s.now (sec 600) (s.auxCh k).trips
  let s := s.onAuxCh k fun c => { c with trips := trips }
  if 4 ≤ trips.length then ((s.auxTo k .latched).raise code k).raise 0x0815 k
  else (s.auxTo k .fault).raise code k

/-- R196: the bus controller opens an input's switch on purpose, after pre-positioning over 50 µs; with PREPOS_PCT 0 or
no string in hot standby it opens at once. -/
def State.auxOpen (k : Nat) (to_ : AState) (s : State) : State :=
  let c := s.auxCh k
  if !(c.st = .on ∨ c.st = .walkIn) ∨ s.standbys = 0 ∨ s.fld Fld.Bus.PREPOS_PCT = 0 then s.auxTo k to_
  else
    match c.opening with
    | some _ => s.onAuxCh k fun c => { c with opening := c.opening.map fun p => (p.1, if p.2 = .disabled then p.2 else to_) }
    | none =>
      let s := s.ffStart (s.auxI k).toNat
      s.onAuxCh k fun c => { c with opening := some (s.now, to_) }

/-- R196: a pre-positioned opening completes 50 µs after it began; i_ff is kept until the bus reaches V_STBY. -/
def State.auxOpenDue (k : Nat) (s : State) : State :=
  match (s.auxCh k).opening with
  | some (t, to_) => if t + us 50 ≤ s.now then s.auxTo k to_ else s
  | none => s

/-- R52, R190: an auxiliary input enters its window; before firmware ready its gates stay pulled down and nothing follows. -/
def State.auxEnter (k : Nat) (s : State) : State :=
  let s := s.onAuxCh k fun c => { c with inWin := true }
  if (s.auxCh k).st = .absent ∧ !s.ctrlDown ∧ s.sys.fwReady then s.auxTo k .delay else s

/-- R190, R193, R207: an auxiliary input leaves its window, above OV_MV or below UV_MV (DEDUCED, log entry 86). -/
def State.auxExit (k : Nat) (ov : Bool) (s : State) : State :=
  let s := s.onAuxCh k fun c => { c with inWin := false }
  match (s.auxCh k).st with
  | .walkIn | .coldConnect | .on => (s.auxTo k .absent).raise (if ov then 0x0811 else 0x0810) k
  | .delay | .qualified | .ready | .matching => s.auxTo k .absent
  | .off | .disabled | .absent | .fault | .latched => s

/-- R182: the bus has been below BUS_UV_MV for 100 µs. -/
def State.busUnder (s : State) : State :=
  let was := s.bus.st
  let s := (s.onBus fun b => { b with uv := true }).busEval
  if was = .dead then s else s.raise 0x0802

/-- R182: an A6 bus sample lies outside the commitment window; the capture is triggered whatever CAP_SEV says. -/
def State.busLeave (s : State) : State :=
  if s.bus.outWin then s
  else
    (s.onBus fun b => { b with outWin := true }).raiseWith { force := true } 0x0801 blockWide

/-- R182: the bus, mV, has been below BUS_UV_MV for `held`, µs. -/
def execBusUndervoltage (v held : Nat) (s : State) : Host.Outcome State Fault Refusal :=
  .next (if v < s.fld Fld.Bus.BUS_UV_MV ∧ 100 ≤ held then s.busUnder else s)

/-- R182: an A6 bus sample, mV. -/
def execBusWindowExit (v : Nat) (s : State) : Host.Outcome State Fault Refusal :=
  .next (if 44000 ≤ v ∧ v ≤ 57600 then s else s.busLeave)

/-- R190: V_IN, mV, enters the window. -/
def execAuxWindowEnter (k : Fin 2) (v : Nat) (s : State) : Host.Outcome State Fault Refusal :=
  let h := s.fld Fld.Bus.HYST_MV k
  .next (if s.fld Fld.Bus.UV_MV k + h ≤ v ∧ v + h ≤ s.fld Fld.Bus.OV_MV k then s.auxEnter k else s)

/-- R190, R193: V_IN, mV, leaves the window: above OV_MV at once, or below UV_MV for `held`, µs. -/
def execAuxWindowExit (k : Fin 2) (v held : Nat) (s : State) : Host.Outcome State Fault Refusal :=
  .next (if s.fld Fld.Bus.OV_MV k < v then s.auxExit k true
    else if v < s.fld Fld.Bus.UV_MV k ∧ s.fld Fld.Bus.UV_FILT_US k ≤ held then s.auxExit k false
    else s)

/-- R190: INSERT_MS elapses. -/
def execAuxInsertDone (k : Fin 2) (s : State) : Host.Outcome State Fault Refusal :=
  .next (if (s.auxCh k).st = .delay ∧ s.sys.fwReady then
    (s.advanceTo ((s.auxCh k).tState + ms (s.fld Fld.Bus.INSERT_MS k))).auxTo k .qualified else s)

/-- The rectifier channels in LLC_START, WALK_IN or RUN, or in an autonomous start. -/
def State.rectComing (s : State) : Bool :=
  (List.range 2).any fun k =>
    let c := s.rectCh k
    c.st = .llcStart || c.delivers || c.st = .autonomous

/-- R191: the strings' reference has arrived at V_IN − AUX_WALK_MV. -/
def State.auxMatched (s : State) (k : Nat) : Bool :=
  s.bus.ref = 1000 * ((s.auxCh k).vin - s.fld Fld.Bus.AUX_WALK_MV)

/-- R13, R191, R194: the strings' reference has arrived and the gap has elapsed. -/
def execAuxMatchDone (k : Fin 2) (s : State) : Host.Outcome State Fault Refusal :=
  .next (if (s.auxCh k).st = .matching ∧ s.auxMatched k ∧ s.gapOk k ∧ !s.rectComing then s.auxTo k .walkIn else s)

/-- R191–R193: the current limit of an input's switch, mA: P_WALK / V_IN in WALK_IN, INRUSH_MA in COLD_CONNECT, ILIM_MA in ON. -/
def State.auxLimit (s : State) (k : Nat) : Nat :=
  let c := s.auxCh k
  match c.st with
  | .walkIn => c.walk / (100 * max 1 c.vin)
  | .coldConnect => s.fld Fld.Bus.INRUSH_MA k
  | .on => s.fld Fld.Bus.ILIM_MA k
  | .off | .disabled | .absent | .delay | .qualified | .matching | .ready | .fault | .latched => 0

/-- R191: the input's current, mA, has been below its limit for `held`, µs: 1 ms. -/
def execAuxWalkInDone (k : Fin 2) (i held : Nat) (s : State) : Host.Outcome State Fault Refusal :=
  .next (if (s.auxCh k).st = .walkIn ∧ i < s.auxLimit k ∧ 1000 ≤ held then (s.auxTo k .on).readyBack else s)

/-- R192: V_IN, mV, is less than 300 mV above the bus. -/
def execColdConnectDone (k : Fin 2) (v : Nat) (s : State) : Host.Outcome State Fault Refusal :=
  .next (if (s.auxCh k).st = .coldConnect ∧ v < s.vBus + 300 then (s.auxTo k .on).readyBack else s)

/-- R192, R193: SOA_MS expires in COLD_CONNECT, or in ON with the current at its limit for `held`, ms. -/
def execAuxSoaTrip (k : Fin 2) (held : Nat) (s : State) : Host.Outcome State Fault Refusal :=
  let c := s.auxCh k
  let soa := s.fld Fld.Bus.SOA_MS k
  .next (if c.st = .coldConnect then (s.advanceTo (c.tState + ms soa)).auxTrip k 0x0812
    else if c.st = .on ∧ soa ≤ held then s.auxTrip k 0x0812
    else s)

/-- R193: the current, mA, reaches FAST_MA. -/
def execAuxFastTrip (k : Fin 2) (i : Nat) (s : State) : Host.Outcome State Fault Refusal :=
  .next (if (s.auxCh k).running ∧ s.fld Fld.Bus.FAST_MA k ≤ i then s.auxTrip k 0x0813 else s)

/-- R193: a current, mA, of more than 2 A into the source for `held`, µs. -/
def execAuxReverseTrip (k : Fin 2) (i : Int) (held : Nat) (s : State) : Host.Outcome State Fault Refusal :=
  .next (if (s.auxCh k).running ∧ i < -2000 ∧ 10 ≤ held then s.auxTrip k 0x0814 else s)

/-- R193, R441: RETRY_S elapses; during a control-die shutdown the input is held in ABSENT. -/
def execAuxRetry (k : Fin 2) (s : State) : Host.Outcome State Fault Refusal :=
  .next (if (s.auxCh k).st = .fault then
    (s.advanceTo ((s.auxCh k).tState + sec (s.fld Fld.Bus.RETRY_S k))).auxTo k (if s.ctrlDown then .absent else .delay) else s)

/-- R194: BBM_GAP_US has passed since the other switch turned off. -/
def execBbmGapDone (k : Fin 2) (s : State) : Host.Outcome State Fault Refusal :=
  let other := s.auxCh (1 - k.val)
  .next (
    match other.tOff with
    | some t =>
      if other.running then s
      else (s.advanceTo (t + us (s.fld Fld.Bus.BBM_GAP_US))).onAuxCh k fun c => { c with gap := true }
    | none => s)

/-- R205. -/
def execBusStatus (o : Origin) (p : List Byte) (s : State) : Host.Outcome State Fault Refusal :=
  .next (s.report o 0x0801 (param p.isEmpty) State.busStatus)

/-- R206: the refusal of an action by an input's own state. -/
def State.auxRefuse (s : State) (action k : Nat) : Nat :=
  let c := s.auxCh k
  if !s.flag Fld.Bus.PRESENT k then st.state
  else if action = 1 then (if c.st = .disabled then st.ok else st.state)
  else if action = 3 then (if c.st = .latched ∨ c.st = .fault then st.ok else st.state)
  else st.ok

/-- R206, R441: an action of AUX_CONTROL at the input's metering slot; a control-die shutdown holds the input in ABSENT. -/
def State.auxAct (k : Nat) (own : List Byte) (s : State) : Nat × State :=
  let action := u own 0 1
  let c := s.auxCh k
  if s.auxRefuse action k ≠ st.ok then (s.auxRefuse action k, s)
  else if action = 1 then (st.ok, s.auxTo k (if c.inWin && !s.ctrlDown then .delay else .absent))
  else if action = 2 then (st.ok, s.auxOpen k .disabled)
  else
    (st.ok, (s.auxTo k (if s.ctrlDown then .absent else .delay) |>.onAuxCh k fun c => { c with trips := [] }).settleCh 0x08 k)

/-- R206: AUX_CONTROL commands whose new state has been entered reply. -/
def State.auxJudge (s : State) : State :=
  s.judge (fun w => w.op = 0x0802) fun w k =>
    if w.started.testBit k ∧ (u w.own 0 1 ≠ 2 ∨ (s.auxCh k).st = .disabled) then some st.ok else none

/-- R206, R316: the metering slot of an auxiliary input (DEDUCED, log entry 89). -/
def State.auxSlot (k : Nat) (s : State) : State :=
  ((s.serve 0x0802 k (fun own s => s.auxAct k own)).auxJudge).boundary .bus1 k .main |>.calLand (· = 560 + k)

/-- R206 (DEDUCED, log entry 89). -/
def execAuxControl (o : Origin) (p : List Byte) (s : State) : Host.Outcome State Fault Refusal :=
  let action := u p 2 1
  let sel := s.sel 0x08 (u p 0 2)
  .next (s.run o 0x0802 1
    (param (p.length = 4 ∧ 1 ≤ action ∧ action ≤ 3 ∧ u p 3 1 = 0 ∧ sel.isSome)) fun s =>
      s.selWait o 0x0802 (sel.getD ⟨0, 0⟩) [byte action] (s.auxRefuse action))

end Sys2Proof.Machine
end

