-- ==== Sys2Proof/Machine/Rect.lean ====
section
/-! DEFINITION. The rectifier channels (chapter 7): their states, the line, the predictor, capacity, walk-in, sharing
and protections. The barrier link is in Barrier. -/

namespace Sys2Proof.Machine

/-- A field of the section's own copy of record 0 (R172, R173). -/
def State.secF (s : State) (f : Field) (k : Nat) : Nat := f.getRaw (s.rectCh k).bar.secRec

/-- R151: LOST or OFF is entered, or a silence is met, without a loss fault; nothing is recorded while the control die
is in power-on reset, or of an absent channel (R152). -/
def State.rectNote (k : Nat) (s : State) : State :=
  if s.sys.por ∨ !s.flag Fld.Rect.PRESENT k then s else s.raise 0x0713 k

/-- R151: the states between RELAY and RUN. -/
def RectCh.starting (c : RectCh) : Bool := c.st = .relay || c.st = .pfcRamp || c.st = .llcStart || c.delivers

/-- R166: the stage switches: the states of R151's trip row, AUTONOMOUS, and LOST while the LLC runs on. -/
def RectCh.switching (c : RectCh) : Bool := c.starting || c.st = .autonomous || (c.st = .lost && c.runOn)

/-- Some channel other than `k` is in WALK_IN or RUN (R185). -/
def State.otherDelivers (s : State) (k : Nat) : Bool := (s.rectCh (1 - k)).delivers

/-- Every gate off and the relay open. -/
def RectCh.gatesOff (c : RectCh) : RectCh :=
  { c with relay := false, pfc := false, llc := false, runOn := false, stopDue := false, sr := false, shedB := false,
           burst := false,
           idle := false, bulkHold := false, peakHold := false, primPct := 100, guard := 0, guardRun := 0 }

/-- R168, R171: the PFC and LLC gates stop; the relay stays as it is. -/
def RectCh.gatesStop (c : RectCh) : RectCh :=
  { c with pfc := false, llc := false, runOn := false, stopDue := false, sr := false, burst := false }

/-- R161: the prediction ends and its line is released. -/
def RectCh.endPrediction (c : RectCh) : RectCh :=
  { c with predicted := none, goodSince := 0, bar := { c.bar with drop := false } }

/-- R58: the LLC period of an autonomous start, 450 kHz, and the limit of its primary current, 25% of rated. -/
abbrev autoPeriod : Nat := 1111
abbrev autoPct : Nat := 25

/-- What entering a state does to the channel itself (R58, R150, R153, R155, R159, R160, R164). -/
def RectCh.enter (now : Nat) (st : RState) (c : RectCh) : RectCh :=
  let c := { c with st := st, tState := now, stRan := 0, ordered := false, llcHeld := false, softOff := false,
                    devSince := none }
  match st with
  | .off | .listen | .disabled | .latched =>
    let c := c.gatesOff.endPrediction
    { c with qualFrom := none, qualRan := 0, qualDone := none, armed := false, goodHalf := 0 }
  | .autonomous =>
    { c with relay := true, llc := true, pfc := false, burst := true, primPct := autoPct, autoAt := none
             bar := { c.bar with period := autoPeriod } }
  | .qualify =>
    let c := c.gatesOff.endPrediction
    { c with qualFrom := some now, qualRan := 0, qualDone := none, armed := false, goodHalf := 0,
             template := List.replicate 128 0,
             samples := [], bar := { c.bar with flt := false, fltWait := false } }
  | .relay => { c with relay := true }
  | .pfcRamp => { c with relay := true, pfc := true, llc := false, burst := false, primPct := 100, bulkFrom := c.bulk }
  | .llcStart => { c with llc := true }
  | .walkIn => { c with walk := 0, tWalk := now, srOff := false, goodHalf := 0, lowCount := 0, freqCount := 0,
                        shareOk := true, shareBad := none }
  | .run => c
  | .lost => { c with pfc := false, sr := false, armed := false, qualFrom := none, qualRan := 0, qualDone := none }

/-- R177: RECT_CONTROL commands that wait for a target state are judged. -/
def State.rectJudge (s : State) : State :=
  s.judge (fun w => w.op = 0x0701) fun w k =>
    let c := s.rectCh k
    if !w.started.testBit k then none
    else if u w.own 0 1 = 1 then
      if c.running then some st.ok
      else if c.st = .disabled ∨ c.st = .latched then some st.state
      else none
    else if u w.own 0 1 ≠ 2 then some st.ok
    else if c.st = .disabled then some st.ok
    else if c.softOff then none
    else some st.state

/-- R151, R168: a fault line whose FAULT frame has not arrived by now: its cause stays unknown. -/
def State.fltGone (k : Nat) (s : State) : State :=
  if (s.rectCh k).bar.fltWait then
    (s.onRectCh k fun c => { c with bar := { c.bar with fltWait := false } }).raise 0x0712 k
  else s

/-- R155: the first LLC period command of the soft-start, at LLC_FMAX_KHZ, 2 ns units; later commands lower the frequency. -/
def State.llcFirst (s : State) (k : Nat) : Nat := 500000 / max 1 (s.fld Fld.Rect.LLC_FMAX_KHZ k)

/-- What a state's entry takes from the configuration: QUAL_MS (R174), and the first command of the LLC soft-start (R155). -/
def State.rectTake (k : Nat) (st : RState) (c : RectCh) (s : State) : RectCh :=
  { c with
    qualMs := if st = .qualify then s.secF Fld.Rect.QUAL_MS k else c.qualMs
    bar := { c.bar with cmdPeriod := if st = .llcStart then s.llcFirst k else c.bar.cmdPeriod } }

/-- R338, R344: a channel's DROP, asserted before (`was`), is released: DROP_CLEAR is flooded, and a DROP for what is still
at risk (DEDUCED, log entry 102). -/
def State.dropCleared (k : Nat) (was : Bool) (s : State) : State :=
  if !was ∨ (s.rectCh k).bar.drop then s
  else
    let s := s.flood 3 0 0
    if s.dropped.isEmpty then s else s.flood 2 0 ((s.dropped.map fun j => s.pAvail j).sum / 1000)

/-- A rectifier channel enters a state (R150, R151); what follows at the bus and in the fault list follows here, and with a
DROP line that its entry releases (R185, R338). -/
def State.rectTo (k : Nat) (st : RState) (s : State) : State :=
  let s := if st = .qualify then s.fltGone k else s
  let was := s.rectCh k
  let s := s.onRectCh k fun c => s.rectTake k st (c.enter s.now st)
  let s := if was.delivers ∧ was.bar.drop ∧ !(s.rectCh k).bar.drop then s.ffRelease else s
  let s := s.dropCleared k was.bar.drop
  let s :=
    if st = .walkIn then
      ((s.settleCh 0x07 k).settle fun a => a.code = 0x070E).onBus fun b =>
        { b with rectRef := b.rectRef.set (fin 2 k).val (1000 * s.fld Fld.Bus.BUS_SET_MV) (fin 2 k).isLt }
    else s
  ((s.settleStop .rect0 k).busEval).rectJudge

/-- R151, R162: the channel enters LOST, or LATCHED on the fourth trip; after a confirmed loss the LLC runs on from the bulk,
otherwise every gate is off. A prediction in force is confirmed, or ends with the gates. -/
def State.rectLost (k : Nat) (confirmed : Bool) (s : State) (to_ : RState := .lost) : State :=
  let c := s.rectCh k
  let was := c.delivers
  let s := if was ∧ c.bar.drop then s.ffLost (s.otherDelivers k) else s
  let s := s.onRectCh k fun c =>
    { c with
      losses := if was ∧ to_ = .lost then satAdd 0xFFFF c.losses 1 else c.losses,
      predTrue := if confirmed ∧ c.predicted.isSome then satAdd 0xFFFF c.predTrue 1 else c.predTrue,
      predicted := none }
  let s := s.onRectCh k fun c => if confirmed then { c with runOn := true } else c.gatesOff.endPrediction
  (s.dropCleared k c.bar.drop).rectTo k to_

/-- R154: a confirmed loss of the line. -/
def State.lineLost (k code : Nat) (s : State) : State := (s.rectLost k true).raise code k

/-- R166, R151: a trip; the fourth within 60 s latches the channel. -/
def State.rectTrip (k code : Nat) (s : State) : State :=
  let trips := recent s.now (sec 60) (s.rectCh k).trips
  let s := s.rectLost k false (if 4 ≤ trips.length then .latched else .lost)
  let s := s.onRectCh k fun c => { c with trips := trips, bar := { c.bar with flt := true, fltWait := false } }
  let s := s.raise code k
  if 4 ≤ trips.length then s.raise 0x0711 k else s

/-- A trip condition is met while the stage switches (R166). -/
def State.rectTripIf (k code : Nat) (s : State) : State := if (s.rectCh k).switching then s.rectTrip k code else s

/-- R162: the LLC running on from the bulk stops; the relay opens and the DROP line is released. -/
def State.llcStop (k : Nat) (s : State) : State :=
  (s.onRectCh k fun c => c.gatesOff.endPrediction).dropCleared k (s.rectCh k).bar.drop

/-- R171: STOP is asserted to a section; one in AUTONOMOUS stays there with its gates off, and qualifies anew (DEDUCED, log
entry 80). -/
def State.stopAssert (k : Nat) (s : State) : State :=
  let s := s.onRectCh k fun c => { c with bar := { c.bar with stop := true } }
  let c := s.rectCh k
  if c.st = .qualify ∨ c.starting then (s.rectLost k false).rectNote k
  else if c.st = .lost then s.llcStop k
  else if c.st = .autonomous then
    s.onRectCh k fun c => { c.gatesStop with ordered := false, qualFrom := none, qualRan := 0 }
  else s

/-- R171: STOP is released; a channel waiting in QUALIFY requalifies in full from the first half-cycle in the window. The STOP
of a silence stays until the link is established again (R170), and that of a control-die shutdown until its end (R441). -/
def State.stopRelease (k : Nat) (s : State) : State :=
  if s.ctrlDown then s else s.onRectCh k fun c => { c with bar := { c.bar with stop := false } }

/-- R151: conditions under which the control die sends COMMAND start. -/
def State.startAllowed (s : State) (k : Nat) : Bool :=
  s.sys.fwReady && !(s.rectCh k).bar.stopped && !s.therm.mainsLatch && (s.rectCh k).linked

/-- R155: the bulk has reached 95% of the line peak. -/
def RectCh.precharged (c : RectCh) : Bool := 95 * c.peak ≤ 100 * c.bulk

/-- R151: QUALIFY ends in RELAY once the timer has run, the bulk is charged and the start command has been received. -/
def State.qualTry (k : Nat) (s : State) : State :=
  let c := s.rectCh k
  if c.st = .qualify ∧ c.qualDone.isSome ∧ c.ordered ∧ c.precharged then s.rectTo k .relay else s

/-- R57, R58, R151: the line has been in the window for QUAL_MS since the section's own qualification began. -/
def State.qualMet (s : State) (k : Nat) : Bool :=
  let c := s.rectCh k
  (c.qualFrom.map fun t => decide (ms c.qualMs ≤ s.now - t + c.qualRan)).getD false

/-- R58, R151, R171: a channel held in AUTONOMOUS passes to PFC_RAMP once firmware has ordered the start, its line has been
in the window for QUAL_MS since the section's own qualification began, and STOP is released. -/
def State.autoTry (k : Nat) (s : State) : State :=
  let c := s.rectCh k
  if c.st = .autonomous ∧ c.ordered ∧ c.linked ∧ !c.bar.stopped ∧ s.qualMet k then s.rectTo k .pfcRamp else s

/-- R58, R151, R152, R174: firmware ready reaches a channel: it orders the normal start of one held in AUTONOMOUS. `full`
says that a configuration was restored. -/
def State.rectReady (full : Bool) (k : Nat) (s : State) : State :=
  let c := s.rectCh k
  if !s.flag Fld.Rect.PRESENT k then (if c.st = .off then s else s.rectTo k .off)
  else if full ∧ !s.flag Fld.Rect.AUTO_START k ∧ c.linked ∧ (c.running ∨ c.st = .autonomous) then
    s.rectTo k .disabled
  else if c.st = .autonomous ∧ c.linked then
    (s.onRectCh k fun c => { c with ordered := true }).autoTry k
  else s

/-- R153: a half-cycle ended later than ZC_LATE_US after its expected zero-crossing, one half-period after the last; the first
half-cycle has none to be late for (DEDUCED, log entry 85). -/
def State.zcLate (s : State) (k half : Nat) : Bool :=
  let c := s.rectCh k
  c.half ≠ 0 && c.half + us (s.secF Fld.Rect.ZC_LATE_US k) < half

/-- R153: a half-cycle lies in the qualification window of the section. -/
def State.inWindow (s : State) (k rms half : Nat) : Bool :=
  s.secF Fld.Rect.BROWNIN_MV k ≤ rms && rms + 10000 ≤ s.secF Fld.Rect.LINE_OV_MV k &&
    s.secF Fld.Rect.F_MIN_HZ k * half ≤ 50000000 && 50000000 ≤ s.secF Fld.Rect.F_MAX_HZ k * half && !s.zcLate k half

/-- R154: the frequency of a half-cycle lies outside its window. -/
def State.freqOut (s : State) (k half : Nat) : Bool :=
  !(s.secF Fld.Rect.F_MIN_HZ k * half ≤ 50000000 && 50000000 ≤ s.secF Fld.Rect.F_MAX_HZ k * half)

/-- R160: the template after a good half-cycle: each bin that has samples moves by 1/16 toward their mean; a bin that holds
nothing since the reset takes the mean itself (DEDUCED, log entry 148). -/
def learn (tpl : List Nat) (samples : List (Nat × Nat)) : List Nat :=
  (List.range tpl.length).map fun b =>
    let xs := (samples.filter fun x => x.1 = b).map (·.2)
    let old := tpl.getD b 0
    if xs.isEmpty then old else if old = 0 then xs.sum / xs.length else (15 * old + xs.sum / xs.length) / 16

/-- R160: a line sample (|v|, mV) of P0: its bin is its place in the half-cycle by the previous half-period. -/
def State.lineSample (k v : Nat) (s : State) : State :=
  let c := s.rectCh k
  let bin := min 127 ((s.now - c.tZc) * 128 / max 1 c.half)
  let val := c.template.getD bin 0
  let peak := c.template.foldl max 0
  let dev := s.secF Fld.Rect.DEV_PCT k
  let neutral : Bool := 100 * val < dev * peak || peak = 0
  let off : Bool := dev * peak < 100 * (if v ≤ val then val - v else v - val)
  s.onRectCh k fun c =>
    let c := { c with samples := c.samples ++ [(bin, v)] }
    if neutral then c
    else if off then { c with devSeen := true, devSince := some (c.devSince.getD s.now) }
    else { c with devSince := none }

/-- R156: phase B is shed below PFC_SHED_PCT of the present capacity and restarts 5% above it; 0 disables shedding. -/
def State.shedB (k : Nat) (s : State) : State :=
  let c := s.rectCh k
  let pct := s.secF Fld.Rect.PFC_SHED_PCT k
  let p := c.iOut.toNat * s.vBus / 1000
  s.onRectCh k fun c =>
    { c with shedB := c.pfc && pct ≠ 0 &&
        (if c.shedB then 100 * p ≤ (pct + 5) * c.pCap else 100 * p < pct * c.pCap) }

/-- R173: the fields of the section's record that a token's set names. -/
def setFields (set_ : Nat) : List Field :=
  (fieldsOf .rect0).filter fun f => (f.bnd = .zc && set_ ≠ 1) || (f.bnd = .sw && set_ ≠ 0)

/-- R173: the shadow set changes something of the PFC and line set. -/
def Barrier.changesZc (b : Barrier) : Bool :=
  !b.shadow.isEmpty && (setFields 0).any fun f => f.getRaw b.shadow ≠ f.getRaw b.secRec

/-- R173: the section's record with the shadow values of a set in it. -/
def Barrier.merged (b : Barrier) (set_ : Nat) : List Byte :=
  if b.shadow.isEmpty then b.secRec else (setFields set_).foldl (fun bs f => f.set (f.getRaw b.shadow) bs) b.secRec

/-- R173: the section copies what its token names at a boundary: `zc` the PFC and line set's, otherwise the LLC set's; with
the stage idle the heartbeat is the boundary of both. A token of both sets whose shadow holds values of the LLC set alone
waits for that set's boundary only. -/
def Barrier.copy (zc sw : Bool) (b : Barrier) : Barrier :=
  match b.token with
  | none => b
  | some set_ =>
    let seen := b.zcSeen || zc
    let go : Bool := if set_ = 0 then zc else if set_ = 1 then sw else (seen || !b.changesZc) && sw
    if go then
      let rec_ := b.merged set_
      { b with secRec := rec_, shadow := if b.shadow = rec_ then [] else b.shadow, token := none, landed := true,
               landedSet := set_, zcSeen := false }
    else { b with zcSeen := seen }

/-- R133, R142, R447: at a zero-crossing a section adopts the band of its own sensors and the band's dead-time
instance. -/
def State.secBand (k : Nat) (s : State) : State :=
  match s.hottest [16 + 2 * k, 17 + 2 * k] with
  | none => s
  | some t =>
    let tab := s.table (s.pal.pendSec.testBit k) 0x02 3
    let b := bandNext tab (s.therm.bandSec[fin 2 k]) t
    (s.onTherm fun h => { h with bandSec := upd h.bandSec (fin 2 k) fun _ => b }).onRectCh k fun c =>
      { c with band := b, dtInst := u tab (12 + 4 * b) 1, tMax := t }

/-- R156: both fast legs are blanked for ZC_BLANK_US before and after a zero-crossing. -/
def State.zcBlank (s : State) (k : Nat) : Bool :=
  let c := s.rectCh k
  let blank := us (s.secF Fld.Rect.ZC_BLANK_US k)
  s.now < c.tZc + blank || c.tZc + c.half < s.now + blank

/-- R153, R174: the section's own qualification runs while its half-cycles stay in the window, by QUAL_MS as it stood at the
start. -/
def State.qualOwn (k : Nat) (inWin : Bool) (s : State) : State :=
  let ms_ := s.secF Fld.Rect.QUAL_MS k
  s.onRectCh k fun c =>
    if inWin then { c with qualFrom := some (c.qualFrom.getD s.now), qualMs := if c.qualFrom.isNone then ms_ else c.qualMs }
    else { c with qualFrom := none, qualRan := 0 }

/-- R148, R153, R154, R156, R160, R161: a zero-crossing ends a half-cycle (DEDUCED, log entry 85). -/
def State.halfCycle (k rms peak half : Nat) (s : State) : State :=
  let s := (s.adopt 9 k).secBand k
  let inWin := s.inWindow k rms half
  let c0 := s.rectCh k
  let good : Bool := inWin && !c0.devSeen && (c0.predicted.map fun t => decide (t < c0.tZc)).getD true
  let s := s.onRectCh k fun c =>
    { c with
      rmsPrev := c.rms, rms := rms, peak := peak, half := half, tZc := s.now, slowLeg := !c.slowLeg, samples := [], devSeen := false,
      peakHold := false, pCap := capAt (min rms c.rms),
      lowCount := if rms < s.secF Fld.Rect.BROWNOUT_MV k then c.lowCount + 1 else 0,
      freqCount := if s.freqOut k half then c.freqCount + 1 else 0,
      template := if good then learn c.template c.samples else c.template,
      goodHalf := if good && c.delivers then c.goodHalf + 1 else c.goodHalf,
      goodSince := if c.predicted.isNone then 0 else if good then c.goodSince + 1 else 0 }
  let s := s.onRectCh k fun c =>
    { c with armed := c.delivers && s.flag Fld.Rect.PRED_EN k && 16 ≤ c.goodHalf }
  let c := s.rectCh k
  let s :=
    match c.st with
    | .walkIn | .run =>
      if 2 ≤ c.lowCount then s.lineLost k 0x0701
      else if s.secF Fld.Rect.LINE_OV_MV k < rms then s.lineLost k 0x0702
      else if 4 ≤ c.freqCount then s.lineLost k 0x0703
      else if c.predicted.isSome ∧ 2 ≤ c.goodSince then
        (((s.onRectCh k fun c =>
          { c.endPrediction with predFalse := satAdd 0xFFFF c.predFalse 1 }).dropCleared k c.bar.drop).raise 0x070A k).ffRelease
      else s
    | .relay | .pfcRamp | .llcStart => if inWin then s else (s.rectLost k false).rectNote k
    | .qualify => if inWin then s.qualTry k else s.rectTo k .listen
    | .listen | .lost =>
      if inWin ∧ !c.bar.stopped ∧ c.linked ∧ !(s.therm.zone[4]).shut then s.rectTo k .qualify else s
    | .autonomous =>
      let s := s.qualOwn k inWin
      if inWin then s.autoTry k
      else if c.linked then (s.rectLost k false).rectNote k else s
    | .off => s.qualOwn k (inWin && c.powered)
    | .disabled | .latched => s
  let s := s.shedB k
  if (s.rectCh k).pfc then s.onRectCh k fun c => { c with bar := c.bar.copy true (!c.llc) } else s

/-- R160, R161: the predictor is armed and has predicted nothing yet. -/
def State.predicts (s : State) (k : Nat) : Bool :=
  let c := s.rectCh k
  c.armed && c.delivers && c.predicted.isNone

/-- R161: DROP is asserted on a prediction. -/
def State.predict (k : Nat) (s : State) : State :=
  if s.predicts k then
    s.onRectCh k fun c =>
      { c with predicted := some s.now, goodSince := 0, bar := { c.bar with drop := true } }
  else s

/-- R161: neither outcome in 100 ms: the template is relearned. -/
def State.predictTimeout (k : Nat) (s : State) : State :=
  match (s.rectCh k).predicted with
  | none => s
  | some t =>
    let s := s.advanceTo (t + ms 100)
    let was := (s.rectCh k).bar.drop
    let s := s.onRectCh k fun c =>
      { c.endPrediction with template := List.replicate 128 0, armed := false, goodHalf := 0 }
    ((s.dropCleared k was).raise 0x070C k).ffRelease

/-- R185, R338: DROP is asserted for a channel: the strings are pre-positioned and the plant is told. -/
def State.dropLine (k : Nat) (s : State) : State :=
  if (s.rectCh k).delivers then
    let s := s.onRectCh k fun c => { c with bar := { c.bar with drop := true } }
    (s.ffStart s.dropSum).flood 2 0 ((s.dropped.map fun j => s.pAvail j).sum / 1000)
  else s

/-- R164: rated power of a channel, mW (R163: 1,600 W) (DEDUCED, log entry 78). -/
abbrev ratedMw : Nat := 1600000

/-- R165: rated current of a channel at the bus setpoint, mA (DEDUCED, log entry 78). -/
def State.ratedMa (s : State) : Nat := ratedMw * 1000 / s.fld Fld.Bus.BUS_SET_MV

/-- R165: the target current: the mean of the channels in RUN, or the plant's mean while decision frames arrive. -/
def State.shareTarget (s : State) : Int × Bool :=
  match s.link.last with
  | some d =>
    if s.fld Fld.Rect.SHARE_MODE = 1 ∧ s.now ≤ s.link.tApply + us (3 * s.fld Fld.Link.SHARE_US) then ((d.iShare : Int), true)
    else local_ s
  | none => local_ s
where
  local_ (s : State) : Int × Bool :=
    let rs := (List.range 2).filter fun j => (s.rectCh j).st = .run
    (((rs.map fun j => (s.rectCh j).iOut).sum) / (max 1 rs.length : Nat), false)

/-- R165: the trim of a channel, limited to ±SHARE_TRIM_MV (DEDUCED, log entry 78). -/
def State.shareTrim (s : State) (own : Int) : Int :=
  let lim : Int := (s.fld Fld.Rect.SHARE_TRIM_MV : Nat)
  max (-lim) (min lim ((s.shareTarget.1 - own) * 1000 / (max 1 s.ratedMa : Nat)))

/-- R165: the channel is within ±3% of its target. -/
def State.shareHeld (s : State) (own : Int) : Bool :=
  let t := s.shareTarget.1
  100 * (own - t).natAbs ≤ 3 * t.natAbs

/-- R157, R159, R169: a commanded LLC period is clamped to the range, limited to 1.5 times the SR conduction time, and shortened
by 10% while the capacitive-mode guard holds (DEDUCED, log entry 79). -/
def State.llcPeriod (s : State) (k : Nat) : Nat :=
  let b := (s.rectCh k).bar
  if b.cmdPeriod = 0 then 0
  else
    let lo := 500000 / max 1 (s.secF Fld.Rect.LLC_FMAX_KHZ k)
    let hi := 500000 / max 1 (s.secF Fld.Rect.LLC_FMIN_KHZ k)
    let p := max lo (min hi b.cmdPeriod)
    let sr := b.srTime.1 + b.srTime.2
    let p := if sr = 0 then p else min p (3 * sr / 2)
    if (s.rectCh k).guard = 0 then p else p * 9 / 10

/-- R155, R165: the load of the channel is above `pct` percent of the rated current. -/
def State.loaded (s : State) (pct : Nat) (c : RectCh) : Bool := pct * s.ratedMa < 100 * c.iOut.toNat

/-- R157, R165, R183: the reference of a channel's voltage loop, mV: the one that the bus controller gives it, with the share
trim added. -/
def State.loopRef (s : State) (k : Nat) : Nat :=
  ((s.bus.rectRef[fin 2 k] / 1000 : Int) + (s.rectCh k).trim).toNat

/-- R155, R158, R159: burst: entered and left by the output power, idle toggled by the bus about the loop's setpoint; the
synchronous rectifiers switch above 5% of the rated current. -/
def State.burstStep (s : State) (k : Nat) (c : RectCh) : RectCh :=
  let p := c.iOut.toNat * s.vBus / 1000
  let on : Bool := c.delivers &&
    (if c.burst then 100 * p ≤ s.fld Fld.Rect.BURST_EXIT_PCT k * ratedMw
      else 100 * p < s.fld Fld.Rect.BURST_ENTER_PCT k * ratedMw)
  let set_ := s.loopRef k
  let band := s.fld Fld.Rect.BURST_BAND_MV k
  let idle : Bool := on && (if set_ + band ≤ s.vBus then true else if s.vBus + band < set_ then false else c.idle)
  { c with burst := if c.st = .autonomous then c.burst else on, idle := idle,
           sr := c.delivers && !s.ctrlDown && !c.srOff && !on && s.loaded 5 c }

/-- R164: the channels walking in. -/
def State.walkers (s : State) : Nat :=
  max 1 ((List.range 2).filter fun j => (s.rectCh j).st = .walkIn && !(s.rectCh j).softOff).length

/-- R164, R177: the walk-in limit moves at WALKIN_W_S, shared by the channels walking in. -/
def State.walkStep (s : State) (k : Nat) (c : RectCh) : RectCh :=
  let n := s.walkers
  let rate := s.fld Fld.Rect.WALKIN_W_S * (s.now - c.tWalk)
  let lim := 100000 * s.pMax k
  if c.softOff then { c with walk := c.walk - rate, tWalk := s.now }
  else if c.st = .walkIn then { c with walk := min lim (c.walk + rate / n), tWalk := s.now }
  else { c with tWalk := s.now }

/-- R164, R151: a channel whose walk-in limit has reached min(P_CAP, P_LIMIT_W) enters RUN. -/
def State.walkJudge (k : Nat) (s : State) : State :=
  let c := s.rectCh k
  if c.st = .walkIn ∧ !c.softOff ∧ 100000 * s.pMax k ≤ c.walk then (s.rectTo k .run).readyBack else s

/-- R177: a soft disable whose limit has fallen to 0 ends in DISABLED. -/
def State.softDone (k : Nat) (s : State) : State :=
  let c := s.rectCh k
  if c.softOff ∧ c.walk = 0 then s.rectTo k .disabled else s

/-- R177: the channel is disabled now, or walks down first. -/
def State.rectDisable (soft : Bool) (k : Nat) (s : State) : State :=
  let c := s.rectCh k
  if c.st = .disabled then s
  else if soft ∧ c.delivers then
    if c.softOff then s
    else s.onRectCh k fun c => { c with softOff := true, walk := 100000 * s.pAvail k, tWalk := s.now }
  else s.rectTo k .disabled

/-- R177: the channel leaves DISABLED or LATCHED (DEDUCED, log entry 81). -/
def State.rectFree (k : Nat) (s : State) : State :=
  let s := s.onRectCh k fun c => { c with heldOff := false }
  s.rectTo k (if (s.rectCh k).linked then .listen else .off)

/-- R177, R443: the refusal of an action by a channel's own state. -/
def State.rectRefuse (s : State) (action k : Nat) : Nat :=
  let c := s.rectCh k
  let bad : Bool := !s.flag Fld.Rect.PRESENT k ||
    (if action = 1 then c.st ≠ .disabled
     else if action = 4 then (c.st ≠ .latched && c.st ≠ .lost) || s.therm.mainsLatch
     else c.st = .off || c.st = .autonomous || c.st = .latched)
  if bad then st.state else st.ok

/-- R177: an action of RECT_CONTROL at its boundary (DEDUCED, log entry 81). -/
def State.rectAct (k : Nat) (own : List Byte) (s : State) : Nat × State :=
  let action := u own 0 1
  if s.rectRefuse action k ≠ st.ok then (s.rectRefuse action k, s)
  else if action = 1 then (st.ok, s.rectFree k)
  else if action = 4 then
    let latched : Bool := (s.rectCh k).st = .latched
    let s := s.onRectCh k fun c => { c with srOff := false, trips := if latched then [] else c.trips }
    (st.ok, if latched then (s.settleCh 0x07 k).rectFree k else s)
  else (st.ok, s.rectDisable (action = 2) k)

/-- R177: the boundary of RECT_CONTROL on a channel. -/
def State.rectServe (k : Nat) (s : State) : State := (s.serve 0x0701 k (fun own s => s.rectAct k own)).rectJudge

/-- R157: the capacitive-mode guard over a period: a wrong sign starts its 16 periods. -/
def RectCh.guardStep (cap : Bool) (c : RectCh) : RectCh :=
  { c with guard := if cap then 16 else c.guard - 1, guardRun := if cap then c.guardRun + 1 else 0 }

/-- R157–R159, R163–R165, R168: an LLC switching period ends; the current limit is P_AVAIL over the bus voltage. The
sixteenth consecutive guarded period trips (DEDUCED, log entry 81). -/
def State.llcEnd (k : Nat) (cap : Bool) (s : State) : State :=
  let s := s.onRectCh k fun c => (s.burstStep k (s.walkStep k c)).guardStep cap
  let tgt := s.shareTarget
  let s := s.onRectCh k fun c =>
    { c with
      trim := if c.st = .run then s.shareTrim c.iOut else 0,
      plantShare := tgt.2,
      shareOk := if c.st = .run then s.shareHeld c.iOut else c.shareOk,
      shareBad := if c.st = .run && s.loaded 20 c && !s.shareHeld c.iOut then some (c.shareBad.getD s.now) else none,
      srInst := c.dtInst, iLim := if c.delivers then s.pAvail k * 1000 / max 1 s.vBus else 0,
      bar := { (c.bar.copy (!c.pfc) true) with period :=
        if c.st = .autonomous then (if c.llc then autoPeriod else 0) else if c.idle then 0 else s.llcPeriod k } }
  let s := if (s.rectCh k).stopDue then s.onRectCh k RectCh.gatesStop else s
  let s := ((s.walkJudge k).softDone k).rectServe k
  let s := ((s.rectBoundary k).boundary .rect1 0 .main).calLand (elemSec k)
  if 16 ≤ (s.rectCh k).guardRun then s.rectTripIf k 0x0708 else s

/-- R57: the section runs from its HVS pin with its record at the default values. -/
def State.sectionUp (k : Nat) (s : State) : State :=
  let s := s.onTherm fun h =>
    { h with sens := Vector.ofFn fun j =>
        if 16 ≤ j.val && (j.val - 16) / 2 = k then { win := [], broken := false } else h.sens[j] }
  s.onRectCh k fun c =>
    { c with powered := true, qualFrom := none, qualRan := 0, autoTimeouts := 0, autoAt := none,
             bar := { Barrier.reset with hbBad := c.bar.hbBad, frameErr := c.bar.frameErr, resends := c.bar.resends,
                                         silences := c.bar.silences, tEst := c.bar.tEst, stop := c.bar.stop
                                         stopSil := c.bar.stopSil } }

/-- R166: what the loss of a section's power does to the barrier: the section's side is reset; the control die's side stands
until the silence (R170, R171). -/
def Barrier.unpowered (b : Barrier) : Barrier :=
  { b with secRec := recDefaults .rect0, shadow := [], token := none, landed := false, zcSeen := false, goodMains := 0,
           txHeard := false, rdMains := none, locked := false, flt := false, drop := false, fltWait := false, cmdPeriod := 0,
           period := 0, srTime := (0, 0), shadowTime := 0 }

/-- R151, R166: PAUX below 9.0 V: the section resets (DEDUCED, log entry 80). -/
def State.sectionDown (k : Nat) (s : State) : State :=
  let c := s.rectCh k
  let lost : Bool := c.starting || c.bar.fltWait
  let ff : Bool := c.delivers && c.bar.drop
  let s := if ff then s.ffLost (s.otherDelivers k) else s
  let s := s.onRectCh k fun c =>
    { c with powered := false, qualFrom := none, qualRan := 0, autoTimeouts := 0, autoAt := none, bar := c.bar.unpowered }
  let s := s.dropCleared k c.bar.drop
  let s := if c.st = .off ∨ c.st = .disabled ∨ c.st = .latched then s else s.rectTo k .off
  if lost then s.raise 0x0712 k else if c.st = .off then s else s.rectNote k

def execSectionPowerUp (k : Fin 2) (s : State) : Host.Outcome State Fault Refusal :=
  .next (if (s.rectCh k).powered then s else s.sectionUp k)

def execSectionPowerLoss (k : Fin 2) (s : State) : Host.Outcome State Fault Refusal :=
  .next (if (s.rectCh k).powered then s.sectionDown k else s)

/-- R58, R151: a section that may start by itself: powered, in OFF, with no link. -/
def State.mayAuto (s : State) (k : Nat) : Bool :=
  let c := s.rectCh k
  c.st = .off && c.powered && c.bar.link ≠ .up && s.flag Fld.Rect.PRESENT k

/-- Time moves on to `t` for a section; the timebase stands still while the control die is in power-on reset (R49, R58). -/
def State.till (t : Nat) (s : State) : State := if s.sys.por then s else s.advanceTo t

/-- R58, R171: no barrier link at the end of qualification: an autonomous start, its LLC gates off while STOP is asserted. -/
def State.autoStart (k : Nat) (s : State) : State :=
  let s := s.rectTo k .autonomous
  if (s.rectCh k).bar.stopped then s.onRectCh k RectCh.gatesStop else s

/-- AUTONOMOUS_START (R57, R58): the section's own qualification reaches its time, outside the wait for a retry. -/
def execAutonomousStart (k : Fin 2) (s : State) : Host.Outcome State Fault Refusal :=
  let c := s.rectCh k
  .next (match c.qualFrom, c.autoAt with
    | some t, none =>
      if s.mayAuto k then
        let s := s.till (t + (ms c.qualMs - c.qualRan))
        ((if s.sys.por then s.onRectCh k fun c => { c with qualRan := max c.qualRan (ms c.qualMs) } else s)).autoStart k
      else s
    | _, _ => s)

/-- R58: no barrier link within 1 s of the start; the line stays qualified while it is in the window. -/
def execAutonomousTimeout (k : Fin 2) (s : State) : Host.Outcome State Fault Refusal :=
  let c := s.rectCh k
  .next (if c.st = .autonomous ∧ c.bar.link ≠ .up then
    let s := (s.till (c.tState + (sec 1 - c.stRan))).rectTo k .off
    let s := s.onRectCh k fun d =>
      { d with autoTimeouts := satAdd 255 d.autoTimeouts 1, autoAt := some (s.now + sec 10), qualFrom := c.qualFrom
               qualRan := c.qualRan }
    s.rectNote k else s)

/-- R58: 10 s after a timeout; a line that has left the window meanwhile qualifies first (DEDUCED, log entry 80). -/
def execAutonomousRetry (k : Fin 2) (s : State) : Host.Outcome State Fault Refusal :=
  .next (match (s.rectCh k).autoAt with
    | some t =>
      if s.mayAuto k then
        let s := s.till t
        if s.qualMet k then s.autoStart k else s.onRectCh k fun c => { c with autoAt := none }
      else s
    | none => s)

def execHalfCycleEnd (k : Fin 2) (rms peak half : Nat) (s : State) : Host.Outcome State Fault Refusal :=
  .next (if (s.rectCh k).powered then s.halfCycle k rms peak half else s)

/-- R153: the qualification timer reaches QUAL_MS. -/
def execQualTimerExpiry (k : Fin 2) (s : State) : Host.Outcome State Fault Refusal :=
  .next (match (s.rectCh k).st, (s.rectCh k).qualFrom, (s.rectCh k).qualDone with
    | .qualify, some t, none =>
      let s := s.advanceTo (t + ms (s.rectCh k).qualMs)
      (s.onRectCh k fun c => { c with qualDone := some s.now }).qualTry k
    | _, _, _ => s)

/-- R155: 500 ms after the timer expired the bulk is still below 95% of the line peak. -/
def execPrechargeTimeout (k : Fin 2) (s : State) : Host.Outcome State Fault Refusal :=
  .next (match (s.rectCh k).st, (s.rectCh k).qualDone with
    | .qualify, some t =>
      if (s.rectCh k).precharged then s else (((s.advanceTo (t + ms 500)).rectTo k .listen).raise 0x0704 k)
    | _, _ => s)

/-- R155: RELAY_MS has elapsed (DESIGN CHOICE, log entry 3). -/
def execRelaySettled (k : Fin 2) (s : State) : Host.Outcome State Fault Refusal :=
  let c := s.rectCh k
  .next (if c.st = .relay then (s.advanceTo (c.tState + ms (s.secF Fld.Rect.RELAY_MS k))).rectTo k .pfcRamp else s)

/-- R188: the rectifiers rank above auxiliary input `k`. -/
def State.rectAbove (s : State) (k : Nat) : Bool :=
  s.sourceOn 1 && (!s.sourceOn (2 + k) || s.rankOf 1 < s.rankOf (2 + k))

/-- R187: the auxiliary input in use: walking in or holding the bus. -/
def State.auxInUse (s : State) : Option Nat := (List.range 2).find? fun k => (s.auxCh k).running

/-- R199: the input in use would have to open and no string could take the bus. -/
def State.llcBarred (s : State) : Bool := s.standbys = 0 && (s.auxInUse.map s.rectAbove).getD false

/-- R151, R199: with the bulk, mV, within 2% of BULK_MV PFC_RAMP ends in LLC_START, or waits there while the hand-back is
deferred. -/
def execPfcRampDone (k : Fin 2) (bulk : Nat) (s : State) : Host.Outcome State Fault Refusal :=
  let goal := s.secF Fld.Rect.BULK_MV k
  .next (if (s.rectCh k).st = .pfcRamp ∧ 98 * goal ≤ 100 * bulk ∧ 100 * bulk ≤ 102 * goal then
    if s.llcBarred then s.onRectCh k fun c => { c with llcHeld := true } else s.rectTo k .llcStart
  else s)

/-- R13, R155: the output, mV, has reached the bus; no power is delivered while an auxiliary input still conducts. -/
def execLlcStartDone (k : Fin 2) (v : Nat) (s : State) : Host.Outcome State Fault Refusal :=
  .next (if (s.rectCh k).st = .llcStart ∧ s.vBus ≤ v ∧ s.auxInUse.isNone then s.rectTo k .walkIn else s)

/-- R155: the output has not reached the bus within LLC_SS_MS. -/
def execLlcSsTimeout (k : Fin 2) (s : State) : Host.Outcome State Fault Refusal :=
  let c := s.rectCh k
  .next (if c.st = .llcStart then
    (s.advanceTo (c.tState + ms (s.fld Fld.Rect.LLC_SS_MS k))).rectTrip k 0x0707 else s)

/-- WALK_IN_DONE (R164): the time at which the walk-in limit reaches min(P_CAP, P_LIMIT_W). -/
def execWalkInDone (k : Fin 2) (s : State) : Host.Outcome State Fault Refusal :=
  let c := s.rectCh k
  let rate := max 1 (s.fld Fld.Rect.WALKIN_W_S)
  let left := ((100000 * s.pMax k - c.walk) * s.walkers + rate - 1) / rate
  .next (if c.st = .walkIn ∧ !c.softOff then
    let s := s.advanceTo (c.tWalk + left)
    (s.onRectCh k (s.walkStep k)).walkJudge k else s)

/-- R161: the line has deviated for 1 ms. -/
def execDropoutPredicted (k : Fin 2) (s : State) : Host.Outcome State Fault Refusal :=
  let c := s.rectCh k
  .next (match c.devSince with
    | some t => if s.predicts k then (s.advanceTo (t + ms 1)).predict k else s
    | none => s)

/-- R161: a zero-crossing is ZC_LATE_US late. -/
def execZcLateExpiry (k : Fin 2) (s : State) : Host.Outcome State Fault Refusal :=
  let c := s.rectCh k
  .next (if s.predicts k ∧ c.half ≠ 0 then
    (s.advanceTo (c.tZc + c.half + us (s.secF Fld.Rect.ZC_LATE_US k))).predict k else s)

def execPredictionTimeout (k : Fin 2) (s : State) : Host.Outcome State Fault Refusal := .next (s.predictTimeout k)

def execDropLine (k : Fin 2) (s : State) : Host.Outcome State Fault Refusal := .next (s.dropLine k)

/-- R162: the bulk, mV, falls below BULK_MIN_MV. -/
def execBulkMinReached (k : Fin 2) (bulk : Nat) (s : State) : Host.Outcome State Fault Refusal :=
  .next (if (s.rectCh k).st = .lost ∧ (s.rectCh k).runOn ∧ bulk < s.secF Fld.Rect.BULK_MIN_MV k then s.llcStop k else s)

/-- R154: the bulk falls below BULK_DROP_MV: a confirmed loss, whose 0x070B is raised at the next tick (R180)
(DEDUCED, log entry 149). -/
def execBulkDropConfirmation (k : Fin 2) (bulk : Nat) (s : State) : Host.Outcome State Fault Refusal :=
  .next (if (s.rectCh k).delivers ∧ bulk < s.secF Fld.Rect.BULK_DROP_MV k then
    (s.rectLost k true).onRectCh k fun c => { c with dropDue := true } else s)

/-- R180: the dropouts confirmed since the last tick, with no silence since, are raised. -/
def State.dropRaise (s : State) : State :=
  s.each [0, 1] fun k s =>
    if (s.rectCh k).dropDue then (s.onRectCh k fun c => { c with dropDue := false }).raise 0x070B k else s

/-- R166: line magnitude above 450 V: the PFC gates stop for the rest of the half-cycle; counted. -/
def execLinePeakLimit (k : Fin 2) (v : Nat) (s : State) : Host.Outcome State Fault Refusal :=
  .next (s.onRectCh k fun c =>
    if c.pfc ∧ 450000 < v then { c with peakHold := true, peakCount := c.peakCount + 1 } else c)

/-- R166: bulk above BULK_MV + 40 V. -/
def execBulkOvLimit (k : Fin 2) (bulk : Nat) (s : State) : Host.Outcome State Fault Refusal :=
  let lim := s.secF Fld.Rect.BULK_MV k + 40000
  .next (s.onRectCh k fun c => if c.pfc ∧ lim < bulk then { c with bulkHold := true } else c)

/-- R166: bulk below BULK_MV + 10 V. -/
def execBulkOvRelease (k : Fin 2) (bulk : Nat) (s : State) : Host.Outcome State Fault Refusal :=
  let lim := s.secF Fld.Rect.BULK_MV k + 10000
  .next (s.onRectCh k fun c => if bulk < lim then { c with bulkHold := false } else c)

/-- R166: bulk above 460 V. -/
def execBulkOvTrip (k : Fin 2) (bulk : Nat) (s : State) : Host.Outcome State Fault Refusal :=
  .next (if 460000 < bulk then s.rectTripIf k 0x0705 else s)

/-- R166: the PFC phase current limit has been held (DESIGN CHOICE, log entry 6). -/
def execPfcOcTrip (k : Fin 2) (s : State) : Host.Outcome State Fault Refusal := .next (s.rectTripIf k 0x0706)

/-- R166: the LLC primary current limit has been held for 10 ms (DESIGN CHOICE, log entry 6). -/
def execLlcOcTrip (k : Fin 2) (s : State) : Host.Outcome State Fault Refusal := .next (s.rectTripIf k 0x0707)

/-- R157, R166: the sixteenth consecutive guarded period, after fifteen that have ended (DEDUCED, log entry 81). -/
def execCapacitiveModeTrip (k : Fin 2) (s : State) : Host.Outcome State Fault Refusal :=
  .next (if 15 ≤ (s.rectCh k).guardRun then s.rectTripIf k 0x0708 else s)

/-- R166, R171: the bus, mV, exceeds 60.0 V. -/
def execBusOvStop (v : Nat) (s : State) : Host.Outcome State Fault Refusal :=
  .next (if 60000 < v then (s.raise 0x070E).each [0, 1] State.stopAssert else s)

/-- R159: 16 consecutive periods of reverse current (DESIGN CHOICE, log entry 6). -/
def execSrReverseDisable (k : Fin 2) (s : State) : Host.Outcome State Fault Refusal :=
  .next (if (s.rectCh k).delivers then
    (s.onRectCh k fun c => { c with srOff := true, sr := false }).raise 0x0709 k else s)

/-- R165: outside ±3% for 1 s above 20% load. -/
def execShareToleranceFault (k : Fin 2) (s : State) : Host.Outcome State Fault Refusal :=
  .next (match (s.rectCh k).shareBad with
    | some t =>
      if (s.rectCh k).st = .run then
        ((s.advanceTo (t + sec 1)).onRectCh k fun c => { c with shareOk := false, shareBad := none }).raise 0x0710 k
      else s
    | none => s)

/-- R177 (DEDUCED, log entry 81). -/
def execRectControl (o : Origin) (p : List Byte) (s : State) : Host.Outcome State Fault Refusal :=
  let action := u p 2 1
  let sel := s.sel 0x07 (u p 0 2)
  .next (s.run o 0x0701 1
    (param (p.length = 4 ∧ 1 ≤ action ∧ action ≤ 4 ∧ u p 3 1 = 0 ∧ sel.isSome)) fun s =>
      let r := s.selWait o 0x0701 (sel.getD ⟨0, 0⟩) [byte action] (s.rectRefuse action)
      (r.1, r.2.each ((List.range 2).filter fun k => !(r.2.rectCh k).llc) State.rectServe))

/-- R178. -/
def execRectStatus (o : Origin) (p : List Byte) (s : State) : Host.Outcome State Fault Refusal :=
  let k := s.single 0x07 (u p 0 2)
  .next (s.report o 0x0702 (param (p.length = 2 ∧ k.isSome)) fun s => s.rectStatus (k.getD 0))

/-- R179. -/
def execBarrierStatus (o : Origin) (p : List Byte) (s : State) : Host.Outcome State Fault Refusal :=
  let k := s.single 0x07 (u p 0 2)
  .next (s.report o 0x0703 (param (p.length = 2 ∧ k.isSome)) fun s => s.barrierStatus (k.getD 0))

end Sys2Proof.Machine
end

