-- ==== Sys2Proof/Machine/Symbols.lean ====
section
/-! DEFINITION. The symbols of the barrier's data channels (R167): 8b/10b with running disparity, heartbeats (R169) and
frames (R168), as they are sent and as a receiver judges them. -/

namespace Sys2Proof.Machine

/-- R167: what a 10-bit symbol says: a data byte, a special symbol K (its byte), or nothing. -/
inductive Sym where
  | d (b : Nat)
  | k (b : Nat)
  | bad
  deriving DecidableEq, Repr

/-- R167: the special symbols K28.5, K27.7, K29.7 and K28.0. -/
abbrev kBeat : Sym := .k 0xBC
abbrev kStart : Sym := .k 0xFB
abbrev kEnd : Sym := .k 0xFD
abbrev kIdle : Sym := .k 0x1C

/-- 8b/10b: the first six bits of a symbol by its low five bits, at negative disparity, bit a first (PRESUMED, log
entry 150). -/
def code6 : List Nat :=
  [0b100111, 0b011101, 0b101101, 0b110001, 0b110101, 0b101001, 0b011001, 0b111000,
    0b111001, 0b100101, 0b010101, 0b110100, 0b001101, 0b101100, 0b011100, 0b010111] ++
  [0b011011, 0b100011, 0b010011, 0b110010, 0b001011, 0b101010, 0b011010, 0b111010,
    0b110011, 0b100110, 0b010110, 0b110110, 0b001110, 0b101110, 0b011110, 0b101011]

/-- The six bits of every K28 at negative disparity. -/
abbrev codeK28 : Nat := 0b001111

/-- 8b/10b: the last four bits by the high three bits, at negative disparity: of data, and of a special symbol.
(PRESUMED, log entry 150.) -/
def code4 : List Nat := [0b1011, 0b1001, 0b0101, 0b1100, 0b1101, 0b1010, 0b0110, 0b1110]
/-- PRESUMED, log entry 150. -/
def codeK4 : List Nat := [0b1011, 0b0110, 0b1010, 0b1100, 0b1101, 0b0101, 0b1001, 0b0111]

/-- The ones among the low `n` bits. -/
def ones (n v : Nat) : Nat := (List.range n).countP fun j => v.testBit j

/-- The six bits of a symbol at a running disparity (`rd`: positive). -/
def six (rd k28 : Bool) (x : Nat) : Nat :=
  let c := if k28 then codeK28 else code6.getD x 0
  if rd && (ones 6 c ≠ 3 || x = 7) then 63 - c else c

/-- The four bits of a data symbol after its six, at the disparity between: D.x.7 has a second form. -/
def fourD (rd : Bool) (x y : Nat) : Nat :=
  let alt : Bool := y = 7 && (if rd then x ∈ [11, 13, 14] else x ∈ [17, 18, 20])
  let c := if alt then 0b0111 else code4.getD y 0
  if rd && (ones 4 c ≠ 2 || y = 3) then 15 - c else c

/-- The four bits of a special symbol. -/
def fourK (rd : Bool) (y : Nat) : Nat := if rd then 15 - codeK4.getD y 0 else codeK4.getD y 0

/-- R167: the running disparity after a symbol: each part turns it to the side on which it has more bits. -/
def disparity (rd : Bool) (w : Nat) : Bool :=
  let part (rd : Bool) (n v up down : Nat) : Bool :=
    if n < 2 * ones n v ∨ v = up then true else if 2 * ones n v < n ∨ v = down then false else rd
  part (part rd 6 (w / 16) 0b000111 0b111000) 4 (w % 16) 0b0011 0b1100

/-- R167: a symbol as it is sent at a running disparity, and the disparity after it. -/
def sendSym (rd : Bool) : Sym → Nat
  | .d b =>
    let a := six rd false (b % 32)
    16 * a + fourD (disparity rd (16 * a + 0b0101)) (b % 32) (b / 32)
  | .k b =>
    let a := six rd (b % 32 = 28) (b % 32)
    16 * a + fourK (if ones 6 a = 3 then rd else !rd) (b / 32)
  | .bad => 0

/-- The special symbols of the code: K28.0 to K28.7, K23.7, K27.7, K29.7 and K30.7. -/
def specials : List Nat := ((List.range 8).map fun y => 32 * y + 28) ++ [0xF7, 0xFB, 0xFD, 0xFE]

/-- R167: a received symbol, judged at the running disparity. -/
def symOf (rd : Bool) (w : Nat) : Sym :=
  let xs := (List.range 32).filter fun x => six rd false x = w / 16
  let data := xs.flatMap fun x => (List.range 8).map fun y => Sym.d (32 * y + x)
  ((data ++ specials.map Sym.k).find? fun y => sendSym rd y = w).getD .bad

/-- R167: the symbols of a line, with the disparity kept across all of them; the first one after a silence sets it. -/
def hear : Option Bool → List Nat → List Sym × Option Bool
  | rd, [] => ([], rd)
  | rd, w :: ws =>
    let r := rd.getD (decide (symOf false w = .bad))
    let rest := hear (some (disparity r w)) ws
    (symOf r w :: rest.1, rest.2)

/-- R167: the line that sends some symbols. -/
def send : Bool → List Sym → List Nat
  | _, [] => []
  | rd, y :: ys => sendSym rd y :: send (disparity rd (sendSym rd y)) ys

/-- R80, R169: the CRC-8 over SEQ and the payload of a heartbeat. -/
def beatCrc (seq v : Nat) : Nat := crc8 (toLE 1 seq ++ toLE 2 v)

/-- R169: the five symbols of a heartbeat. -/
def beatSyms (seq v : Nat) : List Sym := [kBeat, .d seq, .d (v % 256), .d (v / 256), .d (beatCrc seq v)]

/-- R169: SEQ and payload of a heartbeat whose symbols decode and whose CRC holds. -/
def beatOf : List Sym → Option (Nat × Nat)
  | [.k 0xBC, .d seq, .d lo, .d hi, .d crc] =>
    if crc = beatCrc seq (lo + 256 * hi) then some (seq, lo + 256 * hi) else none
  | _ => none

/-- R169: the heartbeats inserted in what is received, and the symbols that are left, without the idle fill; `n` bounds the
length. -/
def splitBeats : Nat → List Sym → List (List Sym) × List Sym
  | 0, _ => ([], [])
  | _, [] => ([], [])
  | n + 1, y :: ys =>
    if y = kBeat then
      let r := splitBeats n (ys.drop 4)
      ((y :: ys.take 4) :: r.1, r.2)
    else
      let r := splitBeats n ys
      (r.1, if y = kIdle then r.2 else y :: r.2)

/-- The byte of a data symbol. -/
def Sym.data : Sym → Option Byte
  | .d b => some (byte b)
  | _ => none

/-- R168: the symbols of a frame. -/
def frameSyms (type : Nat) (payload : List Byte) : List Sym :=
  let body := [byte type, byte payload.length] ++ payload
  kStart :: ((body ++ toLE 2 (crc16 body)).map fun b => Sym.d b.toNat) ++ [kEnd]

/-- R168: TYPE and payload of a frame whose symbols, length and CRC hold. -/
def barFrame : List Sym → Option (Nat × List Byte)
  | .k 0xFB :: rest =>
    let bs := rest.dropLast.filterMap Sym.data
    let n := bs.length - 2
    if rest.getLast? = some kEnd ∧ bs.length + 1 = rest.length ∧ u bs 1 1 + 4 = bs.length ∧ u bs 1 1 ≤ 240 ∧
        crc16 (bs.take n) = u bs n 2 then
      some (u bs 0 1, (bs.take n).drop 2)
    else none
  | _ => none

end Sys2Proof.Machine
end

