-- ==== Sys2Proof/Machine/Barrier.lean ====
section
/-! DEFINITION. The barrier links (R167–R173): heartbeats, silence, establishment, frames and fault lines. -/

namespace Sys2Proof.Machine

/-- A change of a channel's barrier link. -/
def State.onBar (k : Nat) (f : Barrier → Barrier) (s : State) : State := s.onRectCh k fun c => { c with bar := f c.bar }


/-- R169: a heartbeat is good when its symbols decode, its CRC holds and its SEQ follows the last good one, the heartbeats
between them having been missed or bad; the first after a silence starts the sequence (DEDUCED, log entry 148). -/
def Barrier.follows (last : Nat) (heard : Bool) (seq : Nat) (ok : Bool) : Bool :=
  let ahead := (seq + 256 - last) % 256
  ok && (!heard || (1 ≤ ahead && ahead < 128))

/-- R169: the heartbeats between the last good one and this one: bad or missing. -/
def Barrier.between (last : Nat) (heard : Bool) (seq : Nat) : Nat := if heard then (seq + 255 - last) % 256 else 0

/-- R172: the run of consecutive good heartbeats with one more; a gap starts it anew. -/
def Barrier.runOf (last : Nat) (heard : Bool) (seq run : Nat) : Nat :=
  if Barrier.between last heard seq = 0 then run + 1 else 1

/-- R157, R169, R172, R173: a heartbeat reaches the section: the LLC period command; the boundary of an idle stage. -/
def State.beatMains (k : Nat) (ok : Bool) (seq v : Nat) (s : State) : State :=
  let s := s.onRectCh k fun c =>
    let b := c.bar
    if Barrier.follows b.seqTx b.txHeard seq ok then
      { c with
        bar := { b with seqTx := seq, txHeard := true, goodMains := Barrier.runOf b.seqTx b.txHeard seq b.goodMains
                        cmdPeriod := v }.copy (!c.pfc) (!c.llc) }
    else { c with bar := { b with goodMains := 0 } }
  if (s.rectCh k).llc then s
  else ((s.rectBoundary k).boundary .rect1 0 .main).calLand (elemSec k)

/-- R169, R172: a heartbeat reaches the control die: the present LLC period; a bad one is counted, and with a good one those
missing before it. -/
def State.beatControl (k : Nat) (ok : Bool) (seq v : Nat) (s : State) : State :=
  s.onBar k fun b =>
    if Barrier.follows b.seqRx b.rxHeard seq ok then
      { b with
        seqRx := seq, rxHeard := true, goodRun := Barrier.runOf b.seqRx b.rxHeard seq b.goodRun, tGood := s.now, period := v
        hbBad := satAdd 0xFFFFFFFF b.hbBad (Barrier.between b.seqRx b.rxHeard seq - b.badSince), badSince := 0
        link := if b.link = .down then .establishing else b.link }
    else { b with goodRun := 0, hbBad := satAdd 0xFFFFFFFF b.hbBad 1, badSince := b.badSince + 1 }

/-- R169: the symbols of a heartbeat reach a side: one that does not decode, or whose CRC does not hold, is bad. -/
def State.beat (k : Nat) (toMains : Bool) (ys : List Sym) (s : State) : State :=
  let x := (beatOf ys).getD (0, 0)
  let ok := (beatOf ys).isSome
  if toMains then s.beatMains k ok x.1 x.2 else s.beatControl k ok x.1 x.2

/-- R167: a line of symbols reaches a side: what it says, with the running disparity kept. -/
def State.hears (k : Nat) (toMains : Bool) (line : List Nat) (s : State) : List Sym × State :=
  let b := (s.rectCh k).bar
  let h := hear (if toMains then b.rdMains else b.rdControl) line
  (h.1, s.onBar k fun b => if toMains then { b with rdMains := h.2 } else { b with rdControl := h.2 })

/-- BARRIER_HEARTBEAT (R167, R169): five symbols, whatever idle fill there is among them. -/
def execBarrierHeartbeat (k : Fin 2) (toMains : Bool) (line : List Nat) (s : State) : Host.Outcome State Fault Refusal :=
  let r := s.hears k toMains line
  .next (if !(s.rectCh k).powered then s else r.2.beat k toMains (r.1.filter fun y => y ≠ kIdle))

/-- The link is down: what was under way over it is dropped (R170, R172). -/
def Barrier.drop_ (b : Barrier) : Barrier :=
  { b with link := .down, goodRun := 0, goodMains := 0, rxHeard := false, txHeard := false, rdControl := none, rdMains := none
           badSince := 0, hello := false, init := false, initAck := false, awaiting := none, attempts := 0, locked := false
           shadow := [], token := none, landed := false, zcSeen := false, stopSil := true, fltWait := false }

/-- R170, R151, R180: what silence, or unacknowledged frames, does to the channel's state and what it records: 0x0712 also for a
fault line whose FAULT frame is still awaited, and in place of a dropout confirmed in the same 10 µs. -/
def State.channelGone (k : Nat) (s : State) : State :=
  let c := s.rectCh k
  if c.starting then (s.rectLost k false).raise 0x0712 k
  else
    let s :=
      match c.st with
      | .listen | .qualify => s.rectLost k false
      | .lost => s.llcStop k
      | .autonomous => s.rectTo k .off
      | _ => s
    if c.bar.fltWait ∨ c.dropDue then (s.raise 0x0712 k).onRectCh k fun c => { c with dropDue := false } else s.rectNote k

/-- BARRIER_SILENCE (R29, R169, R170): 4 µs after the last good heartbeat, with the four that are missing by then; the rule
applies once the link has been established since the section powered up (DEDUCED, log entry 80). -/
def execBarrierSilence (k : Fin 2) (s : State) : Host.Outcome State Fault Refusal :=
  .next (if (s.rectCh k).bar.link = .down ∨ !(s.rectCh k).bar.everUp then s
    else
      let s := (s.advanceTo ((s.rectCh k).bar.tGood + us 4)).channelGone k
      s.onBar k fun b =>
        { b.drop_ with
          silences := satAdd 0xFFFF b.silences 1, hbBad := satAdd 0xFFFFFFFF b.hbBad (4 - b.badSince) })

/-- R58, R151, R172, R177: the channel at establishment. -/
def State.establish (k delay : Nat) (s : State) : State :=
  let s := s.onRectCh k fun c =>
    { c with
      autoTimeouts := 0,
      bar := { c.bar with
        link := .up, delayNs := delay, tEst := s.now, locked := true, everUp := true, awaiting := none, attempts := 0
        initAck := false, stopSil := false } }
  let c := s.rectCh k
  let next : RState := if s.flag Fld.Rect.AUTO_START k then .listen else .disabled
  if !s.flag Fld.Rect.PRESENT k then (if c.st = .autonomous then s.rectTo k .off else s)
  else
    match c.st with
    | .off => s.rectTo k next
    | .disabled => if c.heldOff then s else s.rectTo k next
    | .autonomous =>
      if next = .disabled then s.rectTo k .disabled
      else if s.sys.fwReady then (s.onRectCh k fun c => { c with ordered := true }).autoTry k else s
    | _ => s

/-- BARRIER_ESTABLISHED (R172): the ACK of INIT has arrived. -/
def execBarrierEstablished (k : Fin 2) (delayNs : Nat) (s : State) : Host.Outcome State Fault Refusal :=
  let c := s.rectCh k
  .next (if c.powered ∧ c.bar.link = .establishing ∧ c.bar.initAck then s.establish k delayNs else s)

/-- R167–R169: a frame of a row's TYPE, whose payload has at least `len` bytes, reaches a side, with the heartbeats inserted
in it. A frame with a symbol, disparity, framing or CRC error is discarded and counted; another TYPE is no frame of this row
(PRESUMED, log entry 150). -/
def State.frame (k type len : Nat) (line : List Nat) (act : List Byte → State → State) (s : State) : State :=
  let toMains : Bool := type < 0x80
  let r := s.hears k toMains line
  let x := splitBeats r.1.length r.1
  if !(s.rectCh k).powered then s
  else
    let s := r.2.each x.1 (State.beat k toMains)
    match barFrame x.2 with
    | some (t, p) => if t = type ∧ len ≤ p.length then act p s else s
    | none => s.onBar k fun b => { b with frameErr := satAdd 0xFFFFFFFF b.frameErr 1 }

/-- R168: a frame of types 0x01 to 0x04 has been sent and awaits its ACK. -/
def Barrier.sent (now type seq : Nat) (b : Barrier) : Barrier :=
  { b with awaiting := some (type, seq), attempts := 1, tSent := now }

/-- R168, R172: what INIT carries: section number, qualification time and the live record 0. -/
def State.initPayload (s : State) (k : Nat) : List Byte :=
  toLE 1 k ++ toLE 2 (s.fld Fld.Rect.QUAL_MS k) ++ (s.copy .rect0 k).live

/-- INIT (R172) answers HELLO with the live record 0. -/
def execInit (k : Fin 2) (line : List Nat) (s : State) : Host.Outcome State Fault Refusal :=
  .next (s.frame k 0x01 (3 + recLen .rect0) line fun p s =>
    if (s.rectCh k).bar.hello ∧ u p 0 1 = k then
      s.onBar k fun b => { b.sent s.now 1 0 with init := true, initAck := false, secRec := (p.drop 3).take (recLen .rect0) }
    else s)

/-- CONFIG (R173) carries staged bytes into the shadow set: the record offset, then the bytes. -/
def execConfig (k : Fin 2) (line : List Nat) (s : State) : Host.Outcome State Fault Refusal :=
  .next (s.frame k 0x02 2 line fun p s => s.onBar k fun b =>
    let base := if b.shadow.isEmpty then b.secRec else b.shadow
    let off := u p 0 2
    { b.sent s.now 2 0 with
      shadow := padTo (recLen .rect0) (base.take off ++ p.drop 2 ++ base.drop (off + (p.drop 2).length)) })

/-- COMMIT (R173) carries the token for the sets it names, and its sequence number. -/
def execCommit (k : Fin 2) (line : List Nat) (s : State) : Host.Outcome State Fault Refusal :=
  .next (s.frame k 0x03 2 line fun p s =>
    if u p 0 1 ≤ 2 then
      s.onBar k fun b => { b.sent s.now 3 (u p 1 1) with token := some (u p 0 1), zcSeen := false, landed := false }
    else s)

/-- R168, R151, R58: COMMAND 0x01 start, 0x02 stop at period end, 0x03 open relay, 0x04 hold the autonomous start,
0x05 clear. -/
def State.command (k c : Nat) (s : State) : State :=
  let s := s.onBar k fun b => b.sent s.now 4 0
  if c = 1 then
    if (s.rectCh k).st = .qualify ∧ (s.rectCh k).qualDone.isSome ∧ s.startAllowed k then
      (s.onRectCh k fun c => { c with ordered := true }).qualTry k
    else if (s.rectCh k).st = .autonomous ∧ s.startAllowed k then
      (s.onRectCh k fun c => { c with ordered := true }).autoTry k
    else s
  else if c = 2 then s.onRectCh k fun c => if c.llc then { c with stopDue := true } else c.gatesStop
  else if c = 3 then s.onRectCh k fun c => { c with relay := false }
  else if c = 4 then s.onRectCh k fun c => { c with ordered := false, autoAt := none }
  else if c = 5 then (s.fltGone k).onRectCh k fun c => { c with srOff := false, bar := { c.bar with flt := false } }
  else s

def execCommand (k : Fin 2) (line : List Nat) (s : State) : Host.Outcome State Fault Refusal :=
  .next (s.frame k 0x04 1 line fun p => State.command k (u p 0 1))

/-- TIME (R168, R172) sets the shadow timebase, the measured delay added. -/
def execTime (k : Fin 2) (line : List Nat) (s : State) : Host.Outcome State Fault Refusal :=
  .next (s.frame k 0x05 8 line fun p s => s.onBar k fun b => { b with shadowTime := u p 0 8 + b.delayNs / 10 })

/-- SR_TIMING (R159): the conduction time of each leg. -/
def execSrTiming (k : Fin 2) (line : List Nat) (s : State) : Host.Outcome State Fault Refusal :=
  .next (s.frame k 0x06 4 line fun p => State.onBar k fun x => { x with srTime := (u p 0 2, u p 2 2) })

/-- R172: each side has counted 16 consecutive good heartbeats. -/
def Barrier.counted (b : Barrier) : Bool := 16 ≤ b.goodRun && 16 ≤ b.goodMains

/-- HELLO (R172, R58) starts establishment once both sides have their 16 good heartbeats: section number, ROM version, state,
cause of its last reset, and the autonomous starts that timed out, which are reported once, for a channel that is present
(R152). -/
def execHello (k : Fin 2) (line : List Nat) (s : State) : Host.Outcome State Fault Refusal :=
  .next (s.frame k 0x81 6 line fun p s =>
    if u p 0 1 = k ∧ ((s.rectCh k).bar.link = .up ∨ (s.rectCh k).bar.counted) then
      let s := s.onRectCh k fun c =>
        { c with
          secState := u p 3 1, secCause := u p 4 1
          bar := { c.bar with hello := true, romVer := u p 1 2, link := if c.bar.link = .up then .up else .establishing } }
      if u p 5 1 = 0 ∨ !s.flag Fld.Rect.PRESENT k then s else s.raise 0x070F k
    else s)

/-- R163: the output-current estimate, mA, from the mean rectified LCSn voltage, µV. -/
def State.outEstimate (s : State) (k lcs : Nat) : Nat :=
  lcs * s.fld Fld.Rect.TR_RATIO k / (1000 * max 1 (s.secF Fld.Rect.LCS_MV_A k))

/-- R163, R168: what STATUS carries: the section's state and flags, its measurements, the output-current estimate from the
mean rectified LCSn voltage `lcs`, µV, and its capacity. -/
def State.statusPayload (s : State) (k state flags lcs : Nat) : List Byte :=
  let c := s.rectCh k
  toLE 1 state ++ toLE 1 flags ++ toLE 4 c.bulk ++ toLE 4 c.rms ++ toLE 4 (s.outEstimate k lcs) ++ toLE 4 c.pCap ++
    toLE 4 (s.pAvail k) ++ toLEi 2 c.tMax ++ toLE 1 c.band ++ toLE 1 c.dtInst

/-- STATUS (R168): the fields of `State.statusPayload` (DEDUCED, log entries 7, 85). -/
def execStatus (k : Fin 2) (line : List Nat) (s : State) : Host.Outcome State Fault Refusal :=
  .next (s.frame k 0x82 26 line fun p s =>
    (s.onRectCh k fun c =>
      { c with secState := u p 0 1, secFlags := u p 1 1, bulk := u p 2 4, rms := u p 6 4, iOut := Sys2Proof.i p 10 4,
               pCap := u p 14 4, pAvail := u p 18 4, tMax := Sys2Proof.i p 22 2, band := u p 24 1,
               dtInst := u p 25 1 }).qualTry k)

/-- HALF_CYCLE (R168): timestamp, RMS, peak, half-period and largest deviation. -/
def execHalfCycle (k : Fin 2) (line : List Nat) (s : State) : Host.Outcome State Fault Refusal :=
  .next (s.frame k 0x83 22 line fun p s =>
    s.onRectCh k fun c =>
      { c with tZc := u p 0 8, rms := u p 8 4, peak := u p 12 4, half := u p 16 4, maxDev := u p 20 2 })

/-- ACK (R168, R172, R173): TYPE, sequence and LANDED; with LANDED the committed values become live. -/
def execAck (k : Fin 2) (line : List Nat) (s : State) : Host.Outcome State Fault Refusal :=
  .next (s.frame k 0x84 3 line fun p s =>
    let type := u p 0 1
    let s := s.onBar k fun b =>
      if b.awaiting = some (type, u p 1 1) then
        { b with awaiting := none, attempts := 0, initAck := b.initAck || (decide (type = 1) && b.init) }
      else b
    if (u p 2 1).testBit 0 ∧ type = 3 ∧ (s.rectCh k).bar.landed then
      (s.onBar k fun b => { b with landed := false }).landedAck k
    else s)

/-- R166: the trip codes of a section. -/
def tripCodes : List Nat := [0x0705, 0x0706, 0x0707, 0x0708, 0x070D]

/-- FAULT (R168, R151) gives the cause of a fault line, or of a trip the line has not shown, with bulk, line and current. -/
def execFaultFrame (k : Fin 2) (line : List Nat) (s : State) : Host.Outcome State Fault Refusal :=
  .next (s.frame k 0x85 14 line fun p s =>
    let code := u p 0 2
    let s := s.onRectCh k fun c => { c with bulk := u p 2 4, rms := u p 6 4, iOut := Sys2Proof.i p 10 4 }
    if (s.rectCh k).bar.fltWait then (s.onBar k fun b => { b with fltWait := false }).raise code k
    else if code ∈ tripCodes ∧ (s.rectCh k).starting then s.rectTrip k code
    else s)

/-- BARRIER_RESEND (R168): 10 µs without the ACK: the frame is repeated; after 8 attempts the channel is declared lost. -/
def execBarrierResend (k : Fin 2) (s : State) : Host.Outcome State Fault Refusal :=
  .next (if (s.rectCh k).bar.awaiting.isSome then
    let s := s.advanceTo ((s.rectCh k).bar.tSent + us 10)
    if 8 ≤ (s.rectCh k).bar.attempts then (s.channelGone k).onBar k Barrier.drop_
    else
      s.onBar k fun b =>
        { b with attempts := b.attempts + 1, resends := satAdd 0xFFFF b.resends 1, tSent := s.now }
  else s)

/-- R151, R166: the fault line is asserted: SR gates off, the channel is lost; the FAULT frame gives the cause. -/
def State.fltLine (k : Nat) (s : State) : State :=
  let c := s.rectCh k
  if c.bar.flt ∨ !c.starting then s.onBar k fun b => { b with flt := true }
  else
    let trips := recent s.now (sec 60) c.trips
    let s := s.rectLost k false (if 4 ≤ trips.length then .latched else .lost)
    let s := s.onRectCh k fun c => { c with trips := trips, bar := { c.bar with flt := true, fltWait := true } }
    if 4 ≤ trips.length then s.raise 0x0711 k else s

def execFltLine (k : Fin 2) (s : State) : Host.Outcome State Fault Refusal := .next (s.fltLine k)

def execStopLine (k : Fin 2) (s : State) : Host.Outcome State Fault Refusal := .next (s.stopAssert k)

def execStopRelease (k : Fin 2) (s : State) : Host.Outcome State Fault Refusal := .next (s.stopRelease k)

end Sys2Proof.Machine
end

