-- ==== Sys2Proof/Machine/Strings.lean ====
section
/-! DEFINITION. The string controllers (R208–R217, R231–R234, R237). -/

namespace Sys2Proof.Machine

/-- R212, R213: the bus is held by mains or by an auxiliary input. -/
def State.busMains (s : State) : Bool := s.bus.st = .mains || s.bus.st = .aux

/-- R213, R234: CELLS × CELL_OV_MV, and CELLS × EOD_MV_CELL, mV. -/
def State.packOv (s : State) (k : Nat) : Nat := s.fld Fld.Chg.CELLS k * s.fld Fld.Chg.CELL_OV_MV k
def State.packEod (s : State) (k : Nat) : Nat := s.fld Fld.Chg.CELLS k * s.fld Fld.Chg.EOD_MV_CELL k

/-- R218: the charger's part of the string is connected. -/
def StrCh.chargeable (c : StrCh) : Bool := c.st = .connected || c.st = .chargeOnly

/-- No charge current is granted (R218). -/
def StrCh.noCharge (c : StrCh) : StrCh := { c with iLim := 0, iBat := 0, iChg := 0, limit := 8 }

/-- R226: a charge cycle starts: the counts and the resume-used flag are cleared. -/
def StrCh.cycle (c : StrCh) : StrCh := { c with tPre := 0, tEq := 0, tWall := 0, resumeUsed := false }

/-- The INITIAL state of a string's profile (R132). -/
def State.initialState (s : State) (k : Nat) : Nat := u (s.profile k) 2 1

/-- R218: the charger enters RUN at INITIAL and starts a cycle. -/
def State.chgRun (k : Nat) (s : State) : State :=
  s.onStrCh k fun c => { (c.cycle.toInitial s.now (s.initialState k)).noCharge with chg := .run, byCmd := false, resumeFor := 0 }

/-- R218: the charger follows the string's connection. `was` says that the string was in CONNECTED or CHARGE_ONLY. -/
def State.chgFollow (k : Nat) (was : Bool) (s : State) : State :=
  let c := s.strCh k
  if c.chargeable ∧ !was ∧ c.chg = .idle then
    if s.flag Fld.Chg.CHG_EN k then s.chgRun k else s.onStrCh k fun c => { c with chg := .disabled, byCmd := false }
  else if !c.chargeable ∧ was then
    s.onStrCh k fun c => { c.noCharge with chg := if c.chg = .run ∨ c.chg = .suspended then .idle else c.chg }
  else s

/-- R237, R239: waiting string commands are judged: their act is their end. -/
def State.strJudge (s : State) : State :=
  s.judge (fun w => w.op = 0x0901 || w.op = 0x0903) fun w k => if w.started.testBit k then some st.ok else none

/-- R212: a string enters a state. A trip opens the switches at once; otherwise they open below 1,000 mA or 1 ms later. -/
def State.strTo (k : Nat) (st : SState) (trip : Bool) (s : State) : State :=
  let c0 := s.strCh k
  let closed : Bool := st = .connected ∨ st = .chargeOnly ∨ st = .test ∨ st = .cold
  let small : Bool := (s.strI k).natAbs < 1000
  let s := s.onStrCh k fun c =>
    { c with
      st := st, tState := s.now, outSince := none, eodSince := none
      closed := closed || (c.closed && !trip && !small),
      openAt := if closed || trip || small || !c.closed then none else some (s.now + ms 1),
      eod := if st = .connected then false else c.eod,
      lowRaised := if st = .opened then false else c.lowRaised,
      coldLim := c0.st = .cold && st = .connected,
      preset := closed && c.preset, integ := if closed then c.integ else 0, iRef := if closed then c.iRef else 0,
      iDsgMax := if st = .connected ∨ st = .test ∨ st = .chargeOnly then c.iDsgMax else 0,
      fold := if closed then c.fold else s.fld Fld.Chg.I_DSG_MAX_MA k }
  let s := s.chgFollow k c0.chargeable
  let s := if (s.strCh k).running ∧ !c0.running then s.settleCh 0x09 k else s
  (((s.settleStop .chg0 k).settleStop .gauge0 k).busEval).ffJoin

/-- R233: a running test ends: TEST_STATE, TEST_CAUSE and its event. The string's own state is not touched. -/
def State.testOver (k cause : Nat) (s : State) : State :=
  (s.onStrCh k fun c =>
    { c with test := { c.test with state := if cause = 0 then 2 else 3, cause := cause, tEnd := some s.now } }).raise
    (if cause = 0 then 0x0911 else 0x0912) k

/-- R233: the test ends and the string returns to CONNECTED, its charger in RUN at INITIAL. -/
def State.testEnd (k cause : Nat) (s : State) : State :=
  if (s.strCh k).st = .test then (s.strTo k .connected false).testOver k cause else s

/-- R233: the string leaves TEST for a state of R212's. -/
def State.testLeave (k : Nat) (was : SState) (s : State) : State := if was = .test then s.testOver k 4 else s

/-- R212, R234: a trip; the fourth within 10 minutes latches the string with 0x090F. -/
def State.strTrip (k code : Nat) (s : State) : State :=
  let was := (s.strCh k).st
  let trips := recent s.now (sec 600) (s.strCh k).trips
  let s := s.onStrCh k fun c => { c with trips := trips }
  let s := (s.strTo k (if 4 ≤ trips.length then .latched else .fault) true).raise code k
  let s := if 4 ≤ trips.length then s.raise 0x090F k else s
  s.testLeave k was

/-- R217: an end-of-discharge disconnect. -/
def State.strEod (k : Nat) (s : State) : State :=
  let was := (s.strCh k).st
  let s := s.onStrCh k fun c => { c with eod := true, iDsgMax := 0 }
  ((s.strTo k .opened false).raise 0x090D k).testLeave k was

/-- R212, R237: a string is disconnected by command. -/
def State.strDisconnect (k : Nat) (s : State) : State :=
  let c := s.strCh k
  if c.st = .disabled then s else (s.strTo k .disabled false).testLeave k c.st

/-- R213: the connect conditions. -/
def State.connectOk (s : State) (k : Nat) : Bool :=
  let c := s.strCh k
  36000 ≤ s.strV k && s.strV k ≤ s.packOv k && s.dsgUp k &&
    ((s.tBat k).map fun t => decide (t < s.fldI Fld.Chg.TMAX_BAT k - 50)).getD true && (!c.eod || s.busMains)

/-- R212: a string in OPEN is judged. -/
def State.strOpenStep (k : Nat) (s : State) : State :=
  let c := s.strCh k
  let v := s.strV k
  let s :=
    if 1000 ≤ v ∧ v < 36000 ∧ !c.lowRaised then
      (s.onStrCh k fun c => { c with lowRaised := true }).raise 0x0901 k
    else s
  if s.connectOk k then
    if s.bus.st = .dead then s.strTo k .cold false
    else (s.onStrCh k fun c => { c with aim := .connected }).strTo k .matching false
  else if s.dsgDown k ∧ c.chgPin ∧ c.chgOk ∧ 36000 ≤ v ∧ s.busMains ∧ c.chg ≠ .disabled ∧ c.chg ≠ .latched then
    (s.onStrCh k fun c => { c with aim := .chargeOnly }).strTo k .matching false
  else s

/-- R214: CHG_OK as effective, which is withdrawn without filter, and DSG_OK as the keep channel follows it, which is filtered
both ways (DEDUCED, log entry 92). -/
def State.bmsFilter (s : State) (k : Nat) (c : StrCh) : StrCh :=
  let f := ms (s.fld Fld.Chg.BMS_FILT_MS k)
  { c with
    chgOk := c.chgPin && (c.chgOk || c.tChg + f ≤ s.now)
    dsgOk := s.dsgUp k || (c.dsgOk && !s.dsgDown k) }

/-- R212, R214: what the 10 µs tick sees of a string: its BMS inputs, its opening disconnect, and a discharge above 1,000 mA.
-/
def State.strSee (k : Nat) (s : State) : State :=
  s.onStrCh k fun c =>
    let c := s.bmsFilter k c
    let c := { c with outSince := if 1000 < s.strI k then some (c.outSince.getD s.now) else none }
    match c.openAt with
    | some t => if t ≤ s.now ∨ (s.strI k).natAbs < 1000 then { c with closed := false, openAt := none } else c
    | none => c

/-- R212, R214, R233: the string controller's 10 µs tick. -/
def State.strTick (k : Nat) (s : State) : State :=
  let c := s.strCh k
  match c.st with
  | .connected | .test =>
    if s.dsgDown k then ((s.strTo k .opened false).raise 0x090B k).testLeave k c.st
    else if c.st = .test ∧ !s.busMains then s.testEnd k 2
    else s
  | .chargeOnly =>
    let out : Bool := (c.outSince.map fun t => decide (t + us 10 ≤ s.now)).getD false
    if s.dsgUp k ∧ !c.eod then s.strTo k .connected false
    else if !s.busMains ∨ !c.chgOk ∨ out then s.strTo k .opened false
    else s
  | .opened => if s.sys.fwReady ∧ !s.ctrlDown then s.strOpenStep k else s
  | .absent | .disabled | .matching | .cold | .fault | .latched => s

/-- R217: the end-of-discharge loop is acting, the string discharges, and V_STRING stands no more than 1% above the level. -/
def State.eodHolds (s : State) (k : Nat) : Bool :=
  (s.strCh k).fold < s.fld Fld.Chg.I_DSG_MAX_MA k && 0 < s.strI k && 100 * s.strV k ≤ 101 * (s.packEod k : Nat)

/-- R216, R217: the discharge limit at a switching period end, battery side. While the end-of-discharge loop acts its
fold-back is a free value (DESIGN CHOICE, log entry 15). -/
def State.dsgStep (k : Nat) (s : State) : State :=
  let v := s.strV k
  let lvl : Int := (s.packEod k : Nat)
  let full := s.fld Fld.Chg.I_DSG_MAX_MA k
  let c := s.strCh k
  let acts : Bool := c.closed && (if c.fold < full then 100 * v ≤ 101 * lvl else v ≤ lvl)
  let fold := if acts then min (full - 1) (Config.eodFold s.free) else full
  let dsg : Bool := s.dsgUp k && (c.st = .connected || c.st = .test)
  let s := s.onStrCh k fun c => { c with fold := fold, iDsgMax := if dsg then min full fold else 0 }
  let s := s.onStrCh k fun c =>
    { c with eodSince := if s.eodHolds k then some (c.eodSince.getD s.now) else none }
  if acts then s.drew else s

/-- R216: the discharge limit at the bus side, mA. -/
def State.dsgBus (s : State) (k : Nat) : Nat :=
  let c := s.strCh k
  let lim := if c.coldLim then min c.iDsgMax (s.fld Fld.Chg.COLD_ILIM_MA k) else c.iDsgMax
  lim * (s.strV k).toNat / max 1 s.vBus

/-- R232: P_ACT, mW. -/
def State.pAct (s : State) (k : Nat) : Nat :=
  min (1000 * (s.strCh k).test.pTest) ((s.pSources + s.pStrings).toNat - 100000)

/-- R184, R185, R213, R214, R232: a string converter's switching period ends. While the bus is at or below the reference the
output of pi() is a free value, which follows on from the integrator; a preset integrator rests until the first such period,
of which it is the output (DESIGN CHOICE, log entry 14; DEDUCED, log entry 92). -/
def State.strEnd (k : Nat) (s : State) : State :=
  let s := ((s.dsgStep k).ffJoin).ffJudge
  let c := s.strCh k
  let below : Bool := 1000 * s.vBus ≤ s.bus.ref
  let lim := s.dsgBus k
  let pi := if c.st = .connected ∧ below then min lim (if c.preset then c.integ else Config.stringPi s.free c.integ) else 0
  let iDsg := max pi (if c.standby then s.iff else 0)
  let chg : Nat := if c.chgOk && c.chargeable && c.chg = .run then c.iChg else 0
  let ref : Int :=
    match c.st with
    | .connected => if 0 < iDsg then (min iDsg lim : Nat) else -(chg : Int)
    | .chargeOnly => -(chg : Int)
    | .test => (min lim (s.pAct k * 1000 / max 1 s.vBus) : Nat)
    | _ => 0
  let s := s.onStrCh k fun c =>
    { c with
      integ := if c.preset && !below then c.integ else pi, preset := c.preset && !below, iRef := ref,
      coldLim := c.coldLim && s.vBus < s.vStby,
      test := if c.st = .test then { c.test with pAct := s.pAct k } else c.test }
  let s := if c.st = .connected && below then s.drew else s
  s.boundary .chg0 k .sw

/-- R212: the converter-side node, mV, is within MATCH_MV of V_STRING. -/
def execStringMatchDone (k : Fin 2) (v : Nat) (s : State) : Host.Outcome State Fault Refusal :=
  let m := s.fld Fld.Chg.MATCH_MV k
  .next (if (s.strCh k).st = .matching ∧ s.strV k ≤ v + m ∧ v ≤ s.strV k + m then
    (s.advanceTo (s.now + ms 1)).strTo k (s.strCh k).aim false else s)

/-- R212: 100 ms without a match. -/
def execStringMatchTimeout (k : Fin 2) (s : State) : Host.Outcome State Fault Refusal :=
  .next (if (s.strCh k).st = .matching then (s.advanceTo ((s.strCh k).tState + ms 100)).strTrip k 0x090E else s)

/-- R213: the cold-connect gate ramp completes; the bus rises from its present voltage. -/
def execStringColdDone (k : Fin 2) (s : State) : Host.Outcome State Fault Refusal :=
  .next (if (s.strCh k).st = .cold then
    let s := s.advanceTo ((s.strCh k).tState + ms 10)
    (s.onBus fun b => { b with ref := 1000 * s.vBus }).strTo k .connected false else s)

/-- R211, R214: CHG_OK is deasserted; a string that is ABSENT raises no fault. -/
def execChgOkDeassert (k : Fin 2) (s : State) : Host.Outcome State Fault Refusal :=
  .next ((s.onStrCh k fun c => { c with chgPin := false, tChg := s.now, chgOk := false, iChg := 0 }).when
    ((s.strCh k).st ≠ .absent) fun s => s.raise 0x090C k)

/-- R214: CHG_OK is asserted; BMS_FILT_MS runs. -/
def execChgOkAssert (k : Fin 2) (s : State) : Host.Outcome State Fault Refusal :=
  .next (s.onStrCh k fun c => if c.chgPin then c else { c with chgPin := true, tChg := s.now })

/-- R15, R214: DSG_OK is deasserted; BMS_FILT_MS runs, the discharge limit ends at the next period. -/
def execDsgOkDeassert (k : Fin 2) (s : State) : Host.Outcome State Fault Refusal :=
  .next (s.onStrCh k fun c => if c.dsgPin then { c with dsgPin := false, tDsg := s.now } else c)

/-- R15, R214: DSG_OK is asserted; BMS_FILT_MS runs. -/
def execDsgOkAssert (k : Fin 2) (s : State) : Host.Outcome State Fault Refusal :=
  .next (s.onStrCh k fun c => if c.dsgPin then c else { c with dsgPin := true, tDsg := s.now })

/-- R215: a reading of NTC `j`, 0.1 °C: out of range it is faulted; within range a faulted one's 10 s run. -/
def State.ntcRead (k j : Nat) (t : Int) (s : State) : State :=
  let en := s.flag (if j = 0 then Fld.Chg.NTC1_EN else Fld.Chg.NTC2_EN) k
  let n := (s.strCh k).ntc[fin 2 j]
  let ok : Bool := -500 ≤ t && t ≤ 1500
  if !en then s
  else if ok then
    let s := s.onStrCh k fun c =>
      { c with ntc := upd c.ntc (fin 2 j) fun n => if n.faulted then { n with goodSince := some (n.goodSince.getD s.now) } else n }
    s.onStrCh k fun c => { c with tGood := (s.tBat k).getD c.tGood }
  else
    let s := s.onStrCh k fun c => { c with ntc := upd c.ntc (fin 2 j) fun _ => { faulted := true, goodSince := none } }
    if n.faulted ∨ (s.strCh k).st = .absent then s else s.raise 0x090A k

/-- R215: a faulted NTC has read within range for 10 s. -/
def execNtcRecover (k j : Fin 2) (s : State) : Host.Outcome State Fault Refusal :=
  .next (match ((s.strCh k).ntc[j]).goodSince with
    | some t =>
      (s.advanceTo (t + sec 10)).onStrCh k fun c =>
        { c with ntc := upd c.ntc j fun _ => { faulted := false, goodSince := none } }
    | none => s)

/-- R212: RETRY_S elapses. -/
def execStringRetry (k : Fin 2) (s : State) : Host.Outcome State Fault Refusal :=
  .next (if (s.strCh k).st = .fault then
    (s.advanceTo ((s.strCh k).tState + sec (s.fld Fld.Chg.RETRY_S k))).strTo k .opened false else s)

/-- R234: |I_STRING|, mA, reaches FAST_MA. -/
def execStringFastTrip (k : Fin 2) (i : Int) (s : State) : Host.Outcome State Fault Refusal :=
  .next (if (s.strCh k).running ∧ s.fld Fld.Chg.FAST_MA k ≤ i.natAbs then s.strTrip k 0x0908 else s)

/-- R234, R213: the hotter NTC has stayed above TMAX_BAT for 1 s; it cannot act while every enabled one is faulted. -/
def execStringOvertempTrip (k : Fin 2) (s : State) : Host.Outcome State Fault Refusal :=
  .next (if (s.strCh k).running ∧ ((s.tBat k).map fun t => decide (s.fldI Fld.Chg.TMAX_BAT k < t)).getD false then
    s.strTrip k 0x0909 else s)

/-- R234: V_STRING, mV, above CELLS × CELL_OV_MV for `held`, µs: charge stops and the charger latches; the string stays. -/
def execPackOvervoltage (k : Fin 2) (v held : Nat) (s : State) : Host.Outcome State Fault Refusal :=
  .next (if (s.strCh k).running ∧ s.packOv k < v ∧ 100 ≤ held then
    (s.onStrCh k fun c => { c.noCharge with chg := .latched, byCmd := false }).raise 0x0902 k else s)

/-- R237: the refusal of an action by a string's own state. -/
def State.strRefuse (s : State) (action force k : Nat) : Nat :=
  let c := s.strCh k
  let bad : Bool := c.st = .absent ||
    (if action = 1 then c.st ≠ .disabled
     else if action = 3 then c.st ≠ .fault && c.st ≠ .latched
     else c.standby && s.standbys = 1 && s.bus.st = .outage && force ≠ 0x5A)
  if bad then st.state else st.ok

/-- R237: STRING_CONTROL at the 10 µs tick. -/
def State.strAct (k : Nat) (own : List Byte) (s : State) : Nat × State :=
  let action := u own 0 1
  let r := s.strRefuse action (u own 1 1) k
  if r ≠ st.ok then (r, s)
  else if action = 1 then (st.ok, s.strTo k .opened false)
  else if action = 2 then (st.ok, s.strDisconnect k)
  else (st.ok, ((s.onStrCh k fun c => { c with trips := [] }).strTo k .opened false).settleCh 0x09 k)

/-- R237 (DEDUCED, log entry 89). -/
def execStringControl (o : Origin) (p : List Byte) (s : State) : Host.Outcome State Fault Refusal :=
  let action := u p 2 1
  let force := u p 3 1
  let sel := s.sel 0x09 (u p 0 2)
  .next (s.run o 0x0901 1
    (param (p.length = 4 ∧ 1 ≤ action ∧ action ≤ 3 ∧ (force = 0 ∨ force = 0x5A) ∧ sel.isSome)) fun s =>
      s.selWait o 0x0901 (sel.getD ⟨0, 0⟩) [byte action, byte force] (s.strRefuse action force))

/-- R231: a string test may start. -/
def State.testOk (s : State) (k : Nat) : Bool :=
  s.busMains && (s.strCh k).st = .connected && s.kind k ≠ 6 && (s.strCh (1 - k)).standby &&
    (s.strCh (1 - k)).st ≠ .test && !s.sys.safe

/-- R231, R239: STRING_TEST at the 10 µs tick. -/
def State.testAct (k : Nat) (own : List Byte) (s : State) : Nat × State :=
  if u own 0 1 = 1 then
    if s.testOk k then
      let s := s.onStrCh k fun c =>
        { c with test := { TestSt.none with
          state := 1, end_ := u own 1 1, pTest := u own 2 2, maxMin := u own 4 2, value := u own 6 4, t0 := s.now } }
      (st.ok, s.strTo k .test false)
    else (st.state, s)
  else if (s.strCh k).st = .test then (st.ok, s.testEnd k 1)
  else (st.state, s)

/-- R239: the parameters of STRING_TEST. -/
def testParams (p : List Byte) : Bool :=
  let a := u p 2 1
  let e := u p 3 1
  let v := u p 8 4
  p.length = 12 &&
    (if a = 2 then u p 3 1 = 0 && u p 4 8 = 0
     else a = 1 && e ≤ 2 && 100 ≤ u p 4 2 && u p 4 2 ≤ 2000 && 1 ≤ u p 6 2 && u p 6 2 ≤ 1440 &&
      (if e = 0 then v = 0 else if e = 1 then v ≤ 9999 else 1 ≤ v && v ≤ 2000000))

/-- R239. -/
def execStringTest (o : Origin) (p : List Byte) (s : State) : Host.Outcome State Fault Refusal :=
  let k := s.single 0x09 (u p 0 2)
  let kk := k.getD 0
  let ok : Bool := if u p 2 1 = 1 then s.testOk kk else (s.strCh kk).st = .test
  .next (s.run o 0x0903 1 (paramState (testParams p ∧ k.isSome) ok) fun s =>
    s.selWait o 0x0903 ⟨0, 2 ^ kk⟩ (p.drop 2) fun _ => st.ok)

/-- R22, R212, R237, R239: the strings at the 10 µs tick: a STRING_CONTROL that moves the string comes before the rows below
it (DEDUCED, log entry 89). -/
def State.stringsTick (s : State) : State :=
  (s.each [0, 1] fun k s =>
    let s := s.strSee k
    let st := (s.strCh k).st
    let s := s.serve 0x0901 k fun own s => s.strAct k own
    let s := if (s.strCh k).st = st then s.strTick k else s
    s.serve 0x0903 k fun own s => s.testAct k own).strJudge

end Sys2Proof.Machine
end

