-- ==== Sys2Proof/Machine/Charger.lean ====
section
/-! DEFINITION. The chargers (R218–R230, R238, R240): the 1 s tick, exits, limits, safety timers, grants. -/

namespace Sys2Proof.Machine

/-- R132: the entry of the state a string's charger is in. -/
def State.profState (s : State) (k : Nat) : List Byte := profEntry (s.profile k) (s.strCh k).ps

/-- The band table of a string (R133), and the entry of the band in force: CHG_I and V_OFFSET. -/
def State.bandTable (s : State) (k : Nat) : List Byte := s.table (s.pal.pendBand.testBit k) 0x02 k
def State.bandChgI (s : State) (k : Nat) : Nat := if s.noBand k then 0xFFFF else u (s.bandTable k) (12 + 4 * (s.strCh k).band) 2
def State.bandOffset (s : State) (k : Nat) : Int := if s.noBand k then 0 else i (s.bandTable k) (14 + 4 * (s.strCh k).band) 2

/-- R215: every enabled NTC of the string is faulted. -/
def State.ntcAllFaulted (s : State) (k : Nat) : Bool := (s.tBat k).isNone

/-- R132: qualified: connected, the band allows charge, CHG_OK. -/
def State.qualified (s : State) (k : Nat) : Bool :=
  (s.strCh k).chargeable && (s.strCh k).chgOk && s.bandChgI k ≠ 0 && !s.ntcAllFaulted k

/-- R220, R221: the shift of a state's voltage, in 0.01 mV per cell. -/
def State.vShift (s : State) (k : Nat) : Int :=
  100 * s.bandOffset k + i (s.profState k) 6 2 * (s.tBatUsed k - 250)

/-- R221, R230: the safe-default voltage cap, in 0.01 mV per cell. -/
def State.safeCap (s : State) (k : Nat) : Int := if s.fld Fld.Chg.CHEM k = 0 then 340000 else 223000

/-- R221: V_CHG, mV. -/
def State.vChgOf (s : State) (k : Nat) : Int :=
  let v : Int := 100 * (u (s.profState k) 2 2 : Nat) + s.vShift k
  let v := if (s.strCh k).safe then min v (s.safeCap k) else v
  let v := min v (100 * ((s.fld Fld.Chg.CELL_OV_MV k : Int) - 50))
  (s.fld Fld.Chg.CELLS k : Nat) * v / 100

/-- R222: I_PROG, mA. -/
def State.iProgOf (s : State) (k : Nat) : Nat :=
  let rate := u (s.profState k) 4 2
  let top := s.fld Fld.Chg.I_CHG_MA k
  if rate = 0xFFFF then top else min top (rate * s.capC k / 1000)

/-- A limit lowered by a term: the lower value and the code of the term that set it (R222, R240). -/
def lower (v code : Nat) (x : Nat × Nat) : Nat × Nat := if v < x.1 then (v, code) else x

/-- R222, R342: I_LIM, mA, and the term that sets it; `cap` applies the cap-level term. -/
def State.iLimOf (s : State) (k : Nat) (cap : Bool) : Nat × Nat :=
  let prog := s.iProgOf k
  let kd := s.kind k
  let x := (prog, 1)
  let x := if s.bandChgI k = 0xFFFF then x else lower (s.bandChgI k * s.capC k / 1000) 2 x
  let x := lower (prog * s.thrChg / 100) 3 x
  let x := if cap then lower (prog * s.capChg / 100) 4 x else x
  let x := if (s.strCh k).safe then lower (min 5000 (s.capC k / 10)) 6 x else x
  let x := lower 30000 7 x
  if !s.qualified k ∨ kd = 0 ∨ kd = 4 then (0, 8) else x

/-- R220: the charge voltage loop sets the current: V_STRING has reached V_CHG within R209's ±0.3% and the current stays
below its limit (DEDUCED, log entry 91). -/
def State.vLoop (s : State) (k : Nat) : Bool :=
  let c := s.strCh k
  0 < c.iLim && 997 * c.vChg ≤ 1000 * s.strV k && (s.strI k).natAbs < c.iBat

/-- R220: a string in RUN is granted. -/
def StrCh.granted (c : StrCh) : Bool := c.chg = .run && 0 < c.iChg

/-- R132, R220, R230: the condition of an exit holds (DEDUCED, log entry 87); the time in state stands still in hold mode
(R66). -/
def State.exitHolds (s : State) (k : Nat) (cond value : Nat) : Bool :=
  let c := s.strCh k
  let v : Int := 100 * s.strV k
  let cells : Int := (s.fld Fld.Chg.CELLS k : Nat)
  let shifted : Int := 100 * (value : Nat) + s.vShift k
  let capped := if c.safe then min shifted (s.safeCap k) else shifted
  match cond with
  | 1 => cells * capped ≤ v
  | 2 => v < cells * shifted
  | 3 => s.vLoop k && s.strI k ≤ 0 && 0 < c.iChg && (s.strI k).natAbs * 1000 < value * s.capC k
  | 4 => ((s.gaugeCh k).rep.map fun r => decide (r / 100 < value)).getD false
  | 5 => s.qualified k
  | 6 => s.qualified k && v < cells * shifted
  | 7 => c.eqReq
  | 8 => c.tPs + c.psHeld + sec (60 * value) ≤ s.now
  | _ => false

/-- R226: the charger enters a state by an exit of its profile. -/
def State.enterState (k next : Nat) (s : State) : State :=
  let kd := u (profEntry (s.profile k) next) 1 1
  s.onStrCh k fun c =>
    let c := c.toInitial s.now next
    let c := if kd = 6 then { c with eqReq := false } else c
    if kd = 0 ∨ kd = 4 ∨ kd = 5 then c.cycle else c

/-- R219, R220: the exits of the present state in order; at most one fires. Leaving a state of kind 3 by COND 3 is a full
point (R249). HOLD_S n is met at the n-th 1 s tick in a row with the condition true, so that 1 acts as 0 (DESIGN CHOICE, log
entry 162). -/
def State.exits (k : Nat) (s : State) : State :=
  let e := s.profState k
  let row (j : Nat) : Nat × Nat × Nat × Nat := (u e (10 + 6 * j) 1, u e (11 + 6 * j) 1, u e (12 + 6 * j) 2, u e (14 + 6 * j) 2)
  let s := s.onStrCh k fun c =>
    { c with holds := (List.range 3).map fun j => if s.exitHolds k (row j).1 (row j).2.2.1 then c.holds.getD j 0 + 1 else 0 }
  match (List.range 3).find? fun j =>
      let h := (s.strCh k).holds.getD j 0
      0 < h && (row j).2.2.2 ≤ h with
  | some j =>
    let full : Bool := s.kind k = 3 && (row j).1 = 3
    (s.onGaugeCh k fun g => { g with full := g.full || full }).enterState k (row j).2.1
  | none => s

/-- The charger is latched with its fault (R227, R228). -/
def State.chgLatch (k code : Nat) (s : State) : State :=
  (s.onStrCh k fun c => { c.noCharge with chg := .latched, byCmd := false }).raise code k

/-- R228: T_EQ expires: the thermal history decides. -/
def State.eqExpire (k : Nat) (s : State) : State :=
  let c := s.strCh k
  let hot : Bool := 1800 < (c.therm.filter id).length
  if c.resumeUsed then s.chgLatch k 0x0906
  else if hot then
    (s.onStrCh k fun c => { c.noCharge with chg := .suspended, bandExp := c.band, resumeFor := 0 }).raise 0x0905 k
  else s.chgLatch k 0x0904

/-- R227, R228: the counts that have reached their limits. -/
def State.expire (k : Nat) (s : State) : State :=
  let c := s.strCh k
  let cccv := s.fld Fld.Chg.CCCV_TIMER_MIN k
  if c.chg ≠ .run then s
  else if 60 * s.fld Fld.Chg.PRE_TIMER_MIN k ≤ c.tPre then s.chgLatch k 0x0903
  else if 180 * cccv ≤ c.tWall then s.chgLatch k 0x0907
  else if 60000000 * cccv ≤ c.tEq then s.eqExpire k
  else s

/-- R227, R228: the counts and the thermal history advance by one tick. -/
def State.count (k : Nat) (s : State) : State :=
  let g := (s.strCh k).granted
  let kd := s.kind k
  let prog := (s.strCh k).iProg
  let main : Bool := kd = 2 ∨ kd = 3 ∨ kd = 6
  let w := min 1000000 (max 250000 ((s.strI k).natAbs * 1000000 / max 1 prog))
  let bit : Bool := g && (s.thrChg < 100 ||
    (s.bandChgI k ≠ 0xFFFF && s.bandChgI k * s.capC k / 1000 < prog))
  s.onStrCh k fun c =>
    { c with
      tPre := if g && kd = 1 then c.tPre + 1 else c.tPre
      tEq := if g && main then c.tEq + w else c.tEq
      tWall := if g && main then c.tWall + 1 else c.tWall
      therm := (bit :: c.therm).take 3600 }

/-- R229: the resume condition of a suspended charger. -/
def State.resumeOk (s : State) (k : Nat) : Bool :=
  let c := s.strCh k
  s.thrChg = 100 && !s.ntcAllFaulted k &&
    ((!s.noBand k && c.band < c.bandExp) || s.bandChgI k = 0xFFFF || s.iProgOf k ≤ s.bandChgI k * s.capC k / 1000)

/-- R229: a suspended charger resumes in the state it left. -/
def StrCh.resume (c : StrCh) : StrCh :=
  { c with chg := .run, tEq := 0, resumeUsed := true, resumeFor := 0, holds := [0, 0, 0] }

/-- R229: the suspended charger's tick. -/
def State.suspendTick (k : Nat) (s : State) : State :=
  s.onStrCh k fun c =>
    if c.chg ≠ .suspended then c
    else if !s.resumeOk k then { c with resumeFor := 0 }
    else if 60 ≤ c.resumeFor + 1 then c.resume
    else { c with resumeFor := c.resumeFor + 1 }

/-- R221, R222, R240: V_CHG, I_LIM and LIMIT are handed to the converter. -/
def State.target (k : Nat) (s : State) : State :=
  let run : Bool := (s.strCh k).chg = .run
  let l := s.iLimOf k true
  let v := s.vChgOf k
  let p := s.iProgOf k
  s.onStrCh k fun c =>
    if run then
      { c with
        vChg := v, iProg := p, iLim := l.1, limit := l.2,
        iBat := min c.iBat l.1, iChg := if l.1 = 0 then 0 else c.iChg }
    else { c.noCharge with vChg := v, iProg := p }

/-- R240: LIMIT as reported once the grant and the voltage loop are known. -/
def State.limitShown (s : State) (k : Nat) : Nat :=
  let c := s.strCh k
  if c.limit = 8 then 8 else if s.vLoop k then 0 else if c.iBat < c.iLim then 5 else c.limit

/-- R218: CHG_EN acts at the charger's boundary. -/
def State.chgEnable (k : Nat) (s : State) : State :=
  let c := s.strCh k
  if !s.flag Fld.Chg.CHG_EN k then
    if c.chg = .idle ∨ c.chg = .run ∨ c.chg = .suspended then
      s.onStrCh k fun c => { c.noCharge with chg := .disabled, byCmd := false }
    else s
  else if c.chg = .disabled ∧ !c.byCmd then
    if c.chargeable then s.chgRun k else s.onStrCh k fun c => { c with chg := .idle }
  else s

/-- R238: the profile in use has a COND 7 exit. -/
def State.hasEq (s : State) (k : Nat) : Bool :=
  let t := s.profile k
  (List.range (u t 1 1)).any fun q => (List.range 3).any fun j => u (profEntry t q) (10 + 6 * j) 1 = 7

/-- R238: the refusal of an action. -/
def State.chgRefuse (s : State) (action k : Nat) : Nat :=
  if (action = 1 ∧ !s.flag Fld.Chg.CHG_EN k) ∨ (action = 3 ∧ !s.hasEq k) then st.state else st.ok

/-- R238: CHG_CONTROL at the charger's tick. -/
def State.chgAct (k : Nat) (own : List Byte) (s : State) : Nat × State :=
  let action := u own 0 1
  let c := s.strCh k
  if s.chgRefuse action k ≠ st.ok then (st.state, s)
  else if action = 1 then
    let s := s.settleCh 0x09 k
    (st.ok, if c.chargeable then s.chgRun k
      else s.onStrCh k fun c => { (c.cycle.toInitial s.now (s.initialState k)).noCharge with chg := .idle, byCmd := false })
  else if action = 2 then (st.ok, s.onStrCh k fun c => { c.noCharge with chg := .disabled, byCmd := true })
  else if action = 3 then (st.ok, s.onStrCh k fun c => { c with eqReq := true })
  else
    let s := s.onStrCh k fun c => { c with eqReq := false }
    if c.chg = .run ∧ s.kind k = 6 then
      let e := s.profState k
      match (List.range 3).find? fun j => u e (10 + 6 * j) 1 = 8 with
      | some j => (st.ok, s.enterState k (u e (11 + 6 * j) 1))
      | none => (st.ok, s.onStrCh k fun c => c.toInitial s.now (s.initialState k))
    else (st.ok, s)

/-- R133, R215: the temperature band of the string follows T_BAT. -/
def State.bandStep (k : Nat) (s : State) : State :=
  match s.tBat k with
  | some t => if s.noBand k then s else s.onStrCh k fun c => { c with band := bandNext (s.bandTable k) c.band t }
  | none => s

/-- R233: the SOC or charge end of a test. -/
def State.testReached (s : State) (k : Nat) : Bool :=
  let t := (s.strCh k).test
  (t.end_ = 1 && ((s.gaugeCh k).rep.map fun r => decide (r / 100 < t.value)).getD false) || (t.end_ = 2 && t.value ≤ t.mah)

/-- R232, R233: the SOC, charge and time ends of the running test, judged at each 1 s tick and after hold mode, through which
its charge and its duration go on. -/
def State.testTick (k : Nat) (s : State) : State :=
  let t := (s.strCh k).test
  if (s.strCh k).st ≠ .test then s
  else if s.testReached k then s.testEnd k 0
  else if sec (60 * t.maxMin) ≤ t.ticks s.now then s.testEnd k 1
  else s

/-- R148: a string's charger adopts the active bank: it keeps the state of the same ID and KIND, else enters INITIAL; a
profile of another CHEM latches it with 0x0910 (R236). -/
def State.palCharger (k : Nat) (s : State) : State :=
  if !(s.pal.pending.testBit 0 && s.pal.pendStr.testBit k) then s
  else
    let old := s.kind k
    let s := s.adopt 0 k
    let t := s.profile k
    let keep : Bool := (s.strCh k).ps < u t 1 1 && s.kind k = old
    let s := if keep then s else s.onStrCh k fun c => c.toInitial s.now (u t 2 1)
    if s.flag Fld.Chg.PRESENT k ∧ u t 0 1 ≠ s.fld Fld.Chg.CHEM k then s.chgLatch k 0x0910 else s

/-- R148, R219: the charger's 1 s tick of a string, frozen in hold mode (R66, R230). A state entered earlier in the tick is
its one transition. -/
def State.chgTick (k : Nat) (s : State) : State :=
  if s.sys.mode ≠ .running ∨ !s.sys.fwReady then s
  else
    let c0 := s.strCh k
    let s := ((s.boundary .chg0 k .main).palCharger k).adopt 1 k
    let s := s.onStrCh k fun c => { c with safe := s.sys.safe }
    let s := (s.chgEnable k).serve 0x0902 k fun own s => s.chgAct k own
    let s := ((s.bandStep k).count k).expire k
    let s := s.suspendTick k
    let c := s.strCh k
    let s := if c.chg = .run ∧ c0.chg = .run ∧ c.ps = c0.ps ∧ c.tPs = c0.tPs then s.exits k else s
    (s.target k).testTick k

/-- R238: CHG_CONTROL commands that have been applied reply (DEDUCED, log entry 89). -/
def State.chgJudge (s : State) : State :=
  s.judge (fun w => w.op = 0x0902) fun w k => if w.started.testBit k then some st.ok else none

/-- R219. -/
def execChargerTick (s : State) : Host.Outcome State Fault Refusal := .next (s.each [0, 1] State.chgTick).chgJudge

/-- R66, R227: the precharge count reaches PRE_TIMER_MIN; the timers are frozen outside the running state. -/
def execPrechargeTimerExpiry (k : Fin 2) (s : State) : Host.Outcome State Fault Refusal :=
  .next (if s.sys.mode = .running ∧ (s.strCh k).chg = .run ∧ s.kind k = 1 then
    (s.onStrCh k fun c => { c with tPre := max c.tPre (60 * s.fld Fld.Chg.PRE_TIMER_MIN k) }).chgLatch k 0x0903 else s)

/-- R66, R228: T_EQ reaches CCCV_TIMER_MIN. -/
def execCccvTimerExpiry (k : Fin 2) (s : State) : Host.Outcome State Fault Refusal :=
  let kd := s.kind k
  .next (if s.sys.mode = .running ∧ (s.strCh k).chg = .run ∧ (kd = 2 ∨ kd = 3 ∨ kd = 6) then
    (s.onStrCh k fun c => { c with tEq := max c.tEq (60000000 * s.fld Fld.Chg.CCCV_TIMER_MIN k) }).expire k else s)

/-- R66, R227: T_WALL reaches 3 × CCCV_TIMER_MIN. -/
def execWallTimerExpiry (k : Fin 2) (s : State) : Host.Outcome State Fault Refusal :=
  let kd := s.kind k
  .next (if s.sys.mode = .running ∧ (s.strCh k).chg = .run ∧ (kd = 2 ∨ kd = 3 ∨ kd = 6) then
    (s.onStrCh k fun c => { c with tWall := max c.tWall (180 * s.fld Fld.Chg.CCCV_TIMER_MIN k) }).chgLatch k 0x0907 else s)

/-- R66, R229: the resume conditions have held for 60 s. -/
def execChargeResume (k : Fin 2) (s : State) : Host.Outcome State Fault Refusal :=
  .next (if s.sys.mode = .running ∧ (s.strCh k).chg = .suspended then s.onStrCh k StrCh.resume else s)

/-- R238 (DEDUCED, log entry 89). -/
def execChgControl (o : Origin) (p : List Byte) (s : State) : Host.Outcome State Fault Refusal :=
  let action := u p 2 1
  let sel := s.sel 0x09 (u p 0 2)
  .next (s.run o 0x0902 1
    (param (p.length = 4 ∧ 1 ≤ action ∧ action ≤ 4 ∧ u p 3 1 = 0 ∧ sel.isSome)) fun s =>
      s.selWait o 0x0902 (sel.getD ⟨0, 0⟩) [byte action] (s.chgRefuse action))

/-- R240. -/
def execChgStatus (o : Origin) (p : List Byte) (s : State) : Host.Outcome State Fault Refusal :=
  let k := s.single 0x09 (u p 0 2)
  .next (s.report o 0x0904 (param (p.length = 2 ∧ k.isSome)) fun s =>
    (s.chgStatus (k.getD 0)).set 4 (byte (s.limitShown (k.getD 0))))

/-- R223: the charge headroom is divided between the strings in RUN; `head` in mW. -/
def State.chargeGrant (head : Nat) (s : State) : State :=
  let dem (k : Nat) : Nat :=
    if (s.strCh k).chg = .run then (s.strCh k).iLim * (s.strV k).toNat * 105 / 100000 else 0
  let tot := dem 0 + dem 1
  s.each [0, 1] fun k s =>
    s.onStrCh k fun c =>
      if c.chg ≠ .run then c
      else if tot = 0 ∨ tot ≤ head then { c with iBat := c.iLim, iChg := dem k * 1000 / max 1 s.vBus }
      else { c with iBat := c.iLim * head / tot, iChg := dem k * head / tot * 1000 / max 1 s.vBus }

/-- R342: CHG_REQ, mW. -/
def State.chgReq (s : State) : Nat :=
  let dem (k : Nat) : Nat :=
    if (s.strCh k).chg = .run then (s.iLimOf k false).1 * (s.strV k).toNat * 105 / 100000 else 0
  dem 0 + dem 1

end Sys2Proof.Machine
end

