-- ==== Sys2Proof/Machine/Blocks.lean ====
section
/-! DEFINITION. The blocks of the NAND die: the partition map with its spare and bad blocks (R472), erase counts and wear
levelling (R473), relocation (R474), and the log of the cards partition with its compaction (R465). -/

namespace Sys2Proof.Machine

/-- R472, R473: what the metadata say of a block of a partition. -/
def Blocks.at_ (l : Nat) (b : Blocks) : Blk := (b.tab.find? fun x => x.l = l).getD ⟨l, l, 0⟩

/-- R472: the map of a block is rewritten. -/
def Blocks.put (x : Blk) (b : Blocks) : Blocks := { b with tab := x :: b.tab.filter fun y => y.l ≠ x.l }

/-- R473: a block is erased. -/
def Blocks.erase (l : Nat) (b : Blocks) : Blocks := b.put { b.at_ l with wear := (b.at_ l).wear + 1 }

/-- `n` blocks from `l` on are erased. -/
def Blocks.erases (l n : Nat) (b : Blocks) : Blocks := (List.range n).foldl (fun b j => b.erase (l + j)) b

/-- R472: the blocks a partition has. -/
def Blocks.sizeOf (p : Part) (b : Blocks) : Nat := max 2 (p.size - b.lost.count p)

/-- R456: the partition a block belongs to. -/
def partOf (l : Nat) : Part :=
  if l < Part.captures.base then .history
  else if l < Part.events.base then .captures
  else if l < Part.cards.base then .events
  else if l < Part.store.base then .cards
  else .store

/-- R472: a bad block is replaced by the first spare. -/
def Blocks.replace (l : Nat) (b : Blocks) : Blocks :=
  match b.spare with
  | (p, w) :: rest => { b.put ⟨l, p, w⟩ with spare := rest, bad := (b.at_ l).phys :: b.bad }
  | [] => b

/-- R472: a partition shrinks by one block: its last block stands in for the bad one (DESIGN CHOICE, log entry 147). -/
def Blocks.shrink (l : Nat) (b : Blocks) : Blocks :=
  let last := b.at_ ((partOf l).base + b.sizeOf (partOf l) - 1)
  let b' := { b with tab := b.tab.filter fun x => x.l ≠ last.l, lost := partOf l :: b.lost, bad := (b.at_ l).phys :: b.bad }
  if l = last.l then b' else b'.put { last with l := l }

/-- R472: a block of a partition is lost; what no longer fits goes with it: the last capture slot, the oldest block of a
ring (DESIGN CHOICE, log entry 147). -/
def Skb.shrink (l : Nat) (k : Skb) : Skb :=
  let k := { k with blk := k.blk.shrink l }
  let trim (n r : Nat) (x : List (List Byte)) : List (List Byte) := if (n - 1) * r < x.length then x.drop r else x
  { k with
    slots := k.slots.filter fun z => z.slot < k.slotCount, nextSlot := k.nextSlot % k.slotCount
    histRing := trim (k.blk.sizeOf .history) 256 k.histRing, evRing := trim (k.blk.sizeOf .events) 4096 k.evRing }

/-- R474: the contents of a block go to a spare, and the block, erased, becomes a spare.
(DESIGN CHOICE, log entry 145.) -/
def Blocks.relocate (l : Nat) (b : Blocks) : Blocks :=
  match b.spare with
  | (p, w) :: rest => { b.put ⟨l, p, w⟩ with spare := rest ++ [((b.at_ l).phys, (b.at_ l).wear + 1)] }
  | [] => b

/-- R473: the mean erase count of the history partition's blocks. -/
def Blocks.histMean (b : Blocks) : Nat := ((b.tab.filter fun x => partOf x.l = .history).map Blk.wear).sum / b.sizeOf .history

/-- R473: a block of the captures, events, cards or store partition whose erase count exceeds the mean of the history
partition by 2,000. -/
def Blocks.wornBlock (b : Blocks) : Option Nat :=
  (b.tab.find? fun x => partOf x.l ≠ .history && b.histMean + 2000 < x.wear).map Blk.l

/-- R473: the least-worn history block: the first never erased, else the first with the lowest count. -/
def Blocks.leastWorn (b : Blocks) : Nat :=
  let h := b.tab.filter fun x => partOf x.l = .history
  match (List.range (min (h.length + 1) (b.sizeOf .history))).find? fun l => !(h.any fun x => x.l = l && x.wear ≠ 0) with
  | some l => l
  | none => ((h.foldl (fun (m : Option Blk) x =>
      match m with
      | some y => if x.wear < y.wear then some x else m
      | none => some x) none).map Blk.l).getD 0

/-- R473: a block's contents and those of the least-worn history block change places; both blocks are erased for it. -/
def Blocks.exchange (l : Nat) (b : Blocks) : Blocks :=
  let x := b.at_ l
  let y := b.at_ b.leastWorn
  (b.put ⟨l, y.phys, y.wear + 1⟩).put ⟨y.l, x.phys, x.wear + 1⟩

/-- R465: an entry of the cards log is live: a card that is kept, the latest copy of a varnish page, the header of a slot. -/
def Skb.live (k : Skb) (r : LogRef) : Bool :=
  match r with
  | .card n => k.cards.any fun c => u c 20 4 = n
  | .page _ _ => true
  | .header n => k.slots.any fun z => z.slot = n && z.state = 2

/-- R458, R465: an entry is written at the next sector of the cards log, a varnish copy at the next page. -/
def Skb.append (n : Nat) (r : LogRef) (k : Skb) : Skb :=
  let at_ := (k.blk.cardPos + n - 1) / n * n
  { k with blk := { k.blk with cardPos := at_ + n, log := k.blk.log.filter (fun x => x.2 ≠ r) ++ [(at_, r)] } }

/-- R458: sectors of the cards log that hold nothing readable: a torn or failed program. -/
def Skb.skip (n : Nat) (k : Skb) : Skb := { k with blk := { k.blk with cardPos := (k.blk.cardPos + n - 1) / n * n + n } }

/-- R465: the oldest block of the cards log is compacted: what lives in it is written anew and verified, and only then is it
erased. -/
def Skb.compact (k : Skb) : Skb :=
  let low := k.blk.cardLow
  let rs := (k.blk.log.filter fun x => x.1 / 256 = low && k.live x.2).map (·.2)
  let k := rs.foldl (fun k r => k.append (match r with | .page _ _ => 4 | .card _ | .header _ => 1) r) k
  { k with blk := { k.blk.erase (Part.cards.base + low % k.blk.sizeOf .cards) with
      cardLow := low + 1, log := k.blk.log.filter fun x => x.1 / 256 ≠ low } }

/-- R465: fewer than four blocks of the cards partition are erased. -/
def Skb.cardsFull (k : Skb) : Bool := k.blk.sizeOf .cards < (k.blk.cardPos + 255) / 256 - k.blk.cardLow + 4

/-- R465: an entry of `n` sectors joins the cards log, and the oldest blocks are compacted while fewer than four are erased.
(DESIGN CHOICE, log entry 146.) -/
def Skb.place (n : Nat) (r : LogRef) (k : Skb) : Skb :=
  (List.range 64).foldl (fun k _ => if k.cardsFull then k.compact else k) (k.append n r)

end Sys2Proof.Machine
end

