-- ==== Sys2Proof/Machine/Nand.lean ====
section
/-! DEFINITION. Varnish (R257–R262) and the queue of NAND operations with what each does when it completes (R458, R465,
R469, R471, R472, R475). -/

namespace Sys2Proof.Machine

/-- R259: a page of a varnish copy. -/
def vPage (id seq : Nat) (data : List Byte) : List Byte :=
  withCrc32 (toLE 2 id ++ toLE 2 data.length ++ toLE 4 seq ++ data)

/-- R262: the data length of an item; the field trims (0x0020) have as many corrections as were learnt. -/
def vLen (id : Nat) : Option Nat :=
  if id = 1 ∨ id = 2 ∨ id = 3 ∨ id = 5 then some 4
  else if id = 4 then some 8
  else if id = 0x10 ∨ id = 0x11 then some 74
  else if id = 0x30 then some 144
  else none

/-- R262: a copy is valid. -/
def vValid (id : Nat) (p : List Byte) : Bool :=
  let n := u p 2 2
  p.length = 12 + n && u p 0 2 = id && 1 ≤ n && n ≤ 4084 && (vLen id).getD n = n && u p (8 + n) 4 = crc32 (p.take (8 + n))

/-- The valid pages of an item: page number, SEQ and data. -/
def VItem.copies (x : VItem) : List (Nat × Nat × List Byte) :=
  let c (n : Nat) (p : Option (List Byte)) : List (Nat × Nat × List Byte) :=
    (p.toList.filter (vValid x.id)).map fun b => (n, u b 4 4, sliceBytes b 8 (u b 2 2))
  c 0 x.page0 ++ c 1 x.page1

/-- R262: the valid copy with the larger SEQ. -/
def VItem.newest (x : VItem) : Option (Nat × Nat × List Byte) :=
  x.copies.foldl (fun m c =>
    match m with
    | some b => if b.2.1 < c.2.1 then some c else m
    | none => some c) none

/-- R260: the page a write replaces: an invalid copy where there is one, the older one otherwise. -/
def VItem.target (x : VItem) : Nat :=
  let good := x.copies.map (·.1)
  if 0 ∉ good then 0 else if 1 ∉ good then 1 else 1 - (x.newest.map (·.1)).getD 1

/-- A varnish item. -/
def State.item (s : State) (id : Nat) : VItem := (s.varn.items.find? fun x => x.id = id).getD (VItem.blank id)

/-- A varnish item changes. -/
def State.onItem (id : Nat) (f : VItem → VItem) (s : State) : State :=
  s.onVarn fun v => { v with items := v.items.map fun x => if x.id = id then f x else x }

/-- The data of the newest valid copy of an item. -/
def State.stored (s : State) (id : Nat) : Option (List Byte) := (s.item id).newest.map fun c => c.2.2

/-- A varnish item's value as the device holds it: waiting for its page, deferred, or stored (R257, R261). -/
def State.held (s : State) (id : Nat) : Option (List Byte) :=
  let job (j : Job) : Option (List Byte) :=
    match j.op with
    | .varnish n d _ => if n = id then some d else none
    | .card _ | .capture _ | .events | .history | .store _ _ | .erase _ | .move _ => none
  (((s.skb.waiting ++ s.skb.running.toList).findSome? job).or (s.item id).deferred).or (s.stored id)

/-- A page of an item takes bytes. -/
def VItem.program (n : Nat) (p : List Byte) (x : VItem) : VItem :=
  if n = 0 then { x with page0 := some p } else { x with page1 := some p }

/-- R260: the item's new copy, with SEQ one above the newer copy's. -/
def VItem.write (data : List Byte) (x : VItem) : VItem :=
  x.program x.target (vPage x.id ((x.newest.map fun c => c.2.1).getD 0 + 1) data)

/-- R260: the energy gate (DESIGN CHOICE, log entry 12). -/
def State.gateOpen (s : State) : Bool :=
  !s.sys.brownOut && 8000000 * Config.keepPower s.free ≤ s.sys.cUf * (s.sys.keepMv ^ 2 - 4500 ^ 2)

/-- LEARN_COUNT of a gauge item's data (R258). -/
def itemLearnCount (data : List Byte) : Nat := u data 6 2

/-- R260, R261: a value is held in SRAM; a gauge item with a learning result raises 0x0A06. -/
def State.deferItem (id : Nat) (data : List Byte) (s : State) : State :=
  let k := id - 0x10
  let learnt : Bool := (id = 0x10 || id = 0x11) && (s.gaugeCh k).learntDue
  let s := s.onItem id fun x => { x with deferred := some data }
  if learnt then (s.onGaugeCh k fun g => { g with capDeferred := true, learntDue := false }).raise 0x0A06 k else s

/-- A NAND operation on this item waits or runs. -/
def State.itemBusy (s : State) (id : Nat) : Bool :=
  let p (j : Job) : Bool :=
    match j.op with
    | .varnish i _ _ => i = id
    | .card _ | .capture _ | .events | .history | .store _ _ | .erase _ | .move _ => false
  s.skb.waiting.any p || s.skb.running.any p

/-- The commands that reply once their varnish item is written or deferred (R266, R65, R497). -/
def State.varnJudge (s : State) : State :=
  let s := s.judge (fun w => w.op = 0x0A02 || w.op = 0x0A03) fun w k =>
    if w.started.testBit k && !s.itemBusy (0x10 + k) then some st.ok else none
  let s := s.wake (fun w => w.op = 0x0113 && !s.itemBusy 5) fun _ => (st.ok, toLE 4 s.sys.cUf)
  s.wake (fun w => w.op = 0x1405 && !s.itemBusy 2) fun _ => (st.ok, [])

/-- The first waiting job of the lowest rank (R471). -/
def nextJob (js : List Job) : Option Job :=
  js.foldl (fun m j =>
    match m with
    | some b => if j.op.rank < b.op.rank then some j else m
    | none => some j) none

/-- R19, R52, R66, R475: a NAND operation may start: not below 6 V, where only a varnish write is judged, which its gate then
defers (R260); before firmware ready none but the boot loader's store of an image (R55). -/
def State.mayStart (s : State) (op : NandOp) : Bool :=
  !s.skb.failed && s.skb.running.isNone &&
    match s.sys.mode, op with
    | .running, .varnish _ _ _ | .coldReset, .varnish _ _ _ => true
    | .running, _ | .coldReset, _ => !s.sys.nandBar
    | .bootLoader, .store area _ => area < 2 && !s.sys.nandBar
    | _, _ => false

/-- A frozen capture waits for its commit. -/
def Skb.capturePending (k : Skb) : Bool := k.areas.any fun a => a.phase = .frozen

/-- R467: a commit barred by KEEP raises 0x1207 once. -/
def State.barCheck (s : State) : State :=
  if s.sys.nandBar && s.skb.capturePending && !s.skb.failed then
    if s.skb.barRaised then s else (s.onSkb fun k => { k with barRaised := true }).raise 0x1207
  else s.onSkb fun k => { k with barRaised := k.barRaised && s.sys.nandBar }

/-- R260, R261: an item is deferred whose copy has failed twice, or met the gate closed, with the newer value where one
waits. -/
def State.deferNewer (id : Nat) (data : List Byte) (s : State) : State :=
  let newer (j : Job) : Option (List Byte) :=
    match j.op with
    | .varnish i d _ => if i = id then some d else none
    | .card _ | .capture _ | .events | .history | .store _ _ | .erase _ | .move _ => none
  let d := (s.skb.waiting.findSome? newer).getD data
  (s.onSkb fun k => { k with waiting := k.waiting.filter fun j => (newer j).isNone }).deferItem id d

/-- R471: waiting operations are started, one at a time; those with nothing to do are passed over. -/
def State.startJobs : Nat → State → State
  | 0, s => s
  | n + 1, s =>
    match nextJob (s.skb.waiting.filter fun j => s.mayStart j.op) with
    | none => s
    | some j =>
      let s := s.onSkb fun k => { k with waiting := k.waiting.erase j }
      let go := s.onSkb fun k => { k with running := some j, tRun := s.now }
      match j.op with
      | .varnish id data _ =>
        if s.gateOpen then go.drew
        else ((s.drew.onVarn fun v => { v with openSince := none }).deferNewer id data).startJobs n
      | .events => if s.skb.evBuf.isEmpty then s.startJobs n else go
      | .history => if s.skb.histQ.isEmpty then s.startJobs n else go
      | .capture a =>
        go.onSkb fun k => { k with areas := k.areas.modify a fun x => { x with phase := .committing } }
      | .card _ | .store _ _ | .erase _ | .move _ => go

/-- R462, R471: what is waiting is started, and commands whose item needs no more programming reply. -/
def State.pump (s : State) : State :=
  let taken := if s.skb.running.any fun j => j.op = .events then 16 else 0
  let s := if 16 + taken ≤ s.skb.evBuf.length ∧ !(s.skb.waiting.any fun j => j.op = .events) then s.enqueue .events none else s
  ((s.startJobs (s.skb.waiting.length + 1)).barCheck).varnJudge

/-- R257, R260: an item's owner writes a value: it replaces one that waits or is deferred, and its copy is programmed in
its turn; with the die failed it is deferred. -/
def State.vWrite (id : Nat) (data : List Byte) (s : State) : State :=
  let same (j : Job) : Bool :=
    match j.op with
    | .varnish i _ _ => i = id
    | .card _ | .capture _ | .events | .history | .store _ _ | .erase _ | .move _ => false
  let s := s.onSkb fun k => { k with waiting := k.waiting.filter fun j => !same j }
  if s.skb.failed then (s.deferItem id data).varnJudge
  else ((s.onItem id fun x => { x with deferred := none }).enqueue (.varnish id data 0) none).pump

/-- The bits a sample of a channel is shifted by (R468). -/
def capShift (c : Nat) : Nat :=
  if (109 ≤ c ∧ c ≤ 116) ∨ 204 ≤ c then 0
  else if 138 ≤ c ∧ c ≤ 153 then 4
  else if 184 ≤ c ∧ c ≤ 199 then 3
  else if (160 ≤ c ∧ c ≤ 183) ∨ (200 ≤ c ∧ c ≤ 203) then 8
  else 2

/-- R469: the header of a capture area, STATE as given. -/
def State.capHeader (s : State) (a : Area) (state : Nat) : List Byte :=
  let n := a.samples.length
  withCrc32 (toLE 4 a.capSeq ++ [byte a.slot, byte state, byte a.chans.length, byte a.prePct] ++ toLE 4 a.interval ++
    toLE 2 a.pre ++ [byte a.setInst, byte a.secs.length] ++ toLE 8 (a.tLast - (n - 1) * a.interval) ++ toLE 2 a.code ++
    toLE 2 a.chan ++ toLE 4 a.evSeq ++ toLE 8 a.tTrig ++ toLE 4 s.sys.porCount ++ toLE 4 a.palId ++
    padTo 56 (a.secs.flatMap fun x => toLE 2 x.1 ++ toLE 2 x.2.1 ++ toLE 4 x.2.2) ++
    (a.chans.flatMap (toLE 2)) ++ List.replicate (2 * (64 - a.chans.length)) 0xFF ++ zeros 20)

/-- R468: the sample data of an area. -/
def Area.data (a : Area) : List Byte := a.samples.flatMap fun x => x.flatMap (toLEi 2)

/-- R466, R469: a capture is committed to its slot, whose blocks have been erased for it, its header joins the cards log, and
its area is freed. -/
def State.captureDone (a : Nat) (s : State) : State :=
  let x := s.skb.areas.getD a Area.free
  (s.onSkb fun k =>
    ({ k with
      slots := ⟨x.slot, 2, s.capHeader x 2, x.data⟩ :: k.slots.filter fun z => z.slot ≠ x.slot,
      areas := k.areas.set a Area.free,
      blk := if k.slots.any fun z => z.slot = x.slot then k.blk.erases (Part.captures.base + 4 * x.slot) 4 else k.blk }).place
        1 (.header x.slot)).arm

/-- R459, R462: the oldest block of a ring is erased once `n` blocks of `r` records are all but one full. -/
def ringTrim (n r : Nat) (l : List (List Byte)) : List (List Byte) := if (n - 1) * r < l.length then l.drop r else l

/-- R459: records join the history ring; the block after the newest is kept erased. -/
def Skb.histAdd (rs : List (List Byte)) (k : Skb) : Skb :=
  let n := k.blk.sizeOf .history
  let l := k.histRing ++ rs
  let b := { k.blk with histPos := k.blk.histPos + rs.length }
  { k with
    histRing := ringTrim n 256 l
    blk := if (n - 1) * 256 < l.length then b.erase (Part.history.base + ((b.histPos - 1) / 256 + 1) % n) else b }

/-- R462: entries join the event ring (DESIGN CHOICE, log entry 146). -/
def Skb.evAdd (rs : List (List Byte)) (k : Skb) : Skb :=
  let n := k.blk.sizeOf .events
  let l := k.evRing ++ rs
  let b := { k.blk with evPos := k.blk.evPos + rs.length }
  { k with
    evRing := ringTrim n 4096 l
    blk := if (n - 1) * 4096 < l.length then b.erase (Part.events.base + ((b.evPos - 1) / 4096 + 1) % n) else b }

/-- R479: a ring's programmed blocks are erased: those of its last `held` of `pos` records. -/
def Blocks.clearRing (p : Part) (r pos held : Nat) (b : Blocks) : Blocks :=
  let n := b.sizeOf p
  let from_ := (pos - held) / r
  (List.range ((pos + r - 1) / r - from_)).foldl (fun b j => b.erase (p.base + (from_ + j) % n)) b

/-- SKB_CLEAR (R479): the partitions named are erased; the cards partition keeps its varnish copies and, where the captures
stay, their headers (DESIGN CHOICE, log entry 146). -/
def Skb.clear (parts : Nat) (k : Skb) : Skb :=
  let k := if parts.testBit 0 then
      { k with
        histRing := [], blk := { k.blk.clearRing .history 256 k.blk.histPos k.histRing.length with
          histPos := (k.blk.histPos + 255) / 256 * 256 } }
    else k
  let k := if parts.testBit 1 then
      { k with
        evRing := [], blk := { k.blk.clearRing .events 4096 k.blk.evPos k.evRing.length with
          evPos := (k.blk.evPos + 4095) / 4096 * 4096 } }
    else k
  let k := if parts.testBit 2 then
      { k with
        slots := [], blk := k.slots.foldl (fun b z => b.erases (Part.captures.base + 4 * z.slot) 4) k.blk }
    else k
  if parts.testBit 3 then
    let k := { k with cards := [] }
    (List.range ((k.blk.cardPos + 255) / 256 - k.blk.cardLow)).foldl (fun k _ => k.compact) k
  else k

/-- R459: a history record with the records dropped before it (FLAGS [2] and GAP). -/
def withGap (gap : Nat) (r : List Byte) : List Byte :=
  if gap = 0 then r
  else
    withCrc32 (r.take 16 ++ toLE 2 (u r 16 2 ||| 4) ++ sliceBytes r 18 10 ++ toLE 4 gap ++ sliceBytes r 32 988)

/-- R465: the newest four cards of a pair of BLOCK and CHANNEL stay. -/
def keepCards (c : List Byte) (cs : List (List Byte)) : List (List Byte) :=
  let same := cs.filter fun x => x.take 2 = c.take 2
  c :: cs.filter fun x => x.take 2 ≠ c.take 2 || x ∈ same.take 3

/-- R457: the store areas: 0 and 1 images, 2 and 3 palette banks, 4 and 5 easel saves. -/
def State.storeDone (area : Nat) (bytes : List Byte) (s : State) : State :=
  if area < 2 then
    if (s.img.area[fin 2 area]).bytes = bytes then
      s.onImg fun i => { i with area := upd i.area (fin 2 area) fun x => { x with st := .valid }, download := 2 }
    else s
  else if area < 4 then s.onPal fun p => { p with store := p.store.set! (area - 2) (some bytes) }
  else
    s.onCfg fun c =>
      { c with save := upd c.save (fin 2 (area - 4)) fun x => x.map fun y => (y.1, { y.2 with ok := true }) }

/-- R457: the blocks a store operation programs. -/
def storeBlock (area : Nat) : Nat :=
  Part.store.base + (if area < 2 then 128 * area else 256 + 8 * (area - 2))

/-- R472: the block of its partition that an operation programs first. -/
def Skb.opBlock (k : Skb) : NandOp → Nat
  | .varnish _ _ _ | .card _ => Part.cards.base + k.blk.cardPos / 256 % k.blk.sizeOf .cards
  | .capture a => Part.captures.base + 4 * (k.areas.getD a Area.free).slot
  | .events => Part.events.base + k.blk.evPos / 4096 % k.blk.sizeOf .events
  | .history => Part.history.base + k.blk.histPos / 256 % k.blk.sizeOf .history
  | .store area _ => storeBlock area
  | .erase parts =>
    if parts.testBit 0 then Part.history.base + (k.blk.histPos - k.histRing.length) / 256 % k.blk.sizeOf .history
    else if parts.testBit 1 then Part.events.base + (k.blk.evPos - k.evRing.length) / 4096 % k.blk.sizeOf .events
    else if parts.testBit 2 then Part.captures.base
    else Part.cards.base + k.blk.cardLow % k.blk.sizeOf .cards
  | .move l => l

/-- What a completed operation leaves (R260, R261, R459, R462, R464, R469, R473, R479). -/
def State.opDone (op : NandOp) (s : State) : State :=
  match op with
  | .varnish id data _ =>
    let s := (s.onItem id (VItem.write data)).onSkb fun k => k.place 4 (.page id (s.item id).target)
    let k := id - 0x10
    let s :=
      if (id = 0x10 ∨ id = 0x11) ∧ itemLearnCount data = (s.gaugeCh k).learnCount then
        s.onGaugeCh k fun g => { g with learntDue := false }
      else s
    if (id = 0x10 ∨ id = 0x11) ∧ (s.gaugeCh k).capDeferred then
      (s.onGaugeCh k fun g => { g with capDeferred := false }).raise 0x0A08 k
    else s
  | .card c => s.onSkb fun k => { k with cards := keepCards c k.cards }.place 1 (.card (u c 20 4))
  | .capture a => s.captureDone a
  | .events =>
    let s := s.onSkb fun k =>
      { k.evAdd (k.evBuf.take 16) with
        evBuf := k.evBuf.drop 16, evOldest := ((k.evBuf.drop 16).head?.map fun e => u e 4 8).getD s.now }
    if s.skb.evPendLost ≠ 0 then (s.raise 0x1205).onSkb fun k => { k with evPendLost := 0 } else s
  | .history =>
    let s := s.onSkb fun k => { k.histAdd ((k.histQ.take 1).map (withGap k.gap)) with histQ := k.histQ.drop 1, gap := 0 }
    if s.skb.histQ.isEmpty then s else s.enqueue .history none
  | .store area bytes =>
    (s.storeDone area bytes).onSkb fun k => { k with blk := k.blk.erases (storeBlock area) ((bytes.length + 262143) / 262144) }
  | .erase parts => s.onSkb (Skb.clear parts)
  | .move l => s.onSkb fun k => { k with blk := k.blk.exchange l }

/-- R472: a block is retired: a spare stands in its place, or its partition shrinks by one block. -/
def State.retire (l : Nat) (s : State) : State :=
  if s.skb.blk.spare.isEmpty then (s.onSkb (Skb.shrink l)).raise 0x1203
  else (s.onSkb fun k => { k with blk := k.blk.replace l }).raise 0x1202

/-- R473: a worn block gets its move, one at a time. -/
def State.levelWear (s : State) : State :=
  let moving (j : Job) : Bool :=
    match j.op with
    | .move _ => true
    | .varnish _ _ _ | .card _ | .capture _ | .events | .history | .store _ _ | .erase _ => false
  if s.skb.waiting.any moving || s.skb.running.any moving then s
  else
    match s.skb.blk.wornBlock with
    | some l => s.enqueue (.move l) none
    | none => s

/-- R475: the die is failed: nothing more is programmed; varnish values are deferred, commands that wait end with
TIMEOUT, records stay in SRAM (DESIGN CHOICE, log entry 65). -/
def State.nandFail (s : State) : State :=
  let js := s.skb.running.toList ++ s.skb.waiting
  let keep (j : Job) : Bool :=
    match j.op with
    | .varnish _ _ _ => false
    | .card _ | .capture _ | .events | .history | .store _ _ | .erase _ | .move _ => j.owed.isNone
  let s := s.onSkb fun k =>
    { k with
      failed := true, running := none, waiting := js.filter keep, scrub := false,
      areas := k.areas.map fun a => if a.phase = .committing then { a with phase := .frozen } else a }
  let s := s.each js fun j s =>
    match j.op, j.owed with
    | .varnish id data _, _ => s.deferItem id data
    | _, some w => s.finish w.o w.op st.timeout []
    | _, none => s
  (s.raise 0x1201).varnJudge

/-- R475: a block on which an operation fails joins those of the consecutive failures. -/
def Skb.fail (l : Nat) (k : Skb) : Skb :=
  let p := (k.blk.at_ l).phys
  { k with failRun := if p ∈ k.failRun then k.failRun else p :: k.failRun }

/-- R471, R472, R475: the running operation ends. A failed varnish copy is written once more, to a fresh page (R260); any other
failed program or erase retires its block and is repeated; a third failure in a row on a third block fails the die.
(DESIGN CHOICE, log entry 65.) -/
def State.nandDone (ok : Bool) (s : State) : State :=
  match s.skb.running with
  | none => s
  | some j =>
    let l := s.skb.opBlock j.op
    let s := s.onSkb fun k => { k with running := none }
    if ok then
      let s := (s.onSkb fun k => { k with failRun := [] }).opDone j.op
      let s := match j.owed with
        | some w => s.finish w.o w.op st.ok w.params
        | none => s
      s.levelWear.pump
    else
      let s := s.onSkb (Skb.fail l)
      if 3 ≤ s.skb.failRun.length then (s.onSkb fun k => { k with running := some j }).nandFail
      else
        match j.op with
        | .varnish id data tries =>
          let s := s.onSkb (Skb.skip 4)
          if tries = 0 then
            (s.onSkb fun k => { k with waiting := ⟨.varnish id data 1, j.owed⟩ :: k.waiting }).pump
          else ((s.raise 0x12C3).deferNewer id data).pump
        | .card _ | .capture _ | .events | .history | .store _ _ | .erase _ | .move _ =>
          ((s.onSkb fun k => { k with waiting := j :: k.waiting }).retire l).pump

/-- NAND_OP_DONE (R471) (DESIGN CHOICE, log entry 65). -/
def execNandOpDone (ok : Bool) (s : State) : Host.Outcome State Fault Refusal := .next (s.nandDone ok)

/-- NAND_TIMEOUT (R475): the running operation has not completed within 10 ms. -/
def execNandTimeout (s : State) : Host.Outcome State Fault Refusal :=
  .next (if s.skb.running.isSome then (s.advanceTo (s.skb.tRun + ms 10)).nandFail else s)

/-- VARNISH_RETRY (R261): the gate has stayed open for 10 s, so the deferred values are written in ITEM_ID order.
(DESIGN CHOICE, log entries 33, 65.) -/
def execVarnishRetry (s : State) : Host.Outcome State Fault Refusal :=
  .next <|
    match s.varn.openSince with
    | none => s
    | some t =>
      let s := s.advanceTo (t + sec 10)
      s.each s.varn.items fun x s =>
        match x.deferred with
        | some d => s.vWrite x.id d
        | none => s

/-- EVENT_FLUSH (R462): 1 s after the oldest pending entry a sector is queued. -/
def execEventFlush (s : State) : Host.Outcome State Fault Refusal :=
  .next <|
    if s.skb.evBuf.isEmpty ∨ s.skb.running.any fun j => j.op = .events then s
    else
      let s := s.advanceTo (s.skb.evOldest + sec 1)
      (if s.skb.waiting.any fun j => j.op = .events then s else s.enqueue .events none).pump

/-- CAPTURE_COMMIT (R469): a capture's data and header are programmed and verified. -/
def execCaptureCommit (s : State) : Host.Outcome State Fault Refusal :=
  .next <|
    match s.skb.running with
    | some ⟨.capture _, _⟩ => s.nandDone true
    | _ => s

end Sys2Proof.Machine
end

