-- ==== Sys2Proof/Machine/Gauge.lean ====
section
/-! DEFINITION. The battery gauges (R242–R256, R263–R267). The filter is computed in integers: SOC in 0.0001%,
voltages in µV; the spec states no rounding (log entry 30). -/

namespace Sys2Proof.Machine

/-- The OCV table a string's gauge uses (R140, R148). -/
def State.ocv (s : State) (k : Nat) : List Byte := s.table (s.palOld 7) 0x09 (s.fld Fld.Gauge.OCV_INST k)

/-- R263: the string's CHEM is not that of its OCV table. -/
def State.ocvBad (s : State) (k : Nat) : Bool := u (s.ocv k) 0 1 ≠ s.fld Fld.Chg.CHEM k || (s.ocv k).isEmpty

/-- R140: the temperature row below `temp` and the weight (of `den`) of the row above it; flat beyond the outer rows. -/
def ocvRow (t : List Byte) (temp : Int) : Nat × Nat × Nat :=
  let tm (r : Nat) : Int := i t (4 + 2 * r) 2
  if temp ≤ tm 0 then (0, 0, 1)
  else if tm 3 ≤ temp then (2, 1, 1)
  else
    let r := ((List.range 4).filter fun r => tm r ≤ temp).length - 1
    (r, (temp - tm r).toNat, (tm (r + 1) - tm r).toNat)

/-- R140: point `p` at a temperature: SOC in 0.01% and OCV in µV per cell. -/
def ocvPoint (t : List Byte) (temp : Int) (p : Nat) : Nat × Nat :=
  let r := ocvRow t temp
  let v (row : Nat) : Nat := 100 * u t (76 + 64 * row + 2 * p) 2
  (u t (12 + 2 * p) 2, (v r.1 * (r.2.2 - r.2.1) + v (min 3 (r.1 + 1)) * r.2.1) / max 1 r.2.2)

/-- R140: the 32 points at a temperature. -/
def ocvPoints (t : List Byte) (temp : Int) : List (Nat × Nat) := (List.range 32).map (ocvPoint t temp)

/-- R140: the OCV at a SOC in 0.0001%, µV per cell, and the slope there in µV per million of SOC units; flat outside
0–100% (DEDUCED, log entry 93). -/
def ocvAt (ps : List (Nat × Nat)) (soc : Int) : Int × Int :=
  let p (j : Nat) : Nat × Nat := ps.getD j (0, 0)
  if soc < 0 then ((p 0).2, 0)
  else if 1000000 < soc then ((p 31).2, 0)
  else
    let x := soc.toNat
    let j := min 30 (((List.range 32).filter fun j => 100 * (p j).1 ≤ x).length - 1)
    let a := p j
    let b := p (j + 1)
    let ds := max 1 (b.1 - a.1)
    ((a.2 + (b.2 - a.2) * (x - 100 * a.1) / (100 * ds) : Nat), ((b.2 - a.2) * 10000 / ds : Nat))

/-- R250: the table inverted at a cell voltage: the SOC (the midpoint of a flat run) and the SOC standard deviation, both
in 0.0001% (DEDUCED, log entry 93). -/
def ocvInvert (ps : List (Nat × Nat)) (v : Nat) : Nat × Nat :=
  let p (j : Nat) : Nat × Nat := ps.getD j (0, 0)
  let run := (List.range 32).filter fun j => (p j).2 = v
  let below := ((List.range 32).filter fun j => (p j).2 < v).length
  let dev (a b : Nat × Nat) : Nat :=
    if b.2 ≤ a.2 then 200000 else max 5000 (min 200000 (1000000 * (b.1 - a.1) / (b.2 - a.2)))
  match run.head?, run.getLast? with
  | some f, some l =>
    (50 * ((p f).1 + (p l).1),
      if f ≠ l then 200000 else if l = 31 then dev (p 30) (p 31) else dev (p l) (p (l + 1)))
  | _, _ =>
    if below = 0 then (0, dev (p 0) (p 1))
    else if below = 32 then (1000000, dev (p 30) (p 31))
    else
      let a := p (below - 1)
      let b := p below
      (100 * a.1 + 100 * (b.1 - a.1) * (v - a.2) / max 1 (b.2 - a.2), dev a b)

/-- R242: the mean current of a charge in µAh over an interval in ticks, mA. -/
def meanMa (q : Int) (dt : Nat) : Int := q * 360000000 / max 1 (dt : Int)

/-- R242: the prediction: charge counted, RC voltages and covariance moved on by one interval (R243).
(DESIGN CHOICE, log entry 30.) -/
def State.predictX (s : State) (k : Nat) (q : Int) (dt : Nat) (g : GaugeCh) : GaugeCh :=
  let f (x : Field) : Nat := s.fld x k
  let i := meanMa q dt
  let a (tau : Nat) : Int := fexpNeg dt (sec tau)
  let one : Int := fone
  let a1 := a (f Fld.Gauge.TAU1_S)
  let a2 := a (f Fld.Gauge.TAU2_S)
  let dq := if 0 < q then q * 1000 else q * 1000 * f Fld.Gauge.CHG_EFF / 10000
  let c (j : Nat) : Int := g.cov.getD j 0
  { g with
    soc := g.soc - dq / max 1 (g.fcc : Int)
    v1 := (g.v1 * a1 + i * f Fld.Gauge.R1_UOHM / 1000 * (one - a1)) / one
    v2 := (g.v2 * a2 + i * f Fld.Gauge.R2_UOHM / 1000 * (one - a2)) / one
    sigma := isqrt (g.sigma * g.sigma + 40000)
    cov := [c 0 * a1 / one, c 1 * a2 / one, c 2 * a1 / one * a1 / one + 1000000, c 3 * a1 / one * a2 / one,
      c 4 * a2 / one * a2 / one + 1000000] }

/-- R242, R243: the correction by the voltage, with the measurement's standard deviation `dev` in mV per cell.
(DEDUCED, log entry 93.) -/
def State.correctX (s : State) (k : Nat) (q : Int) (dt dev : Nat) (g : GaugeCh) : GaugeCh :=
  let ps := ocvPoints (s.ocv k) (s.tBatUsed k)
  let cells : Int := (s.fld Fld.Chg.CELLS k : Nat)
  let o := ocvAt ps g.soc
  let e := 1000 * s.strV k - (cells * o.1 - meanMa q dt * s.fld Fld.Gauge.R0_UOHM k / 1000 - g.v1 - g.v2)
  let h := cells * o.2
  let c (j : Nat) : Int := g.cov.getD j 0
  let p00 : Int := g.sigma * g.sigma
  let t0 := p00 * h / 1000000 - c 0 - c 1
  let t1 := c 0 * h / 1000000 - c 2 - c 3
  let t2 := c 1 * h / 1000000 - c 3 - c 4
  let r := cells * (1000 * dev : Nat)
  let sv := max 1 (t0 * h / 1000000 - t1 - t2 + r * r)
  { g with
    soc := g.soc + t0 * e / sv
    v1 := g.v1 + t1 * e / sv
    v2 := g.v2 + t2 * e / sv
    sigma := isqrt (p00 - t0 * t0 / sv).toNat
    cov := [c 0 - t0 * t1 / sv, c 1 - t0 * t2 / sv, c 2 - t1 * t1 / sv, c 3 - t1 * t2 / sv, c 4 - t2 * t2 / sv] }

/-- R242: the SOC stays within −5 and 105%. -/
def GaugeCh.clampSoc (g : GaugeCh) : GaugeCh := { g with soc := max (-50000) (min 1050000 g.soc) }

/-- R258: the data of a string's gauge item (the model's own order of the values the rule names; the FCC with the mark that
it has been learnt or set). -/
def GaugeCh.item (g : GaugeCh) : List Byte :=
  toLE 4 g.fcc ++ toLE 2 g.soh ++ toLE 2 g.learnCount ++ [byte (if g.learnState = 1 ∨ g.learnState = 2 then g.learnState else 0), byte (b2n g.fccOwn)] ++
    toLEi 4 g.soc ++ toLEi 4 g.v1 ++ toLEi 4 g.v2 ++ toLE 4 g.sigma ++
    ((List.range 5).flatMap fun j => toLEi 8 (g.cov.getD j 0)) ++ toLE 8 g.tFull

/-- R258: the gauge item of a string is written. -/
def State.gaugeSave (k : Nat) (s : State) : State := s.vWrite (0x10 + k) (s.gaugeCh k).item

/-- R258, R262: the gauge at firmware ready, from its item's data; with none the default FCC and an unknown SOC. -/
def State.gaugeRestore (k : Nat) (s : State) : State :=
  let s := s.onGaugeCh k fun g => { g with iMax := 0, tIdle := s.now }
  match s.held (0x10 + k) with
  | some d =>
    let lost : Bool := u d 8 1 = 2
    let s := s.onGaugeCh k fun g =>
      { g with
        fcc := if u d 9 1 = 0 then s.fld Fld.Chg.RATED_MAH k else u d 0 4, fccOwn := decide (u d 9 1 ≠ 0), soh := u d 4 2, learnCount := u d 6 2, learnState := if lost then 0 else u d 8 1
        soc := i d 10 4, v1 := i d 14 4, v2 := i d 18 4, sigma := min 2000000 (2 * u d 22 4)
        cov := (List.range 5).map fun j => i d (26 + 8 * j) 8
        tFull := u d 66 8, rep := some (max 0 (min 1000000 (i d 10 4))).toNat, tUpd := s.now, tSave := s.now }
    if lost then s.raise 0x0A07 k else s
  | none =>
    s.onGaugeCh k fun g =>
      { g with fcc := s.fld Fld.Chg.RATED_MAH k, fccOwn := false, rep := none, unknownSince := s.now, tUpd := s.now, tSave := s.now }

/-- R250: the SOC becomes unknown. -/
def GaugeCh.forget (now : Nat) (g : GaugeCh) : GaugeCh := { g with rep := none, unknownSince := now, wasLow := false }

/-- A condition's start: kept while it holds, none when it does not. -/
def since (now : Nat) (b : Bool) (t : Option Nat) : Option Nat := if b then t.orElse fun _ => some now else none

/-- R244, R246, R248, R252: the timers of a gauge see a current (mA). -/
def GaugeCh.timers (now : Nat) (i : Int) (g : GaugeCh) : GaugeCh :=
  let c : Int := g.fcc
  let out : Bool := c < 100 * i
  let low := since now (100 * i.natAbs < g.fcc) g.lowSince
  { g with
    restSince := since now (50 * i.natAbs < g.fcc) g.restSince
    lowSince := low
    anchored := g.anchored && low.isSome
    segSince := since now (out ≠ g.seg) g.segSince
    chgSince := since now (100 * i < -c) g.chgSince }

/-- R244: at the end of hold mode the timers take the interval as continuous when the greatest |I_STRING| over it meets their
condition, and as broken when it does not; the idle time of a learning run (R252) likewise. -/
def GaugeCh.afterHold (now : Nat) (g : GaugeCh) : GaugeCh :=
  let imax := g.iMax
  let keep (b : Bool) (t : Option Nat) : Option Nat := if b then t else none
  { g with
    iMax := 0
    tIdle := now
    idleSum := if g.learnState = 2 ∧ 100 * imax ≤ g.fcc then g.idleSum + (now - g.tIdle) else g.idleSum
    restSince := keep (50 * imax < g.fcc) g.restSince
    lowSince := keep (100 * imax < g.fcc) g.lowSince
    segSince := keep (decide (g.fcc < 100 * imax) ≠ g.seg) g.segSince
    chgSince := none }

/-- R232, R242: the accumulators of a string's charge take its next current conversion, in every mode: the value held since
the last one counts for the time between (DESIGN CHOICE, log entry 153). -/
def State.gaugeCharge (k : Nat) (s : State) : State :=
  let i := s.strI k
  let dt := s.now - (s.gaugeCh k).tQ
  let s := s.onGaugeCh k fun g => { g with qAcc := g.qAcc + i * dt, tQ := s.now }
  if (s.strCh k).st = .test then s.onStrCh k fun c => { c with test := { c.test with q := c.test.q + i.toNat * dt } } else s

/-- A string current conversion reaches the gauge's timers. Firmware is stopped outside the running state (R66); the
telemetry engine keeps the greatest |I_STRING| of that time (R244). -/
def State.gaugeSample (k : Nat) (s : State) : State :=
  if (s.strCh k).st = .absent then s
  else
    s.onGaugeCh k fun g =>
      if s.sys.mode = .running then g.timers s.now (s.strI k) else { g with iMax := max g.iMax (s.strI k).natAbs }

/-- R250: a conversion of V_STRING, mV: one below 1,000 mV is remembered. -/
def State.gaugeVolt (k : Nat) (v : Int) (s : State) : State :=
  if (s.strCh k).st = .absent then s else s.onGaugeCh k fun g => { g with wasLow := g.wasLow || v < 1000 }

/-- R252: a learning run ends without a result (DEDUCED, log entry 93). -/
def State.learnStop (k state code : Nat) (s : State) : State :=
  ((s.onGaugeCh k fun g => { g with learnState := state, runDone := none }).raise code k).gaugeSave k

/-- R247: the end of discharge reached: both SOCs go to 0, and a learning run in progress ends. -/
def State.gaugeSnap (k : Nat) (s : State) : State :=
  let g := s.gaugeCh k
  let s := s.onGaugeCh k fun g =>
    { g with
      soc := 0, rep := some 0, disagree := false
      runDone := if g.learnState = 2 then some s.now else g.runDone }
  if 0 < g.soc then s.raise 0x0A02 k else s

/-- R253: a completed run is judged. -/
def State.learnJudge (k tEnd : Nat) (s : State) : State :=
  let g := s.gaugeCh k
  let rated := s.fld Fld.Chg.RATED_MAH k
  let dt := max 1 (tEnd - g.tRun)
  let i := meanMa g.qLearn dt
  let temp := g.tempSum / (dt : Int)
  let q := g.qLearn / 1000
  let s := s.onGaugeCh k fun g => { g with learnMah := q.toNat, runDone := none }
  if temp < 150 ∨ 350 < temp ∨ 20 * i < g.fccRun ∨ (g.fccRun : Int) < 2 * i then s.learnStop k 5 0x0A05
  else if 2 * q < rated ∨ (110 * rated : Nat) < 100 * q then s.learnStop k 4 0x0A04
  else
    ((s.onGaugeCh k fun g =>
      { g with
        fcc := q.toNat, fccOwn := true, soh := q.toNat * 10000 / max 1 rated, learnCount := satAdd 0xFFFF g.learnCount 1
        learntDue := true, learnState := 3 }).raise 0x0A03 k).gaugeSave k

/-- R252: the learning run at an update; `began` says that a discharge segment begins at it. -/
def State.learnStep (k : Nat) (q : Int) (dt : Nat) (began : Bool) (s : State) : State :=
  let g := s.gaugeCh k
  let st := (s.strCh k).st
  if g.learnState ≠ 1 ∧ g.learnState ≠ 2 then s
  else
    let out : Bool := (g.fcc : Int) < 100 * s.strI k
    let s := s.onGaugeCh k fun g =>
      { g with
        qLearn := g.qLearn + q
        tempSum := if g.learnState = 2 then g.tempSum + s.tBatUsed k * (g.runDone.getD s.now - (s.now - dt) : Nat) else g.tempSum
        idleSum := if g.learnState = 2 ∧ !out then g.idleSum + (s.now - g.tIdle) else g.idleSum
        tIdle := s.now }
    let g := s.gaugeCh k
    match g.runDone with
    | some t => s.learnJudge k t
    | none =>
      if (g.chgSince.map fun t => decide (t + sec 10 ≤ s.now)).getD false then s.learnStop k 5 0x0A05
      else if st ≠ .connected ∧ st ≠ .test ∧ !(g.learnState = 1 ∧ (s.strCh k).eod) then s.learnStop k 5 0x0A05
      else if g.learnState = 2 then (if sec 60 < g.idleSum then s.learnStop k 5 0x0A05 else s)
      else if g.tFull + sec 7200 < s.now then (s.onGaugeCh k fun g => { g with learnState := 0 }).gaugeSave k
      else if began then
        (s.onGaugeCh k fun g =>
          { g with learnState := 2, tRun := s.now, fccRun := g.fcc, tempSum := 0, idleSum := 0 }).gaugeSave k
      else s

/-- R249, R252: a full point: a run armed or in progress is disqualified, and a new one is armed while LEARN_EN is 1. -/
def State.fullPoint (k : Nat) (s : State) : State :=
  if !(s.gaugeCh k).full then s
  else
    let ended : Bool := (s.gaugeCh k).learnState = 1 ∨ (s.gaugeCh k).learnState = 2
    let s := if ended then s.raise 0x0A05 k else s
    (s.onGaugeCh k fun g =>
      { g with
        full := false, soc := 1000000, rep := some 1000000, sigma := 5000, tFull := s.now, qLearn := 0, runDone := none
        chgSince := g.chgSince.map fun _ => s.now
        learnState := if s.flag Fld.Gauge.LEARN_EN k then 1 else if ended then 5 else g.learnState }).gaugeSave k

/-- R246, R247: the reported SOC follows the internal one. -/
def State.reportStep (k dt : Nat) (s : State) : State :=
  let g := s.gaugeCh k
  match g.rep with
  | none => s
  | some r =>
    let x := (max 0 (min 1000000 g.soc)).toNat
    let m := 10000 * dt / sec 60
    let empty : Bool := g.soc ≤ 10000 && 0 < s.strI k && (s.packEod k : Int) < s.strV k
    let r' := if g.seg then min r x else if r ≤ x then min x (r + m) else max x (r - m)
    if empty then
      let s := s.onGaugeCh k fun g => { g with rep := some (min r 10000), disagree := true }
      if g.disRaised then s else (s.onGaugeCh k fun g => { g with disRaised := true }).raise 0x0A01 k
    else s.onGaugeCh k fun g => { g with rep := some r' }

/-- R250: the insertion estimate, once the current has been low for 30 s of the unknown period. -/
def State.insertion (k : Nat) (s : State) : State :=
  let g := s.gaugeCh k
  match g.rep, g.lowSince with
  | none, some t =>
    if max t g.unknownSince + sec 30 ≤ s.now ∧ !g.mismatch then
      let x := ocvInvert (ocvPoints (s.ocv k) (s.tBatUsed k)) ((1000 * s.strV k).toNat / max 1 (s.fld Fld.Chg.CELLS k))
      s.onGaugeCh k fun g =>
        { g with soc := x.1, rep := some x.1, sigma := x.2, v1 := 0, v2 := 0, cov := [0, 0, 0, 0, 0] }
    else s
  | _, _ => s

/-- R255: E_RES, mJ. -/
def State.eRes (s : State) : Nat := 1000 * s.fld Fld.Gauge.BACKUP_W * 60 * s.fld Fld.Gauge.BACKUP_MIN

/-- R255: E_AV over the strings in hot standby, mJ; a string of unknown SOC counts its part of E_RES. -/
def State.eAvail (s : State) : Nat :=
  let ks := [0, 1].filter fun k => (s.strCh k).standby
  (ks.map fun k => if (s.gaugeCh k).rep.isNone then s.eRes / ks.length else s.eRemain k).sum

/-- R255: P_BATT, mW. -/
def State.pBattOf (s : State) : Int :=
  let ks := [0, 1].filter fun k => (s.strCh k).standby
  let pDsg := (ks.map fun k => (s.strCh k).iDsgMax * (s.strV k).toNat * 97 / 100000).sum
  let bw := 1000 * s.fld Fld.Gauge.BACKUP_W
  let eRes := s.eRes
  let eAv := s.eAvail
  let lo := min pDsg bw
  if bw = 0 ∨ 11 * eRes ≤ 10 * eAv then pDsg
  else if eAv ≤ eRes then lo
  else lo + (pDsg - lo) * (10 * (eAv - eRes)) / max 1 eRes

/-- R266: an accepted GAUGE_RESET acts at the update (DEDUCED, log entry 94). -/
def State.gaugeResetAct (k : Nat) (own : List Byte) (s : State) : Nat × State :=
  if (s.strCh k).st = .absent then (st.state, s)
  else
    let g := s.gaugeCh k
    let ended : Bool := g.learnState = 1 ∨ g.learnState = 2
    let s := if ended then s.raise 0x0A05 k else s
    (st.ok, (s.onGaugeCh k fun g =>
      let g := g.forget s.now
      let g := if ended then { g with learnState := 5, runDone := none } else g
      if u own 0 1 = 1 then { g with fcc := s.fld Fld.Chg.RATED_MAH k, fccOwn := false, learnCount := 0, learntDue := false }
      else g).gaugeSave k)

/-- R266: an accepted GAUGE_SET_FCC acts at the update (DEDUCED, log entry 94). -/
def State.gaugeFccAct (k : Nat) (own : List Byte) (s : State) : Nat × State :=
  if (s.strCh k).st = .absent then (st.state, s)
  else (st.ok, (s.onGaugeCh k fun g => { g with fcc := u own 0 4, fccOwn := true }).gaugeSave k)

/-- R244, R250, R263: what an update sees before the filter runs. -/
def State.gaugeSee (k : Nat) (bad : Bool) (s : State) : State :=
  let g := (s.gaugeCh k).timers s.now (s.strI k)
  let g := if g.wasLow ∧ 36000 ≤ s.strV k then g.forget s.now else g
  s.onGaugeCh k fun _ => { g with mismatch := bad }

/-- R242, R243: the filter at an update; `dev` is the measurement's standard deviation, mV per cell.
(DEDUCED, log entry 94.) -/
def State.gaugeFilter (k : Nat) (q : Int) (dt dev : Nat) (s : State) : State :=
  let g := s.predictX k q dt (s.gaugeCh k)
  let g := if g.mismatch ∨ g.rep.isNone then g else s.correctX k q dt dev g
  s.onGaugeCh k fun _ => g.clampSoc

/-- R246, R248, R254: what an update notes after the filter: the rest qualified, the segment begun or ended, the mean
current. -/
def GaugeCh.note (now dt : Nat) (mean : Int) (qual turn : Bool) (g : GaugeCh) : GaugeCh :=
  let began : Bool := turn && !g.seg
  { g with
    anchored := g.anchored || qual
    disagree := g.disagree && !qual
    seg := if turn then !g.seg else g.seg
    segSince := if turn then none else g.segSince
    disRaised := g.disRaised && !began
    tUpd := now
    i60 := (List.replicate (max 1 (min 60 (dt / sec 1))) mean ++ g.i60).take 60 }

/-- A condition has held for `d` ticks. -/
def heldFor (now d : Nat) (t : Option Nat) : Bool := (t.map fun t => decide (t + d ≤ now)).getD false

/-- Ticks × mA in one µAh. -/
abbrev uahTicks : Int := 360000000

/-- R242: what the accumulator holds beyond whole µAh stays in it, so no charge is missed between updates. -/
def GaugeCh.takeCharge (g : GaugeCh) : GaugeCh := { g with qAcc := g.qAcc % uahTicks }

/-- R242–R253: the update of a string that is not ABSENT; `q` is the charge of the interval. -/
def State.gaugeRun (k : Nat) (s : State) : State :=
  let s := s.gaugeCharge k
  let q := (s.gaugeCh k).qAcc / uahTicks
  let s := s.onGaugeCh k GaugeCh.takeCharge
  let g := s.gaugeCh k
  let dt := s.now - g.tUpd
  let bad := s.ocvBad k
  let s := if bad ∧ !g.mismatch then s.raise 0x0A09 k else s
  let s := s.gaugeSee k bad
  let g := s.gaugeCh k
  let qual : Bool := !g.anchored && heldFor s.now (sec (60 * s.fld Fld.Gauge.ANCHOR_MIN k)) g.lowSince
  let turn : Bool := heldFor s.now (sec 10) g.segSince
  let s := s.gaugeFilter k q dt (if qual then 3 else 10)
  let s := s.onGaugeCh k (GaugeCh.note s.now dt (meanMa q dt) qual turn)
  ((((s.insertion k).reportStep k dt).learnStep k q dt (turn && !g.seg))).fullPoint k

/-- GAUGE_UPDATE (R148, R242, R244, R245, R66). -/
def State.gaugeUpdate (k : Nat) (s : State) : State :=
  if s.sys.mode ≠ .running then s
  else
    let s := s.advanceTo ((s.gaugeCh k).tUpd + sec (if s.atRest k then 10 else 1))
    let s := ((s.boundary .gauge0 k .main).boundary .gauge1 0 .main).adopt 7 0
    let s := if (s.strCh k).st = .absent then s else s.gaugeRun k
    let s := (s.serve 0x0A02 k fun own s => s.gaugeResetAct k own).serve 0x0A03 k fun own s => s.gaugeFccAct k own
    (s.onGauge fun g => { g with pBatt := s.pBattOf }).varnJudge

def execGaugeUpdate (k : Fin 2) (s : State) : Host.Outcome State Fault Refusal := .next (s.gaugeUpdate k)

/-- GAUGE_STATE_SAVE (R258): STATE_SAVE_MIN has elapsed. -/
def execGaugeStateSave (k : Fin 2) (s : State) : Host.Outcome State Fault Refusal :=
  .next <|
    if s.sys.mode = .running ∧ (s.strCh k).st ≠ .absent then
      let s := s.advanceTo ((s.gaugeCh k).tSave + sec (60 * s.fld Fld.Gauge.STATE_SAVE_MIN k))
      (s.onGaugeCh k fun g => { g with tSave := s.now }).gaugeSave k
    else s

/-- END_OF_DISCHARGE (R217, R247): the conditions have held for 10 s on a connected string. -/
def execEndOfDischarge (k : Fin 2) (s : State) : Host.Outcome State Fault Refusal :=
  .next (match (s.strCh k).eodSince with
    | some t =>
      if (s.strCh k).st = .connected ∨ (s.strCh k).st = .test then
        ((s.advanceTo (t + sec 10)).strEod k).gaugeSnap k
      else s
    | none => s)

/-- R233: V_STRING has come down to CELLS × EOD_MV_CELL in a test that ends there. -/
def State.testEmpty (s : State) (k : Nat) : Bool :=
  (s.strCh k).test.end_ = 0 && s.strV k ≤ (s.packEod k : Nat)

/-- R233, R247: a test that has reached CELLS × EOD_MV_CELL is the end of discharge. -/
def State.testDry (k : Nat) (s : State) : State := (s.testEnd k 0).gaugeSnap k

/-- R233: what a switching period end judges of a test. -/
def State.testPeriod (k : Nat) (s : State) : State :=
  if (s.strCh k).st ≠ .test then s
  else if s.testEmpty k then s.testDry k
  else if !(s.strCh (1 - k)).standby then s.testEnd k 3
  else s

/-- STRING_TEST_END (R233): a cause that holds ends the test: 0 its END, 1 MAX_MIN, 2 the bus has left MAINS and AUX, 3 the
other string has left hot standby. -/
def execStringTestEnd (k : Fin 2) (cause : Fin 4) (s : State) : Host.Outcome State Fault Refusal :=
  let t := (s.strCh k).test
  .next (
    if (s.strCh k).st ≠ .test then s
    else if cause = 0 then (if s.testEmpty k then s.testDry k else if s.testReached k then s.testEnd k 0 else s)
    else if cause = 1 then (s.advanceTo (t.t0 + sec (60 * t.maxMin))).testEnd k 1
    else if cause = 2 then (if s.busMains then s else s.testEnd k 2)
    else if (s.strCh (1 - k.val)).standby then s else s.testEnd k 3)

/-- GAUGE_STATUS (R265). -/
def execGaugeStatus (o : Origin) (p : List Byte) (s : State) : Host.Outcome State Fault Refusal :=
  let k := s.single 0x0A (u p 0 2)
  .next (s.report o 0x0A01 (param (p.length = 2 ∧ k.isSome)) fun s => s.gaugeStatus (k.getD 0))

/-- R266: both commands refuse an absent string. -/
def State.gaugeRefuse (s : State) (k : Nat) : Nat := if (s.strCh k).st = .absent then st.state else st.ok

/-- GAUGE_RESET (R266). -/
def execGaugeReset (o : Origin) (p : List Byte) (s : State) : Host.Outcome State Fault Refusal :=
  let sel := s.sel 0x0A (u p 0 2)
  let a := u p 2 1
  .next (s.run o 0x0A02 2 (param (p.length = 4 ∧ sel.isSome ∧ (a = 1 ∨ a = 2) ∧ u p 3 1 = 0)) fun s =>
    s.selWait o 0x0A02 (sel.getD ⟨0, 0⟩) [byte a] s.gaugeRefuse)

/-- GAUGE_SET_FCC (R266). -/
def execGaugeSetFcc (o : Origin) (p : List Byte) (s : State) : Host.Outcome State Fault Refusal :=
  let k := s.single 0x0A (u p 0 2)
  let v := u p 2 4
  let rated := s.fld Fld.Chg.RATED_MAH (k.getD 0)
  .next (s.run o 0x0A03 2
    (paramState (p.length = 6 ∧ k.isSome ∧ rated ≤ 2 * v ∧ 100 * v ≤ 110 * rated) (s.gaugeRefuse (k.getD 0) = st.ok)) fun s =>
      s.selWait o 0x0A03 ⟨0, 2 ^ k.getD 0⟩ (toLE 4 v) s.gaugeRefuse)

end Sys2Proof.Machine
end

