-- ==== Sys2Proof/Machine/Ports.lean ====
section
/-! DEFINITION. The feed ports (R303–R325). -/

namespace Sys2Proof.Machine

/-- R321: waiting PORT_CONTROL commands are judged. -/
def State.portJudge (s : State) : State :=
  s.judge (fun w => w.op = 0x0C01) fun w n =>
    let c := s.portCh n
    if !w.started.testBit n then none
    else if u w.own 0 1 ≠ 1 then some st.ok
    else if c.st = .on then some st.ok
    else if (c.st = .retryWait ∨ c.st = .latched ∨ c.st = .shed ∨ c.st = .off ∨ c.st = .absent) ∧ w.since ≤ c.tState then
      some st.state
    else if w.since + ms (s.fld Fld.Feed.INSERT_MS n + s.fld Fld.Feed.SOA_MS n + 2000) ≤ s.now then some st.timeout
    else none

/-- R305, R490: a port enters a state; its record settles when it stops (DEDUCED, log entry 99). -/
def State.portTo (n : Nat) (st : PState) (s : State) : State :=
  let was := (s.portCh n).running
  let s := s.onPortCh n fun c =>
    { c with st := st, tState := s.now, held := if st = .shed then c.held else 0, restored := c.restored && st = .latched }
  let run := (s.portCh n).running
  let s := if run ∧ !was then s.settleCh 0x0C n else s
  let s := if was ∧ !run then s.settleStop .feed0 n else s
  s.portJudge.seqEval

/-- R313: the data of varnish item 0x0030: for every port the trip count, the latched flag and H. -/
def State.portItem (s : State) : List Byte :=
  (List.range 24).flatMap fun n =>
    let c := s.portCh n
    [byte c.trips, byte (b2n (decide (c.st = .latched)))] ++ toLE 4 (c.h / 1000000)

/-- R313: item 0x0030 is written. -/
def State.portSave (s : State) : State := s.vWrite 0x30 s.portItem

/-- R312: a trip: its fault, the count, and RETRY_WAIT or LATCHED. -/
def State.portTrip (n code : Nat) (s : State) : State :=
  let s := s.onPortCh n fun c => { c with trips := c.trips + 1 }
  let k := (s.portCh n).trips
  let s := s.raise code n
  let s := if s.fld Fld.Feed.RETRIES n < k then (s.portTo n .latched).raise 0x0C06 n
    else (s.onPortCh n fun c => { c with retryAt := s.now + sec (min 64 (2 ^ (k - 1))) }).portTo n .retryWait
  s.portSave

/-- R305, R306: an off action clears the enable; a port that is LATCHED stays so. -/
def State.portOff (n : Nat) (s : State) : State :=
  let c := s.portCh n
  let s := s.onPortCh n fun c => { c with enable := false }
  if c.st = .absent ∨ c.st = .latched ∨ c.st = .off then s else s.portTo n .off

/-- R52, R305: a port is OFF from a reset until firmware is ready. -/
def State.portStop (n : Nat) (s : State) : State :=
  let s := s.onPortCh n fun c => { c with enable := false }
  if (s.portCh n).st = .absent ∨ (s.portCh n).st = .off then s else s.portTo n .off

/-- R314, R318: a port's class in force is shed. -/
def State.portShed (s : State) (n : Nat) : Bool := s.feed.shedMin ≤ (s.portCh n).cls

/-- R306: an on action on a port that takes it. -/
def State.portOn (n : Nat) (s : State) : State :=
  let s := s.onPortCh n fun c => { c with enable := true }
  if (s.portCh n).st = .off then s.portTo n .wait else s

/-- R321, R441: the refusal of an action by a port's own state (DEDUCED, log entry 122). -/
def State.portRefuse (s : State) (action n : Nat) : Nat :=
  let c := s.portCh n
  let bad : Bool := c.st = .absent ||
    (if action = 1 then c.st = .latched || c.st = .retryWait || s.portShed n || c.st = .shed || s.ctrlDown
     else if action = 3 then c.st ≠ .retryWait && c.st ≠ .latched
     else false)
  if bad then st.state else st.ok

/-- R313, R321: clear. -/
def State.portClear (n : Nat) (s : State) : State :=
  let s := s.onPortCh n fun c => { c with trips := 0, enable := false, restored := false }
  ((s.portTo n .off).settleCh 0x0C n).portSave

/-- R321: an action of PORT_CONTROL at the port's metering slot. -/
def State.portAct (n : Nat) (own : List Byte) (s : State) : Nat × State :=
  let action := u own 0 1
  if s.portRefuse action n ≠ st.ok then (s.portRefuse action n, s)
  else if action = 1 then (st.ok, s.portOn n)
  else if action = 2 then (st.ok, s.portOff n)
  else if action = 3 then (st.ok, s.portClear n)
  else (st.ok, s.onPortCh n fun c => { c with energy := 0 })

/-- R307: the bus enters a port's window. -/
def State.portEnter (n : Nat) (s : State) : State :=
  let s := s.onPortCh n fun c => { c with inWin := true, uvSince := none }
  if (s.portCh n).st = .wait ∧ !s.ctrlDown then s.portTo n .delay else s

/-- R307: the bus leaves a port's window. -/
def State.portExit (n : Nat) (s : State) : State :=
  let s := s.onPortCh n fun c => { c with inWin := false, uvSince := none }
  match (s.portCh n).st with
  | .inrush | .on => (s.raise 0x0C05 n).portTo n .wait
  | .delay | .check => s.portTo n .wait
  | .absent | .off | .wait | .shed | .retryWait | .latched => s

/-- R307: the window at a metering slot, from the bus voltage of A6. -/
def State.portWindow (n : Nat) (s : State) : State :=
  let v := s.vBus
  let h := s.fld Fld.Feed.HYST_MV n
  let uv := s.fld Fld.Feed.UV_MV n
  let ov := s.fld Fld.Feed.OV_MV n
  if (s.portCh n).inWin then
    if ov < v then s.portExit n
    else if v < uv then
      match (s.portCh n).uvSince with
      | none => s.onPortCh n fun c => { c with uvSince := some s.now }
      | some t => if t + us (s.fld Fld.Feed.UV_FILT_US n) ≤ s.now then s.portExit n else s
    else s.onPortCh n fun c => { c with uvSince := none }
  else if uv + h ≤ v ∧ v + h ≤ ov then s.portEnter n
  else s

/-- R316: the metering of a port over `dt` ticks. -/
def State.portMeter (n dt : Nat) (s : State) : State :=
  let i := s.tel n
  let v := (s.tel (24 + n)).toNat
  let p := (v : Int) * i / 1000
  let s := s.measure (160 + n) p
  s.onPortCh n fun c =>
    { c with
      iMa := i, vMv := v, pMw := p, energy := c.energy + p.toNat * dt
      peaks := (s.now, i) :: c.peaks.filter fun x => s.now < x.1 + ms 1 }

/-- R310: the thermal memory over `dt` ticks and the breaker curve. -/
def State.portCurve (n dt : Nat) (s : State) : State :=
  let t := s.curve n
  let c := s.portCh n
  let i0 := curveI0 t
  let i := c.iMa.toNat
  let h := c.h * fexpNeg dt (sec (curveTau t)) / fone
  let above : Bool := i0 < i
  if c.st = .on ∧ above then
    let h := h + (i * i - i0 * i0) * dt / 1000000
    let trip := 1000000 * hTrip t i
    let s := s.onPortCh n fun c => { c with h := min h trip, aboveI0 := true }
    if trip ≤ h then s.portTrip n 0x0C02 else s
  else s.onPortCh n fun c => { c with h := h, aboveI0 := above }

/-- R148, R310, R316: a port's metering slot, its boundary. Without a converter its memory is frozen and its curve is not judged
(R415); in ABSENT nothing is metered and the memory decays (DEDUCED, log entry 98). -/
def State.portSlot (n : Nat) (s : State) : State :=
  let dt := s.now - (s.portCh n).tSlot
  let s := (s.onPortCh n fun c => { c with tSlot := s.now }).adopt 2 n
  if (s.portCh n).st = .absent then
    (((s.portCurve n dt).boundary .feed0 n .main).serve 0x0C01 n fun own s => s.portAct n own).portJudge
  else
    let s := if (s.telOf n).invalid then s else (s.portMeter n dt).portCurve n dt
    let s := s.portWindow n
    let s := ((s.boundary .feed0 n .main).calLand (· = 536 + n)).serve 0x0C01 n fun own s => s.portAct n own
    let s := if (s.portCh n).st = .wait ∧ (s.portCh n).inWin ∧ !s.ctrlDown then s.portTo n .delay else s
    s.portJudge.seqEval

/-- R148, R310, R316: the metering slot of a port. -/
def execMeteringSlot (n : Fin 24) (s : State) : Host.Outcome State Fault Refusal := .next (s.portSlot n)

/-- R306, R307: the bus enters a port's window (DESIGN CHOICE, log entry 6). -/
def execPortWindowEnter (n : Fin 24) (s : State) : Host.Outcome State Fault Refusal := .next (s.portEnter n)

/-- R306, R307: the bus leaves a port's window (DESIGN CHOICE, log entry 6). -/
def execPortWindowExit (n : Fin 24) (s : State) : Host.Outcome State Fault Refusal := .next (s.portExit n)

/-- R306: INSERT_MS elapses (DESIGN CHOICE, log entry 4). -/
def execPortInsertDone (n : Fin 24) (s : State) : Host.Outcome State Fault Refusal :=
  let c := s.portCh n
  .next (if c.st = .delay then (s.advanceTo (c.tState + ms (s.fld Fld.Feed.INSERT_MS n))).portTo n .check else s)

/-- R308: the output, mV, is below half the bus, after the 1 ms minimum. -/
def execPortCheckPass (n : Fin 24) (v : Nat) (s : State) : Host.Outcome State Fault Refusal :=
  let c := s.portCh n
  .next (if c.st = .check ∧ 2 * v < s.vBus then (s.advanceTo (c.tState + ms 1)).portTo n .inrush else s)

/-- R308: the output, mV, is still at half the bus after 1 s; the card records it. -/
def execPortSwitchShort (n : Fin 24) (v : Nat) (s : State) : Host.Outcome State Fault Refusal :=
  let c := s.portCh n
  .next (if c.st = .check ∧ s.vBus ≤ 2 * v then
    let s := (s.advanceTo (c.tState + sec 1)).onPortCh n fun c => { c with vMv := v }
    ((s.raise 0x0C04 n).portTo n .latched).portSave else s)

/-- R307: the output, mV, is within 300 mV of the bus (DESIGN CHOICE, log entry 3). -/
def execPortInrushDone (n : Fin 24) (v : Nat) (s : State) : Host.Outcome State Fault Refusal :=
  .next (if (s.portCh n).st = .inrush ∧ s.vBus ≤ v + 300 then s.portTo n .on else s)

/-- R307: SOA_MS expires in INRUSH. -/
def execPortSoaTrip (n : Fin 24) (s : State) : Host.Outcome State Fault Refusal :=
  let c := s.portCh n
  .next (if c.st = .inrush then (s.advanceTo (c.tState + ms (s.fld Fld.Feed.SOA_MS n))).portTrip n 0x0C03 else s)

/-- R309: the fast trip, at a shunt voltage, µV, of FAST_MA × SHUNT_UOHM. -/
def execPortFastTrip (n : Fin 24) (uv : Nat) (s : State) : Host.Outcome State Fault Refusal :=
  .next (if (s.portCh n).running ∧ s.fld Fld.Feed.FAST_MA n * s.fld Fld.Feed.SHUNT_UOHM n ≤ 1000 * uv then
    s.portTrip n 0x0C01 else s)

/-- R311: I_PORT, mA, below −2 A for `held`, µs; not a trip. -/
def execPortReverseCurrent (n : Fin 24) (i : Int) (held : Nat) (s : State) : Host.Outcome State Fault Refusal :=
  .next (if (s.portCh n).running ∧ i < -2000 ∧ 10 ≤ held then (s.raise 0x0C07 n).portTo n .delay else s)

/-- R312: the retry interval elapses with the enable standing. -/
def execPortRetry (n : Fin 24) (s : State) : Host.Outcome State Fault Refusal :=
  let c := s.portCh n
  .next (if c.st = .retryWait ∧ c.enable then (s.advanceTo c.retryAt).portTo n .wait else s)

/-- R312, R313: RESET_S in ON without a break: the count clears, and the item is written. -/
def execPortTripCountClear (n : Fin 24) (s : State) : Host.Outcome State Fault Refusal :=
  let c := s.portCh n
  .next (if c.st = .on then
    ((s.advanceTo (c.tState + sec (s.fld Fld.Feed.RESET_S n))).onPortCh n fun c => { c with trips := 0 }).portSave else s)

/-- A port that shedding acts on (R314). -/
def PState.sheddable (p : PState) : Bool := p = .wait || p = .delay || p = .check || p = .inrush || p = .on

/-- R314, R342: a port is shed; its P_MW at the last metering slot is the demand it holds. -/
def State.shedPort (n : Nat) (s : State) : State :=
  let held := (s.portCh n).pMw.toNat
  ((s.onPortCh n fun c => { c with held := held }).portTo n .shed).raise 0x0C09 n

/-- R314, R315, R318: ports are shed, or queue to leave SHED, by their classes and the SHED_MIN in force at a share tick. -/
def State.shedTick (s : State) : State :=
  let m := min s.capShed s.thrShed
  let s := s.onFeed fun f => { f with shedMin := m }
  let s := s.each (List.range 24) fun n s => s.onPortCh n fun c => { c with cls := s.fld Fld.Feed.CLASS n }
  let s := s.each (List.range 24) fun n s =>
    if s.portShed n ∧ (s.portCh n).st.sheddable then s.shedPort n else s
  let back := (List.range 24).filter fun n => (s.portCh n).st = .shed && !s.portShed n
  let kept := s.feed.unshed.filter fun n => n ∈ back
  let new := (back.filter fun n => n ∉ kept).mergeSort fun a b => (s.portCh a).cls ≤ (s.portCh b).cls
  s.onFeed fun f => { f with unshed := kept ++ new }

/-- R315: the next port leaves SHED, 1 ms after the last. -/
def execPortUnshed (s : State) : Host.Outcome State Fault Refusal :=
  .next (match s.feed.unshed with
  | [] => s
  | n :: rest =>
    let s := s.advanceTo (s.feed.tUnshed + ms 1)
    let s := s.onFeed fun f => { f with unshed := rest, tUnshed := s.now }
    if (s.portCh n).st = .shed then (s.raise 0x0C0A n).portTo n .wait else s)

/-- R306, R314: a sequence step acts on a port, at its own tick; a host command acts at the port's next metering slot (R23).
-/
def State.portSeq (n : Nat) (on : Bool) (s : State) : State :=
  if on then (if s.portRefuse 1 n = st.ok then s.portOn n else s) else s.portOff n

/-- R313, R314: a port at firmware ready, from the stored item (none: nothing restored), with AUTO_ON, whose on action a shed
port refuses (DEDUCED, log entry 99). -/
def State.portReady (d : Option (List Byte)) (n : Nat) (s : State) : State :=
  let latched : Bool := (d.map fun b => decide (u b (6 * n + 1) 1 = 1)).getD false
  let s := s.onPortCh n fun c => { c with cls := s.fld Fld.Feed.CLASS n }
  let s := match d with
    | some b => s.onPortCh n fun c => { c with trips := u b (6 * n) 1, h := 1000000 * u b (6 * n + 2) 4 }
    | none => s
  if (s.portCh n).st = .absent then s
  else if latched ∧ s.flag Fld.Feed.LATCH_KEEP n then
    ((s.onPortCh n fun c => { c with restored := true }).portTo n .latched).raise 0x0C08 n
  else
    let s := if latched then s.onPortCh n fun c => { c with trips := 0 } else s
    if s.flag Fld.Feed.AUTO_ON n ∧ s.portRefuse 1 n = st.ok then s.portOn n else s

/-- PORT_CONTROL (R321). -/
def execPortControl (o : Origin) (p : List Byte) (s : State) : Host.Outcome State Fault Refusal :=
  let sel := s.sel 0x0C (u p 0 2)
  let action := u p 2 1
  .next (s.run o 0x0C01 1
    (param (p.length = 4 ∧ sel.isSome ∧ 1 ≤ action ∧ action ≤ 4 ∧ u p 3 1 = 0)) fun s =>
      s.selWait o 0x0C01 (sel.getD ⟨0, 0⟩) [byte action] (s.portRefuse action))

/-- PORT_STATUS (R322). -/
def execPortStatus (o : Origin) (p : List Byte) (s : State) : Host.Outcome State Fault Refusal :=
  let n := s.single 0x0C (u p 0 2)
  .next (s.report o 0x0C02 (param (p.length = 2 ∧ n.isSome)) fun s => s.portStatus (n.getD 0))

/-- R323: one entry of PORT_METER, all of it from the snapshot of the last 10 µs tick (DEDUCED, log entry 98). -/
def State.meterEntry (s : State) (n : Nat) : List Byte :=
  let c := s.portCh n
  ri4 (s.snap n) ++ r4 (s.snap (24 + n)).toNat ++ ri4 (s.snap (160 + n)) ++ r8 (c.snapE / 100000000) ++
    r1 c.snapSt.code ++ r1 c.snapCls ++ r2 0

/-- PORT_METER (R323). -/
def execPortMeter (o : Origin) (p : List Byte) (s : State) : Host.Outcome State Fault Refusal :=
  .next (s.report o 0x0C03 (param p.isEmpty) fun s => (List.range 24).flatMap s.meterEntry)

/-- The ports' 10 µs tick: record 1 lands there (R319). -/
def State.portsTick (s : State) : State := (s.boundary .feed1 0 .main).portJudge

end Sys2Proof.Machine
end

