-- ==== Sys2Proof/Machine/Domains.lean ====
section
/-! DEFINITION. The power domains (R268–R302). -/

namespace Sys2Proof.Machine

/-- R280: waiting domain commands are settled; each replies when no domain is left. -/
def State.domJudge (s : State) : State :=
  (s.judgeMark (fun w => w.op = 0x0B01 || w.op = 0x0B02) fun w k =>
    let c := s.domCh k
    let act := u w.own 0 1
    if !w.started.testBit k then none
    else if w.retargets then
      if c.st = .on then (if s.domRef k = c.ref.goal then some st.ok else none)
      else if c.st = .softStart then none
      else some st.ok
    else if act = 1 then
      if c.st = .on then some st.ok
      else if (c.st = .retryWait ∨ c.st = .latched) ∧ w.since ≤ c.tState then some st.state
      else if w.since + us (100 * s.fld Fld.Dom.SS_0P1MS k) + sec 1 ≤ s.now then some st.timeout
      else none
    else if act = 4 ∨ c.st = .off ∨ c.st = .latched then some st.ok
    else none).domAnswer

/-- R271: a domain enters a state. -/
def DomCh.enter (now : Nat) (st : DState) (c : DomCh) : DomCh :=
  let run : Bool := st = .softStart || st = .on || st = .softStop
  { c with
    st := st, tState := now
    margin := if st = .off then 0 else c.margin
    ref := if run then c.ref else Ramp.rest 0
    preBias := c.preBias && st = .softStart
    uv := c.uv && st = .on
    limSince := if run then c.limSince else none
    offDue := c.offDue && st = .check
    spN := if run then c.spN else 0
    spLeft := if run then c.spLeft else 0
    de := if run && st ≠ .softStop then c.de else 0
    lr := if st = .on then c.lr else none
    acc := if run then c.acc else 0
    dflt := if run then c.dflt else 0
    ePrev := if run then c.ePrev else 0
    duty := if run then c.duty else 0
    locked := c.locked && run
    fsw := if run then c.fsw else 0 }

/-- R61: since when D0 has been inside its window: its reference has arrived and no under-voltage stands. -/
def State.d0Window (s : State) : State :=
  let c := s.domCh 0
  s.onSys fun y => { y with d0InWin := if c.st = .on && !c.uv then some (y.d0InWin.getD y.time) else none }

/-- R271, R490: a domain enters a state; its records settle when it stops. -/
def State.domTo (k : Nat) (st : DState) (s : State) : State :=
  let was := (s.domCh k).running
  let s := s.onDomCh k (DomCh.enter s.now st)
  let run := (s.domCh k).running
  let s := if run ∧ !was then s.settleCh 0x0B k else s
  let s := if was ∧ !run then s.settleStop .dom0 k else s
  s.d0Window.domJudge.seqEval

/-- R272: a trip is counted where SOFT_START or ON ends in RETRY_WAIT or LATCHED. -/
def State.domCount (k : Nat) (s : State) : State :=
  s.onDomCh k fun c => if c.st = .softStart ∨ c.st = .on then { c with trips := c.trips + 1 } else c

/-- R272, R289, R291: a domain has no healthy phase left: it latches, with 0x0B0A too where the count passes RETRIES; D0 stops
and retries. -/
def State.domNoPhase (k : Nat) (s : State) : State :=
  let was := (s.domCh k).trips
  let s := s.domCount k
  if k = 0 then (s.onDomCh k fun c => { c with failed := 0 }).domTo k .retryWait
  else
    let past : Bool := was < (s.domCh k).trips && s.fld Fld.Dom.RETRIES k < (s.domCh k).trips
    ((s.raise 0x0B0D k).domTo k .latched).when past fun s => s.raise 0x0B0A k

/-- R272: a trip: its fault, the count, and RETRY_WAIT or LATCHED. D0 never latches (R291). -/
def State.domTrip (k code : Nat) (latch : Bool) (s : State) : State :=
  let s := s.onDomCh k fun c => { c with trips := c.trips + 1, cause := 0xFF }
  let past : Bool := s.fld Fld.Dom.RETRIES k < (s.domCh k).trips
  let s := s.raise code k
  if k = 0 then s.domTo k .retryWait
  else if past then (s.domTo k .latched).raise 0x0B0A k
  else s.domTo k (if latch then .latched else .retryWait)

/-- R272: a trip in SOFT_START or ON. -/
def State.domTripIf (k code : Nat) (latch : Bool) (s : State) : State :=
  if (s.domCh k).st = .softStart ∨ (s.domCh k).st = .on then s.domTrip k code latch else s

/-- R272, R290: soft off: in SOFT_START and ON the reference falls to 0, or OFF at once; in CHECK it acts as soft-start begins;
a domain in RETRY_WAIT stays there, its enable cleared (DEDUCED, log entry 96). -/
def State.softOff (k : Nat) (s : State) : State :=
  let d := s.fld Fld.Dom.SOFT_STOP_0P1MS k
  match (s.domCh k).st with
  | .softStart | .on =>
    if d = 0 then s.domTo k .off
    else
      let target := 1000 * s.domTarget k
      let ref : Ramp := { from_ := s.domRef k, goal := 0, num := target, den := 10000 * d, t0 := s.now }
      (s.onDomCh k fun c => { c with ref := ref }).domTo k .softStop
  | .check => s.onDomCh k fun c => { c with offDue := true }
  | .off | .softStop | .retryWait | .latched => s

/-- R272, R290: an off action: the enable is cleared; `soft` selects the kind (DEDUCED, log entry 96). -/
def State.domOff (k : Nat) (soft : Bool) (s : State) : State :=
  let s := s.onDomCh k fun c => { c with enable := false }
  if soft then s.softOff k
  else if (s.domCh k).st = .off ∨ (s.domCh k).st = .latched then s else s.domTo k .off

/-- R299: DOM_CONTROL clear. The enable of D0 always stands (R291). -/
def State.domClear (k : Nat) (s : State) : State :=
  ((s.onDomCh k fun c => { c with enable := k = 0, failed := 0, trips := 0 }).domTo k .off).settleCh 0x0B k

/-- R299, R441: the refusal of an action by a domain's own state (DEDUCED, log entry 122). -/
def State.domRefuse (s : State) (action k : Nat) : Nat :=
  let c := s.domCh k
  let bad : Bool :=
    if action = 1 then k ≠ 0 && (s.fld Fld.Dom.PHASES k = 0 || c.st = .latched || s.ctrlDown)
    else if action = 4 then c.st ≠ .retryWait && c.st ≠ .latched
    else k = 0
  if bad then st.state else st.ok

/-- R299: an action of DOM_CONTROL at its boundary (DEDUCED, log entry 96). -/
def State.domAct (k : Nat) (own : List Byte) (s : State) : Nat × State :=
  let action := u own 0 1
  if s.domRefuse action k ≠ st.ok then (s.domRefuse action k, s)
  else if action = 1 then (st.ok, s.onDomCh k fun c => { c with enable := true })
  else if action = 2 then (st.ok, s.domOff k true)
  else if action = 3 then (st.ok, s.domOff k false)
  else if action = 4 then (st.ok, s.domClear k)
  else (st.ok, (s.onDomCh k fun c => { c with margin := action - 5 }).domRetarget k 0)

/-- R300: a DOM_VOUT at its boundary: the margin state is nominal and the reference turns at the command's rate; where
another write has replaced its value it heads for that one. -/
def State.voutAct (k : Nat) (own : List Byte) (s : State) : Nat × State :=
  let slew := if u own 0 4 = s.fld Fld.Dom.VOUT_MV k then u own 4 2 else 0
  (st.ok, (s.onDomCh k fun c => { c with margin := 0 }).domRetarget k slew)

/-- A DOM_VOUT whose value another write had replaced as it landed is superseded there (R280).
(DEDUCED, log entry 97.) -/
def State.voutStale (k : Nat) (s : State) : State :=
  s.onHif fun h =>
    { h with
      waits := h.waits.map fun w =>
        if w.op = 0x0B02 && w.left.testBit k && w.started.testBit k && u w.own 0 4 ≠ s.fld Fld.Dom.VOUT_MV k then
          ({ w with data := w.data.set (w.data.length - 1) 1 }).mark k st.ok
        else w }

/-- R148: a domain takes the fold-back and shedding tables of the active bank; its phase count is evaluated anew one DWELL_US
later. -/
def State.domAdopt (k : Nat) (s : State) : State :=
  if s.pal.pending.testBit 3 && s.pal.pendDom.testBit k then (s.adopt 3 k).onDomCh k fun d => { d with tShed := s.now } else s

/-- The boundary of a domain (R125, R148, R280, R299, R300): its fields land, then the commands that wait for it act, in the
order of their acceptance. -/
def State.domBoundary (k : Nat) (s : State) : State :=
  let s := (s.domLand k).domAdopt k
  let s := s.serveAll (fun w => w.op = 0x0B01 || w.op = 0x0B02) k fun w s =>
    if w.op = 0x0B01 then s.domAct k w.own else s.voutAct k w.own
  (s.voutStale k).domJudge

/-- R135: the fold-back factor at a ratio, both in 0.01%. -/
def foldAt (t : List Byte) (r : Nat) : Nat :=
  let n := u t 0 1
  let p (j : Nat) : Nat × Nat := (u t (4 + 4 * j) 2, u t (6 + 4 * j) 2)
  let j := ((List.range n).filter fun j => (p j).1 ≤ r).length
  if j = 0 then (p 0).2
  else if n ≤ j then (p (n - 1)).2
  else
    let a := p (j - 1)
    let b := p j
    a.2 + (b.2 - a.2) * (r - a.1) / (b.1 - a.1)

/-- R283: the fold-back factor of a domain, 0.01%. -/
def State.foldOf (s : State) (k : Nat) : Nat :=
  let v := (s.domV k).toNat * 1000
  foldAt (s.table (s.pal.pendDom.testBit k) 0x04 (s.fld Fld.Dom.FOLD_INST k)) (v * 10000 / max 1 (s.domRef k))

/-- R283: LIM, mA. -/
def State.limOf (s : State) (k fold : Nat) : Nat :=
  let thr := if k = 0 then 100 else s.thrDom
  s.fld Fld.Dom.ILIM_MA k * fold * thr * (s.healthyPh k).length / (1000000 * max 1 (s.phases k).length)

/-- R277: the reference frequency, 0.1 kHz: the internal clock unless SYNC_IN is, or was last, a stable reference. -/
def State.refFreq (s : State) : Nat :=
  if s.flag Fld.Dom.SYNC_SRC ∧ s.dom.syncPeriod ≠ 0 then 100000000 / s.dom.syncPeriod else 10 * s.fld Fld.Dom.REF_KHZ

/-- R277: the reference's period after one more period of its relocking: it moves by at most 1/64. -/
def relockStep (goal p : Nat) : Nat := if p ≤ goal then min goal (p + p / 64) else max goal (p - p / 64)

/-- R277: the reference relocks over the periods that have passed; with SYNC_IN lost it holds its last one. -/
def State.syncStep (s : State) : State :=
  let d := s.dom
  if d.syncPeriod = 0 ∨ d.syncPeriod = d.syncGoal ∨ d.syncLost then s
  else
    let n := min 1000 (100 * (s.now - d.tSync) / d.syncPeriod)
    s.onDom fun d => { d with syncPeriod := (relockStep d.syncGoal)^[n] d.syncPeriod, tSync := if n = 0 then d.tSync else s.now }

/-- R277: the frequency a domain aims for, 0.1 kHz, and whether it is locked. -/
def State.fswGoal (s : State) (k : Nat) : Nat × Bool :=
  let own := 10 * s.fld Fld.Dom.FSW_KHZ k
  let f := s.refFreq * s.fld Fld.Dom.SYNC_MULT k
  if !s.flag Fld.Dom.SYNC_EN k then (own, false)
  else if 80 * own ≤ 100 * f ∧ 100 * f ≤ 120 * own then (f, true)
  else (own, false)

/-- R277, R297: the domain's period moves by at most 1% a period; outside the lock range the domain runs freely and 0x0B09 is
raised once. -/
def State.fswStep (k : Nat) (s : State) : State :=
  let g := s.fswGoal k
  let c := s.domCh k
  let f := if c.fsw = 0 then g.1 else if c.fsw ≤ g.1 then min g.1 (c.fsw * 100 / 99) else max g.1 ((c.fsw * 100 + 100) / 101)
  let out : Bool := s.flag Fld.Dom.SYNC_EN k && !g.2
  let s := s.onDomCh k fun c => { c with fsw := f, locked := g.2 && f = g.1, lockRaised := out }
  if out ∧ !c.lockRaised then s.raise 0x0B09 k else s

/-- R275: the compensator at the start of an active phase's period; `e` is the error sample in 0.5 mV. The value of the
current-limit clamp is free (DEDUCED, log entry 98). -/
def State.compStep (s : State) (k : Nat) (e : Int) (c : DomCh) : DomCh :=
  let f (x : Field) : Int := (s.fld x k : Nat)
  let acc := max (-32768) (min 32768 (c.acc + f Fld.Dom.KI * e))
  let dflt := c.dflt + (e - c.ePrev - c.dflt) * (256 - f Fld.Dom.DPOLE) / 256
  let u := f Fld.Dom.KP * e + acc + f Fld.Dom.KD * dflt
  let d := (s.domRef k : Int) * 65536 / max 1 (1000 * s.domVin k) + u / 2
  let t : Nat := 10000000 / max 1 c.fsw
  let top : Int := (65536 * (t - 40) / max 1 t : Nat)
  let d := min d top
  let d := if c.limSince.isSome then min d (Config.limDuty s.free : Nat) else d
  { c with acc := acc, dflt := dflt, ePrev := e, duty := if d * t < 20 * 65536 then 0 else d }

/-- R283, R284: LIM and the fold-back factor at the lowest active phase's period; the domain is in current limit while
its current is at LIM (DESIGN CHOICE, log entry 16; DEDUCED, log entry 98). -/
def State.limStep (k : Nat) (s : State) : State :=
  let fold := s.foldOf k
  let lim := s.limOf k fold
  let on : Bool := (lim : Int) ≤ s.domI k
  s.onDomCh k fun c =>
    { c with fold := fold, lim := lim, limSince := if on then some (c.limSince.getD s.now) else none }

/-- R269: the spacing at the start of a domain period with `n` active phases. -/
def DomCh.space (n : Nat) (c : DomCh) : DomCh :=
  if c.spN = n then { c with spLeft := c.spLeft - 1 }
  else if c.spN = 0 then { c with spN := n, spLeft := 0 }
  else { c with spFrom := c.spacing, spN := n, spLeft := 16 }

/-- R269, R283, R288: the on-time of a phase's pulse, 100 ps: its duty with its trim, within the limits of every pulse; a
current that reaches PH_OCP_MA at `ocp` after the period's start ends it there. -/
def State.onTime (s : State) (k ph : Nat) (ocp : Option Nat) : Nat :=
  let c := s.domCh k
  let trim := c.trims.getD ((s.phases k).findIdx (· = ph)) 0
  let on := min (c.duty * c.period * (10000 + trim) / 655360000).toNat (c.period - 400)
  if on < 200 then 0 else ((ocp.map fun t => min t on).getD on)

/-- The present pulse of a phase. -/
def State.setPulse (ph on : Nat) (s : State) : State := s.onDom fun d => { d with pulse := upd d.pulse (fin 32 ph) fun _ => on }

/-- R275, R283, R285, R286: an active phase starts its PWM period: `e` is the error sample in 0.5 mV, saturated at ±128 mV,
`zero` says that the phase's current reached zero in its low-side on-time, and `ocp` when it reaches PH_OCP_MA, if it does.
The period of the lowest active phase is the domain's boundary; R409: it is also an event of the phase. During a brake the
integrator keeps its value (DESIGN CHOICE, log entry 16). -/
def State.pwmPeriod (k ph : Nat) (e : Int) (zero : Bool) (ocp : Option Nat) (s : State) : State :=
  if !(s.domCh k).running ∨ ph ∉ s.activePh k then s
  else
    let s := s.adcTrigger ph
    let e := max (-256) (min 256 e)
    let lowest : Bool := (s.activePh k).head? = some ph
    let s := if lowest then ((s.limStep k).fswStep k).onDomCh k (DomCh.space (s.activePh k).length) else s
    let c := s.domCh k
    let pre : Bool := c.preBias && s.domRef k ≤ 1000 * ((s.domV k).toNat + s.fld Fld.Dom.LR_THRESH_MV k)
    let de : Bool := zero && c.st ≠ .softStop && (s.flag Fld.Dom.DE_EN k || pre)
    let held := c.limSince.isSome
    let s : State :=
      if s.braking k then s.setPulse ph 0
      else
        let s := (s.onDomCh k fun c => { s.compStep k e c with preBias := pre,
                                                               de := setBitTo c.de ph de }).when held State.drew
        s.setPulse ph (if s.truncating k then 0 else s.onTime k ph ocp)
    if lowest then s.domBoundary k else s

def execDomainPwmPeriod (k : Fin 16) (ph : Fin 32) (e : Int) (zero : Bool) (ocp : Option Nat) (s : State) :
    Host.Outcome State Fault Refusal :=
  .next (s.pwmPeriod k ph e zero ocp)

/-- R272: the input has been present for 10 ms with the enable standing. -/
def execDomainInputReady (k : Fin 16) (s : State) : Host.Outcome State Fault Refusal :=
  let c := s.domCh k
  .next (if c.st = .off ∧ c.enable ∧ s.fld Fld.Dom.PHASES k ≠ 0 ∧ s.inputPresent k ∧ (k = 0 ∨ !s.ctrlDown) then
    (s.advanceTo (c.inputSince.getD s.now + ms 10)).domTo k .check else s)

/-- R272: the input is no longer present: OFF with the enable standing. -/
def execDomainInputLost (k : Fin 16) (s : State) : Host.Outcome State Fault Refusal :=
  let c := s.domCh k
  .next (if (c.st = .check ∨ c.running) ∧ !s.inputPresent k then
    ((s.onDomCh k fun c => { c with inputSince := none, cause := 0xFF }).raise 0x0B07 k).domTo k .off else s)

/-- R273: the first phase whose switch node says that its high side is shorted; `sws` are the voltages at the SWS pins of
the assigned phases in ascending order, mV. -/
def State.shortPhase (s : State) (k : Nat) (sws : List Nat) : Option Nat :=
  let vin := (s.domVin k).toNat
  let lvl := max (50 * vin) (100 * (s.domV k).toNat + 10 * vin)
  ((s.phases k).zip sws).findSome? fun p =>
    if lvl < p.2 * s.fld (Fld.Dom.SWS_RATIO p.1) then some p.1 else none

/-- R272, R274: soft-start begins, from the measured output where it is pre-biased; a soft off that waits for it acts. -/
def State.softStart (k : Nat) (s : State) : State :=
  let target := 1000 * s.domTarget k
  let v := 1000 * (s.domV k).toNat
  let pre : Bool := 0 < v && v < target
  let ref : Ramp :=
    { from_ := if pre then v else 0, goal := target, num := target, den := 10000 * s.fld Fld.Dom.SS_0P1MS k, t0 := s.now }
  let due := (s.domCh k).offDue
  ((s.onDomCh k fun c => { c with ref := ref, preBias := pre, shed := 0 }).domTo k .softStart).when due (State.softOff k)

/-- R273, R291: the pre-start check ends. -/
def execDomainCheckDone (k : Fin 16) (sws : List Nat) (s : State) : Host.Outcome State Fault Refusal :=
  let c := s.domCh k
  .next (if c.st ≠ .check then s
  else
    let s := s.advanceTo (c.tState + us 50)
    match s.shortPhase k sws with
    | some p =>
      ((s.onDomCh k fun c => { c with cause := p }).raise 0x0B04 k).domTo k (if k.val = 0 then .retryWait else .latched)
    | none => (s.softStart k).when (s.healthyPh k).isEmpty (State.domNoPhase k))

/-- R274, R279: the ramp is complete with the output inside its window; a target held since applies now.
(DESIGN CHOICE, log entry 3.) -/
def execSoftStartDone (k : Fin 16) (s : State) : Host.Outcome State Fault Refusal :=
  let c := s.domCh k
  .next (if c.st ≠ .softStart then s
  else
    let s := s.advanceTo (c.ref.t0 + c.ref.den * (c.ref.goal - c.ref.from_) / max 1 c.ref.num)
    let s := s.onDomCh k fun c => { c with ref := Ramp.rest c.ref.goal, tShed := s.now }
    (s.onDomCh k fun c => if 1000 * s.domTarget k = c.ref.goal then c else { c with ref := s.turned k c.slew }).domTo k .on)

/-- R274: the output is not in its window in time. -/
def execDomainSsTimeout (k : Fin 16) (s : State) : Host.Outcome State Fault Refusal :=
  let c := s.domCh k
  .next (if c.st ≠ .softStart then s
  else
    (s.advanceTo (c.ref.t0 + c.ref.den * (c.ref.goal - c.ref.from_) / max 1 c.ref.num +
      ms (s.fld Fld.Dom.SS_TIMEOUT_MS k))).domTrip k 0x0B06 false)

/-- R272, R281, R282: the remote-sense voltage, µV, has been above the over-voltage limit for `held`, 0.1 µs. -/
def execDomainOv (k : Fin 16) (v held : Nat) (s : State) : Host.Outcome State Fault Refusal :=
  .next (if s.ovLimit k < v ∧ s.fld Fld.Dom.OV_FILT k ≤ held then s.domTripIf k 0x0B02 (s.flag Fld.Dom.OV_LATCH k) else s)

/-- R281, R282: it has been below the under-voltage limit for `held` in ON. -/
def execDomainUv (k : Fin 16) (v held : Nat) (s : State) : Host.Outcome State Fault Refusal :=
  .next (if v < s.uvLimit k ∧ s.fld Fld.Dom.UV_FILT k ≤ held ∧ (s.domCh k).st = .on ∧ !(s.domCh k).uv then
    ((s.onDomCh k fun c => { c with uv := true, cause := 0xFF }).raise 0x0B01 k).d0Window.seqEval else s)

/-- R281, R282: it has not been below the under-voltage limit for `held`. -/
def execDomainUvClear (k : Fin 16) (v held : Nat) (s : State) : Host.Outcome State Fault Refusal :=
  .next (if s.uvLimit k ≤ v ∧ s.fld Fld.Dom.UV_FILT k ≤ held then
    (s.onDomCh k fun c => { c with uv := false }).d0Window.seqEval else s)

/-- R282: VSNk outside ±300 mV for 10 µs (DESIGN CHOICE, log entry 6). -/
def execRemoteSenseFault (k : Fin 16) (s : State) : Host.Outcome State Fault Refusal := .next (s.domTripIf k 0x0B0C false)

/-- R284: in current limit for OC_TRIP_MS. -/
def execDomainOcTrip (k : Fin 16) (s : State) : Host.Outcome State Fault Refusal :=
  .next (match (s.domCh k).limSince with
  | some t => (s.advanceTo (t + ms (s.fld Fld.Dom.OC_TRIP_MS k))).domTripIf k 0x0B03 false
  | none => s)

/-- R272, R291: the retry interval: RETRY_MS, or for D0 100 ms, and 1 s after a refused start. -/
def State.domRetryTime (s : State) (k : Nat) : Nat :=
  if k = 0 then (if (s.domCh k).lastFault = 0x0B04 then sec 1 else ms 100) else ms (s.fld Fld.Dom.RETRY_MS k)

/-- R272: the retry interval has elapsed with the enable standing (DESIGN CHOICE, log entry 3). -/
def execDomainRetry (k : Fin 16) (s : State) : Host.Outcome State Fault Refusal :=
  let c := s.domCh k
  .next (if c.st = .retryWait ∧ c.enable ∧ (k = 0 ∨ !s.ctrlDown) then
    (s.advanceTo (c.tState + s.domRetryTime k)).domTo k .check else s)

/-- R280: the reference reaches its target. -/
def execReferenceArrived (k : Fin 16) (s : State) : Host.Outcome State Fault Refusal :=
  let c := s.domCh k
  let d := (c.ref.goal - c.ref.from_) + (c.ref.from_ - c.ref.goal)
  .next (if c.st = .on then
    let s := s.advanceTo (c.ref.t0 + c.ref.den * d / max 1 c.ref.num)
    (s.onDomCh k fun c => { c with ref := Ramp.rest c.ref.goal }).domJudge else s)

/-- R290: the reference reaches 0. -/
def execSoftStopDone (k : Fin 16) (s : State) : Host.Outcome State Fault Refusal :=
  let c := s.domCh k
  .next (if c.st = .softStop then
    (s.advanceTo (c.ref.t0 + c.ref.den * c.ref.from_ / max 1 c.ref.num)).domTo k .off else s)

/-- R286: the overshoot exceeds LR_THRESH_MV in ON: every running high-side pulse of the domain ends at once.
(DESIGN CHOICE, log entry 6.) -/
def execLoadRelease (k : Fin 16) (s : State) : Host.Outcome State Fault Refusal :=
  .next (if (s.domCh k).st = .on ∧ s.fld Fld.Dom.LR_MODE k ≠ 0 then
    (s.onDomCh k fun c => { c with lr := some (c.lr.getD s.now) }).each (s.activePh k) fun p s => s.setPulse p 0 else s)

/-- R286: load release ends because the overshoot has fallen, or, a brake, at LR_MAX_US with 0x0B0B. -/
def execLoadReleaseEnd (k : Fin 16) (atMax : Bool) (s : State) : Host.Outcome State Fault Refusal :=
  .next (match (s.domCh k).lr with
  | none => s
  | some t =>
    let brake : Bool := s.fld Fld.Dom.LR_MODE k = 1
    let s := s.onDomCh k fun c => { c with lr := none }
    if atMax && brake then (s.advanceTo (t + us (s.fld Fld.Dom.LR_MAX_US k))).raise 0x0B0B k else s)

/-- R287: fewer phases than MIN_PH, or than the healthy ones where those are fewer, are active: the lowest-numbered healthy shed
phases are added. -/
def State.shedFloor (k : Nat) (s : State) : State :=
  let off := (s.healthyPh k).filter fun p => (s.domCh k).shed.testBit p
  let miss := min (s.fld Fld.Dom.MIN_PH k) (s.healthyPh k).length - (s.activePh k).length
  if miss = 0 then s
  else s.onDomCh k fun c => { c with shed := (off.take miss).foldl (fun m p => setBitTo m p false) c.shed, tShed := s.now }

/-- R272, R289, R291: a phase meets a failure condition (DESIGN CHOICE, log entry 6). -/
def execPhaseFail (k : Fin 16) (ph : Fin 32) (s : State) : Host.Outcome State Fault Refusal :=
  .next (if !(s.domCh k).running ∨ ph.val ∉ s.activePh k then s
  else
    let s := (s.onDomCh k fun c => { c with failed := c.failed ||| 2 ^ ph.val, cause := ph.val }).raise 0x0B05 k
    if (s.healthyPh k).isEmpty then s.domNoPhase k else s.shedFloor k)

/-- R277: SYNC_IN shows no edge for 4 periods. -/
def execSyncLost (s : State) : Host.Outcome State Fault Refusal :=
  .next (if s.flag Fld.Dom.SYNC_SRC ∧ !s.dom.syncLost ∧ s.dom.syncPeriod ≠ 0 then
    (s.syncStep.onDom fun d => { d with syncLost := true }).raise 0x0B08 else s)

/-- R44, R277: SYNC_IN has run at a period (ticks) for 16 periods. Where it has been `stable` within ±2% and lies in its
range, the reference relocks to it from where it stands; otherwise the reference is the internal clock. -/
def execSyncRelock (period : Nat) (stable : Bool) (s : State) : Host.Outcome State Fault Refusal :=
  .next (if !s.sys.vioPwm then s
  else if stable ∧ 50 ≤ period ∧ period ≤ 500 then
    s.syncStep.onDom fun d =>
      { d with
        syncLost := false, syncGoal := 100 * period, tSync := s.now
        syncPeriod := if d.syncPeriod = 0 then 10000000 / max 1 (s.fld Fld.Dom.REF_KHZ) else d.syncPeriod }
  else s.onDom fun d => { d with syncLost := false, syncPeriod := 0, syncGoal := 0 })

/-- R272: 60 s without a break in ON. -/
def execDomainTripCountClear (k : Fin 16) (s : State) : Host.Outcome State Fault Refusal :=
  let c := s.domCh k
  .next (if c.st = .on then (s.advanceTo (c.tState + sec 60)).onDomCh k fun c => { c with trips := 0 } else s)

/-- R136, R287: phase shedding at the 10 µs tick. -/
def State.shedStep (k : Nat) (s : State) : State :=
  let c := s.domCh k
  let inst := s.fld Fld.Dom.SHED_INST k
  if c.st ≠ .on then s
  else if inst = 0xFF then s.onDomCh k fun c => { c with shed := 0 }
  else
    let s := s.shedFloor k
    let c := s.domCh k
    let t := s.table (s.pal.pendDom.testBit k) 0x05 inst
    let act := s.activePh k
    let off := (s.healthyPh k).filter fun p => c.shed.testBit p
    let n := act.length
    let i := s.domI k
    let floor := min (s.fld Fld.Dom.MIN_PH k) (s.healthyPh k).length
    let change (m : Nat) : State := s.onDomCh k fun c => { c with shed := m, tShed := s.now }
    if 1000 * (s.domV k + (s.fld Fld.Dom.LR_THRESH_MV k : Nat)) < (s.domRef k : Nat) ∧ !off.isEmpty then change 0
    else if s.now < c.tShed + us (u t 2 2) then s
    else if n ≤ u t 0 1 ∧ (u t (4 + 8 * (n - 1)) 4 : Int) < i then
      match off.head? with
      | some p => change (setBitTo c.shed p false)
      | none => s
    else if 2 ≤ n ∧ floor < n ∧ n ≤ u t 0 1 + 1 ∧ i < (u t (8 + 8 * (n - 2)) 4 : Nat) then
      match act.getLast? with
      | some p => change (setBitTo c.shed p true)
      | none => s
    else s

/-- R288: trims (with whether they may move), taken back by `r` in all as far as ±6.00% lets each. -/
def shareOut : Int → List (Int × Bool) → List Int
  | _, [] => []
  | r, (t, false) :: l => t :: shareOut r l
  | r, (t, true) :: l =>
    let x := max (-600) (min 600 (t - r))
    x :: shareOut (r - (t - x)) l

/-- R288: the trims of a domain's phases, 0.01%, moved by 0.05% toward equal currents, with the sum of the active phases' kept
at zero (DEDUCED, log entry 98). -/
def State.trimsNext (s : State) (k : Nat) : List Int :=
  let ph := s.phases k
  let act := s.activePh k
  let mean := (act.map fun p => s.tel (48 + p)).sum / max 1 (act.length : Int)
  let moved := (List.range ph.length).map fun j =>
    let p := ph.getD j 0
    let t := (s.domCh k).trims.getD j 0
    if p ∉ act then t
    else if mean < s.tel (48 + p) then max (-600) (t - 5)
    else if s.tel (48 + p) < mean then min 600 (t + 5)
    else t
  let mine := moved.zip (ph.map fun p => decide (p ∈ act))
  let sumOf (l : List (Int × Bool)) : Int := ((l.filter fun x => x.2).map fun x => x.1).sum
  let even := (sumOf mine).tdiv (max 1 act.length)
  let mine := mine.map fun x => (if x.2 then max (-600) (min 600 (x.1 - even)) else x.1, x.2)
  shareOut (sumOf mine) mine

/-- R272, R287, R288: a domain at the 10 µs tick; a stopped domain's boundary falls there (R299). -/
def State.domTick (k : Nat) (s : State) : State :=
  let s := s.onDomCh k fun c =>
    { c with inputSince := if s.inputPresent k then some (c.inputSince.getD s.now) else none }
  if (s.domCh k).running then
    let s := s.shedStep k
    if (s.fld Fld.Dom.ILIM_MA k : Int) ≤ 10 * s.domI k then s.onDomCh k fun c => { c with trims := s.trimsNext k } else s
  else s.domBoundary k

/-- The domains' 10 µs tick; record 2 lands there (R297). -/
def State.domsTick (s : State) : State :=
  ((s.boundary .dom2 0 .main).syncStep.each (List.range 16) State.domTick).domJudge

/-- R271: the VOUT_MV that a refused DOM_VOUT had written is withdrawn. -/
def State.voutDrop (k : Nat) (s : State) : State :=
  let mine (v : Nat × Nat) : Bool := ((fieldsOf .dom0)[v.1]?.map fun f => decide (f = Fld.Dom.VOUT_MV)).getD false
  s.onCopy .dom0 k fun c =>
    { c with
      easel := Fld.Dom.VOUT_MV.set (Fld.Dom.VOUT_MV.getRaw c.live) c.easel
      pendL := c.pendL.filter fun b => !(b.vals.all mine) }

/-- R271: a sequence step acts on a domain; a host command that waits for the same boundary loses. -/
def State.domSeq (k : Nat) (on : Bool) (s : State) : State :=
  let loses (w : Wait) : Bool := (w.op = 0x0B01 || w.op = 0x0B02) && w.left.testBit k && !w.started.testBit k
  let s := if s.hif.waits.any fun w => w.op = 0x0B02 && loses w then s.voutDrop k else s
  let s := s.judge loses fun _ j => if j = k then some st.state else none
  if on then
    if s.fld Fld.Dom.PHASES k = 0 ∨ (s.domCh k).st = .latched ∨ (k ≠ 0 ∧ s.ctrlDown) then s
    else s.onDomCh k fun c => { c with enable := true }
  else s.domOff k true

/-- DOM_CONTROL (R299). On for a domain already in ON, or for D0, replies at once. -/
def execDomControl (o : Origin) (p : List Byte) (s : State) : Host.Outcome State Fault Refusal :=
  let sel := s.sel 0x0B (u p 0 2)
  let action := u p 2 1
  .next (s.run o 0x0B01 1
    (param (p.length = 4 ∧ sel.isSome ∧ 1 ≤ action ∧ action ≤ 7 ∧ u p 3 1 = 0)) fun s =>
      let sl := sel.getD ⟨0, 0⟩
      let at_ : Bool := action = 1 && (maskBits 16 sl.mask).all fun k => k = 0 || (s.domCh k).st = .on
      if at_ then (.done st.ok [], s)
      else
        let r := s.selWait o 0x0B01 sl [byte action, 0] (s.domRefuse action)
        (r.1, r.2.judge (fun w => w.op = 0x0B01 && u w.own 0 1 = 1) fun _ k => if k = 0 then some st.ok else none))

/-- R278: a target lies on a step of a domain's range (DEDUCED, log entry 95). -/
def State.onRange (s : State) (k v : Nat) : Bool :=
  if s.flag Fld.Dom.RANGE k then 3000 ≤ v && v ≤ 16000 && v % 5 = 0 else 400 ≤ v && v ≤ 5500

/-- R124, R300: VOUT_MV is written in the easel as an L value; it advances GEN. -/
def State.writeVout (v : Nat) (ks : List Nat) (s : State) : State :=
  let ix := (fieldsOf .dom0).findIdx fun f => f = Fld.Dom.VOUT_MV
  (s.bumpGen 0x0B).each ks fun k s =>
    s.onCopy .dom0 k fun c =>
      { c with
        easel := applyVals .dom0 [(ix, v)] c.easel
        pendL := (c.pendL.map fun b => { b with vals := b.vals.filter fun x => x.1 ≠ ix }) ++
          [⟨[(ix, v)], true, false, false, s.now, 0, k⟩] }

/-- R298: a VOUT_MV fits a domain's record as it would then stand (DEDUCED, log entry 95). -/
def State.voutFits (s : State) (k v : Nat) : Bool :=
  let b := (s.copy .dom0 k).easel
  s.onRange k v && Fld.Dom.MARGIN_LOW_MV.getRaw b ≤ v && v ≤ Fld.Dom.MARGIN_HIGH_MV.getRaw b

/-- DOM_VOUT (R298, R300): judged against the values the record would then hold (DEDUCED, log entry 95). -/
def execDomVout (o : Origin) (p : List Byte) (s : State) : Host.Outcome State Fault Refusal :=
  let sel := s.sel 0x0B (u p 0 2)
  let v := u p 4 4
  let slew := u p 8 2
  let sl := sel.getD ⟨0, 0⟩
  let ks := maskBits 16 sl.mask
  let fits : Bool := ks.all fun k => s.voutFits k v
  .next (s.run o 0x0B02 1
    (param (p.length = 12 ∧ sel.isSome ∧ u p 2 2 = 0 ∧ u p 10 2 = 0 ∧ fits ∧ (slew = 0 ∨ (5 ≤ slew ∧ slew ≤ 2000))))
    fun s => (s.writeVout v ks).selWait o 0x0B02 sl (toLE 4 v ++ toLE 2 slew ++ [0]) fun _ => st.ok)

/-- DOM_STATUS (R301). -/
def execDomStatus (o : Origin) (p : List Byte) (s : State) : Host.Outcome State Fault Refusal :=
  let k := s.single 0x0B (u p 0 2)
  .next (s.report o 0x0B03 (param (p.length = 2 ∧ k.isSome)) fun s => s.domStatus (k.getD 0))

/-- R302: one entry of PHASE_STATUS. -/
def State.phaseEntry (s : State) (k j p : Nat) : List Byte :=
  let c := s.domCh k
  [byte p, if c.failed.testBit p then 2 else if c.shed.testBit p then 1 else 0] ++ ri2 (c.trims.getD j 0) ++
    ri4 (s.tel (48 + p))

/-- PHASE_STATUS (R302). -/
def execPhaseStatus (o : Origin) (p : List Byte) (s : State) : Host.Outcome State Fault Refusal :=
  let k := s.single 0x0B (u p 0 2)
  .next (s.report o 0x0B04 (param (p.length = 2 ∧ k.isSome)) fun s =>
    let ph := s.phases (k.getD 0)
    [byte ph.length, 0, 0, 0] ++ (List.range ph.length).flatMap fun j => s.phaseEntry (k.getD 0) j (ph.getD j 0))

end Sys2Proof.Machine
end

