-- ==== Sys2Proof/Machine/Seq.lean ====
section
/-! DEFINITION. Sequencing and supervision: the sequencer (R383–R391), the cascade pins (R391–R393), the extended
monitors (R394), the WDI watchdog (R396, R397), and the block's commands (R401–R404). -/

namespace Sys2Proof.Machine

/-- R137: STEPS, KIND and SEQ_OUT_STEP of a sequence table. -/
def seqSteps (t : List Byte) : Nat := u t 0 1
def seqKind (t : List Byte) : Nat := u t 1 1

/-- A sequence of the active bank (R384, R148). -/
def State.seqTable (s : State) (inst : Nat) : List Byte := s.table false 0x06 inst

/-- R44, R393: SEQ_FLT_N is low at this device; without VIO_HOST it is neither driven nor heeded. -/
def State.fltLow (s : State) : Bool := s.sys.vioHost && (!s.seq.fltPin || s.seq.fltOwn)

/-- R401: the waiting SEQ_START of the sequence that ends replies RESULT and STEP (DEDUCED, log entry 111). -/
def State.seqReply (result : Nat) (s : State) : State :=
  let step := s.seq.step
  s.wake (fun w => w.op = 0x0F01 && w.started ≠ 0) fun _ => (st.ok, [byte result, byte step])

/-- R389: SEQ_FLT_N is asserted where FLT_OUT_EN allows it. -/
def State.fltAssert (s : State) : State :=
  if s.flag Fld.Seq.FLT_OUT_EN then s.onSeq fun q => { q with fltOwn := true } else s

/-- R386: the action of a step: on or soft off for every domain and port of its set. -/
def State.seqActs (t : List Byte) (on : Bool) (s : State) : State :=
  (s.each (maskBits 16 (u t 0 2)) fun k s => s.domSeq k on).each (maskBits 24 (u t 2 4)) fun n s => s.portSeq n on

/-- R391: SEQ_OUT after a step. -/
def Seq.outAfter (q : Seq) : Seq :=
  if u q.table 2 1 = q.step then
    { q with seqOut := if seqKind q.table = 0 then true else if seqKind q.table = 1 then false else !q.seqOut }
  else q

/-- R123, R126: the sequencer leaves RUNNING, so the values it has not taken yet go live at that moment. -/
def State.seqStop (st : QState) (s : State) : State := (s.onSeq fun q => { q with st := st }).landStopped .seq0 0

/-- R386: the sequence is complete (DEDUCED, log entry 111). -/
def State.seqDone (s : State) : State :=
  let failed := s.seq.failed
  ((s.seqStop .idle).raise 0x0F0A).seqReply (if failed = 0 then 1 else 4)

/-- R386, R387: steps begin one after another as long as each holds at once (WAIT 0) and has no delay. -/
def State.seqFrom : Nat → Nat → State → State
  | 0, _, s => s
  | n + 1, j, s =>
    if seqSteps s.seq.table ≤ j then s.seqDone
    else
      let t := seqStepOf s.seq.table j
      let s := s.onSeq fun q =>
        { q with
          step := j, phase := .action, tStep := s.now, tPhase := s.now, cond := false, settleSince := none, trans := [],
          transCount := 0, bad := (0, 0), moved := (0, 0) }
      let s := s.seqActs t (u t 6 1 = 0)
      if s.seq.st ≠ .running then s
      else if u t 7 1 ≠ 0 then (s.onSeq fun q => { q with phase := .wait }).seqEval
      else if u t 12 2 = 0 then (s.onSeq Seq.outAfter).seqFrom n (j + 1)
      else s.onSeq fun q => { q with phase := .delay }

/-- R386: a step is complete and the next begins at that tick (DEDUCED, log entry 112). -/
def State.seqNext (s : State) : State := (s.onSeq Seq.outAfter).seqFrom 33 (s.seq.step + 1)

/-- R386: the wait is over (DEDUCED, log entry 112). -/
def State.seqDelay (s : State) : State :=
  if u (seqStepOf s.seq.table s.seq.step) 12 2 = 0 then s.seqNext
  else s.onSeq fun q => { q with phase := .delay, tPhase := s.now }

/-- R385: a running or held sequence is pre-empted. -/
def State.seqPreempt (s : State) : State :=
  if s.seq.st = .idle then s
  else ((s.seqStop .idle).raise 0x0F09).seqReply 3

/-- R385, R386: a sequence starts, on the active bank (R148). -/
def State.seqBegin (inst : Nat) (s : State) : State :=
  let s := s.seqPreempt.adopt 4 0
  let t := s.seqTable inst
  (s.onSeq fun q =>
    { q with
      st := .running, inst := inst, step := 0, table := t, failed := 0, lost := [], bad := (0, 0) }).seqFrom 33 0

/-- R384, R385, R441: the power-down, instance 1; with no instance 1 it has no steps. A control-die shutdown lets no sequence
run (DEDUCED, log entry 122). -/
def State.powerDown (s : State) : State := if s.ctrlDown then s else s.seqBegin 1

/-- R389: the sequencer stops and holds its step. -/
def State.seqHold (s : State) : State := (s.seqStop .held).seqReply 2

/-- R389: ON_FAIL of a step, for the step itself or for a completed step whose member was lost. -/
def State.onFail (j : Nat) (own : Bool) (s : State) : State :=
  let t := seqStepOf s.seq.table j
  match u t 14 1 with
  | 0 => s.fltAssert.seqHold
  | 1 => if own then s.seqDelay else s
  | 2 => s.fltAssert.powerDown
  | _ => ((s.fltAssert.seqHold).seqActs t false)

/-- R389: the ON_FAIL of the completed steps that have lost a member, in the order of the losses; a power-down ends the
sequence. -/
def State.lostAct : List Nat → State → State
  | [], s => s
  | j :: js, s =>
    if u (seqStepOf s.seq.table j) 14 1 = 2 then s.onFail j false else State.lostAct js (s.onFail j false)

/-- R389, R390: the running step fails. -/
def State.seqFail (code : Nat) (s : State) : State :=
  let j := s.seq.step
  let s := s.onSeq fun q => { q with failed := q.failed ||| 2 ^ j }
  if seqKind s.seq.table = 1 then (s.raise 0x0F03).seqDelay
  else (s.raise code).onFail j true

/-- A tick-aligned time. -/
def tickUp (t : Nat) : Nat := (t + 999) / 1000 * 1000

/-- R386: the condition has held for SETTLE. -/
def execSeqStepSettled (s : State) : Host.Outcome State Fault Refusal :=
  .next (
    match s.seq.settleSince with
    | some t =>
      if s.seq.st = .running ∧ s.seq.phase = .wait ∧ s.seq.cond then
        (s.advanceTo (tickUp (t + us (10 * u (seqStepOf s.seq.table s.seq.step) 8 2)))).seqDelay
      else s
    | none => s)

/-- R389: TIMEOUT_MS expires in the wait. -/
def execSeqStepTimeout (s : State) : Host.Outcome State Fault Refusal :=
  .next (
    if s.seq.st = .running ∧ s.seq.phase = .wait then
      (s.advanceTo (tickUp (s.seq.tStep + ms (u (seqStepOf s.seq.table s.seq.step) 10 2)))).seqFail 0x0F01
    else s)

/-- R386: DELAY_MS ends. -/
def execSeqDelayDone (s : State) : Host.Outcome State Fault Refusal :=
  .next (
    if s.seq.st = .running ∧ s.seq.phase = .delay then
      (s.advanceTo (tickUp (s.seq.tPhase + ms (u (seqStepOf s.seq.table s.seq.step) 12 2)))).seqNext
    else s)

/-- R388: the last nine transitions fall within one settle window. -/
def Seq.chatters (q : Seq) : Bool :=
  q.trans.length = 9 && q.trans.head?.getD 0 ≤ q.trans.getLast?.getD 0 + us (10 * u (seqStepOf q.table q.step) 8 2)

/-- R388, R390: nine transitions within one settle window; the card names the member whose flag moved last, or in a KIND 1
sequence the members still not off. -/
def execSeqChatter (s : State) : Host.Outcome State Fault Refusal :=
  .next (
    if s.seq.st = .running ∧ s.seq.phase = .wait ∧ s.seq.chatters then
      (if seqKind s.seq.table = 1 then s else s.onSeq fun q => { q with bad := q.moved }).seqFail 0x0F02
    else s)

/-- R389, R390: a member of a completed step has lost its wait term while the sequence runs; a KIND 1 sequence ignores
ON_FAIL. -/
def execSeqMemberLost (j : Fin 32) (s : State) : Host.Outcome State Fault Refusal :=
  .next (
    let t := seqStepOf s.seq.table j.val
    let b := s.stepBad t
    if s.seq.st = .running ∧ j.val < s.seq.step ∧ b ≠ (0, 0) then
      let old := s.seq.bad
      let s := (s.onSeq fun q => { q with bad := b }).raise 0x0F04
      let acts : Bool := seqKind s.seq.table ≠ 1 && u t 14 1 ≠ 1
      s.onSeq fun q => { q with bad := old, lost := if acts then q.lost ++ [j.val] else q.lost }
    else s)

/-- R44, R392: SEQ_IN has held a level for `held`, µs: SEQ_IN_FILT_US. While VIO_HOST is below 1.5 V the pin is ignored, and
its last filtered level stands in the wait terms and in SEQ_STATUS (DESIGN CHOICE, log entry 158). -/
def execSeqInChange (level : Bool) (held : Nat) (s : State) : Host.Outcome State Fault Refusal :=
  .next (
    let s := s.pinEdge 5 level (us held)
    if s.sys.vioHost ∧ s.fld Fld.Seq.SEQ_IN_FILT_US ≤ held then (s.onSeq fun q => { q with seqIn := level }).seqEval else s)

/-- R44, R393: SEQ_FLT_N has been low for `low`, µs, 2 µs or more, at a device that does not assert it. -/
def execSeqFltSensed (low : Nat) (s : State) : Host.Outcome State Fault Refusal :=
  .next (
    let fell := s.seq.fltPin
    let s := if fell then s.pinEdge 7 false (us low) else s
    if !s.sys.vioHost ∨ low < 2 then s else
    let s := s.onSeq fun q => { q with fltPin := false }
    if fell ∧ !s.seq.fltOwn then (s.raise 0x0F05).onSeq fun q => { q with fltDue := true } else s)

/-- R59: the bus is inside its window, so the power-up sequence of firmware ready may run; on a Type-C source alone it never is
(DEDUCED, log entry 152). -/
def State.busUp (s : State) : Bool := 44000 ≤ s.vBus && s.vBus ≤ 57600

/-- R51, R60: a power-up sequence may start: firmware is ready, and no cold reset is under way. -/
def State.mayPowerUp (s : State) : Bool := s.sys.fwReady && s.sys.mode ≠ .coldReset

/-- R51, R385, R442: the start of PWRUP_INST at firmware ready, or at the end of a control-die shutdown, is due (AUTO_SEQ =
1). -/
def State.autoSeq (s : State) : State :=
  if s.flag Fld.Seq.AUTO_SEQ then s.onSeq fun q => { q with deferred := true } else s

/-- R51, R59, R60, R385, R441: a power-up that is due may start: firmware is ready, the bus is inside its window, SEQ_FLT_N
is high, and no other sequence runs or is held. -/
def State.powerUpGo (s : State) : Bool :=
  s.seq.deferred && s.seq.st = .idle && s.mayPowerUp && s.busUp && !s.fltLow && !s.ctrlDown

/-- R44, R385: SEQ_FLT_N is high again; a deferred power-up starts at the next tick. -/
def execSeqFltReleased (s : State) : Host.Outcome State Fault Refusal :=
  .next (if s.sys.vioHost then (s.pinEdge 7 true 0).onSeq fun q => { q with fltPin := true } else s)

/-- R394: a conversion of EMm: the rail voltage, the consecutive samples of an enabled input that contradict its window flag,
and its least and greatest (R404). -/
def State.emSample (m : Nat) (v : Nat) (s : State) : State :=
  let outside : Bool := s.fld Fld.Seq.OV_MV m < v || v < s.fld Fld.Seq.UV_MV m
  s.onSeq fun q => { q with em := upd q.em (fin 16 m) fun e =>
    { e with
      vRail := v, mn := if e.fresh then v else min e.mn v, mx := if e.fresh then v else max e.mx v, fresh := false,
      count := if outside = e.out ∨ !s.flag Fld.Seq.EN m then 0 else e.count + 1 } }

/-- R395: the longest time, ticks, from a rail leaving its window to the sequencer acting on it, with T_SCAN in µs. -/
def State.tDetect (s : State) (m scan : Nat) : Nat := us (s.fld Fld.Seq.FILT m * scan + 1 + 10)

/-- R394: FILT consecutive samples lie on the other side of the window from the flag. -/
def State.emTurns (s : State) (m : Fin 16) : Bool := s.flag Fld.Seq.EN m.val && s.fld Fld.Seq.FILT m.val ≤ (s.seq.em[m]).count

/-- R394: FILT consecutive samples outside the window. -/
def execEmWindowExit (m : Fin 16) (s : State) : Host.Outcome State Fault Refusal :=
  .next (
    let e := s.seq.em[m]
    if s.emTurns m ∧ !e.out then
      let s := s.onSeq fun q =>
        { q with em := upd q.em m fun e => { e with out := true, count := 0 }, emFault := m.val, emValue := e.vRail }
      let a := s.fld Fld.Seq.ACTION m.val
      let s := s.raise (if a = 0 then 0x0F06 else 0x0F07) m.val
      (if a = 2 then s.fltAssert else s).seqEval
    else s)

/-- R394: FILT consecutive samples inside it again. -/
def execEmWindowEnter (m : Fin 16) (s : State) : Host.Outcome State Fault Refusal :=
  .next (if s.emTurns m ∧ (s.seq.em[m]).out then
    (s.onSeq fun q => { q with em := upd q.em m fun e => { e with out := false, count := 0 } }).seqEval else s)

/-- R396: the watchdog arms while it is enabled, RST_OUT_N is released and no pulse runs. -/
def State.wdTick (s : State) : State :=
  if !s.flag Fld.Seq.WD_EN then s.onSeq fun q => { q with wdArm := none, wdEdge := none }
  else if s.sys.rstOut ∨ s.seq.pulse.isSome ∨ s.seq.wdArm.isSome then s
  else s.onSeq fun q => { q with wdArm := some s.now, wdEdge := none }

/-- R396, R385: the watchdog expires (DEDUCED, log entries 111, 113). -/
def State.wdExpire (s : State) : State :=
  let s := s.onSeq fun q =>
    { q with wdArm := none, wdEdge := none, pulse := some s.now, expiries := satAdd 0xFFFF q.expiries 1 }
  let s := s.raise 0x0F08
  let inst := s.fld Fld.Seq.WD_SEQ
  if inst = 0xFF ∨ !s.hasTable 0x06 inst then s
  else
    let k := seqKind (s.seqTable inst)
    if k = 1 ∨ (s.seq.st = .idle ∧ !(k = 0 ∧ s.fltLow)) then s.onSeq fun q => { q with startDue := some (inst, k = 1) } else s

/-- R396: the latest time of the next edge. -/
def State.wdLimit (s : State) : Nat :=
  match s.seq.wdEdge with
  | some t => t + ms (s.fld Fld.Seq.WD_MAX_MS)
  | none => s.seq.wdArm.getD 0 + ms (s.fld Fld.Seq.WD_START_MS)

/-- R44, R396: a rising WDI edge at time `t`. -/
def execWdiEdge (t : Nat) (s : State) : Host.Outcome State Fault Refusal :=
  .next (
    let s := (s.advanceTo t).pinEdge 6 true (us 1)
    if s.seq.wdArm.isNone ∨ !s.sys.vioHost then s
    else
      let early : Bool := match s.seq.wdEdge with
        | some e => s.now < e + ms (s.fld Fld.Seq.WD_MIN_MS)
        | none => false
      if early ∨ s.wdLimit < s.now then s.wdExpire else s.onSeq fun q => { q with wdEdge := some s.now })

/-- R396: no edge by the limit. -/
def execWdiExpiry (s : State) : Host.Outcome State Fault Refusal :=
  .next (if s.seq.wdArm.isNone then s else (s.advanceTo s.wdLimit).wdExpire)

/-- R396, R397: the pulse ends and the watchdog re-arms (DEDUCED, log entry 113). -/
def execRstPulseEnd (s : State) : Host.Outcome State Fault Refusal :=
  .next (
    match s.seq.pulse with
    | some t =>
      ((s.advanceTo (t + ms (s.fld Fld.Seq.RST_PULSE_MS))).onSeq fun q => { q with pulse := none }).wdTick
    | none => s)

/-- R402: SEQ_CONTROL is refused. -/
def State.seqCtlRefuse (s : State) (a : Nat) : Bool :=
  (a = 1 && s.seq.st = .idle) || (a = 2 && s.seq.st ≠ .held)

/-- R402: SEQ_CONTROL at the tick; a power-up that waits for SEQ_FLT_N starts at the next one. -/
def State.seqControl (a : Nat) (s : State) : Nat × State :=
  if s.seqCtlRefuse a then (st.state, s)
  else if a = 1 then (st.ok, (s.seqStop .idle).seqReply 3)
  else if a = 2 then
    let j := s.seq.step
    (st.ok, (s.onSeq fun q => { q with st := .running }).seqFrom 33 j)
  else (st.ok, s.onSeq fun q => { q with fltOwn := false })

/-- R385, R401, R441: SEQ_START is refused (DEDUCED, log entry 122). -/
def State.startRefuse (s : State) (inst : Nat) : Bool :=
  let k := seqKind (s.seqTable inst)
  s.ctrlDown || (k = 0 && s.fltLow) || (k ≠ 1 && s.seq.st ≠ .idle)

/-- R122, R401, R402: the block's accepted commands at the 10 µs tick, in order. -/
def State.seqServe (s : State) : State :=
  (s.hif.waits.filter fun w => (w.op = 0x0F01 || w.op = 0x0F02) && w.started = 0).foldl
    (fun s w =>
      if w ∉ s.hif.waits then s
      else if w.op = 0x0F02 then
        let r := (s.onHif fun h => { h with waits := h.waits.erase w }).seqControl (u w.own 0 1)
        r.2.finish w.o w.op r.1 []
      else
        let inst := u w.own 0 1
        if s.startRefuse inst then (s.onHif fun h => { h with waits := h.waits.erase w }).finish w.o w.op st.state []
        else if u w.own 1 1 = 1 then
          let s := (s.onHif fun h => { h with waits := h.waits.erase w }).seqBegin inst
          s.finish w.o w.op st.ok [0, byte s.seq.step]
        else
          let s := s.seqPreempt
          (s.onHif fun h => { h with waits := h.waits.replace w (w.start 0) }).seqBegin inst) s

/-- R383, R385, R389, R393: the sequencer at the 10 µs tick. -/
def State.seqTick (s : State) : State :=
  let lost := s.seq.lost
  let s := s.onSeq fun q => { q with lost := [] }
  let s := if s.seq.st = .running then s.lostAct lost else s
  let s : State :=
    if s.seq.fltDue then
      let s := s.onSeq fun q => { q with fltDue := false }
      let a := s.fld Fld.Seq.FLT_ACTION
      if a = 1 ∧ s.seq.st = .running then s.seqHold else if a = 2 then s.powerDown else s
    else s
  let s : State := match s.seq.startDue with
    | some (inst, force) =>
      let s := s.onSeq fun q => { q with startDue := none }
      let barred : Bool := s.ctrlDown || (seqKind (s.seqTable inst) = 0 && s.fltLow)
      if !barred ∧ (force ∨ s.seq.st = .idle) then s.seqBegin inst else s
    | none => s
  let s := if s.powerUpGo then
      (s.onSeq fun q => { q with deferred := false }).seqBegin (s.fld Fld.Seq.PWRUP_INST)
    else s
  (s.seqEval.wdTick)

/-- R125, R401, R402: the block's values land and its commands act at the tick, after the table engine. -/
def State.seqLand (s : State) : State :=
  ((s.boundary .seq0 0 .main).each (List.range 16) fun m s => s.boundary .seq1 m .main).seqServe

/-- R401. -/
def execSeqStart (o : Origin) (p : List Byte) (s : State) : Host.Outcome State Fault Refusal :=
  let inst := u p 0 1
  .next (s.run o 0x0F01 1
    (paramState (p.length = 2 ∧ inst ≤ 7 ∧ u p 1 1 ≤ 1 ∧ s.hasTable 0x06 inst) (!s.startRefuse inst)) fun s =>
      (.later, s.awaitSel o 0x0F01 ⟨0, 1⟩ 1 0 0 (p.take 2)))

/-- R402. -/
def execSeqControl (o : Origin) (p : List Byte) (s : State) : Host.Outcome State Fault Refusal :=
  let a := u p 0 1
  .next (s.run o 0x0F02 1 (paramState (p.length = 2 ∧ 1 ≤ a ∧ a ≤ 3 ∧ u p 1 1 = 0) (!s.seqCtlRefuse a)) fun s =>
    (.later, s.awaitSel o 0x0F02 ⟨0, 1⟩ 1 0 0 (p.take 2)))

/-- R403. -/
def State.seqStatus (s : State) : List Byte :=
  let q := s.seq
  r1 q.st.code ++ r1 q.inst ++ r1 q.step ++ r1 q.phase.code ++
    r1 (bitsOf [q.seqIn, q.seqOut, s.fltLow, q.fltOwn, s.sys.rstOut || q.pulse.isSome]) ++ r1 (min 255 q.transCount) ++
    r2 q.expiries ++ r4 q.failed ++ r4 (bitsOf ((List.range 16).map fun m => (q.em[fin 16 m]).out)) ++ r8 q.tStep

def execSeqStatus (o : Origin) (p : List Byte) (s : State) : Host.Outcome State Fault Refusal :=
  .next (s.report o 0x0F03 (param p.isEmpty) State.seqStatus)

/-- R404: the monitors, whose least and greatest restart at the read. -/
def execEmStatus (o : Origin) (p : List Byte) (s : State) : Host.Outcome State Fault Refusal :=
  .next (s.run o 0x0F04 0 (param p.isEmpty) fun s =>
    (.done st.ok (s.seq.em.toList.flatMap fun e => r4 e.vRail ++ r2 (min 0xFFFF (e.mn / 10)) ++ r2 (min 0xFFFF (e.mx / 10))),
      s.onSeq fun q => { q with em := q.em.map fun e => { e with mn := e.vRail, mx := e.vRail, fresh := true } }))

end Sys2Proof.Machine
end

