-- ==== Sys2Proof/Machine/Meas.lean ====
section
/-! DEFINITION. Measurement, timebase channels and calibration (chapter 16), and the crystal failure of R25. -/

namespace Sys2Proof.Machine

/-- R407: the set of a unit: its first channel and how many follow. -/
def unitSet (k : Nat) : Nat × Nat :=
  if k = 3 then (48, 16) else if k = 4 then (64, 16) else if k = 5 then (80, 16) else if k = 6 then (96, 26)
  else if k = 7 then (122, 16) else if k = 8 then (138, 6) else (146, 6)

/-- R407: a channel belongs to the set of a unit. -/
def inSet (k c : Nat) : Bool :=
  if k < 3 then (8 * k ≤ c && c < 8 * k + 8) || (24 + 8 * k ≤ c && c < 32 + 8 * k)
  else (unitSet k).1 ≤ c && c < (unitSet k).1 + (unitSet k).2

/-- R407: the channels of a unit. -/
def unitChannels (k : Nat) : List Nat := (List.range 256).filter (inSet k)

/-- R407: P0's fixed sequence: the place in the section's channels that an entry converts. -/
def p0Place (e : Nat) : Nat :=
  if e % 2 = 0 then 0 else if e = 1 ∨ e = 9 then 1 else if e = 3 ∨ e = 11 then 2 else if e = 5 ∨ e = 13 then 3
  else if e = 7 then 4 else 5

/-- R408: the entries of a unit's sequence. -/
def State.entries (s : State) (k : Nat) : Nat := if k < 8 then max 1 (min 16 (s.fld Fld.Meas.ENTRIES k)) else 16

/-- R407, R408: the channel that an entry converts at a wrap count. -/
def State.entryChannel (s : State) (k e w : Nat) : Nat :=
  if k < 8 then s.fld (Fld.Meas.CHANNEL e) k + w % max 1 (s.fld (Fld.Meas.ROT_N e) k)
  else 138 + 8 * (k - 8) + p0Place e

/-- R418: a counter runs in modes 1 and 3. -/
def State.ccCounts (s : State) (k : Nat) : Bool := s.fld Fld.Meas.MODE k = 1 || s.fld Fld.Meas.MODE k = 3

/-- R409: an entry is triggered. -/
def State.entryTrig (s : State) (k e : Nat) : Bool := k < 8 && s.flag (Fld.Meas.TRIG e) k

/-- A change of a unit. -/
def State.onUnit (k : Nat) (f : AdcUnit → AdcUnit) (s : State) : State :=
  s.onMeas fun m => { m with unit := upd m.unit (fin 10 k) f }

/-- A unit. -/
def State.adc (s : State) (k : Nat) : AdcUnit := s.meas.unit[fin 10 k]

/-- R414: the spare slice that serves a unit: S0, S1, PS of section 0, PS of section 1 (DEDUCED, log entry 116). -/
def spareOf (k : Nat) : Nat := if k < 4 then 0 else if k < 8 then 1 else k - 6

/-- R415: the unit that a spare has replaced for good. -/
def State.spareUse (s : State) (g : Nat) : Option Nat := s.meas.spare[fin 4 g]

/-- R414: a spare serves no unit. -/
def State.spareIdle (s : State) (g : Nat) : Bool :=
  (s.spareUse g).isNone && (List.range 10).all fun k =>
    spareOf k ≠ g || ((s.adc k).st ≠ .shadowed && (s.adc k).st ≠ .takenOver)

/-- R432: the unit has power (DESIGN CHOICE, log entry 120; DEDUCED, log entry 121). -/
def State.unitOn (s : State) (k : Nat) : Bool := k < 8 || (s.rectCh (k - 8)).powered

/-- R413, R415: a unit's channels hold their last values with the invalid flag set. -/
def State.invalidate (k : Nat) (s : State) : State :=
  s.onMeas fun m =>
    { m with tel := Vector.ofFn fun c => if inSet k c.val then { m.tel[c] with invalid := true } else m.tel[c] }

/-- R415: a unit fails: its spare replaces it for good, or its channels are left without a converter.
(DEDUCED, log entry 116.) -/
def State.unitFail (k : Nat) (s : State) : State :=
  if (s.spareUse (spareOf k)).isNone then
    ((s.onMeas fun m => { m with spare := upd m.spare (fin 4 (spareOf k)) fun _ => some k }).onUnit k fun a =>
      { a with st := .substituted, test := none }).raise 0x1002 k
  else (((s.onUnit k fun a => { a with st := .noConverter, test := none }).invalidate k)).raise 0x1003 k

/-- R415: a self-check is passed. -/
def selfOk (t : SelfTest) : Bool :=
  -1600 ≤ t.zero && t.zero ≤ 1600 && 98 * t.refOtp ≤ 100 * t.ref && 100 * t.ref ≤ 102 * t.refOtp &&
    t.zeroSd < 400 && t.refSd < 400

/-- R415: the result of a self-check of a unit that still converts for itself (DEDUCED, log entry 116). -/
def State.selfJudge (k : Nat) (t : SelfTest) (s : State) : State :=
  if !s.unitOn k ∨ (s.adc k).st = .substituted ∨ (s.adc k).st = .noConverter then s
  else if selfOk t then s.onUnit k fun a => { a with st := .normal, test := none }
  else s.unitFail k

/-- R415: firmware ready decides substitution afresh: a self-check of every powered unit is due. -/
def State.measReady (tests : SelfTests) (s : State) : State :=
  s.onMeas fun m =>
    { m with
      spare := Vector.replicate 4 none
      unit := Vector.ofFn fun k =>
        { m.unit[k] with
          st := .normal, ovRaised := false, shadowN := 0, test := if s.unitOn k.val then some tests[k] else none }
      calDue := some (s.now + sec 10) }

/-- R425: a pass is called for now: on a temperature move, or by a CAL_RUN that waits (DEDUCED, log entry 117). -/
def State.passCalled (s : State) : Bool :=
  let moved : Bool := match s.dieTemp with
    | some t => 10 * (s.fld Fld.Meas.CAL_DELTA_C : Int) < |t - s.meas.tPass|
    | none => false
  moved || s.hif.waits.any fun w => w.op = 0x1004

/-- R415: the unit converts for itself, and its self-check of the pass becomes due. -/
def State.checkUnit (k : Nat) (s : State) : State :=
  let t := s.meas.calTests[k]?
  s.onUnit k fun a => { a with test := t.orElse fun _ => a.test }

/-- R425: a unit takes part in the pass: it has power and a converter of its own. -/
def State.unitIn (s : State) (k : Nat) : Bool :=
  s.unitOn k && (s.adc k).st ≠ .substituted && (s.adc k).st ≠ .noConverter

/-- R425: the pass goes on to the next unit of A0–A7 with a spare; a unit whose spare serves another for good is only
self-checked. -/
def State.calUnits : Nat → Nat → State → State
  | 0, _, s => s
  | n + 1, k, s =>
    if 8 ≤ k ∨ (s.unitIn k ∧ (s.spareUse (spareOf k)).isNone) then
      s.onMeas fun m => { m with cal := .shadow, calUnit := min 8 k, calN := 0 }
    else (if s.unitIn k then s.checkUnit k else s).calUnits n (k + 1)

/-- R425: after the triad, A0 to A7 in turn and both mains sections in parallel. -/
def State.calShadow (s : State) : State :=
  let with_ := [8, 9].filter fun k => s.unitIn k && (s.spareUse (spareOf k)).isNone
  let alone := [8, 9].filter fun k => s.unitIn k && (s.spareUse (spareOf k)).isSome
  ((s.onMeas fun m => { m with mains := with_ }).each alone State.checkUnit).calUnits 9 0

/-- R424, R425: a pass starts with the triad of A6, S0 and S1; without one of the three there is none.
(DEDUCED, log entry 117.) -/
def State.calStart (tests : SelfTests) (s : State) : State :=
  let s := s.onMeas fun m =>
    { m with
      cal := .triad, calUnit := 0, calN := 0, tCal := s.now, calDue := m.calDue.filter fun t => s.now < t, landing := [],
      calTests := tests.toList, calTemp := (s.dieTemp).getD m.tPass, triad := (0, 0, 0), pairs := [], mains := [],
      unit := m.unit.map fun a => { a with ovRaised := false, shadowN := 0 } }
  if (s.adc 6).st = .noConverter ∨ (s.spareUse 0).isSome ∨ (s.spareUse 1).isSome then s.calShadow else s

/-- R425: the pass, where it is called for, else 10 s after firmware ready (DEDUCED, log entry 117). -/
def execCalPassStart (tests : SelfTests) (s : State) : Host.Outcome State Fault Refusal :=
  .next (
    if s.sys.mode = .running ∧ s.meas.cal = .idle ∧ s.flag Fld.Meas.CAL_EN then
      if s.passCalled then s.calStart tests
      else
        match s.meas.calDue with
        | some t => (s.advanceTo t).calStart tests
        | none => s
    else s)

/-- R425: the pass is at a unit. -/
def State.calAt (s : State) (k : Nat) : Bool := s.meas.cal = .shadow && (s.meas.calUnit = k || s.meas.mains.contains k)

/-- R425: a unit's part of the pass is over. -/
def State.calLeave (k : Nat) (s : State) : State :=
  if k < 8 then s.calUnits 9 (k + 1) else s.onMeas fun m => { m with mains := m.mains.erase k }

/-- R425: once A7 and the mains sections are through, the computation follows; a section that has lost its power is left out.
-/
def State.calThrough (s : State) : State :=
  if s.meas.cal = .shadow ∧ s.meas.calUnit = 8 ∧ s.meas.mains.all fun k => !s.unitOn k then
    s.onMeas fun m => { m with cal := .computing, calN := 0, mains := [] }
  else s

/-- R414, R415, R424: what a wrap of a unit brings: a self-check that is due begins, under takeover once its spare is idle,
or on its own where no spare is left; the unit that the pass has come to is shadowed for 256 wraps and then checked; a
takeover hands back. (DEDUCED, log entries 115, 116.) -/
def State.calWrap (k : Nat) (s : State) : State :=
  let a := s.adc k
  let idle := s.spareIdle (spareOf k)
  let s :=
    match a.st with
    | .takenOver =>
      let s := match a.test with
        | some t => s.selfJudge k t
        | none => s.onUnit k fun a => { a with st := .normal }
      let s := s.onUnit k fun a => { a with shadowN := 0 }
      if s.calAt k && a.shadowN = 256 then s.calLeave k else s
    | .shadowed =>
      if !s.calAt k then s.onUnit k fun a => { a with st := .normal }
      else if a.shadowN + 1 < 256 then s.onUnit k fun a => { a with shadowN := a.shadowN + 1 }
      else (s.checkUnit k).onUnit k fun a => { a with shadowN := 256, st := .takenOver }
    | .normal =>
      match a.test with
      | some t =>
        if (s.spareUse (spareOf k)).isSome then s.selfJudge k t
        else if idle then s.onUnit k fun a => { a with st := .takenOver } else s
      | none => if s.calAt k && idle then s.onUnit k fun a => { a with st := .shadowed, shadowN := 0 } else s
    | .substituted | .noConverter | .unpowered => s
  s.calThrough

/-- R408: A6's low-power mode (R244), and a unit's own. -/
def State.lowPower (s : State) (k : Nat) : Bool :=
  let m := s.fld Fld.Meas.LP_MODE k
  k < 8 && (m = 1 ||
    (m = 2 && k = 6 && (List.range 2).all fun j => (s.strCh j).st = .absent || s.atRest j))

/-- R408, R427: the wrap of a unit, its boundary. -/
def State.unitWrap (k : Nat) (s : State) : State :=
  let s := s.onUnit k fun a =>
    { a with wraps := a.wraps + 1, pos := 0, period := s.now - a.tWrap, tWrap := s.now, tPos := s.now, event := none }
  let s := if k < 8 then s.boundary .meas0 k .main else s
  let s := s.onUnit k fun a => { a with lp := s.lowPower k }
  let s := if k < 8 then s.calLand fun e => e = k || (k = 6 && (e = 10 || e = 11)) || (256 ≤ e && e < 512 && inSet k (e - 256))
    else s
  s.calWrap k

/-- R412: quantities derived from a channel: domain currents, powers at the pack, rectifier output powers. -/
def State.derive (c : Nat) (s : State) : State :=
  if 48 ≤ c ∧ c ≤ 79 then
    match s.ownerOf (c - 48) with
    | some d => s.measure (184 + d) (((s.phases d).map fun p => s.tel (48 + p)).sum)
    | none => s
  else if 97 ≤ c ∧ c ≤ 100 then
    let k := (c - 97) / 2
    s.measure (200 + k) (s.strV k * s.strI k / 1000)
  else if c = 96 then
    (s.measure 202 ((s.rectCh 0).iOut * s.vBus / 1000)).measure 203 ((s.rectCh 1).iOut * s.vBus / 1000)
  else s

/-- What the blocks do with a new value of a channel. -/
def State.consume (c : Nat) (v : Int) (s : State) : State :=
  if c = 96 then
    if s.outOfWindow then s else s.onBus fun b => { b with outWin := false }
  else if c = 97 then s.gaugeVolt 0 v
  else if c = 99 then s.gaugeVolt 1 v
  else if c = 98 then s.gaugeSample 0
  else if c = 100 then s.gaugeSample 1
  else if c = 102 then s.auxSlot 0
  else if c = 104 then s.auxSlot 1
  else if 109 ≤ c ∧ c ≤ 112 then s.ntcRead ((c - 109) / 2) ((c - 109) % 2) v
  else if c = 117 then s.onSys fun y => { y with keepMv := v.toNat }
  else if 122 ≤ c ∧ c ≤ 137 then s.emSample (c - 122) v.toNat
  else if c = 138 then s.lineSample 0 v.natAbs
  else if c = 146 then s.lineSample 1 v.natAbs
  else s

/-- R163, R215, R268, R316, R394, R412: the quantity of a channel from what its unit reads: the µV across a shunt, of a current
sense, across an NTC that the configuration describes, or of an EM input; any other channel is read in its unit of R412
(DESIGN CHOICE, log entries 30, 154). -/
def State.quantity (s : State) (c : Nat) (v : Int) : Int :=
  let shunt (f : Field) (ch : Nat) : Int := v * 1000 / (max 1 (s.fld f ch) : Nat)
  if c < 24 then shunt Fld.Feed.SHUNT_UOHM c
  else if 48 ≤ c ∧ c < 80 then
    (v - 1000 * (s.fld (Fld.Dom.CS_ZERO_MV (c - 48)) : Nat)) / (max 1 (s.fld (Fld.Dom.CS_MV_A (c - 48))) : Nat)
  else if c = 98 ∨ c = 100 then shunt Fld.Chg.SHUNT_UOHM ((c - 98) / 2)
  else if c = 102 ∨ c = 104 then shunt Fld.Bus.SHUNT_UOHM ((c - 102) / 2)
  else if c = 106 ∨ c = 108 then shunt Fld.Pd.SHUNT_UOHM ((c - 106) / 2)
  else if 109 ≤ c ∧ c ≤ 112 then
    let k := (c - 109) / 2
    ntcTenths (s.fld Fld.Chg.NTC_R25_OHM k) (s.fld Fld.Chg.NTC_BETA k) v
  else if 122 ≤ c ∧ c ≤ 137 then v * (s.fld Fld.Seq.DIV_RATIO (c - 122) : Nat) / 100000
  else if c = 140 ∨ c = 141 ∨ c = 148 ∨ c = 149 then v / (max 1 (s.fld Fld.Rect.PCS_MV_A ((c - 138) / 8)) : Nat)
  else if c = 142 ∨ c = 150 then v / (max 1 (s.fld Fld.Rect.LCS_MV_A ((c - 138) / 8)) : Nat)
  else v

/-- R413: the telemetry engine takes a result. -/
def State.drain (c : Nat) (v : Int) (subst lp : Bool) (s : State) : State :=
  let s := if c = 98 ∨ c = 100 then s.gaugeCharge ((c - 98) / 2) else s
  let v := s.quantity c v
  let s := s.measure c v
  let s := s.onMeas fun m => { m with tel := upd m.tel (fin 256 c) fun t => { t with subst := subst, lowPwr := lp } }
  ((s.derive c).consume c v).seqEval

/-- R410, R411: a unit writes its data register, and the diagnostic register copies it. -/
def State.writeReg (k raw c : Nat) (untrig drained : Bool) (s : State) : State :=
  let a := s.adc k
  let overran : Bool := !a.drained
  let r : DataReg :=
    { result := raw % 4096, entry := a.pos, channel := c, untrig := untrig,
      subst := a.st = .takenOver || a.st = .substituted, lowPwr := a.lp, overrun := overran }
  let s := s.onUnit k fun a =>
    { a with
      reg := r, drained := drained, overruns := if overran then satAdd 0xFFFF a.overruns 1 else a.overruns
      ovRaised := a.ovRaised || overran }
  let s := if overran ∧ !a.ovRaised then s.raise 0x1001 k else s
  if s.flag Fld.Meas.DIAG_EN ∧ s.fld Fld.Meas.DIAG_UNIT = k ∧ s.fld Fld.Meas.DIAG_ENTRY = a.pos then
    s.onMeas fun m => { m with diag := { r with overrun := !m.diagRead }, diagRead := false }
  else s

/-- R409: the source of a triggered entry is switching: a phase that is not at high impedance, a CC channel that counts, a
converter that runs. -/
def State.switching (s : State) (src : Nat) : Bool :=
  if src < 0x20 then (s.ownerOf src).any fun d => (s.activeMask d).testBit src
  else if src < 0x28 then s.ccCounts (src - 0x20)
  else if src < 0x2A then (s.strCh (src - 0x28)).running
  else src < 0x2C && (s.pdCh (src - 0x2A)).conv

/-- R409: the present entry of a unit waits for an event of its source. -/
def State.waitsTrig (s : State) (k : Nat) : Bool :=
  let e := (s.adc k).pos
  s.entryTrig k e && s.switching (s.fld (Fld.Meas.TRIG_SRC e) k)

/-- R408: how long the present entry converts, ticks: its sampling time and the SAR's 0.75 µs, or 3.75 µs in low power. -/
def State.convTime (s : State) (k : Nat) : Nat :=
  let a := s.adc k
  25 * (if k < 8 then s.fld (Fld.Meas.SAMPLE a.pos) k else 1) + (if a.lp then 375 else 75)

/-- R424: the gain code of the present entry of a unit; P0's sequence is fixed. -/
def State.gainCode (s : State) (k : Nat) : Nat := if k < 8 then s.fld (Fld.Meas.GAIN (s.adc k).pos) k else 0

/-- R423: how long a channel's known-zero condition must have held; none for a channel that has none of its own. -/
def zeroSettle (c : Nat) : Option Nat :=
  if c < 24 then some (us 100)
  else if 48 ≤ c ∧ c < 80 then some (us 10)
  else if c = 98 ∨ c = 100 ∨ c = 102 ∨ c = 104 ∨ c = 106 ∨ c = 108 then some (ms 1)
  else if c = 140 ∨ c = 141 ∨ c = 142 ∨ c = 148 ∨ c = 149 ∨ c = 150 then some 0
  else none

/-- R423: a channel is known to be zero; the line voltage has its own rule. -/
def State.knownZero (s : State) (c : Nat) : Bool :=
  if c < 24 then
    match (s.portCh c).st with
    | .off | .wait | .delay | .check | .shed | .retryWait | .latched => true
    | .absent | .inrush | .on => false
  else if 48 ≤ c ∧ c < 80 then !(s.switching (c - 48))
  else if c = 98 ∨ c = 100 then !(s.strCh ((c - 98) / 2)).closed || !(s.strCh ((c - 98) / 2)).running
  else if c = 102 ∨ c = 104 then !(s.auxCh ((c - 102) / 2)).closed
  else if c = 106 ∨ c = 108 then !(s.pdCh ((c - 106) / 2)).conv
  else if c = 140 ∨ c = 141 ∨ c = 148 ∨ c = 149 then s.zcBlank ((c - 138) / 8)
  else if c = 142 ∨ c = 150 then
    let r := s.rectCh ((c - 138) / 8)
    !r.llc || r.bar.period = 0
  else false

/-- R423: one more sample that counts; the last 1,024 are kept. -/
def ZeroAcc.push (d : Int) (z : ZeroAcc) : ZeroAcc := { z with last := (d :: z.last).take 1024 }

/-- R423: a sample of a channel that is known to be zero, or not; `once` when it counts without settling. The condition's age is
counted from the channel's first sample in it (DEDUCED, log entry 155). -/
def ZeroAcc.sample (now settle : Nat) (known once : Bool) (d : Int) (z : ZeroAcc) : ZeroAcc :=
  if once then z.push d
  else if !known then { z with since := none }
  else
    let t := z.since.getD now
    let z := { z with since := some t }
    if t + settle ≤ now then z.push d else z

/-- R423: a sample of the line voltage: each whole line cycle, from one upward crossing to the next, counts by its mean. -/
def ZeroAcc.line (on : Bool) (d : Int) (z : ZeroAcc) : ZeroAcc :=
  if !on then { z with sum := 0, n := 0, neg := false }
  else if z.neg ∧ 0 ≤ d then
    let z := if 0 < z.n then z.push (z.sum / (z.n : Int)) else z
    { z with sum := d, n := 1, neg := false }
  else if 0 < z.n then { z with sum := z.sum + d, n := z.n + 1, neg := d < 0 }
  else { z with neg := d < 0 }

/-- R423: the known-zero samples are gathered continuously. -/
def State.zeroSample (c raw : Nat) (idle : Bool) (s : State) : State :=
  let d : Int := raw - Config.zeroCode c
  let on (f : ZeroAcc → ZeroAcc) (s : State) : State := s.onMeas fun m => { m with zero := upd m.zero (fin 256 c) f }
  if c = 138 ∨ c = 146 then
    let st := (s.rectCh ((c - 138) / 8)).st
    on (ZeroAcc.line (st = .qualify || st = .walkIn || st = .run) d) s
  else
    match zeroSettle c with
    | some t => on (ZeroAcc.sample s.now t (s.knownZero c) (idle && 48 ≤ c && c < 80) d) s
    | none => s


/-- R424: a pair counts when the spare reads 10% of full scale, `fs`, or more. -/
def pairAdd (unit gain fs : Nat) (x y : Int) (l : List PairSum) : List PairSum :=
  if 10 * x.natAbs < fs then l
  else
    let old := (l.find? fun p => p.unit = unit ∧ p.gain = gain).getD { unit := unit, gain := gain, pairs := 0, sxy := 0, sxx := 0 }
    { old with pairs := old.pairs + 1, sxy := old.sxy + x * y, sxx := old.sxx + x * x } ::
      l.filter fun p => !(p.unit = unit ∧ p.gain = gain)

/-- R415: a bus result more than 2% from the median of the triad. -/
def offMedian (a b c x : Int) : Bool :=
  let m := max (min a b) (min (max a b) c)
  2 * m.natAbs < 100 * (x - m).natAbs

/-- R415, R424: a bus sample of A6 (`x`) and of the spares S0 and S1 while both are idle. -/
def State.triadSample (x a b : Int) (s : State) : State :=
  let s := s.onMeas fun m =>
    let cnt (j : Fin 3) (y : Int) : Nat := if offMedian x a b y then m.triadOff[j] + 1 else 0
    { m with triadOff := Vector.ofFn fun j => cnt j (if j = 0 then x else if j = 1 then a else b) }
  if s.meas.cal = .triad then
    let s := s.onMeas fun m => { m with triad := (m.triad.1 + x, m.triad.2.1 + a, m.triad.2.2 + b), calN := m.calN + 1 }
    if s.meas.calN < 1024 then s else s.calShadow
  else s

/-- R414, R424: what the spares read at the instant of a conversion: the bus, both spares idle; an entry of the unit that is
shadowed, of P0 the line only. -/
def State.spareSample (k c raw : Nat) (spares : List Int) (s : State) : State :=
  let g := s.gainCode k
  let r (x : Nat) : Int := x - Config.zeroCode c
  match spares with
  | [x] =>
    if (s.adc k).st = .shadowed ∧ s.calAt k ∧ (k < 8 ∨ c = 138 + 8 * (k - 8)) then
      let y := s.code (10 + spareOf k) c g x
      s.onMeas fun m => { m with pairs := pairAdd k g (fullCodes c) (r y) (r raw) m.pairs }
    else s
  | [a, b] =>
    if k = 6 ∧ c = 96 ∧ s.spareIdle 0 ∧ s.spareIdle 1 then
      s.triadSample (r raw) (r (s.code 10 c g a)) (r (s.code 11 c g b))
    else s
  | _ => s

/-- R415: the bus sample of a spare that is still idle. -/
def State.busSpare (s : State) (g : Nat) (spares : List Int) : Option Nat :=
  let pick (j : Nat) (x : Option Int) : Option Nat := if s.spareIdle j then x.map (s.code (10 + j) 96 g) else none
  match spares with
  | [x] => (pick 0 (some x)).orElse fun _ => pick 1 (some x)
  | xs => (pick 0 xs[0]?).orElse fun _ => pick 1 xs[1]?

/-- R408, R410: unit `k`, or the spare that runs its sequence, completes the conversion of its present entry; `v` is what it
reads of the input before its trims (`State.quantity`), `spares` what the spare slices that sampled at the same instant read
(R414); `drained` says that the telemetry engine takes it within the conversion. A unit without a converter only goes on
through its sequence; A6's bus entry then takes a sample of a spare that is idle (R415) (DESIGN CHOICE, log entry 5). -/
def State.convert (k : Nat) (v : Int) (spares : List Int) (untrig idle drained : Bool) (s : State) : State :=
  let a := s.adc k
  let c := s.entryChannel k a.pos a.wraps
  let g := s.gainCode k
  let raw := s.code (if a.st = .takenOver ∨ a.st = .substituted then 10 + spareOf k else k) c g v
  let good : Bool := a.st ≠ .noConverter
  let taken : Option Nat := if good then some raw else if k = 6 ∧ c = 96 then s.busSpare g spares else none
  if !s.unitOn k then s
  else
    let s := if good then ((s.writeReg k raw c untrig drained).zeroSample c raw idle).spareSample k c raw spares else s
    let s := match taken with
      | some x => if drained then s.drain c (reading c g x) (a.st ≠ UnitState.normal && a.st ≠ UnitState.shadowed) a.lp else s
      | none => s
    if a.pos + 1 < s.entries k then s.onUnit k fun a => { a with pos := a.pos + 1, tPos := s.now,
                                                                 event := none } else s.unitWrap k

/-- R408–R410: a conversion ends: a triggered entry whose source is not switching converts at once and is idle; one whose source
has given its event sampled DELAY and the 30 ns crossing after it, and has not sampled while the event is out. -/
def execAdcConversion (k : Fin 10) (v : Int) (spares : List Int) (drained : Bool) (s : State) :
    Host.Outcome State Fault Refusal :=
  .next (
    let a := s.adc k.val
    let trig := s.entryTrig k.val a.pos
    let waits := s.waitsTrig k.val
    if !s.unitOn k.val ∨ (waits ∧ a.event.isNone) then s
    else
      let start := if waits then a.event.getD a.tPos + s.fld (Fld.Meas.DELAY a.pos) k.val + 3 else a.tPos
      let s := s.advanceTo (start + s.convTime k.val)
      s.convert k.val v spares (trig && !waits) (trig && !waits) drained)

/-- R409: an entry has waited 20 µs for an event of its source: the miss is counted and the entry converts untriggered. -/
def execTriggerMiss (k : Fin 8) (v : Int) (spares : List Int) (s : State) : Host.Outcome State Fault Refusal :=
  .next (
    if s.waitsTrig k.val ∧ (s.adc k.val).event.isNone then
      let a := s.adc k.val
      let s := s.advanceTo (a.tPos + us 20 + s.convTime k.val)
      let again : Bool := match a.tMiss with
        | some t => s.now < t + sec 60
        | none => false
      let s := s.onUnit k.val fun a =>
        { a with trigMisses := satAdd 0xFFFF a.trigMisses 1, tMiss := if again then a.tMiss else some s.now }
      let s := if again then s else s.raise 0x1007 k.val
      s.convert k.val v spares true false true
    else s)

/-- R415: 256 consecutive bus results of A6 or of a spare away from the median of the triad. A self-check of A6 is due, from
its next wrap at which its spare is idle (DEDUCED, log entry 116). -/
def execTriadDisagree (t : SelfTest) (s : State) : Host.Outcome State Fault Refusal :=
  .next (
    let off := s.meas.triadOff
    if 256 ≤ off[0] then
      let s := (s.onMeas fun m => { m with triadOff := Vector.replicate 3 0 }).raise 0x100A 6
      if s.unitIn 6 then s.onUnit 6 fun a => { a with test := some t } else s
    else if 256 ≤ off[1] ∨ 256 ≤ off[2] then
      (s.onMeas fun m => { m with triadOff := Vector.replicate 3 0 }).raise 0x100A
    else s)

/-- A fraction in 0.0001%, to the nearest, less one. -/
def gainOf (n d : Nat) : Int := (rdiv (n * 1000000) (max 1 d) : Int) - 1000000

/-- R424: the triad's corrections of S0 and S1, m / mean; the sums are over the same number of samples. -/
def Meas.triadGains (m : Meas) : List (Nat × Nat × Int) :=
  let a := m.triad.1.toNat
  let b := m.triad.2.1.toNat
  let c := m.triad.2.2.toNat
  if b = 0 ∨ c = 0 then [] else [(10, 0, gainOf (a + b + c) (3 * b)), (11, 0, gainOf (a + b + c) (3 * c))]

/-- R424: the corrections from a fit: a unit takes 1 / b against its corrected spare; P0 takes 1 / √b and PS √b. -/
def PairSum.gains (spare : Int) (p : PairSum) : List (Nat × Nat × Int) :=
  let xx := p.sxx.toNat
  let xy := p.sxy.toNat
  if p.pairs < 256 ∨ p.sxy ≤ 0 ∨ p.sxx ≤ 0 then []
  else if p.unit < 8 then [(p.unit, p.gain, gainOf ((1000000 + spare).toNat * xx) (1000000 * xy))]
  else
    let root := isqrt (xx * 10 ^ 24 / xy)
    [(p.unit, p.gain, (rdiv root (10 ^ 6) : Int) - 1000000), (p.unit + 4, p.gain, gainOf (10 ^ 12) root)]

/-- R424: the gain corrections of a pass, in the order triad, shadow, mains: element, gain code, change. -/
def Meas.gains (m : Meas) : List (Nat × Nat × Int) :=
  let spares := m.triadGains
  let spareGain (k : Nat) : Int := ((spares.find? fun x => x.1 = 10 + spareOf k).map (·.2.2)).getD 0
  let fit (ps : List PairSum) : List (Nat × Nat × Int) := ps.flatMap fun p => p.gains (spareGain p.unit)
  spares ++ fit (m.pairs.filter fun p => p.unit < 8) ++ fit (m.pairs.filter fun p => 8 ≤ p.unit)

/-- The channel that a fault on an element names: the unit that converts it (DESIGN CHOICE, log entry 114). -/
def elemUnit (e : Nat) : Nat :=
  if e < 10 then e else if 256 ≤ e ∧ e < 512 then ((List.range 10).find? fun k => inSet k (e - 256)).getD blockWide else blockWide

/-- R426: a gain correction is judged. -/
def State.gainJudge (x : Nat × Nat × Int) (s : State) : State :=
  let new := s.meas.corr x.1 (x.2.1 + 1) + x.2.2
  if 10000 < |x.2.2| then s.raise 0x1005 (elemUnit x.1)
  else if 30000 < |new| then (if x.1 < 10 then s.unitFail x.1 else s.raise 0x1005 (elemUnit x.1))
  else s.onMeas fun m => { m with landing := m.landing ++ [(x.1, x.2.1 + 1, new)] }

/-- R423, R426: a channel's offset estimate is judged: the mean of 1,024 samples that are known to be zero; a channel with
fewer since the last pass keeps its correction, as a unit does with the 64 of its self-check (DEDUCED, log entry 155), and as
the channels of units do that a spare serves for good (R415). -/
def State.zeroJudge (c : Nat) (s : State) : State :=
  let z := s.meas.zero[fin 256 c]
  let s := s.onMeas fun m => { m with zero := upd m.zero (fin 256 c) fun z => { z with last := [] } }
  if z.last.length < 1024 ∨ (s.spareUse (spareOf (elemUnit (256 + c)))).isSome then s
  else
    let new := s.meas.corr (256 + c) 0 - (2 * z.last.sum + 1024) / 2048
    if 64 < |new| then s.raise 0x1006 (elemUnit (256 + c))
    else s.onMeas fun m => { m with landing := m.landing ++ [(256 + c, 0, new)] }

/-- R427: a comparator whose converter is stopped has no boundary to wait for (DEDUCED, log entry 115). -/
def State.elemStopped (s : State) (e : Nat) : Bool :=
  (512 ≤ e && e < 528 && !(s.domCh (e - 512)).running) || (528 ≤ e && e < 530 && !(s.strCh (e - 528)).running) ||
    (530 ≤ e && e < 532 && !(s.pdCh (e - 530)).conv) ||
    (562 ≤ e && e < 594 && !((s.ownerOf (e - 562)).any fun k => (s.domCh k).running))

/-- R423, R424, R426: the pass computation completes and the accepted corrections go to their boundaries.
(DESIGN CHOICE, log entry 114.) -/
def execCalPassComputed (s : State) : Host.Outcome State Fault Refusal :=
  .next (
    if s.meas.cal = .computing ∧ s.now ≤ s.meas.tCal + ms 250 then
      let s := s.each s.meas.gains State.gainJudge
      let s := s.each (List.range 153) State.zeroJudge
      (s.onMeas fun m => { m with cal := .applying }).calLand s.elemStopped
    else s)

/-- R435: the CAL_RUN that waits gets its reply. -/
def State.calReply (status : Nat) (s : State) : State := s.wake (fun w => w.op = 0x1004) fun _ => (status, [])

/-- R425: 250 ms have passed without a result: the pass is discarded. -/
def execCalPassTimeout (s : State) : Host.Outcome State Fault Refusal :=
  .next (
    if s.meas.cal = .triad ∨ s.meas.cal = .shadow ∨ s.meas.cal = .computing then
      let s := s.advanceTo (s.meas.tCal + ms 250)
      let s := s.onMeas fun m => { m.passOver s.now with landing := [], discarded := satAdd 0xFFFF m.discarded 1 }
      (s.raise 0x1004).calReply st.timeout
    else s)

/-- R427: varnish item 0x0020: T_PASS, CAL_COUNT and the field set. -/
def Meas.item (m : Meas) : List Byte :=
  toLEi 2 m.tPass ++ toLE 4 m.calCount ++ (m.field.flatMap fun c => toLE 2 c.1 ++ toLE 2 c.2.1 ++ toLEi 4 c.2.2)

/-- R427: the varnished field set is restored. -/
def Meas.restore (d : List Byte) (m : Meas) : Meas :=
  { m with
    tPass := i d 0 2, calCount := u d 2 4
    field := (List.range ((d.length - 6) / 8)).map fun j => (u d (6 + 8 * j) 2, u d (8 + 8 * j) 2, i d (10 + 8 * j) 4) }

/-- R427: every element has landed its correction: the pass is accepted. -/
def execCalPassAccepted (s : State) : Host.Outcome State Fault Refusal :=
  .next (
    if s.meas.cal = .applying ∧ s.meas.landing.isEmpty then
      let s := s.onMeas fun m =>
        { m.passOver s.now with calCount := m.calCount + 1, tLast := s.now, tPass := m.calTemp }
      ((s.raise 0x1009).vWrite 0x20 s.meas.item).calReply st.ok
    else s)

/-- A change of a capture/compare channel (R418). -/
def State.onCc (k : Nat) (f : Cc → Cc) (s : State) : State := s.onMeas fun m => { m with cc := upd m.cc (fin 8 k) f }

/-- R418: the pin's level in mode 1 with the counter below COMPARE or not; low in every other mode. -/
def State.ccPin (s : State) (k : Nat) (high : Bool) : Bool := s.fld Fld.Meas.MODE k = 1 && (high != s.flag Fld.Meas.POL k)


/-- R418, R430: a counter wraps from PERIOD to 0: the preloaded values become live, and record 2 lands, to be copied at the
next wrap. (DEDUCED, log entry 125.) -/
def execCcCounterWrap (k : Fin 8) (s : State) : Host.Outcome State Fault Refusal :=
  .next (
    if s.ccCounts k.val then
      let c := s.meas.cc[k]
      let s := s.advanceTo (c.tZero + c.period + 1)
      let s := s.onCc k.val fun c =>
        { c with
          tZero := s.now, period := s.fld Fld.Meas.PERIOD k.val, compare := s.fld Fld.Meas.COMPARE k.val,
          out := s.ccPin k.val (decide (0 < s.fld Fld.Meas.COMPARE k.val)) }
      s.boundary .meas2 k.val .main
    else s)

/-- R409, R418: a counter reaches COMPARE, an event unless the period is above 20 µs (DESIGN CHOICE, log entry 166). -/
def execCcCompareMatch (k : Fin 8) (s : State) : Host.Outcome State Fault Refusal :=
  .next (
    let c := s.meas.cc[k]
    if s.ccCounts k.val ∧ 0 < c.compare ∧ c.compare ≤ c.period then
      let s := s.advanceTo (c.tZero + c.compare)
      let s := if c.period < us 20 then s.adcTrigger (0x20 + k.val) else s
      s.onCc k.val fun c => { c with out := s.ccPin k.val false }
    else s)

/-- R44, R419: the input of a capture channel has held its new level for `held` ticks.
(DESIGN CHOICE, log entry 5; DEDUCED, log entry 119.) -/
def execCaptureEdge (k : Fin 8) (rising : Bool) (held : Nat) (s : State) : Host.Outcome State Fault Refusal :=
  .next (s.capture k.val rising held)

/-- R44, R419, R420: a falling edge of a tachometer (DESIGN CHOICE, log entry 5). -/
def execTachEdge (m : Fin 4) (s : State) : Host.Outcome State Fault Refusal :=
  .next (
    if !s.sys.vioPwm then s else
    let s := s.pinEdge m.val false 0
    let rpm : Nat := match s.meas.tach[m].tLast with
      | some t => 6000000000 / max 1 ((s.now - t) * s.fld (Fld.Meas.TACH_PPR m.val))
      | none => s.meas.tach[m].rpm
    (s.onMeas fun x => { x with tach := upd x.tach m fun _ => { tLast := some s.now, rpm := rpm } }).measure
      (204 + m.val) (Int.ofNat rpm))

/-- R420: no edge for 1 s. -/
def execTachTimeout (m : Fin 4) (s : State) : Host.Outcome State Fault Refusal :=
  .next (
    let s := match s.meas.tach[m].tLast with
      | some t => s.advanceTo (t + sec 1)
      | none => s
    (s.onMeas fun x => { x with tach := upd x.tach m fun t => { t with rpm := 0 } }).measure (204 + m.val) 0)

/-- R25: the crystal is missing: the control die runs from the internal RC oscillator until the next power-on reset. -/
def execCrystalFail (s : State) : Host.Outcome State Fault Refusal :=
  .next (if s.sys.por ∨ s.sys.rcClock then s else (s.onSys fun y => { y with rcClock := true }).raise 0x1008)

/-- ADC_STATUS (R432). -/
def execAdcStatus (o : Origin) (p : List Byte) (s : State) : Host.Outcome State Fault Refusal :=
  .next (s.report o 0x1001 (param p.isEmpty) State.adcStatus)

/-- MEAS_PEEK (R411, R433): a read of the diagnostic copy clears its bit 31. -/
def execMeasPeek (o : Origin) (p : List Byte) (s : State) : Host.Outcome State Fault Refusal :=
  let t := u p 0 1
  let diag : Bool := t < 8
  let open_ : Bool := s.flag Fld.Meas.DIAG_EN && s.fld Fld.Meas.DIAG_UNIT = t
  .next (s.run o 0x1002 0 (paramState (p.length = 2 ∧ u p 1 1 = 0 ∧ (diag || t = 0x10 || t = 0x11)) (!diag || open_)) fun s =>
    if diag then
      (.done st.ok (toLE 4 s.meas.diag.word),
        s.onMeas fun m => { m with diag := { m.diag with overrun := false }, diagRead := true })
    else (.done st.ok (toLE 4 (if t = 0x10 then s.now else s.now / 2 ^ 32)), s))

/-- R412: a channel number that names a quantity. -/
def telNamed (c : Nat) : Bool :=
  c < 228 && !(154 ≤ c && c ≤ 159) && c ≠ 144 && c ≠ 145 && c ≠ 152 && c ≠ 153

/-- R413, R434: the report of a channel; the minimum, maximum and mean of no sample are free values.
(DESIGN CHOICE, log entry 17.) -/
def State.telReport (s : State) (c : Nat) : List Byte :=
  let t := s.telOf c
  let none_ : Bool := t.cnt = 0
  ri4 t.latest ++ ri4 (if none_ then Config.noSamples s.free else t.mn) ++
    ri4 (if none_ then Config.noSamples (s.free + 1) else t.mx) ++
    ri4 (if none_ then Config.noSamples (s.free + 2) else t.sum / (t.cnt : Int)) ++ r4 (min 0xFFFFFFFF t.cnt) ++
    r8 (t.ePos / 100000000) ++ r8 (t.eNeg / 100000000) ++ r8 t.tStart ++ r1 (bitsOf [t.invalid, t.subst, t.lowPwr])

/-- R434: the statistics restart (DEDUCED, log entry 118). -/
def Tel.restart (now : Nat) (t : Tel) : Tel := { t with mn := 0, mx := 0, sum := 0, cnt := 0, tStart := now }

/-- TELEM_READ (R434) (DEDUCED, log entry 118). -/
def execTelemRead (o : Origin) (p : List Byte) (s : State) : Host.Outcome State Fault Refusal :=
  let c := u p 0 2
  let restart : Bool := bitOf (u p 2 1) 0
  .next (s.run o 0x1003 (if restart then 1 else 0) (param (p.length = 4 ∧ u p 2 1 < 2 ∧ u p 3 1 = 0 ∧ telNamed c)) fun s =>
    let d := s.telReport c
    let s := s.drew.drew.drew
    (.done st.ok d, if restart then s.onMeas fun m => { m with tel := upd m.tel (fin 256 c) (Tel.restart s.now) } else s))

/-- CAL_RUN (R435): the pass starts at the next CAL_PASS_START; its end sends the reply (DEDUCED, log entry 117). -/
def execCalRun (o : Origin) (p : List Byte) (s : State) : Host.Outcome State Fault Refusal :=
  .next (s.run o 0x1004 1
    (paramState p.isEmpty (s.meas.cal = .idle && s.flag Fld.Meas.CAL_EN && s.sys.mode = .running &&
      !(s.hif.waits.any fun w => w.op = 0x1004))) fun s => (.later, s.await o 0x1004 0 0 []))

/-- CAL_STATUS (R435). -/
def execCalStatus (o : Origin) (p : List Byte) (s : State) : Host.Outcome State Fault Refusal :=
  .next (s.report o 0x1005 (param p.isEmpty) fun s =>
    let m := s.meas
    r1 m.cal.code ++ r1 m.calUnit ++ r2 m.discarded ++ r4 m.calCount ++ ri2 m.tPass ++ r2 0 ++ r8 m.tLast)

/-- CC_STATUS (R436). -/
def State.ccStatus (s : State) (k : Nat) : List Byte :=
  let c := s.meas.cc[fin 8 k]
  let mode := s.fld Fld.Meas.MODE k
  let counter := if s.ccCounts k then (s.now - c.tZero) % (c.period + 1) else if mode = 2 then s.now % 2 ^ 32 else 0
  r1 mode ++ r1 (bitsOf [c.widthOk, c.rises = 2, c.out]) ++ r2 0 ++ r4 counter ++ r4 c.rise ++ r4 c.fall ++
    r4 c.width ++ r4 c.periodCap

/-- CC_STATUS (R436). -/
def execCcStatus (o : Origin) (p : List Byte) (s : State) : Host.Outcome State Fault Refusal :=
  let k := s.single 0x10 (u p 0 2)
  .next (s.report o 0x1006 (param (p.length = 2 ∧ k.isSome)) fun s => s.ccStatus (k.getD 0))

end Sys2Proof.Machine
end

