-- ==== Sys2Proof/Machine/FaultCmd.lean ====
section
/-! DEFINITION. The rows of chapter 19: raises and handlers (R481–R490), image downloads, activation and confirmation
(R493–R498), and the fault manager's reports (R499). -/

namespace Sys2Proof.Machine

/-- FAULT_RAISE (R483): a block raises a fault; a code the device does not have raises nothing (R492). -/
def execFaultRaise (code ch : Nat) (s : State) : Host.Outcome State Fault Refusal := .next (s.raise code ch)

/-- R485, R486: which entry runs once a handler is done: the innermost suspended one resumes, unless the head of the queue
ranks above it and so would pre-empt it at once (DEDUCED, log entry 62). -/
def Flt.nextHandler (f : Flt) : Flt :=
  match f.susp, f.queue with
  | t :: ts, q :: qs =>
    if t.sev < q.sev then { f with running := some q, queue := qs } else { f with running := some t, susp := ts }
  | t :: ts, [] => { f with running := some t, susp := ts }
  | [], q :: qs => { f with running := some q, queue := qs }
  | [], [] => { f with running := none }

/-- HANDLER_COMPLETE (R485, R486) (DEDUCED, log entry 62). -/
def execHandlerComplete (s : State) : Host.Outcome State Fault Refusal :=
  .next (
    if s.handling then
      match s.flt.running with
      | some e => s.onFlt fun f => Flt.nextHandler { f with running := none, lastDone := e.seq }
      | none => s
    else s)

/-- FAULT_STATUS (R499). -/
def execFaultStatus (o : Origin) (p : List Byte) (s : State) : Host.Outcome State Fault Refusal :=
  .next (s.report o 0x1301 (param p.isEmpty) fun s =>
    let f := s.flt
    [byte f.held, byte f.susp.length] ++ toLE 2 ((f.running.map fun e => e.code).getD 0) ++ toLE 2 f.overflows ++
      toLE 2 f.lost ++ f.raised.toList.flatMap (toLE 4))

/-- FAULT_ACTIVE (R499). -/
def execFaultActive (o : Origin) (p : List Byte) (s : State) : Host.Outcome State Fault Refusal :=
  .next (s.report o 0x1302 (param p.isEmpty) fun s =>
    let xs := s.flt.active.take 255
    [byte xs.length, 0] ++
      xs.flatMap fun a => toLE 2 a.code ++ [byte a.ch, byte a.sev] ++ toLE 4 a.seq ++ toLE 8 a.time)

/-- R495: a download may run: KEEP is not below 6 V (R19). -/
def State.downloads (s : State) : Bool := !s.sys.nandBar

/-- IMG_BEGIN (R495): the target is marked invalid and takes the download from its start. -/
def execImgBegin (o : Origin) (p : List Byte) (s : State) : Host.Outcome State Fault Refusal :=
  let k := fin 2 (u p 0 1)
  .next (s.run o 0x1401 2
    (paramState (p.length = 8 ∧ u p 0 1 ≤ 1 ∧ u p 1 3 = 0 ∧ 257 ≤ u p 4 4 ∧ u p 4 4 ≤ 16777472)
      (s.downloads && s.img.booted ≠ some k)) fun s =>
    (.done st.ok [], s.onImg fun i =>
      { i with
        area := upd i.area k fun _ => { st := .invalid, bytes := [] }, download := 1, target := k, total := u p 4 4 }))

/-- The bytes of the open download received so far (R495). -/
def Img.received (i : Img) : Nat := (i.area[i.target]).bytes.length

/-- IMG_DATA (R495). -/
def execImgData (o : Origin) (p : List Byte) (s : State) : Host.Outcome State Fault Refusal :=
  let n := u p 4 2
  let chk :=
    if p.length < 6 ∨ n = 0 ∨ 4080 < n ∨ p.length ≠ 6 + n then st.badParam
    else if s.img.download ≠ 1 ∨ !s.downloads then st.state
    else if u p 0 4 ≠ s.img.received ∨ s.img.total < u p 0 4 + n then st.badParam
    else st.ok
  .next (s.run o 0x1402 2 chk fun s =>
    (.done st.ok [], s.onImg fun i =>
      { i with area := upd i.area i.target fun a => { a with bytes := a.bytes ++ p.drop 6 } }))

/-- IMG_END (R494, R495): a failure leaves the target invalid and raises 0x1403; an accepted image replies once stored.
(DEDUCED, log entry 64.) -/
def execImgEnd (o : Origin) (p : List Byte) (s : State) : Host.Outcome State Fault Refusal :=
  .next (s.run o 0x1403 2 (paramState p.isEmpty (s.img.download = 1 && s.downloads)) fun s =>
    let k := s.img.target
    let e := imageCheck (s.img.area[k]).bytes s.sys.pubKey s.sys.serial s.img.rollback
    let s := s.onImg fun i => { i with lastError := e, download := 0 }
    if e ≠ 0 then
      (.done st.badParam [], s.raiseWith { cause := e, image := k.val,
                                           value := u (s.img.area[k]).bytes 12 4 } 0x1403 blockWide)
    else if s.skb.failed then (.done st.timeout [], s)
    else (.later, (s.enqueue (.store k.val (s.img.area[k]).bytes) (some ⟨o, 0x1403, []⟩)).pump))

/-- IMG_CONFIRM (R497): it answers once the counter is written or deferred; a counter that is not below SEC_VER stays. -/
def execImgConfirm (o : Origin) (p : List Byte) (s : State) : Host.Outcome State Fault Refusal :=
  .next (s.run o 0x1405 2 (param p.isEmpty) fun s =>
    let v : Nat := match s.img.booted with
      | some k => u (s.img.area[k]).bytes 12 4
      | none => 0
    if v ≤ s.img.rollback then (.done st.ok [], s)
    else
      let par : FaultParam := { image := ((s.img.booted.map fun k => k.val).getD 0xFF), value := v }
      let s := (s.onImg fun i => { i with rollback := v }).raiseWith par 0x1405 blockWide
      (.later, (s.await o 0x1405 0 0 []).vWrite 2 (toLE 4 v)))

/-- R498: the twelve bytes of an image area; an empty one has no header. -/
def ImgArea.info (a : ImgArea) : List Byte :=
  [byte a.st.code, byte (u a.bytes 5 1), byte (u a.bytes 6 1), 0] ++ toLE 2 (u a.bytes 8 2) ++ [0, 0] ++
    toLE 4 (u a.bytes 12 4)

/-- R498: an area's number, 0xFF for none. -/
def areaCode (k : Option (Fin 2)) : Byte := byte ((k.map fun x => x.val).getD 0xFF)

/-- IMG_STATUS (R498). -/
def execImgStatus (o : Origin) (p : List Byte) (s : State) : Host.Outcome State Fault Refusal :=
  .next (s.report o 0x1406 (param p.isEmpty) fun s =>
    let i := s.img
    [areaCode i.booted, areaCode i.active, byte i.lastError, byte i.download] ++ toLE 4 i.rollback ++
      (i.area[0]).info ++ (i.area[1]).info)

end Sys2Proof.Machine
end

