-- ==== Sys2Proof/Machine/Easel.lean ====
section
/-! DEFINITION. The easel commands of every block (R123–R127), commits across blocks and the easel save (R128), and the
cross-field rules of the records (R176, R204, R236, R263, R298, R320, R349, R375, R400, R431, R452, R478). -/

namespace Sys2Proof.Machine

/-- The record of a block with a number (R124). -/
def recOf (blk n : Nat) : Option RecId := (allRecs.filter fun r => recBlock r = blk)[n]?

/-- The privilege of a block's easel commands but for fields marked I and records 0 and 1 of block 0x10 (R116) (DEDUCED, log
entry 70). -/
def easelPriv (blk : Nat) : Nat := if blk ∈ [0x07, 0x08, 0x09, 0x0A, 0x0D, 0x0F] then 2 else 1

/-- The fields of a record that a byte range covers, with their indices. -/
def covered (r : RecId) (off len : Nat) : List (Field × Nat) :=
  (fieldsOf r).zipIdx.filter fun x => 8 * off ≤ 8 * x.1.off + x.1.lo && 8 * x.1.off + x.1.lo + x.1.width ≤ 8 * (off + len)

/-- R124: a byte range neither starts nor ends inside a field. -/
def wholeFields (r : RecId) (off len : Nat) : Bool :=
  (fieldsOf r).all fun f =>
    let a := 8 * f.off + f.lo
    let b := a + f.width
    (8 * off ≤ a && b ≤ 8 * (off + len)) || b ≤ 8 * off || 8 * (off + len) ≤ a

/-- The value a write gives to a field. -/
def writtenRaw (f : Field) (off : Nat) (data : List Byte) : Nat :=
  f.getRaw (zeros off ++ data ++ zeros (f.off + f.nbytes - off - data.length))

/-- R7, R8: a value a field may be given; every reserved field must be written 0. -/
def fieldOk (f : Field) (v : Nat) : Bool := f.inRange v

/-- A field of a record's bytes. -/
abbrev fv (bs : List Byte) (f : Field) : Nat := f.getRaw bs

/-- Phases of a mask. -/
def phaseCount (m : Nat) : Nat := (maskBits 32 m).length

/-- R278: a target lies on a step of its range. -/
def onStep (range v : Nat) : Bool :=
  if range = 0 then 400 ≤ v && v ≤ 5500 else 3000 ≤ v && v ≤ 16000 && v % 5 = 0

/-- R298: the current-limit rule of a domain against a phase table. -/
def ilimOk (d ph : List Byte) : Bool :=
  let m := fv d Fld.Dom.PHASES
  m = 0 || fv d Fld.Dom.ILIM_MA ≤ ((maskBits 32 m).map fun p => fv ph (Fld.Dom.PH_OCP_MA p)).sum

/-- R298: the synchronisation rule of a domain against record 2. -/
def syncOk (d w : List Byte) : Bool :=
  let r := fv w Fld.Dom.REF_KHZ * fv d Fld.Dom.SYNC_MULT
  let f := fv d Fld.Dom.FSW_KHZ
  fv d Fld.Dom.SYNC_EN = 0 || (4 * f ≤ 5 * r && 5 * r ≤ 6 * f && 200 ≤ r && r ≤ 2000)

/-- R298: every phase's over-current limit lies inside its monitor's range. -/
def phasesOk (ph : List Byte) : Bool :=
  (List.range 32).all fun p =>
    fv ph (Fld.Dom.PH_OCP_MA p) * fv ph (Fld.Dom.CS_MV_A p) + 1000 * fv ph (Fld.Dom.CS_ZERO_MV p) ≤ 2700000

/-- R298: the rules of domain `k`; `d` gives every domain's record as it would stand. -/
def State.domOk (s : State) (d : Nat → List Byte) (k : Nat) : Bool :=
  let b := d k
  let m := fv b Fld.Dom.PHASES
  let src := fv b Fld.Dom.INPUT_SRC
  let lo := fv b Fld.Dom.MARGIN_LOW_MV
  let hi := fv b Fld.Dom.MARGIN_HIGH_MV
  let v := fv b Fld.Dom.VOUT_MV
  let others := (List.range 16).filter fun j => j ≠ k
  let shed := fv b Fld.Dom.SHED_INST
  (k ≠ 0 || (m = 1 && src = 1 && fv b Fld.Dom.RANGE = 0)) &&
    phaseCount m ≤ 8 && (k = 0 || !m.testBit 0) && (others.all fun j => m &&& fv (d j) Fld.Dom.PHASES = 0) &&
    (src < 16 || (src - 16 ≠ k && fv (d (src - 16)) Fld.Dom.INPUT_SRC ≤ 1)) &&
    (src ≤ 1 || others.all fun j => fv (d j) Fld.Dom.INPUT_SRC ≠ 16 + k) &&
    ([v, lo, hi].all (onStep (fv b Fld.Dom.RANGE))) && lo ≤ v && v ≤ hi &&
    (fv b Fld.Dom.WIN_MODE = 0 || (fv b Fld.Dom.UV_MV < lo && hi < fv b Fld.Dom.OV_MV)) &&
    (m = 0 || fv b Fld.Dom.MIN_PH ≤ phaseCount m) && ilimOk b (s.copy .dom1 0).easel &&
    syncOk b (s.copy .dom2 0).easel && s.hasTable 4 (fv b Fld.Dom.FOLD_INST) && (shed = 255 || s.hasTable 5 shed)

/-- The CHEM of a palette table of the active bank (R132, R140) (DEDUCED, log entry 72). -/
def State.chemOf (s : State) (type inst : Nat) : Option Nat :=
  (palFind (s.bankBytes s.pal.active) type inst).map fun t => u t 0 1

/-- The last point's current of a breaker curve (R134). -/
def curveLast (t : List Byte) : Nat := u t (8 * u t 0 1 - 4) 4

/-- R431: the rules of a unit's sequence. -/
def unitRecOk (k : Nat) (b : List Byte) : Bool :=
  let n := fv b Fld.Meas.ENTRIES
  let c (e : Nat) : Nat := fv b (Fld.Meas.CHANNEL e)
  let rot (e : Nat) : Nat := fv b (Fld.Meas.ROT_N e)
  ((unitChannels k).all fun x => (List.range n).any fun e => c e ≤ x && x < c e + rot e) &&
    ((List.range 16).all fun e =>
      if e < n then
        1 ≤ rot e && 1 ≤ fv b (Fld.Meas.SAMPLE e) && ((List.range (rot e)).all fun j => inSet k (c e + j))
      else sliceBytes b (4 + 8 * e) 8 = 0xFF :: zeros 7) &&
    ((List.range n).all fun e => fv b (Fld.Meas.TRIG_SRC e) ≤ 0x2B) && (fv b Fld.Meas.LP_MODE ≠ 2 || k = 6)

/-- R375: the rules of a PD port's record. -/
def pdRecOk (b : List Byte) : Bool := fv b Fld.Pd.T_PS_TRANS_MS < fv b Fld.Pd.T_PS_TRANS_EPR_MS

/-- The cross-field rules of a record of channel `ch`, whose bytes would be `d ch`; `cov` are the fields written.
(DEDUCED, log entry 72.) -/
def State.crossOk (s : State) (r : RecId) (ch : Nat) (d : Nat → List Byte) (cov : List Field) : Bool :=
  let b := d ch
  let g (f : Field) : Nat := fv b f
  match r with
  | .rect0 =>
    g Fld.Rect.BROWNOUT_MV + 3000 ≤ g Fld.Rect.BROWNIN_MV && g Fld.Rect.BULK_DROP_MV + 20000 ≤ g Fld.Rect.BULK_MV &&
      g Fld.Rect.BULK_MIN_MV + 20000 ≤ g Fld.Rect.BULK_DROP_MV &&
      g Fld.Rect.BURST_ENTER_PCT + 2 ≤ g Fld.Rect.BURST_EXIT_PCT && g Fld.Rect.LLC_FMIN_KHZ < g Fld.Rect.LLC_FMAX_KHZ &&
      g Fld.Rect.F_MIN_HZ < g Fld.Rect.F_MAX_HZ
  | .bus0 =>
    g Fld.Bus.BUS_UV_MV + 1000 + g Fld.Bus.STBY_OFFSET_MV ≤ g Fld.Bus.BUS_SET_MV &&
      g Fld.Bus.PD_FOLD_START_MV + 100 ≤ g Fld.Bus.PD_FOLD_END_MV && g Fld.Bus.BUS_SET_MV % 10 = 0
  | .bus1 =>
    g Fld.Bus.UV_MV + 2 * g Fld.Bus.HYST_MV + 1000 ≤ g Fld.Bus.OV_MV && g Fld.Bus.ILIM_MA + 5000 ≤ g Fld.Bus.FAST_MA &&
      g Fld.Bus.INRUSH_MA ≤ g Fld.Bus.ILIM_MA
  | .chg0 =>
    let lfp : Bool := g Fld.Chg.CHEM = 0
    let within (f : Field) (a b' c e : Nat) : Bool := if lfp then a ≤ g f && g f ≤ b' else c ≤ g f && g f ≤ e
    within Fld.Chg.CELLS 15 16 23 24 && within Fld.Chg.EOD_MV_CELL 2400 3200 1600 2000 &&
      within Fld.Chg.CELL_OV_MV 3600 3800 2450 2580 && g Fld.Chg.I_DSG_MAX_MA + 5000 ≤ g Fld.Chg.FAST_MA &&
      s.chemOf 1 (g Fld.Chg.PROFILE) = some (g Fld.Chg.CHEM)
  | .gauge0 =>
    g Fld.Gauge.TAU1_S < g Fld.Gauge.TAU2_S &&
      (Fld.Gauge.OCV_INST ∉ cov || s.chemOf 9 (g Fld.Gauge.OCV_INST) = some (s.fld Fld.Chg.CHEM ch))
  | .dom0 => s.domOk d ch
  | .dom1 => phasesOk b && (List.range 16).all fun k => ilimOk (s.copy .dom0 k).easel b
  | .dom2 => (List.range 16).all fun k => syncOk (s.copy .dom0 k).easel b
  | .feed0 =>
    let t := palFind (s.bankBytes s.pal.active) 3 (g Fld.Feed.CURVE)
    g Fld.Feed.UV_MV + 2 * g Fld.Feed.HYST_MV + 1000 ≤ g Fld.Feed.OV_MV &&
      g Fld.Feed.INRUSH_MA + 1000 ≤ g Fld.Feed.FAST_MA &&
      g Fld.Feed.FAST_MA * g Fld.Feed.SHUNT_UOHM ≤ 72000000 &&
      match t with
      | some t => curveLast t * g Fld.Feed.SHUNT_UOHM ≤ 72000000
      | none => false
  | .link0 => g Fld.Link.SHARE_US % 10 = 0 && !(g Fld.Link.PORT_EN = 0 && g Fld.Link.LINK_EN = 1)
  | .pd0 => pdRecOk b
  | .seq0 =>
    g Fld.Seq.WD_MIN_MS < g Fld.Seq.WD_MAX_MS &&
      (match palFind (s.bankBytes s.pal.active) 6 (g Fld.Seq.PWRUP_INST) with
        | some t => u t 1 1 = 0
        | none => false) &&
      (g Fld.Seq.WD_SEQ = 255 || s.hasTable 6 (g Fld.Seq.WD_SEQ))
  | .seq1 =>
    g Fld.Seq.EN = 0 ||
      (g Fld.Seq.UV_MV < g Fld.Seq.OV_MV && g Fld.Seq.OV_MV ≤ g Fld.Seq.DIV_RATIO * 20)
  | .meas0 => unitRecOk ch b
  | .meas2 =>
    (g Fld.Meas.MODE ≠ 1 && g Fld.Meas.MODE ≠ 3 || 1 ≤ g Fld.Meas.PERIOD) && g Fld.Meas.COMPARE ≤ g Fld.Meas.PERIOD + 1
  | .therm0 => Fld.Therm.T_LOW.get b < Fld.Therm.T_HIGH.get b && g Fld.Therm.DUTY_MIN ≤ g Fld.Therm.DUTY_MAX
  | .skb0 =>
    let codes := ((List.range 16).map fun k => g (Fld.Skb.TRIG_CODE k)).filter fun c => c ≠ 0
    s.hasTable 0x0C (g Fld.Skb.CAP_SET) && codes.eraseDups.length = codes.length
  | .rect1 | .gauge1 | .feed1 | .link1 | .meas1 => true

/-- R123, R296: a field of a record of a channel runs: an entry of the phase table follows its phase's owner. -/
def State.fieldRuns (s : State) (r : RecId) (ch : Nat) (f : Field) : Bool :=
  if r = .dom1 then ((s.ownerOf (phaseOfField f)).map fun k => (s.domCh k).running).getD false else s.running r ch

/-- A batch of values of a record that land with channel `own`. -/
def Batch.of (r : RecId) (vals : List (Nat × Nat)) (now id own : Nat) : Batch :=
  let fs := vals.filterMap fun v => (fieldsOf r)[v.1]?
  { vals := vals, slow := fs.any fun f => slowBnd r f.bnd, fast := fs.any fun f => !slowBnd r f.bnd, slowDone := false,
    since := now, id := id, own := own }

/-- R122: values not yet landed of fields written again are never applied (DEDUCED, log entry 74). -/
def Batch.drop (idx : List Nat) (x : Batch) : Batch := { x with vals := x.vals.filter fun v => v.1 ∉ idx }

/-- R123: the accepted values of a write reach the copies of a channel. -/
def State.easelApply (r : RecId) (ch : Nat) (vals : List (Field × Nat × Nat)) (s : State) : State :=
  let c := s.copy r ch
  let raw (x : Field × Nat × Nat) : Nat × Nat := x.2
  let idx := vals.map fun x => x.2.1
  let c := { c with pendL := (c.pendL.map (Batch.drop idx)).filter fun x => !x.vals.isEmpty
                    armed := c.armed.map (Batch.drop idx) }
  let bs := vals.filter fun x => x.1.cls = .B
  let now := vals.filter fun x => x.1.cls ≠ .B && !s.fieldRuns r ch x.1
  let later := vals.filter fun x => x.1.cls = .L && s.fieldRuns r ch x.1
  let c := { c with
             easel := applyVals r (vals.map raw) c.easel
             live := applyVals r (now.map raw) c.live
             stagedB := c.stagedB ++ (bs.map fun x => x.2.1).filter fun i => i ∉ c.stagedB
             pendL := if later.isEmpty then c.pendL else c.pendL ++ [Batch.of r (later.map raw) s.now 0 ch] }
  s.setCopy r ch c

/-- R123: a value of class S differs from the live one of a running channel; R431: the host writes MODE or COMPARE of a fan's
channel (DEDUCED, log entry 75). -/
def State.easelRefuse (s : State) (r : RecId) (ch : Nat) (vals : List (Field × Nat × Nat)) : Bool :=
  vals.any fun x =>
    (x.1.cls = .S && s.fieldRuns r ch x.1 && x.2.2 ≠ x.1.getRaw (s.copy r ch).live) ||
      (r = .meas2 && ch < 4 && (x.1 = Fld.Meas.MODE || x.1 = Fld.Meas.COMPARE))

/-- R124: what an EASEL_WRITE asks, once its form is right: the record and the values of the fields it covers. -/
def writeForm (blk : Nat) (p : List Byte) : Option (RecId × List (Field × Nat × Nat)) :=
  let off := u p 4 2
  let len := u p 6 2
  match recOf blk (u p 2 1) with
  | none => none
  | some r =>
    if 8 ≤ p.length ∧ p.length = 8 + len ∧ 1 ≤ len ∧ len ≤ 4078 ∧ u p 3 1 = 0 ∧ off + len ≤ recLen r ∧ wholeFields r off len then
      some (r, (covered r off len).map fun x => (x.1, x.2, writtenRaw x.1 off (p.drop 8)))
    else none

/-- R116, R124, R431: the privilege of an EASEL_WRITE: it needs 2 Install where its byte range touches a field marked I, or
goes to record 0 or 1 of block 0x10 (DEDUCED, log entry 70). -/
def writePriv (blk : Nat) (p : List Byte) : Nat :=
  let a := 8 * u p 4 2
  let b := a + 8 * u p 6 2
  match recOf blk (u p 2 1) with
  | none => easelPriv blk
  | some r =>
    let touches (f : Field) : Bool := 8 * f.off + f.lo < b && a < 8 * f.off + f.lo + f.width
    let marked : Bool := (fieldsOf r).any fun f => f.install && f.cls ≠ .ro && touches f
    max (easelPriv blk) (if r = .meas0 ∨ r = .meas1 ∨ marked then 2 else 1)

/-- R112, R124: the selection and every value of a write are admissible on every selected channel. -/
def State.writeParam (s : State) (blk : Nat) (p : List Byte) : Bool :=
  match writeForm blk p, s.sel blk (u p 0 2) with
  | some (r, vals), some sel =>
    let chans := if recWide r then [0] else maskBits 32 sel.mask
    let put := vals.map fun x => x.2
    let d (k : Nat) : List Byte :=
      let c := (s.copy r k).easel
      if k ∈ chans then applyVals r put c else c
    (!recWide r || sel.mode = 2) && (vals.all fun x => fieldOk x.1 x.2.2) &&
      chans.all fun ch => s.crossOk r ch d (vals.map fun x => x.1)
  | _, _ => false

/-- EASEL_WRITE of block `blk` (R124); a block without an easel has no such opcode (DEDUCED, log entry 75). -/
def execEaselWrite (o : Origin) (blk : Nat) (p : List Byte) (s : State) : Host.Outcome State Fault Refusal :=
  let op := 256 * blk + 0xE0
  let form := writeForm blk p
  let vals := ((form.map fun x => x.2).getD []).filter fun x => x.1.cls ≠ .ro
  .next (
    if blk ∉ easelBlocks then s.run o op 0 st.badOpcode fun s => (.done st.ok [], s)
    else s.run o op (writePriv blk p) (param (s.writeParam blk p)) fun s =>
      match form with
      | none => (.done st.badParam [], s)
      | some (r, _) =>
        if recWide r then
          if s.easelRefuse r 0 vals then (.done st.state [], s)
          else (.done st.ok [], (s.easelApply r 0 vals).bumpGen blk)
        else
          let x := s.selDo ((s.sel blk (u p 0 2)).getD ⟨0, 0⟩) fun k s =>
            if s.easelRefuse r k vals then (st.state, s) else (st.ok, s.easelApply r k vals)
          match x.1 with
          | .done status _ => (x.1, if status = st.state then x.2 else x.2.bumpGen blk)
          | .later => x)

/-- R126, R296: the staged fields of a copy that a selection takes, by the channel they land with (31: block-wide): a
phase's entry goes with the domain that owns it. -/
def State.stagedOf (s : State) (sel : Sel) (x : RecId × Nat) (idx : List Nat) : List (Nat × List Nat) :=
  if x.1 = .dom1 then
    let owner (i : Nat) : Nat := ((fieldsOf .dom1)[i]?.map (s.landsWith .dom1 0)).getD 31
    let keys := (idx.map owner).eraseDups.filter fun k => if k = 31 then sel.mode = 2 else sel.mask.testBit k
    keys.map fun k => (k, idx.filter fun i => owner i = k)
  else if (if x.2 = 31 then sel.mode = 2 else sel.mask.testBit x.2) && !idx.isEmpty then [(x.2, idx)]
  else []

/-- R123, R126: staged fields of a copy are committed: armed on a running channel, live at once on a stopped one. -/
def State.armFields (r : RecId) (ch id : Nat) (idx : List Nat) (s : State) : State :=
  let c := s.copy r ch
  let vals := idx.filterMap fun i => ((fieldsOf r)[i]?).map fun f => (i, f.getRaw c.easel)
  let run := idx.any fun i => ((fieldsOf r)[i]?.map (s.fieldRuns r ch)).getD false
  let own := ((idx.head?.bind fun i => (fieldsOf r)[i]?).map (s.landsWith r ch)).getD 31
  let c := { c with stagedB := c.stagedB.filter fun i => i ∉ idx }
  if run then s.onCopy r ch fun _ => { c with armed := c.armed ++ [Batch.of r vals s.now id own] }
  else s.setCopy r ch { c with live := applyVals r vals c.live }

/-- What a commit of a selection takes: record, copy, channel it lands with, fields. -/
def State.toCommit (s : State) (blk : Nat) (sel : Sel) : List (RecId × Nat × Nat × List Nat) :=
  (recsOf blk).flatMap fun x =>
    (s.stagedOf sel x (s.copyAt x).stagedB).map fun y => (x.1, if x.2 = 31 then 0 else x.2, y.1, y.2)

/-- R126: a selection of a block is committed as commit number `id`. -/
def State.commitSel (blk : Nat) (sel : Sel) (id : Nat) (s : State) : State :=
  s.each (s.toCommit blk sel) fun x s => s.armFields x.1 x.2.1 id x.2.2.2

/-- A mask of channels. -/
def maskOf (ks : List Nat) : Nat := ks.foldl (fun m k => m ||| 2 ^ k) 0

/-- R126: the check of a GEN parameter. -/
def State.genOk (s : State) (blk g : Nat) : Bool := g = 0 || g = s.cfg.gen[fin 21 blk]

/-- R116, R126: the privilege for the fields `idx` picks of each copy in a selection: that of the block, and 2 Install where
one of them is marked I, as every field of records 0 and 1 of block 0x10 is (DEDUCED, log entry 70). -/
def State.fieldsPriv (s : State) (blk : Nat) (sel : Option Sel) (idx : RecCopy → List Nat) : Nat :=
  match sel with
  | none => easelPriv blk
  | some sel =>
    let marked : Bool := (recsOf blk).any fun x => (s.stagedOf sel x (idx (s.copyAt x))).any fun y =>
      y.2.any fun i => ((fieldsOf x.1)[i]?.map fun f => f.install && f.cls ≠ .ro).getD false
    max (easelPriv blk) (if marked then 2 else 1)

/-- R126, R128: the privilege of a commit, from what is staged. -/
def State.commitPriv (s : State) (blk : Nat) (sel : Option Sel) : Nat := s.fieldsPriv blk sel fun c => c.stagedB

/-- R127: the privilege of a discard, from what it takes back. -/
def State.discardPriv (s : State) (blk : Nat) (sel : Option Sel) : Nat :=
  s.fieldsPriv blk sel fun c => c.stagedB ++ c.armed.flatMap fun b => b.vals.map (·.1)

/-- The number of the next commit command. -/
def State.commitId (s : State) : Nat := (s.cfg.commits + 1) % 2 ^ 32

/-- EASEL_COMMIT (R126); its own bytes are the commit's number, the channels it was armed on, and whether some channel took
its values at once (DEDUCED, log entry 70). -/
def execEaselCommit (o : Origin) (blk : Nat) (p : List Byte) (s : State) : Host.Outcome State Fault Refusal :=
  let op := 256 * blk + 0xE1
  let sel := s.sel blk (u p 0 2)
  .next (
    if blk ∉ easelBlocks then s.run o op 0 st.badOpcode fun s => (.done st.ok [], s)
    else s.run o op (s.commitPriv blk sel) (paramState (p.length = 4 ∧ sel.isSome) (s.genOk blk (u p 2 2))) fun s =>
      let sel := sel.getD ⟨0, 0⟩
      let id := s.commitId
      let all := s.toCommit blk sel
      let s := (s.onCfg fun c => { c with commits := c.commits + 1 }).commitSel blk sel id
      let left := maskOf (s.armedOn blk id)
      let atOnce : Bool := all.any fun x => !left.testBit x.2.2.1
      if left = 0 then (.done st.ok [], s)
      else (.later, s.awaitSel o op sel left 0 0 (toLE 4 id ++ toLE 4 left ++ [byte (b2n atOnce)])))

/-- R127: the easel of a copy equals the live copy again for the fields that `p` selects, and its commits that `q` selects
are withdrawn. -/
def RecCopy.discard (r : RecId) (p : Nat → Bool) (q : Batch → Bool) (c : RecCopy) : RecCopy :=
  let vals := (fieldsOf r).zipIdx.filterMap fun x => if p x.2 then Option.some (x.2, x.1.getRaw c.live) else Option.none
  { c with
    easel := applyVals r vals c.easel
    stagedB := c.stagedB.filter fun i => !p i
    armed := c.armed.filter fun b => !q b }

/-- R127: an EASEL_DISCARD on the copies of a selection. -/
def State.discardCopies (blk : Nat) (sel : Sel) (s : State) : State :=
  s.each (recsOf blk) fun x s =>
    let ch := if x.2 = 31 then 0 else x.2
    if x.1 = .dom1 then
      let mine (k : Nat) : Bool := if k = 31 then sel.mode = 2 else sel.mask.testBit k
      s.onCopy x.1 ch (RecCopy.discard x.1
        (fun i => mine (((fieldsOf .dom1)[i]?.map (s.landsWith .dom1 0)).getD 31)) fun b => mine b.own)
    else if (if x.2 = 31 then sel.mode = 2 else sel.mask.testBit x.2) then
      s.onCopy x.1 ch (RecCopy.discard x.1 (fun _ => true) fun _ => true)
    else s

/-- R127: a commit command that owes its reply and loses channels replies at once; an entry of a MULTI_COMMIT gets STATE. -/
def State.withdraw (blk : Nat) (before : State) (s : State) : State :=
  let gone (id : Nat) : List Nat := (before.armedOn blk id).filter fun k => k ∉ s.armedOn blk id
  let hit (w : Wait) : Bool := w.op = 256 * blk + 0xE1 && !(gone (u w.own 0 4)).isEmpty
  let s' := s.wake hit fun w =>
    if u w.own 8 1 = 1 ∨ w.left ≠ u w.own 4 4 then
      (st.partly, toLE 4 (foldWide (maskOf (gone (u w.own 0 4)))) ++ [byte st.state])
    else (st.state, [])
  let s' := s'.onHif fun h =>
    { h with
      waits := h.waits.map fun w =>
        if w.op = 0x0301 then
          { w with
            data := (List.range ((w.data.length - 4) / 2)).foldl (fun d e =>
              if u d (4 + 2 * e) 1 = blk ∧ u d (5 + 2 * e) 1 = 0xFF ∧ gone (u d 0 4 + e) ≠ [] then
                d.set (5 + 2 * e) (byte st.state)
              else d) w.data }
        else w }
  s'.wakeCommits

/-- EASEL_DISCARD (R127). -/
def execEaselDiscard (o : Origin) (blk : Nat) (p : List Byte) (s : State) : Host.Outcome State Fault Refusal :=
  let op := 256 * blk + 0xE2
  let sel := s.sel blk (u p 0 2)
  .next (
    if blk ∉ easelBlocks then s.run o op 0 st.badOpcode fun s => (.done st.ok [], s)
    else s.run o op (s.discardPriv blk sel) (param (p.length = 2 ∧ sel.isSome)) fun s =>
      (.done st.ok [], (s.discardCopies blk (sel.getD ⟨0, 0⟩)).withdraw blk s))

/-- R127: the copy that an EASEL_READ names: single mode; a block without channels takes index 0.
(DEDUCED, log entry 71.) -/
def State.readSel (s : State) (blk : Nat) (r : RecId) (v : Nat) : Option Nat :=
  if blockChans blk = 0 then (if v = 0 then some 0 else none)
  else (s.single blk v).map fun k => if recWide r then 0 else k

/-- EASEL_READ (R127). -/
def execEaselRead (o : Origin) (blk : Nat) (p : List Byte) (s : State) : Host.Outcome State Fault Refusal :=
  let op := 256 * blk + 0xE3
  let off := u p 4 2
  let len := u p 6 2
  let at_ : Option (RecId × Nat) := (recOf blk (u p 2 1)).bind fun r => (s.readSel blk r (u p 0 2)).map fun k => (r, k)
  .next (
    if blk ∉ easelBlocks then s.run o op 0 st.badOpcode fun s => (.done st.ok [], s)
    else
      s.report o op (param (p.length = 8 ∧ u p 3 1 ≤ 1 ∧ 1 ≤ len ∧ len ≤ 4085 ∧
        (at_.map fun x => decide (off + len ≤ recLen x.1)).getD false)) fun s =>
        match at_ with
        | some x =>
          let c := s.copy x.1 x.2
          sliceBytes (if u p 3 1 = 1 then c.live else c.easel) off len
        | none => [])

/-- The mask of EASEL_STATUS for the copies of a block: the channels of the fields `f` picks; a block-wide record shows in
bit 0, a phase's entry in its owner's (DEDUCED, log entries 59, 71). -/
def State.statusMask (s : State) (blk : Nat) (f : RecCopy → List Nat) : Nat :=
  maskOf ((recsOf blk).flatMap fun x =>
    let idx := f (s.copyAt x)
    if idx.isEmpty then []
    else if x.1 = .dom1 then
      idx.map fun i => ((((fieldsOf .dom1)[i]?.map (s.landsWith .dom1 0)).getD 31) % 31)
    else [if x.2 = 31 then 0 else x.2])

/-- R127: the channels with a commit that awaits its boundary, those among them whose every value has been written again
(R122): the mask as `State.statusMask` counts it. -/
def State.armedMask (s : State) (blk : Nat) : Nat :=
  maskOf ((recsOf blk).flatMap fun x => (s.copyAt x).armed.map fun b => b.own % 31)

/-- EASEL_STATUS (R127). Block 0x02 has no record: its easel holds the options of HIF_CONFIG, which wait for their boundary
(R102) (DEDUCED, log entry 70). -/
def execEaselStatus (o : Origin) (blk : Nat) (p : List Byte) (s : State) : Host.Outcome State Fault Refusal :=
  let op := 256 * blk + 0xE4
  .next (
    if blk ∉ easelBlocks then s.run o op 0 st.badOpcode fun s => (.done st.ok [], s)
    else
      s.report o op (param p.isEmpty) fun s =>
        let idx (bs : List Batch) : List Nat := bs.flatMap fun b => b.vals.map (·.1)
        let opts := b2n (blk = 0x02 && s.hif.optNext.isSome)
        toLE 2 s.cfg.gen[fin 21 blk] ++ toLE 4 (s.statusMask blk (fun c => idx c.pendL) ||| opts) ++
          toLE 4 (s.statusMask blk fun c => c.stagedB) ++ toLE 4 (s.armedMask blk))

/-- A boundary of a record; a domain's record and the phase-table entries it owns have one (R125, R296). -/
def State.boundaryOf (r : RecId) (ch : Nat) (b : Bnd) (s : State) : State :=
  if r = .dom0 ∨ r = .dom1 then s.domLand ch else s.boundary r ch b

/-- COMMIT_LAND (R125, R126): a boundary finds the token of an armed commit. -/
def execCommitLand (r : RecId) (ch : Nat) (b : Bnd) (s : State) : Host.Outcome State Fault Refusal :=
  .next (if (s.copy r (if r = .dom1 then 0 else ch)).armed.isEmpty then s else s.boundaryOf r ch b)

/-- L_VALUE_LAND (R123, R125): a boundary finds L values that wait for it. -/
def execLValueLand (r : RecId) (ch : Nat) (b : Bnd) (s : State) : Host.Outcome State Fault Refusal :=
  .next (if (s.copy r (if r = .dom1 then 0 else ch)).pendL.isEmpty then s else s.boundaryOf r ch b)

/-- R126, R128: a waiting commit command. -/
def Wait.isCommit (w : Wait) : Bool := (w.op % 256 = 0xE1 && w.op / 256 ∈ easelBlocks) || w.op = 0x0301

/-- COMMIT_TIMEOUT (R126, R128): the oldest waiting commit has reached no boundary within 1 s; it replies and stays armed,
and 0x0302 is raised. -/
def execCommitTimeout (s : State) : Host.Outcome State Fault Refusal :=
  .next (
    match s.hif.waits.find? Wait.isCommit with
    | none => s
    | some w =>
      let s := s.advanceTo (w.since + sec 1)
      let sts := (multiStatuses w.data).map fun b => if b = 0xFF then byte st.timeout else b
      let s := s.onHif fun h => { h with waits := h.waits.erase w }
      let s := if w.op = 0x0301 then s.finish w.o w.op st.partly sts else s.finish w.o w.op st.timeout []
      s.raise 0x0302)

/-- R128: entry `e` of a MULTI_COMMIT. -/
def multiEntry (p : List Byte) (e : Nat) : List Byte := sliceBytes p (2 + 6 * e) 6

/-- R128: the first failing check of an entry. -/
def State.multiCheck (s : State) (o : Origin) (p : List Byte) (e : Nat) : Nat :=
  let x := multiEntry p e
  let blk := u x 0 1
  let sel := s.sel blk (u x 2 2)
  if blk ∉ easelBlocks then st.badParam
  else if s.level o < s.commitPriv blk sel then st.notPermitted
  else if u x 1 1 ≠ 0 ∨ sel.isNone ∨ (List.range e).any (fun j => u (multiEntry p j) 0 1 = blk) then st.badParam
  else if s.genOk blk (u x 4 2) then st.ok
  else st.state

/-- MULTI_COMMIT (R128): commits one block after another, each under its own number; its reply waits for them all.
(DEDUCED, log entry 74.) -/
def execMultiCommit (o : Origin) (p : List Byte) (s : State) : Host.Outcome State Fault Refusal :=
  let n := u p 0 1
  let es := List.range n
  let chk :=
    if p.length < 2 ∨ n < 1 ∨ 16 < n ∨ u p 1 1 ≠ 0 ∨ p.length ≠ 2 + 6 * n then st.badParam
    else ((es.map (s.multiCheck o p)).find? fun c => c ≠ st.ok).getD st.ok
  let blk (e : Nat) : Nat := u (multiEntry p e) 0 1
  let sel (e : Nat) : Sel := (s.sel (blk e) (u (multiEntry p e) 2 2)).getD ⟨0, 0⟩
  let priv := es.foldl (fun m e => max m (s.commitPriv (blk e) (s.sel (blk e) (u (multiEntry p e) 2 2)))) 1
  .next (s.run o 0x0301 1 chk fun s =>
    let s := s.accepted o priv
    let id := s.commitId
    let s := s.onCfg fun c => { c with commits := c.commits + n }
    let s := s.each es fun e s => s.commitSel (blk e) (sel e) (id + e)
    (.later, (s.await o 0x0301 0 0 (toLE 4 id ++ es.flatMap fun e => [byte (blk e), 0xFF])).wakeCommits))

/-- R128, R457: the live configuration, as it is saved. -/
def State.saveImage (s : State) : SaveCopy :=
  { recs := s.cfg.recs.map fun l => l.map fun c => c.live, groups := s.sys.groups,
    opt := s.hif.opt, ok := false }

/-- R457: the copy a save replaces: an unwritten or invalid one, else the older. -/
def Cfg.saveTarget (c : Cfg) : Fin 2 :=
  match c.save[0], c.save[1] with
  | none, _ => 0
  | some _, none => 1
  | some a, some b => if !a.2.ok then 0 else if !b.2.ok then 1 else if a.1 < b.1 then 0 else 1

/-- R128: some commit of some block is armed. -/
def State.anyArmed (s : State) : Bool := s.cfg.recs.any fun l => l.any fun c => !c.armed.isEmpty

/-- EASEL_SAVE (R128, R457). -/
def execEaselSave (o : Origin) (p : List Byte) (s : State) : Host.Outcome State Fault Refusal :=
  .next (s.run o 0x0302 2 (paramState p.isEmpty (!s.sys.nandBar && !s.anyArmed)) fun s =>
    if s.skb.failed then (.done st.timeout [], s)
    else
      let k := s.cfg.saveTarget
      let n := 1 + (s.cfg.save.toList.filterMap fun x => x.map (·.1)).foldl max 0
      let img := s.saveImage
      let s := s.onCfg fun c => { c with save := upd c.save k fun _ => some (n, img) }
      (.later, (s.enqueue (.store (4 + k.val) []) (some ⟨o, 0x0302, []⟩)).pump))

end Sys2Proof.Machine
end

