-- ==== Sys2Proof/Machine/PalCheck.lean ====
section
/-! DEFINITION. The validation of a palette image (R129–R145). A failure is a check code of R144 with the index of the
failing directory entry (0xFF where none) and the image offset of the failing byte. -/

namespace Sys2Proof.Machine

/-- A failure inside a table: code and offset within it. -/
abbrev TErr := Nat × Nat

/-- A check at an offset. -/
def ck (code off : Nat) (ok : Bool) : List TErr := if ok then [] else [(code, off)]

/-- Check 0x09: an unsigned field within its range. -/
def ckU (t : List Byte) (off n lo hi : Nat) : List TErr := ck 9 off (lo ≤ u t off n && u t off n ≤ hi)

/-- Check 0x09: a signed field within its range. -/
def ckI (t : List Byte) (off n : Nat) (lo hi : Int) : List TErr := ck 9 off (lo ≤ i t off n && i t off n ≤ hi)

/-- Check 0x08: reserved or unused bytes are 0. -/
def ckZ (t : List Byte) (off n : Nat) : List TErr :=
  match (List.range n).find? fun j => u t (off + j) 1 ≠ 0 with
  | some j => [(8, off + j)]
  | none => []

/-- Check 0x0A: each of the offsets and its predecessor stand in order; the failing byte is the later one's (R146)
(DESIGN CHOICE, log entry 164). -/
def ckOrd (offs : List Nat) (ok : Nat → Nat → Bool) : List TErr :=
  (offs.zip (offs.drop 1)).flatMap fun x => ck 0xA x.2 (ok x.1 x.2)

/-- Check 0x0A: no number of `n` bytes stands at two of the offsets; the failing byte is the later one's (DESIGN CHOICE, log
entries 163, 164). -/
def ckDistinct (t : List Byte) (n : Nat) (offs : List Nat) : List TErr :=
  offs.zipIdx.flatMap fun x => ck 0xA x.1 ((offs.take x.2).all fun o => u t o n ≠ u t x.1 n)

/-- R131: the instances of a type. -/
def instances (type : Nat) : Nat :=
  match type with
  | 1 => 4 | 2 => 4 | 3 => 8 | 4 => 4 | 5 => 4 | 6 => 8 | 7 => 1 | 8 => 1 | 9 => 4 | 10 => 1 | 11 => 6 | 12 => 8
  | _ => 0

/-- R131: the length of a table. -/
def tableLen (type : Nat) (t : List Byte) : Nat :=
  match type with
  | 1 => 4 + 28 * u t 1 1
  | 6 => 4 + 16 * u t 0 1
  | 2 => 36 | 3 => 68 | 4 => 36 | 5 => 60 | 7 => 132 | 8 => 100 | 9 => 332 | 10 => 20 | 11 => 8 | _ => 136

/-- R132: an exit; of an unused one (COND 0) every other byte must be 0, code 0x08, and a VALUE of COND 4 above 10,000 is
code 0x09 (DESIGN CHOICE, log entries 162, 163). -/
def exitErrs (t : List Byte) (n q : Nat) : List TErr :=
  let c := u t q 1
  if c = 0 then ckZ t q 6
  else
    ckU t q 1 0 8 ++ ckU t (q + 4) 2 0 3600 ++ ck 9 (q + 2) (c ≠ 4 || u t (q + 2) 2 ≤ 10000) ++
      ck 0xB (q + 1) (u t (q + 1) 1 < n)

/-- R132: a charge profile; an entry ID other than its index is code 0x09 (DESIGN CHOICE, log entry 163). -/
def profErrs (t : List Byte) : List TErr :=
  let n := u t 1 1
  let lfp : Bool := u t 0 1 = 0
  ckU t 0 1 0 1 ++ ckU t 1 1 1 8 ++ ckZ t 3 1 ++ ck 0xB 2 (u t 2 1 < n) ++
    (List.range n).flatMap fun k =>
      let o := 4 + 28 * k
      let kind := u t (o + 1) 1
      let rate := u t (o + 4) 2
      ck 9 o (u t o 1 = k) ++ ckU t (o + 1) 1 0 6 ++
        (if kind = 0 ∨ kind = 4 then ckU t (o + 2) 2 0 0 ++ ckU t (o + 4) 2 0 0
          else
            (if lfp then ckU t (o + 2) 2 2000 3650 else ckU t (o + 2) 2 1750 2500) ++
              ck 9 (o + 4) ((1 ≤ rate && rate ≤ 1000) || rate = 0xFFFF)) ++
        ckI t (o + 6) 2 (-100) 0 ++ ckZ t (o + 8) 2 ++ [10, 16, 22].flatMap fun e => exitErrs t n (o + e)

/-- R133: a band table; `has` says which instances of a type the image holds. -/
def bandErrs (t : List Byte) (inst : Nat) (has : Nat → Nat → Bool) : List TErr :=
  ckU t 0 2 5 100 ++ ((List.range 5).flatMap fun j => ckI t (2 + 2 * j) 2 (-400) 1500) ++
    ckOrd ((List.range 5).map fun j => 2 + 2 * j) (fun a b => i t a 2 < i t b 2) ++
    (List.range 6).flatMap fun j =>
      let o := 12 + 4 * j
      if inst < 2 then ckI t (o + 2) 2 (-100) 100
      else if inst = 2 then ckU t o 2 1 720 ++ ckZ t (o + 2) 2
      else ckU t o 1 0 5 ++ ckZ t (o + 1) 3 ++ ck 0xB o (has 11 (u t o 1))

/-- R134: a breaker curve. -/
def breakerErrs (t : List Byte) : List TErr :=
  let n := u t 0 1
  let p (j : Nat) : Nat := 4 + 8 * j
  ckU t 0 1 2 8 ++ ckZ t 1 1 ++ ckU t 2 2 1 3600 ++
    ((List.range 8).flatMap fun j =>
      if j < n then ckU t (p j) 4 1000 60000 ++ ckU t (p j + 4) 4 1 3600000 else ckZ t (p j) 8) ++
    ckOrd ((List.range (min n 8)).map p) (fun a b => u t a 4 < u t b 4) ++
    ckOrd ((List.range (min n 8)).map fun j => p j + 4) (fun a b => u t b 4 < u t a 4)

/-- R135: a fold-back curve. -/
def foldErrs (t : List Byte) : List TErr :=
  let n := u t 0 1
  let p (j : Nat) : Nat := 4 + 4 * j
  ckU t 0 1 2 8 ++ ckZ t 1 3 ++
    ((List.range 8).flatMap fun j =>
      if j < n then ckU t (p j) 2 0 10000 ++ ckU t (p j + 2) 2 500 10000 else ckZ t (p j) 4) ++
    ckOrd ((List.range (min n 8)).map p) (fun a b => u t a 2 < u t b 2) ++
    ckOrd ((List.range (min n 8)).map fun j => p j + 2) (fun a b => u t a 2 ≤ u t b 2)

/-- R136: a shedding curve. -/
def shedErrs (t : List Byte) : List TErr :=
  let n := u t 0 1
  let p (j : Nat) : Nat := 4 + 8 * j
  let used := List.range (min n 7)
  ckU t 0 1 1 7 ++ ckZ t 1 1 ++ ckU t 2 2 10 10000 ++
    ((List.range 7).flatMap fun j => if j < n then ck 0xA (p j + 4) (u t (p j + 4) 4 < u t (p j) 4) else ckZ t (p j) 8) ++
    ckOrd (used.map p) (fun a b => u t a 4 < u t b 4) ++ ckOrd (used.map fun j => p j + 4) (fun a b => u t a 4 < u t b 4)

/-- R137: a sequence; a SEQ_OUT_STEP that names no step of it, other than 0xFF, is code 0x09.
(DESIGN CHOICE, log entry 163.) -/
def seqErrs (t : List Byte) (inst : Nat) (has : Nat → Nat → Bool) : List TErr :=
  let n := u t 0 1
  let out := u t 2 1
  ckU t 0 1 1 32 ++ ckU t 1 1 0 2 ++ ck 9 2 (out < n || out = 0xFF) ++ ckZ t 3 1 ++
    ck 0xB 1 (inst ≠ 1 || u t 1 1 = 1) ++
    (List.range n).flatMap fun j =>
      let o := 4 + 16 * j
      ck 9 o (u t o 2 % 2 = 0) ++ ckZ t (o + 5) 1 ++ ckU t (o + 6) 1 0 1 ++ ckU t (o + 7) 1 0 3 ++
        ckU t (o + 8) 2 1 65535 ++ ckU t (o + 10) 2 1 65535 ++ ckU t (o + 14) 1 0 3 ++ ckZ t (o + 15) 1 ++
        ck 0xB (o + 14) (u t (o + 14) 1 ≠ 2 || has 6 1)

/-- R138, R139: the action bytes of a level or step whose fields start at `o`, after the one at `prev` if any. A PD limit or
a shedding that comes before the action in front of it has run out is the failing byte (DESIGN CHOICE, log entry 164). -/
def ladderErrs (t : List Byte) (o : Nat) (prev : Option Nat) : List TErr :=
  let chg (x : Nat) : Nat := u t (x + 4) 1
  let shed (x : Nat) : Nat := u t (x + 5) 1
  let pd (x : Nat) : Nat := u t (x + 6) 2
  ckU t (o + 4) 1 0 100 ++ ckU t (o + 5) 1 0 8 ++ ckU t (o + 6) 2 0 240 ++
    ck 0xA (o + 6) (pd o = 240 || chg o = 0) ++ ck 0xA (o + 5) (shed o = 8 || pd o = 0) ++
    match prev with
    | some q => ck 0xA (o + 4) (chg o ≤ chg q) ++ ck 0xA (o + 5) (shed o ≤ shed q) ++ ck 0xA (o + 6) (pd o ≤ pd q)
    | none => []

/-- R138: the capping table; level 0's EXIT_W is held against no ENTER_W (DESIGN CHOICE, log entry 163). -/
def capErrs (t : List Byte) : List TErr :=
  ckZ t 0 4 ++ ck 0xA 8 (u t 8 1 = 100) ++ ck 0xA 9 (u t 9 1 = 8) ++ ck 0xA 10 (u t 10 2 = 240) ++
    (List.range 16).flatMap fun k =>
      let o := 4 + 8 * k
      ladderErrs t o (if k = 0 then none else some (o - 8)) ++ ck 0xA (o + 2) (k = 0 || i t (o + 2) 2 < i t o 2) ++
        ck 0xA o (k ≤ 1 || i t (o - 8) 2 < i t o 2)

/-- R139: the throttle table. -/
def thrErrs (t : List Byte) : List TErr :=
  ckZ t 0 4 ++
    (List.range 8).flatMap fun k =>
      let o := 4 + 12 * k
      let dom (x : Nat) : Nat := u t (x + 8) 1
      ladderErrs t o (if k = 0 then none else some (o - 12)) ++ ckI t o 2 (-32768) 1450 ++
        ck 0xA (o + 2) (i t (o + 2) 2 < i t o 2) ++ ckU t (o + 8) 1 50 100 ++ ckZ t (o + 9) 3 ++
        ck 0xA (o + 8) (dom o = 100 || u t (o + 5) 1 < 8) ++
        ck 0xA o (k = 0 || i t (o - 12) 2 < i t o 2) ++ ck 0xA (o + 8) (k = 0 || dom o ≤ dom (o - 12))

/-- R140: an OCV table. -/
def ocvErrs (t : List Byte) : List TErr :=
  ckU t 0 1 0 1 ++ ckZ t 1 3 ++ ckOrd ((List.range 4).map fun j => 4 + 2 * j) (fun a b => i t a 2 < i t b 2) ++
    ((List.range 32).flatMap fun j => ckU t (12 + 2 * j) 2 0 10000) ++ ckU t 12 2 0 0 ++ ckU t 74 2 10000 10000 ++
    ckOrd ((List.range 32).map fun j => 12 + 2 * j) (fun a b => u t a 2 < u t b 2) ++
    (List.range 4).flatMap fun r =>
      ckOrd ((List.range 32).map fun j => 76 + 64 * r + 2 * j) (fun a b => u t a 2 ≤ u t b 2)

/-- R141: the source priority table; a source named twice, or a PD sink above another source, is code 0x0A (DESIGN CHOICE,
log entry 163). -/
def prioErrs (t : List Byte) : List TErr :=
  let n := u t 0 1
  let offs := (List.range (min n 8)).map fun j => 4 + 2 * j
  ckU t 0 1 1 5 ++ ckZ t 1 3 ++
    ((List.range 8).flatMap fun j =>
      let o := 4 + 2 * j
      if j < n then ckU t o 1 1 5 ++ ck 8 (o + 1) (u t (o + 1) 1 ≤ 1) else ckZ t o 2) ++
    ckDistinct t 1 offs ++ ckOrd offs (fun a b => u t a 1 < 4 || 4 ≤ u t b 1)

/-- R142: a dead-time table. -/
def deadErrs (t : List Byte) : List TErr :=
  ckU t 0 1 4 200 ++ ck 9 0 (u t 0 1 % 2 = 0) ++ ckU t 1 1 4 200 ++ ck 9 1 (u t 1 1 % 2 = 0) ++ ckU t 2 2 4 200 ++
    ck 9 2 (u t 2 2 % 2 = 0) ++ ckU t 4 2 0 500 ++ ckU t 6 2 0 500

/-- R412: a telemetry channel that may be named (DEDUCED, log entry 76). -/
def telUsable (c : Nat) : Bool := c < 144 || (146 ≤ c && c < 152) || (160 ≤ c && c ≤ 227)

/-- R143: a capture channel set (DEDUCED, log entries 69, 76); a channel named twice is code 0x0A.
(DEDUCED, log entries 69, 76; DESIGN CHOICE, log entry 163.) -/
def capSetErrs (t : List Byte) : List TErr :=
  let n := u t 0 1
  ckU t 0 1 1 64 ++ ckU t 1 1 0 100 ++ ckZ t 2 2 ++ ckU t 4 4 100 100000 ++
    ((List.range 64).flatMap fun j =>
      let o := 8 + 2 * j
      if j < n then ck 9 o (telUsable (u t o 2)) else ck 8 o (u t o 2 = 0xFFFF)) ++
    ckDistinct t 2 ((List.range (min n 64)).map fun j => 8 + 2 * j)

/-- Checks 0x08 to 0x0B of one table. -/
def tableErrs (type inst : Nat) (has : Nat → Nat → Bool) (t : List Byte) : List TErr :=
  match type with
  | 1 => profErrs t
  | 2 => bandErrs t inst has
  | 3 => breakerErrs t
  | 4 => foldErrs t
  | 5 => shedErrs t
  | 6 => seqErrs t inst has
  | 7 => capErrs t
  | 8 => thrErrs t
  | 9 => ocvErrs t
  | 10 => prioErrs t
  | 11 => deadErrs t
  | _ => capSetErrs t

/-- A failure of an image: code, directory index, image offset. -/
abbrev PErr := Nat × Nat × Nat

/-- One directory entry (R129). -/
structure DirEnt where
  idx : Nat
  type : Nat
  inst : Nat
  len : Nat
  off : Nat
  deriving DecidableEq, Repr

/-- The directory of an image (R129). -/
def dirOf (img : List Byte) : List DirEnt :=
  (List.range (u img 5 1)).map fun j =>
    let e := 16 + 8 * j
    ⟨j, u img e 1, u img (e + 1) 1, u img (e + 2) 2, u img (e + 4) 4⟩

/-- R144: checks 0x01 to 0x03. -/
def headErr (img : List Byte) (want : Nat) : Option PErr :=
  let n := img.length
  if n ≠ want ∨ u img 8 4 ≠ n ∨ n < 24 ∨ 32768 < n then some (1, 0xFF, 8)
  else if crc32 (img.take (n - 4)) ≠ u img (n - 4) 4 then some (2, 0xFF, n - 4)
  else if sliceBytes img 0 4 ≠ [0x50, 0x4C, 0x54, 0x31] then some (3, 0xFF, 0)
  else if u img 4 1 ≠ 1 then some (3, 0xFF, 4)
  else if u img 5 1 < 1 ∨ 96 < u img 5 1 then some (3, 0xFF, 5)
  else if u img 6 2 ≠ 0 then some (3, 0xFF, 6)
  else none

/-- R144: check 0x04. -/
def dirErr (img : List Byte) : Option PErr :=
  let ents := dirOf img
  let top := 16 + 8 * ents.length
  let last := img.length - 4
  let key (e : DirEnt) : Nat := 256 * e.type + e.inst
  if last < top then some (4, 0xFF, 5)
  else
    (ents.find? fun e =>
      e.off < top || last < e.off + e.len || e.off % 4 ≠ 0 ||
        ents.any fun f => f.idx < e.idx && (key e < key f || (f.off < e.off + e.len && e.off < f.off + f.len))).map
      fun e => (4, e.idx, 16 + 8 * e.idx)

/-- R144: checks 0x05 to 0x07. -/
def entErr (img : List Byte) : Option PErr :=
  let ents := dirOf img
  let at_ (code : Nat) (d : Nat) (e : DirEnt) : PErr := (code, e.idx, 16 + 8 * e.idx + d)
  ((ents.find? fun e => instances e.type ≤ e.inst).map (at_ 5 0)).or
    (((ents.find? fun e => ents.any fun f => f.idx < e.idx && f.type = e.type && f.inst = e.inst).map (at_ 6 0)).or
      ((ents.find? fun e => e.len ≠ tableLen e.type (sliceBytes img e.off e.len)).map (at_ 7 2)))

/-- The order in which failures are judged: code, then directory index (none first), then offset (R144). -/
def perrLt (a b : PErr) : Bool :=
  let t (x : Nat) : Nat := if x = 0xFF then 0 else x + 1
  if a.1 ≠ b.1 then a.1 < b.1 else if t a.2.1 ≠ t b.2.1 then t a.2.1 < t b.2.1 else a.2.2 < b.2.2

/-- The first of the failures. -/
def firstErr (es : List PErr) : Option PErr :=
  es.foldl (fun m e =>
    match m with
    | some b => if perrLt e b then some e else some b
    | none => some e) none

/-- R129, R144: checks 0x08 to 0x0B: header, pad bytes, and every table. -/
def bodyErr (img : List Byte) : Option PErr :=
  let ents := dirOf img
  let has (t n : Nat) : Bool := ents.any fun e => e.type = t && e.inst = n
  let top := 16 + 8 * ents.length
  let pad := ((List.range (img.length - 4 - top)).map fun j => top + j).find? fun a =>
    u img a 1 ≠ 0 && !(ents.any fun e => e.off ≤ a && a < e.off + e.len)
  firstErr ((pad.toList.map fun a => (8, 0xFF, a)) ++
    ents.flatMap fun e => (tableErrs e.type e.inst has (sliceBytes img e.off e.len)).map fun x => (x.1, e.idx, e.off + x.2))

/-- The values of a palette-naming field: the live one, and for class B the staged one (R144).
(DEDUCED, log entry 69.) -/
def State.namedBy (s : State) (f : Field) : List Nat :=
  (List.range (recChans f.record)).flatMap fun ch =>
    let c := s.copy f.record ch
    f.getRaw c.live :: (if f.cls = .B then [f.getRaw c.easel] else [])

/-- R144, check 0x0C: the instances the configuration names. -/
def State.named (s : State) : List (Nat × Nat) :=
  let on (t : Nat) (f : Field) : List (Nat × Nat) := ((s.namedBy f).filter fun n => n ≠ 0xFF).map fun n => (t, n)
  ([(2, 0), (2, 1), (2, 2), (2, 3), (7, 0), (8, 0), (10, 0)] ++ on 1 Fld.Chg.PROFILE ++ on 3 Fld.Feed.CURVE ++
    on 4 Fld.Dom.FOLD_INST ++ on 5 Fld.Dom.SHED_INST ++ on 6 Fld.Seq.PWRUP_INST ++ on 6 Fld.Seq.WD_SEQ ++
    on 9 Fld.Gauge.OCV_INST ++ on 12 Fld.Skb.CAP_SET).eraseDups

/-- R144: check 0x0C (DEDUCED, log entry 69). -/
def State.namedErr (s : State) (img : List Byte) : Option PErr :=
  if s.named.any fun x => (palFind img x.1 x.2).isNone then some (0x0C, 0xFF, 0)
  else
    ((dirOf img).find? fun e => e.type = 6 && (s.namedBy Fld.Seq.PWRUP_INST).contains e.inst && u img (e.off + 1) 1 ≠ 0).map
      fun e => (0x0C, e.idx, e.off + 1)

/-- R144: the first failing check of an image of which `want` bytes were announced. -/
def State.palCheck (s : State) (img : List Byte) (want : Nat) : Option PErr :=
  (headErr img want).or <| (dirErr img).or <| (entErr img).or <| (bodyErr img).or <| s.namedErr img

/-- PAL_ID of an image (R129). -/
def palId (img : List Byte) : Nat := u img 12 4

end Sys2Proof.Machine
end

