-- ==== Sys2Proof/Machine/Palette.lean ====
section
/-! DEFINITION. Loading, switching and adopting palette banks (R146–R149). -/

namespace Sys2Proof.Machine

/-- The bank that a download or a switch concerns (R146, R147). -/
def Pal.stagedBank (p : Pal) : Bank := p.bank[p.staged]

/-- The bank selector of a bank number. -/
def selOf (k : Fin 2) : BankSel := if k = 0 then .bank0 else .bank1

/-- A bank with a new state and bytes. -/
def Pal.setBank (k : Fin 2) (b : Bank) (p : Pal) : Pal := { p with bank := upd p.bank k fun _ => b }

/-- PAL_BEGIN (R146, R147) (DEDUCED, log entry 66). -/
def execPalBegin (o : Origin) (p : List Byte) (s : State) : Host.Outcome State Fault Refusal :=
  .next (s.run o 0x0601 2
    (paramState (p.length = 4 ∧ 24 ≤ u p 0 4 ∧ u p 0 4 ≤ 32768) (s.pal.pending = 0 && !s.pal.switching)) fun s =>
    (.done st.ok [], s.onPal fun q =>
      { q.setBank q.staged { st := .loading, bytes := [] } with opened := some (u p 0 4) }))

/-- PAL_DATA (R146). -/
def execPalData (o : Origin) (p : List Byte) (s : State) : Host.Outcome State Fault Refusal :=
  let n := u p 4 2
  let chk :=
    if p.length < 6 ∨ n < 1 ∨ 4080 < n ∨ p.length ≠ 6 + n then st.badParam
    else
      match s.pal.opened with
      | none => st.state
      | some total =>
        let got := s.pal.stagedBank.bytes.length
        param (u p 0 4 = got ∧ got + n ≤ total)
  .next (s.run o 0x0602 2 chk fun s =>
    (.done st.ok [], s.onPal fun q => q.setBank q.staged { q.stagedBank with bytes := q.stagedBank.bytes ++ p.drop 6 }))

/-- PAL_END (R144, R146): a rejected image leaves the staged bank invalid; a valid one replies once stored. -/
def execPalEnd (o : Origin) (p : List Byte) (s : State) : Host.Outcome State Fault Refusal :=
  .next (s.run o 0x0603 2 (paramState p.isEmpty (s.pal.opened.isSome && !s.sys.nandBar)) fun s =>
    let img := s.pal.stagedBank.bytes
    let put (b : BankState) (e : PErr) (s : State) : State :=
      s.onPal fun q =>
        { q.setBank q.staged { q.stagedBank with st := b } with
          opened := none, error := e.1, errTable := e.2.1, errOffset := e.2.2 }
    match s.palCheck img (s.pal.opened.getD 0) with
    | some e => (.done st.badParam [], put .invalid e s)
    | none =>
      let s := put .valid (0, 0xFF, 0) s
      if s.skb.failed then (.done st.timeout [], s)
      else (.later, (s.enqueue (.store (2 + s.pal.staged.val) img) (some ⟨o, 0x0603, []⟩)).pump))

/-- R147: the consumers and channels of R148 that await a boundary at a switch; a stopped domain and an unpowered section
have none and adopt at once. -/
def State.palPend (s : State) (p : Pal) : Pal :=
  let dom := maskOf ((List.range 16).filter fun k => (s.domCh k).running)
  let sec := maskOf ((List.range 2).filter fun k => (s.rectCh k).powered)
  { p with
    pending := bitsOf [true, true, true, decide (dom ≠ 0), true, true, true, true, true, decide (sec ≠ 0), true, true],
    pendStr := 3, pendBand := 3, pendPort := 2 ^ 24 - 1, pendDom := dom, pendSec := sec }

/-- PAL_SWITCH (R145, R147): the banks change places; the reply waits until every consumer has adopted. -/
def execPalSwitch (o : Origin) (p : List Byte) (s : State) : Host.Outcome State Fault Refusal :=
  let b := s.pal.stagedBank
  .next (s.run o 0x0604 2
    (paramState (p.length = 1 ∧ u p 0 1 ≤ 1)
      (b.st = .valid && s.pal.pending = 0 && !s.pal.switching && (s.namedErr b.bytes).isNone && s.sys.mode = .running)) fun s =>
    let plant : Bool := u p 0 1 = 1
    let s := s.onPal fun q =>
      s.palPend
        { q with
          previous := q.active, active := selOf q.staged, mark := q.staged, staged := otherArea q.staged, switching := true,
          plant := if plant then some 0 else none }
    let s := if plant then s.onLink fun l => { l with plantAt := some s.now } else s
    (.later, s.await o 0x0604 0 0 []))

/-- R147: every consumer has adopted the bank: the switch is complete, its mark is written and PAL_SWITCH replies.
(DEDUCED, log entry 77.) -/
def State.palDone (s : State) : State :=
  if s.pal.switching ∧ s.pal.pending = 0 then
    let s := (s.onPal fun q => { q with switching := false, plant := none }).vWrite 3 (toLE 4 s.pal.mark.val)
    s.wake (fun w => w.op = 0x0604) fun _ => (st.ok, [])
  else s




/-- PAL_SWITCH_TIMEOUT (R147): a consumer has not adopted the bank within 1 s; the switch stays pending.
(DEDUCED, log entry 77.) -/
def execPalSwitchTimeout (s : State) : Host.Outcome State Fault Refusal :=
  .next (
    match s.hif.waits.find? fun w => w.op = 0x0604 with
    | some w => (s.advanceTo (w.since + sec 1)).wake (fun w => w.op = 0x0604) fun _ => (st.timeout, [])
    | none => s)

/-- PAL_STATUS (R146). -/
def execPalStatus (o : Origin) (p : List Byte) (s : State) : Host.Outcome State Fault Refusal :=
  .next (s.report o 0x0605 (param p.isEmpty) fun s =>
    let q := s.pal
    let b := q.stagedBank
    let act := match q.active with
      | .bank0 => 0
      | .bank1 => 1
      | .builtIn => 0xFF
    [byte act, byte b.st.code] ++ toLE 4 (palId (s.bankBytes q.active)) ++
      toLE 4 (if b.st = .valid then palId b.bytes else 0) ++ [byte q.error, byte q.errTable] ++ toLE 4 q.errOffset ++
      toLE 4 q.pending)

/-- PAL_READ (R146). -/
def execPalRead (o : Origin) (p : List Byte) (s : State) : Host.Outcome State Fault Refusal :=
  let bs := if u p 0 1 = 0 then s.bankBytes s.pal.active else s.pal.stagedBank.bytes
  let off := u p 1 4
  let len := u p 5 2
  .next (s.report o 0x0606 (param (p.length = 7 ∧ u p 0 1 ≤ 1 ∧ 1 ≤ len ∧ len ≤ 4085 ∧ off + len ≤ bs.length)) fun _ =>
    sliceBytes bs off len)

/-- R149: the verdict on a bank of the store; an empty one fails check 0x01. -/
def State.bankVerdict (s : State) (k : Fin 2) : Nat :=
  match s.pal.store[k] with
  | none => 1
  | some img => ((s.palCheck img img.length).map (·.1)).getD 0

/-- R149: the bank as SRAM holds it after the load. -/
def State.bankLoad (s : State) (k : Fin 2) : Bank :=
  match s.pal.store[k] with
  | none => { st := .empty, bytes := [] }
  | some img => if s.bankVerdict k = 0 then { st := .valid, bytes := img } else { st := .invalid, bytes := [] }

/-- R149: the palette at the firmware ready of a full boot, against the configuration as it stands. -/
def State.palLoad (s : State) : State :=
  let m : Fin 2 := fin 2 (((s.held 3).map fun d => u d 0 4).getD 0)
  let idOf (k : Fin 2) : Nat := palId ((s.pal.store[k]).getD [])
  let s := if m ≠ s.pal.mark then
      (s.onPal fun q => { q with mark := m }).raiseWith { image := m.val, value := idOf m } 0x0603 blockWide
    else s
  let e := s.bankVerdict m
  let put (act : BankSel) (staged : Fin 2) (s : State) : State :=
    let b0 := s.bankLoad 0
    let b1 := s.bankLoad 1
    s.onPal fun q =>
      { q with
        bank := #v[b0, b1], active := act, previous := act, staged := staged, opened := none, pending := 0, pendStr := 0,
        pendBand := 0, pendPort := 0, pendDom := 0, pendSec := 0, plant := none, switching := false }
  let other := otherArea m
  if e = 0 then put (selOf m) other s
  else if s.bankVerdict other = 0 then
    let s := (put (selOf other) m s).onPal fun q => { q with mark := other }
    (s.vWrite 3 (toLE 4 other.val)).raiseWith
      { cause := e, image := m.val, value := idOf m } 0x0601 blockWide
  else (put .builtIn other s).raiseWith { image := m.val, value := idOf m } 0x0602 blockWide

/-- R149: the configuration names an instance that not even the built-in palette has. -/
def State.palHopeless (s : State) : Bool :=
  s.bankVerdict 0 ≠ 0 && s.bankVerdict 1 ≠ 0 && (s.namedErr builtInImage).isSome

end Sys2Proof.Machine
end

