-- ==== Sys2Proof/Machine/Pd.lean ====
section
/-! DEFINITION. The PD service ports: connection (R358–R361), protocol layer (R362–R364), escalation and hard reset
(R365–R368, R371). Message type codes of the header are those of USB PD (PRESUMED, log entry 106). -/

namespace Sys2Proof.Machine

/-- A port is attached (R358). -/
def PdCh.attached (c : PdCh) : Bool := c.st = .attachedSnk || c.st = .attachedSrc

/-- R365: an expiry at `n` ms after `t`. -/
def State.pdTime (t n : Nat) (s : State) : State := s.advanceTo (t + ms n)

/-- What the port puts on its CC line. -/
def State.pdOut (k : Nat) (bs : List Byte) (s : State) : State := s.onPdCh k fun c => { c with out := c.out ++ [bs] }

/-- R368, R369: the reference of a source's converter, mV: from where it stood it moves to V_TARGET at VBUS_SLEW. -/
def State.pdRef (s : State) (k : Nat) : Nat :=
  let c := s.pdCh k
  let d := s.fld Fld.Pd.VBUS_SLEW k * (s.now - c.tSlew) / 1000
  if !c.conv then 0 else if c.vFrom ≤ c.vTarget then min c.vTarget (c.vFrom + d) else max c.vTarget (c.vFrom - d)

/-- R368, R369: a source's V_TARGET changes. -/
def State.pdSlew (k v : Nat) (s : State) : State :=
  let r := s.pdRef k
  s.onPdCh k fun c => { c with vFrom := r, tSlew := s.now, vTarget := v }


/-- R47: VCONN_IN is powered: 4.75 V or more (DEDUCED, log entry 108). -/
def State.vconnIn (s : State) : Bool := 4750 ≤ s.tel 119

/-- R360: the pin that does not carry CC shows Ra. -/
def PdCh.raSeen (c : PdCh) : Bool := (if c.flip then c.cc1 else c.cc2) = .ra

/-- R360, R368: VCONN is on where it should be; a hard reset switches a source's off as tPSHardReset ends. -/
def State.vconnSet (k : Nat) (s : State) : State :=
  let en := s.flag Fld.Pd.VCONN_EN k && s.vconnIn
  s.onPdCh k fun c =>
    { c with
      vconn := en && c.attached && c.vconnSrc && c.raSeen && !c.vconnTrip &&
        (c.hr = .none || (c.hr = .psHardReset && c.vconn)) }

/-- An event's bytes (R378) (DEDUCED, log entry 110). -/
def State.pdEvent (s : State) (type state : Nat) (data : List Byte) : List Byte :=
  [byte type, byte state] ++ toLE 2 data.length ++ toLE 8 s.now ++ data

/-- R364: an event joins the queue; one that is never lost overwrites the newest entry of a full queue. -/
def State.pdPut (k : Nat) (ev : List Byte) (keep : Bool) (s : State) : State :=
  (s.onPdCh k fun c =>
    { c with
      queue := if c.queue.length < 16 then c.queue ++ [ev] else if keep then c.queue.dropLast ++ [ev] else c.queue }).irq 14

/-- R364, R378: an event of TYPE `type` with PD_STATE as it stands. -/
def State.pdNote (k type : Nat) (data : List Byte) (s : State) : State :=
  s.pdPut k (s.pdEvent type (s.pdCh k).pdState data) (type = 2 ∨ type = 3 ∨ type = 4 ∨ type = 5)

/-- R364: Korisk moves received messages from the PHY to the queue while it has room. -/
def State.pdDrain (k : Nat) (s : State) : State :=
  if s.sys.mode ≠ .running then s
  else
    let c := s.pdCh k
    let n := min c.phy.length (16 - c.queue.length)
    if n = 0 then s
    else (s.onPdCh k fun c =>
      { c with queue := c.queue ++ c.phy.take n, phy := c.phy.drop n, fullRaised := false }).irq 14

/-- R364: IRQ_FLAGS bit 14 is set while the queue is not empty: anew at the next tick where the host has cleared it.
(DESIGN CHOICE, log entry 165.) -/
def State.pdIrq (s : State) : State :=
  if s.sys.mode ≠ .running ∨ ((s.pdCh 0).queue.isEmpty && (s.pdCh 1).queue.isEmpty) then s else s.irq 14

/-- The reply of an armed or sent command, with its RESULT (R377, R379, R380). -/
def State.pdReply (w : Option Owed) (result : Nat) (s : State) : State :=
  match w with
  | some w => s.finish w.o w.op st.ok [byte result]
  | none => s

/-- The Rp that a sink sees on its CC pin. -/
def PdCh.ccRp (c : PdCh) : Nat :=
  match if c.flip then c.cc2 else c.cc1 with
  | .rp n => n
  | _ => 0

/-- R362: the header with MessageID and the role bits in force (PRESUMED, log entry 106). -/
def PdCh.header (c : PdCh) (sop h : Nat) : Nat :=
  let h := h % 2 ^ 16
  let id := c.txId[fin 3 sop]
  let h := (h / 4096) * 4096 + h % 512 + 512 * id
  setBitTo (setBitTo h 8 c.source) 5 c.dfp

/-- The type of a control message on SOP: 3 Accept, 6 PS_RDY, 13 Soft_Reset; none for any other kind of message.
(PRESUMED, log entry 106.) -/
def ctrlType (h : Nat) : Option Nat := if h / 4096 % 16 = 0 then some (h % 32) else none

/-- R366: the message is a Soft_Reset on SOP, of the device or of the host. -/
def PdTx.softReset (x : PdTx) : Bool := x.soft || (x.sop = 0 && ctrlType x.header = some 13)

/-- R362: the counters of one SOP* start again. -/
def PdCh.clearIds (sop : Nat) (c : PdCh) : PdCh :=
  { c with txId := upd c.txId (fin 3 sop) fun _ => 0, rxId := upd c.rxId (fin 3 sop) fun _ => none }

/-- R362: Soft_Reset on SOP, Hard_Reset and a detach reset every counter. -/
def PdCh.clearAllIds (c : PdCh) : PdCh := ((c.clearIds 0).clearIds 1).clearIds 2

/-- R362: a message goes out and waits for its GoodCRC; a Soft_Reset starts the counters again. -/
def State.pdFire (k : Nat) (x : PdTx) (s : State) : State :=
  let s := if x.softReset ∧ !x.sent then s.onPdCh k PdCh.clearAllIds else s
  let h := (s.pdCh k).header x.sop x.header
  (s.pdOut k ([byte x.sop] ++ toLE 2 h ++ x.data)).onPdCh k fun c =>
    { c with tx := some { x with header := h, sent := true, t := s.now } }

/-- R363: collision avoidance applies: PD 3.x and AMS_START. -/
def PdTx.ams (x : PdTx) : Bool := x.amsStart && x.header / 64 % 4 = 2

/-- R363: a message begins: it is sent, or held for SinkTx. -/
def State.pdBegin (k : Nat) (x : PdTx) (s : State) : State :=
  let c := s.pdCh k
  if x.ams ∧ c.source then
    s.onPdCh k fun c => { c with tx := some { x with sent := false, t := s.now }, ams := some s.now, rp := 2 }
  else if x.ams ∧ !c.sinkTxOk then
    s.onPdCh k fun c => { c with tx := some { x with sent := false, t := s.now }, ams := some s.now }
  else s.pdFire k x

/-- A message of the device itself: at once when the port is idle, else after the one being sent. -/
def State.pdOwn (k : Nat) (x : PdTx) (s : State) : State :=
  if (s.pdCh k).tx.isNone then s.pdFire k x else s.onPdCh k fun c => { c with later := c.later ++ [x] }

/-- R366, R369: Soft_Reset and PS_RDY as the device sends them: Specification Revision 3.x (PRESUMED, log entry 106). -/
def ownMsg (type : Nat) (soft : Bool) (now : Nat) : PdTx :=
  { sop := 0, resp := if soft then 1 else 0, amsStart := false, amsEnd := false, soft := soft, own := !soft,
    header := 128 + type, data := [], tries := 0, sent := false, t := now, owed := none }

/-- R363: Rp returns to SinkTxOk (DEDUCED, log entry 109). -/
def State.amsOver (k : Nat) (s : State) : State :=
  let r := s.advert k
  s.onPdCh k fun c => if c.source ∧ c.ams.isSome then { c with ams := none, rp := r } else { c with ams := none }

/-- R368, R361: everything under way on the port ends: messages, timers, armed and running power phases. -/
def State.pdAbort (k : Nat) (result : Nat) (s : State) : State :=
  let c := s.pdCh k
  let s := s.onPdCh k fun c =>
    { c with
      tx := none, later := [], resp := none, softOut := false, ams := none, bist := none, armed := none, run := none,
      phase := 0, contract := false, epr := false, frs := false, frsUp := false, pContract := 0, iContract := 0 }
  let s := s.pdReply (c.tx.bind (·.owed)) 2
  let s := s.pdReply (c.run.bind (·.owed)) result
  s.pdReply (c.armed.bind (·.owed)) 2

/-- R367: the port becomes Type-C only (PRESUMED, log entry 107). -/
def State.pdTypeC (k : Nat) (s : State) : State :=
  let s := (s.pdAbort k 2).onPdCh k fun c => { c with typeC := true }
  let r := s.advert k
  (s.onPdCh k fun c =>
    if c.attached ∧ c.source then
      { c with vTarget := 5000, rp := r, iLimit := min (rpMa r) (c.pLim / 5) }
    else if c.attached then { c with conv := false, vTarget := 5000, iLimit := rpMa c.rp }
    else c).pdNote k 0x0B []

/-- R368: the HARD_RESET event, with PD_STATE as it stood at the reset. -/
def State.pdResetEvent (k : Nat) (s : State) : State :=
  let c := s.pdCh k
  s.pdPut k (s.pdEvent (if c.hrSent then 5 else 4) c.hrState []) true

/-- R369: the change that runs is a power role or fast role swap. -/
def PdCh.swapping (c : PdCh) : Bool := (c.run.map fun a => decide (a.kind = 2 ∨ a.kind = 3)).getD false

/-- R368, R371: a hard reset begins, sent or received. A swap in progress is abandoned, a fast role swap too whose message
has not come yet. A hard reset that still runs gives its event first. A sink is left with what R357 gives it without a
contract. (DESIGN CHOICE, log entry 165). -/
def State.pdHardReset (k : Nat) (sent : Bool) (result : Nat) (s : State) : State :=
  let s := if (s.pdCh k).hr = .none then s else s.pdResetEvent k
  let c := s.pdCh k
  let swap : Bool := c.swapping || (c.frs && c.source)
  let src : Bool := if swap then c.attachSrc else c.source
  let state := c.pdState
  let s := if sent then s.pdOut k [0xF0] else s
  let s := s.pdAbort k result
  let s := s.onPdCh k fun c =>
    { c.clearAllIds with
      source := src, hr := if src then .psHardReset else .sinkWait, tHr := s.now, hrState := state, hrSent := sent,
      hrSwap := swap, vconn := src && c.vconn, conv := src && (c.conv && c.source), dschg := !src && c.source,
      rp := if src && !c.source then 0 else if swap && !src then c.ccRp else c.rp,
      iLimit := if src then c.iLimit else rpMa (if swap then c.ccRp else c.rp),
      vTarget := if src then c.vTarget else 5000,
      st := if swap then (if src then .attachedSrc else .attachedSnk) else c.st,
      tState := if swap && src ≠ decide (c.st = .attachedSrc) then s.now else c.tState,
      hardResets := if sent then c.hardResets + 1 else c.hardResets }
  let s := s.raise 0x0E08 k
  if swap then (s.pdNote k 9 []).raise 0x0E0B k else s

/-- R367: an escalation to Hard_Reset, or to Type-C only once the counter would pass N_HARD_RESET. -/
def State.pdEscalate (k result : Nat) (s : State) : State :=
  if s.fld Fld.Pd.N_HARD_RESET k ≤ (s.pdCh k).hardResets then
    let w := (s.pdCh k).run.bind (·.owed)
    let s := s.onPdCh k fun c => { c with run := c.run.map fun a => { a with owed := none } }
    ((s.pdReply w result).pdTypeC k).raise 0x0E09 k
  else s.pdHardReset k true result

/-- R366: Soft_Reset is sent and the counters of SOP start again. -/
def State.pdSoft (k : Nat) (s : State) : State := s.pdOwn k (ownMsg 13 true s.now)

/-- R366: no answer to a message with RESP `r`; `soft` where it was the device's own Soft_Reset. -/
def State.pdNoAnswer (k r : Nat) (soft : Bool) (s : State) : State :=
  let esc := s.flag Fld.Pd.ESC_EN k
  let s := s.pdNote k 6 []
  if soft then (if esc then (s.raise 0x0E07 k).pdEscalate k 2 else s.raise 0x0E07 k)
  else
    let s := s.raise 0x0E06 k
    if !esc then s else if r = 1 then s.pdSoft k else s.pdEscalate k 2

/-- R369: what the trigger of an armed change or swap does: an Accept on SOP, sent with GoodCRC or received. -/
def State.pdTrigger (k : Nat) (s : State) : State :=
  let c := s.pdCh k
  match c.armed, c.run with
  | some a, none =>
    let go (phase : Nat) (s : State) : State :=
      s.onPdCh k fun c => { c with armed := none, run := some a, phase := phase, tPhase := s.now }
    if a.kind = 1 then
      if c.source then go 1 s else (go 3 s).onPdCh k fun c => { c with conv := false }
    else if a.kind = 5 then
      ((s.onPdCh k fun c => { c with armed := none, dfp := !c.dfp }).pdNote k 9 []).pdReply a.owed 1
    else if a.kind = 4 then
      if c.vconnSrc then go 3 s
      else
        let s := (s.onPdCh k fun c => { c with armed := none, vconnSrc := true }).vconnSet k
        ((s.pdOwn k (ownMsg 6 false s.now)).pdNote k 9 []).pdReply a.owed 1
    else if c.source ∧ !(a.kind = 3 ∧ c.frs) then go 1 s
    else (go 5 s).onPdCh k fun c => { c with conv := c.conv && c.source }
  | _, _ => s

/-- R369: a running change or swap is complete. -/
def State.pdComplete (k : Nat) (s : State) : State :=
  match (s.pdCh k).run with
  | some a =>
    let s := s.onPdCh k fun c =>
      { c with
        run := none, phase := 0, iContract := if a.kind = 1 then a.i else c.iContract,
        contract := c.contract || a.kind = 1, epr := if a.kind = 1 then a.epr else c.epr,
        vTarget := if a.kind = 1 then a.v else c.vTarget,
        iLimit := if a.kind = 1 then (if c.source then min a.i (c.pLim * 1000 / max 1 a.v) else a.i) else c.iLimit,
        pContract := if a.kind = 1 then a.p else c.pContract,
        conv := if a.kind = 1 then true else c.conv }
    (s.pdNote k (if a.kind = 1 then 0x0A else 9) []).pdReply a.owed 1
  | none => s

/-- R369, R370: VBUS of the new source is at vSafe5V: PS_RDY is sent, and the swap is complete. -/
def State.pdSwapUp (k : Nat) (s : State) : State :=
  ((s.pdOwn k (ownMsg 6 false s.now)).onPdCh k fun c => { c with frs := false, frsUp := false }).pdComplete k

/-- R369, R370: PS_RDY from the partner. A port that sources since a fast role swap signal may have VBUS at vSafe5V already.
-/
def State.pdPsRdy (k : Nat) (s : State) : State :=
  let c := s.pdCh k
  match c.run with
  | some a =>
    if a.kind = 1 ∧ c.phase = 3 then s.pdComplete k
    else if a.kind = 4 ∧ c.phase = 3 then
      ((s.onPdCh k fun c => { c with vconnSrc := false, vconn := false }).pdComplete k)
    else if c.phase = 3 then
      (s.onPdCh k fun c =>
        { c with source := false, st := .attachedSnk, tState := s.now, vTarget := 5000, conv := false,
                 rp := c.ccRp, iLimit := rpMa c.ccRp, sinkTxOk := c.ccRp = 3 }).pdComplete k
    else if c.phase = 5 then
      let r := s.advert k
      let s := (s.pdSlew k 5000).onPdCh k fun c =>
        { c with phase := 6, tPhase := s.now, rp := r, conv := true, dschg := false, source := true,
                 iLimit := min (rpMa r) (c.pLim / 5), st := .attachedSrc, tState := s.now }
      if c.frsUp then s.pdSwapUp k else s
    else s
  | none => s

/-- R362, R363: the message being sent is resolved with a RESULT: 1 acknowledged, 2 failed, 3 discarded, 4 given up. -/
def State.pdDone (k result : Nat) (s : State) : State :=
  match (s.pdCh k).tx with
  | none => s
  | some x =>
    let s := s.onPdCh k fun c =>
      { c with tx := none, txId := if x.sent then upd c.txId (fin 3 x.sop) fun n => (n + 1) % 8 else c.txId }
    let s := if x.amsEnd ∧ result ≤ 2 then s.amsOver k else s
    let s := if x.own ∨ x.soft then s else s.pdReply x.owed result
    if result = 1 then
      let s := if x.resp ≠ 0 then s.onPdCh k fun c => { c with resp := some (x.resp, s.now) } else s
      let s := if x.resp ≠ 0 ∨ x.softReset then s.onPdCh k fun c => { c with softOut := x.softReset } else s
      if x.sop = 0 ∧ ctrlType x.header = some 3 then s.pdTrigger k else s
    else if result = 2 ∧ x.resp ≠ 0 then s.pdNoAnswer k x.resp x.softReset
    else s


/-- A port enters a Type-C state; leaving the running states settles its record (R123). -/
def State.pdTo (k : Nat) (st : TcState) (s : State) : State :=
  let r := s.advert k
  (s.onPdCh k fun c =>
    { c with
      st := st, tState := s.now,
      rp := if st = .unattachedSrc ∨ st = .attachWaitSrc ∨ st = .trySrc ∨ st = .tryWaitSrc ∨ st = .attachedSrc then r
        else 0 }).settleStop .pd0 k

/-- R361: what a detach does but for the state entered. -/
def State.pdDrop (k : Nat) (s : State) : State :=
  let c := s.pdCh k
  let s := if c.hr ≠ .none then s.pdResetEvent k else s
  let state := (s.pdCh k).pdState
  let busy := c.run.isSome
  let s := s.pdAbort k 2
  let s := s.onPdCh k fun c =>
    { c.clearAllIds with
      conv := false, vconn := false, dschg := true, tDschg := s.now, source := false, dfp := false,
        vconnSrc := false, flip := false,
      attachSrc := false, vTarget := 0, iLimit := 0, hardResets := 0, hr := .none, hrSwap := false, sinkTxOk := false,
      vconnTrip := false, belowRaised := false }
  let s := s.pdPut k (s.pdEvent 3 state []) true
  if busy then s.raise 0x0E0C k else s

/-- R365: ErrorRecovery: an attached port is detached by it (DEDUCED, log entry 109). -/
def State.pdErrRec (k : Nat) (s : State) : State :=
  let s := if (s.pdCh k).attached then s.pdDrop k else s
  s.pdTo k .errorRecovery

/-- The Rp seen on one pin of a sink, none unless exactly one pin shows Rp. -/
def PdCh.rpSeen (c : PdCh) : Option (Nat × Bool) :=
  match c.cc1, c.cc2 with
  | .rp _, .rp _ => none
  | .rp l, _ => some (l, false)
  | _, .rp l => some (l, true)
  | _, _ => none

/-- Rd on one pin of a source, none unless exactly one pin shows Rd (both are an unsupported accessory). -/
def PdCh.rdSeen (c : PdCh) : Option Bool :=
  match c.cc1, c.cc2 with
  | .rd, .rd => none
  | .rd, _ => some false
  | _, .rd => some true
  | _, _ => none

/-- R357–R360, R378: a port attaches as a source or a sink. -/
def State.pdAttach (k : Nat) (src : Bool) (s : State) : State :=
  let pdEn := s.flag Fld.Pd.PD_EN k
  let flip := if src then ((s.pdCh k).rdSeen).getD false else (((s.pdCh k).rpSeen).map (·.2)).getD false
  let seen := if src then 0 else (((s.pdCh k).rpSeen).map (·.1)).getD 0
  let s := s.onPdCh k fun c => { c with typeC := c.typeC || !pdEn }
  let s := s.pdTo k (if src then .attachedSrc else .attachedSnk)
  let s := s.onPdCh k fun c =>
    { c with
      source := src, dfp := src, vconnSrc := src, attachSrc := src, flip := flip, rp := if src then c.rp else seen,
      sinkTxOk := seen = 3, conv := src, dschg := false, vTarget := 5000, vFrom := 0, tSlew := s.now,
      iLimit := if src then min (rpMa c.rp) (c.pLim / 5) else rpMa seen, hardResets := 0, hr := .none }
  let s := (s.vconnSet k).settleCh 0x0E k
  s.pdNote k 2 [byte (b2n src), byte (b2n flip), byte seen]

/-- R372: a port whose limit is below 2.5 W may not be a source, of a fast role swap either. -/
def PdCh.srcSide (c : PdCh) : Bool :=
  c.st = .unattachedSrc || c.st = .attachWaitSrc || c.st = .trySrc || c.st = .tryWaitSrc || c.st = .tryWaitSnk ||
    c.st = .attachedSrc || (c.attached && c.source)

/-- R358: what the CC pins show leads an unattached port on. -/
def State.pdCheck (k : Nat) (s : State) : State :=
  let c := s.pdCh k
  if !s.sys.fwReady then s
  else if c.st = .unattachedSnk ∧ c.rpSeen.isSome then s.pdTo k .attachWaitSnk
  else if c.st = .unattachedSrc ∧ c.rdSeen.isSome then s.pdTo k .attachWaitSrc
  else s

/-- R361: a detach. An Rp that still stands on the CC pin leads on at once (R358). -/
def State.pdDetach (k : Nat) (s : State) : State :=
  let s := s.pdDrop k
  (s.pdTo k (s.unattachedOf k)).pdCheck k

/-- R376: the port's next step once it is idle: the device's own messages first. -/
def State.pdOwnNext (k : Nat) (s : State) : State :=
  match (s.pdCh k).tx, (s.pdCh k).later with
  | none, x :: xs => (s.onPdCh k fun c => { c with later := xs }).pdFire k x
  | _, _ => s

/-- R125: the PD layer of a port is idle between messages. -/
def PdCh.idle (c : PdCh) : Bool := c.tx.isNone && c.later.isEmpty && c.bist.isNone

end Sys2Proof.Machine
end

