-- ==== Sys2Proof/Machine/PdCmd.lean ====
section
/-! DEFINITION. The PD service ports' events (R358–R373) and commands (R376–R381). -/

namespace Sys2Proof.Machine

/-- R376: what PD_CONTROL finds refused on a port. -/
def State.pdRefuse (s : State) (action k : Nat) : Nat :=
  let c := s.pdCh k
  if !s.flag Fld.Pd.PRESENT k then st.state
  else if 6 ≤ action ∧ !c.attached then st.state
  else if action = 7 ∧ !c.vconnSrc then st.state
  else if action = 8 ∧ !(s.flag Fld.Pd.FRS_TX_EN k && c.source) then st.state
  else if s.ctrlDown ∧ 3 ≤ action ∧ action ≤ 5 then st.state
  else st.ok

/-- R376: PD_CONTROL at protocol idle. -/
def State.pdControl (k action : Nat) (s : State) : State :=
  match action with
  | 1 => s.onPdCh k fun c => { c with typeC := false, hardResets := 0 }
  | 2 => s.pdTypeC k
  | 3 => ((if (s.pdCh k).attached then s.pdDrop k else s).pdTo k .disabled)
  | 4 => if (s.pdCh k).st = .disabled then (s.pdTo k (s.unattachedOf k)).pdCheck k else s
  | 5 => s.pdErrRec k
  | 6 => s.pdHardReset k true 2
  | 7 => (s.pdOut k [0xF1]).onPdCh k fun c => (c.clearIds 1).clearIds 2
  | 8 => s.pdOut k [0xF2]
  | 9 => (s.pdOut k [0xF3]).onPdCh k fun c => { c with bist := some s.now }
  | _ => s

/-- R377: the message of a PD_TX from its parameters after SEL. -/
def txOf (own : List Byte) (now : Nat) (w : Owed) : PdTx :=
  let f := u own 1 1
  { sop := u own 0 1, resp := f % 4, amsStart := f.testBit 2, amsEnd := f.testBit 3, soft := false, own := false,
    header := u own 2 2, data := own.drop 6, tries := 0, sent := false, t := now, owed := some w }

/-- R362, R377: a PD_TX is refused. -/
def State.txRefuse (s : State) (sop k : Nat) : Bool :=
  let c := s.pdCh k
  !c.attached || c.typeC || (sop ≠ 0 && !c.vconnSrc)

/-- R122, R376, R377: the accepted PD_CONTROL and PD_TX commands of a port run one after another at protocol idle, after
the record's values have landed (R125). -/
def State.pdServe : Nat → Nat → State → State
  | 0, _, s => s
  | n + 1, k, s =>
    if !(s.pdCh k).idle then s
    else
      match s.hif.waits.find? fun w => (w.op = 0x0E01 || w.op = 0x0E02) && w.left.testBit k with
      | none => s
      | some w =>
        let s := s.onHif fun h => { h with waits := h.waits.erase w }
        if w.op = 0x0E01 then
          let a := u w.data 0 1
          let r := s.pdRefuse a k
          if r ≠ st.ok then (s.finish w.o w.op r []).pdServe n k
          else ((s.pdControl k a).finish w.o w.op st.ok []).pdServe n k
        else if s.txRefuse (u w.data 0 1) k then (s.finish w.o w.op st.state []).pdServe n k
        else s.pdBegin k (txOf w.data s.now ⟨w.o, w.op, []⟩)

/-- R125, R358: a port reaches protocol idle; an unattached one goes on as its CC pins lead it. -/
def State.pdIdle (k : Nat) (s : State) : State :=
  let s := s.pdOwnNext k
  let s := if (s.pdCh k).idle then (s.boundary .pd0 k .main).pdServe (s.hif.waits.length + 1) k else s
  s.pdCheck k

/-- An event of a port that is in service: present, and its firmware has been ready (R52, R359). -/
def State.pdEv (k : Nat) (act : State → State) (s : State) : State :=
  if !s.sys.fwReady ∨ !s.flag Fld.Pd.PRESENT k then s
  else (act (s.onPdCh k fun c => { c with out := [] })).pdIdle k

/-- R357, R358, R360, R363, R373: what a CC pin shows changes (DEDUCED, log entry 109). -/
def execCcStateChange (k : Fin 2) (cc1 cc2 : CcPin) (s : State) : Host.Outcome State Fault Refusal :=
  .next (
    let s := s.onPdCh k.val fun c => { c with cc1 := cc1, cc2 := cc2, tCc := s.now, ccOpen := false }
    s.pdEv k.val fun s =>
      let c := s.pdCh k.val
      if c.st = .attachedSnk ∧ !c.source then
        let l := if c.flip then cc2 else cc1
        match l with
        | .rp n =>
          let s := s.onPdCh k.val fun c =>
            { c with rp := n, sinkTxOk := n = 3, iLimit := if c.contract then c.iLimit else rpMa n }
          match c.tx with
          | some x => if !x.sent ∧ n = 3 then s.pdFire k.val x else s
          | none => s
        | _ => s
      else if c.attached then s.vconnSet k.val
      else s.pdCheck k.val)

/-- R358, R365: tCCDebounce ends: the port attaches, or tries the other role first where ROLE says so. -/
def execCcDebounceDone (k : Fin 2) (s : State) : Host.Outcome State Fault Refusal :=
  .next (s.pdEv k.val fun s =>
    let c := s.pdCh k.val
    let role := s.fld Fld.Pd.ROLE k.val
    let s' := s.pdTime c.tState (s.fld Fld.Pd.T_CC_DEBOUNCE_MS k.val)
    if c.st = .attachWaitSnk then
      if c.rpSeen.isNone then s'.pdTo k.val (s'.unattachedOf k.val)
      else if role = 4 ∧ !c.limited then s'.pdTo k.val .trySrc else s'.pdAttach k.val false
    else if c.st = .attachWaitSrc then
      if c.rdSeen.isNone then s'.pdTo k.val (s'.unattachedOf k.val)
      else if role = 3 then s'.pdTo k.val .trySnk else s'.pdAttach k.val true
    else if c.st = .tryWaitSnk ∧ c.rpSeen.isSome then s'.pdAttach k.val false
    else s)

/-- R361: what the CC pins show is a detach: both open for a source, no Rp on the CC pin of a sink. -/
def PdCh.ccGone (c : PdCh) : Bool :=
  if c.source then c.cc1 = .open_ && c.cc2 = .open_
  else
    match if c.flip then c.cc2 else c.cc1 with
    | .rp _ => false
    | _ => true

/-- R365: tPDDebounce ends after a CC change while attached or trying. An attached port whose CC pins still show a detach is
detached, but for one in a swap (PRESUMED, log entry 107). -/
def execPdDebounceDone (k : Fin 2) (s : State) : Host.Outcome State Fault Refusal :=
  .next (s.pdEv k.val fun s =>
    let c := s.pdCh k.val
    let s := s.pdTime (max c.tCc c.tState) (s.fld Fld.Pd.T_PD_DEBOUNCE_MS k.val)
    match c.st with
    | .trySnk => if c.rpSeen.isSome then s.pdAttach k.val false else s.pdTo k.val .tryWaitSrc
    | .tryWaitSrc => if c.rdSeen.isSome then s.pdAttach k.val true else s.pdTo k.val .unattachedSnk
    | .trySrc => if c.rdSeen.isSome then s.pdAttach k.val true else s.pdTo k.val .tryWaitSnk
    | .tryWaitSnk => if c.rpSeen.isSome then s else s.pdTo k.val .unattachedSnk
    | .attachWaitSnk => if c.rpSeen.isSome then s else s.pdTo k.val (s.unattachedOf k.val)
    | .attachWaitSrc => if c.rdSeen.isSome then s else s.pdTo k.val (s.unattachedOf k.val)
    | .attachedSnk | .attachedSrc => if c.ccGone ∧ !c.swapping ∧ !c.frs then s.pdDetach k.val else s
    | .disabled | .errorRecovery | .unattachedSnk | .unattachedSrc => s)

/-- R365, R372: an unattached DRP port toggles, unless its source limit keeps it a sink. -/
def execDrpToggle (k : Fin 2) (s : State) : Host.Outcome State Fault Refusal :=
  .next (s.pdEv k.val fun s =>
    let c := s.pdCh k.val
    if s.fld Fld.Pd.ROLE k.val < 2 then s
    else if c.st = .unattachedSnk then
      (if c.limited then s else (s.advanceTo (c.tState + us 37500)).pdTo k.val .unattachedSrc)
    else if c.st = .unattachedSrc then (s.advanceTo (c.tState + us 37500)).pdTo k.val .unattachedSnk
    else s)

/-- R372: the port's limit keeps it from sourcing. -/
def State.heldErr (s : State) (k : Nat) : Bool :=
  s.ctrlDown || (s.pdCh k).ccOpen || ((s.pdCh k).limited && s.fld Fld.Pd.ROLE k = 1)

/-- R365, R372, R373, R441: tErrorRecovery ends and nothing holds the port. -/
def State.errRecDone (k : Nat) (s : State) : State :=
  if (s.pdCh k).st = .errorRecovery ∧ !s.heldErr k then (s.pdTo k (s.unattachedOf k)).pdCheck k else s

def execErrorRecoveryDone (k : Fin 2) (s : State) : Host.Outcome State Fault Refusal :=
  .next (s.pdEv k.val fun s => (s.pdTime (s.pdCh k.val).tState 25).errRecDone k.val)

/-- R361: VBUS of a sink is expected to be low: in a hard reset, and in the phases of a swap with the partner's VBUS off. -/
def PdCh.vbusLow (c : PdCh) : Bool := c.hr ≠ .none || (c.swapping && (c.phase = 3 || c.phase = 5))

/-- R361: the CC pins (none), or VBUS of a sink, mV, have shown a detach for `held`, µs. -/
def execPdDetach (k : Fin 2) (v : Option Nat) (held : Nat) (s : State) : Host.Outcome State Fault Refusal :=
  .next (s.pdEv k.val fun s =>
    let c := s.pdCh k.val
    let gone : Bool :=
      match v with
      | none => c.ccGone
      | some mv => !c.source && decide (mv < 3670) && !c.vbusLow
    if c.attached ∧ gone ∧ 250 ≤ held then s.pdDetach k.val else s)

/-- R362: a message may be received: SOP, or SOP′ and SOP″ where enabled. -/
def State.sopHeard (s : State) (k sop : Nat) : Bool :=
  sop = 0 || (sop = 1 && s.flag Fld.Pd.SOP1_EN k) || (sop = 2 && s.flag Fld.Pd.SOP2_EN k)

/-- R362: GoodCRC for the message being sent. -/
def State.pdAck (k sop header : Nat) (s : State) : State :=
  match (s.pdCh k).tx with
  | some x => if x.sent ∧ x.sop = sop ∧ header / 512 % 8 = x.header / 512 % 8 then s.pdDone k 1 else s
  | none => s

/-- R366, R369: what a message on SOP sets off (PRESUMED, log entry 106; DEDUCED, log entry 110). -/
def State.pdMeaning (k header : Nat) (s : State) : State :=
  let soft := (s.pdCh k).softOut
  let s := s.onPdCh k fun c => { c with resp := none, softOut := false, hardResets := 0 }
  match ctrlType header with
  | some 3 => if soft then s.pdNote k 7 [] else s.pdTrigger k
  | some 6 => s.pdPsRdy k
  | _ => s

/-- R362, R364: a valid message: GoodCRC, duplicates discarded, the queue filled. A Soft_Reset repeats a Soft_Reset only.
(DEDUCED, log entry 110.) -/
def State.pdReceive (k sop header : Nat) (data : List Byte) (s : State) : State :=
  let s := s.pdDrain k
  let c := s.pdCh k
  let soft : Bool := ctrlType header = some 13
  if 4 ≤ c.phy.length then
    if c.fullRaised then s else (s.onPdCh k fun c => { c with fullRaised := true }).raise 0x0E0E k
  else
    let id := header / 512 % 8
    let s := s.pdOut k ([byte sop] ++ toLE 2 (setBitTo (setBitTo (1 + header / 64 % 4 * 64 + 512 * id) 8 c.source) 5 c.dfp))
    let again : Bool := (c.rxId[fin 3 sop]).any fun n => n % 8 = id && (!soft || n = id + 8)
    if again then s
    else
      let s := match c.tx with
        | some x => if x.sent then s else s.pdDone k 3
        | none => s
      let s := if !soft then s else s.onPdCh k (if sop = 0 then PdCh.clearAllIds else PdCh.clearIds sop)
      let ev := s.pdEvent 1 (s.pdCh k).pdState ([byte sop] ++ toLE 2 header ++ data)
      let s := (s.onPdCh k fun c =>
        { c with rxId := upd c.rxId (fin 3 sop) fun _ => some (id + 8 * b2n soft), phy := c.phy ++ [ev] }).pdDrain k
      if sop = 0 then s.pdMeaning k header else s

/-- R362: a message arrives with a good CRC; a Type-C only port does not acknowledge (R367). -/
def execPdMessageReceived (k : Fin 2) (sop : Fin 3) (header : Nat) (data : List Byte) (s : State) :
    Host.Outcome State Fault Refusal :=
  .next (s.pdEv k.val fun s =>
    let c := s.pdCh k.val
    if !c.attached ∨ c.typeC ∨ !s.sopHeard k.val sop.val then s
    else if ctrlType header = some 1 then s.pdAck k.val sop.val header
    else s.pdReceive k.val sop.val header data)

/-- R362: 1.0 ms without GoodCRC: the message is retried or has failed. -/
def execCrcReceiveTimeout (k : Fin 2) (s : State) : Host.Outcome State Fault Refusal :=
  .next (s.pdEv k.val fun s =>
    match (s.pdCh k.val).tx with
    | some x =>
      if !x.sent then s
      else
        let s := s.pdTime x.t 1
        let n := if x.header / 64 % 4 = 1 then s.fld Fld.Pd.N_RETRY_20 k.val else s.fld Fld.Pd.N_RETRY_3X k.val
        if x.tries < n then s.pdFire k.val { x with tries := x.tries + 1 } else s.pdDone k.val 2
    | none => s)

/-- R363: 18 ms of SinkTxNG have passed. -/
def execSinkTxWaitDone (k : Fin 2) (s : State) : Host.Outcome State Fault Refusal :=
  .next (s.pdEv k.val fun s =>
    match (s.pdCh k.val).tx with
    | some x => if !x.sent ∧ (s.pdCh k.val).source then (s.pdTime x.t 18).pdFire k.val x else s
    | none => s)

/-- R363: 500 ms after AMS_START. -/
def execAmsTimeout (k : Fin 2) (s : State) : Host.Outcome State Fault Refusal :=
  .next (s.pdEv k.val fun s =>
    let c := s.pdCh k.val
    match c.ams with
    | none => s
    | some t =>
      let s := (s.pdTime t 500).amsOver k.val
      match c.tx with
      | some x => if !x.sent ∧ !c.source then s.pdDone k.val 4 else s
      | none => s)

/-- R365, R366. -/
def execSenderResponseExpiry (k : Fin 2) (s : State) : Host.Outcome State Fault Refusal :=
  .next (s.pdEv k.val fun s =>
    let c := s.pdCh k.val
    match c.resp with
    | none => s
    | some (r, t) =>
      let s := s.pdTime t (s.fld Fld.Pd.T_SENDER_RESP_MS k.val)
      (s.onPdCh k.val fun c => { c with resp := none, softOut := false }).pdNoAnswer k.val r c.softOut)

/-- R366: a running phase has timed out: it ends with RESULT 3, and escalates while ESC_EN is 1. -/
def State.pdPhaseOut (k type : Nat) (s : State) : State :=
  if s.flag Fld.Pd.ESC_EN k then (s.pdNote k type []).pdEscalate k 3
  else
    let w := (s.pdCh k).run.bind (·.owed)
    ((s.onPdCh k fun c => { c with run := none, phase := 0 }).pdNote k type []).pdReply w 3

/-- R365, R366: PSTransition. -/
def execPsTransitionExpiry (k : Fin 2) (s : State) : Host.Outcome State Fault Refusal :=
  .next (s.pdEv k.val fun s =>
    let c := s.pdCh k.val
    match c.run with
    | some a =>
      if a.kind = 1 ∧ c.phase = 3 then
        let s := s.pdTime c.tPhase (s.fld (if a.epr then Fld.Pd.T_PS_TRANS_EPR_MS else Fld.Pd.T_PS_TRANS_MS) k.val)
        (s.raise 0x0E0A k.val).pdPhaseOut k.val 0x0A
      else s
    | none => s)

/-- R365, R366, R369: PSSourceOff or PSSourceOn; a VCONN_Swap whose PS_RDY has not come in 100 ms is abandoned. -/
def execPsSourceTimeout (k : Fin 2) (s : State) : Host.Outcome State Fault Refusal :=
  .next (s.pdEv k.val fun s =>
    let c := s.pdCh k.val
    match c.run with
    | none => s
    | some a =>
      if a.kind = 4 ∧ c.phase = 3 then
        let s := s.pdTime c.tPhase 100
        ((s.onPdCh k.val fun c => { c with run := none, phase := 0 }).pdNote k.val 9 []).pdReply a.owed 2
      else if a.kind = 1 then s
      else if c.phase = 3 then (s.pdTime c.tPhase 435).pdPhaseOut k.val 9
      else if c.phase = 5 then (s.pdTime c.tPhase 835).pdPhaseOut k.val 9
      else s)

/-- R368. -/
def execHardResetReceived (k : Fin 2) (s : State) : Host.Outcome State Fault Refusal :=
  .next (s.pdEv k.val fun s =>
    let c := s.pdCh k.val
    if c.attached ∧ !c.typeC then s.pdHardReset k.val false 2 else s)

/-- R368: tPSHardReset ends: VCONN off, VBUS ramps down to 5 V. -/
def execPsHardResetDone (k : Fin 2) (s : State) : Host.Outcome State Fault Refusal :=
  .next (s.pdEv k.val fun s =>
    let c := s.pdCh k.val
    if c.hr = .psHardReset then
      let s := s.pdTime c.tHr 30
      (s.pdSlew k.val 5000).onPdCh k.val fun c => { c with hr := .rampDown, tHr := s.now, vconn := false }
    else s)

/-- R365: VBUS has not reached vSafe0V in time (DESIGN CHOICE, log entry 4). -/
def execSafe0vTimeout (k : Fin 2) (s : State) : Host.Outcome State Fault Refusal :=
  .next (s.pdEv k.val fun s =>
    let c := s.pdCh k.val
    let n := s.fld Fld.Pd.T_SAFE0V_MS k.val
    if c.hr = .rampDown ∨ c.hr = .discharge then (s.pdTime c.tHr n).raise 0x0E05 k.val
    else if c.phase = 4 then (s.pdTime c.tPhase n).raise 0x0E05 k.val
    else if c.dschg then (s.pdTime c.tDschg n).raise 0x0E05 k.val
    else s)

/-- R368: T_SRC_RECOVER_MS ends: VBUS ramps to vSafe5V. -/
def execSrcRecoverDone (k : Fin 2) (s : State) : Host.Outcome State Fault Refusal :=
  .next (s.pdEv k.val fun s =>
    let c := s.pdCh k.val
    if c.hr = .recover then
      let s := s.pdTime c.tHr (s.fld Fld.Pd.T_SRC_RECOVER_MS k.val)
      (s.pdSlew k.val 5000).onPdCh k.val fun c => { c with hr := .restore, conv := true, dschg := false }
    else s)

/-- R368: a sink's wait for VBUS after a hard reset ends. -/
def execSinkHardResetWaitEnd (k : Fin 2) (s : State) : Host.Outcome State Fault Refusal :=
  .next (s.pdEv k.val fun s =>
    let c := s.pdCh k.val
    if c.hr = .sinkWait then (s.pdTime c.tHr 1925).pdDetach k.val else s)

/-- R368: a source's VBUS is back at vSafe5V after a hard reset. -/
def State.pdRestored (k : Nat) (s : State) : State :=
  let r := s.advert k
  let s := s.onPdCh k fun c =>
    { c with hr := .none, hrSwap := false, vconnSrc := true, rp := r, iLimit := min (rpMa r) (c.pLim / 5) }
  (s.vconnSet k).pdResetEvent k

/-- R368, R369, R361: VBUS reaches 5 V on the way down (0), vSafe0V (1), or vSafe5V on the way up (2). -/
def State.vbusLevel (k level : Nat) (s : State) : State :=
  let c := s.pdCh k
  if level = 0 then
    if c.hr = .rampDown then s.onPdCh k fun c => { c with hr := .discharge, conv := false, dschg := true }
    else if c.phase = 4 ∧ c.conv then s.onPdCh k fun c => { c with conv := false, dschg := true }
    else s
  else if level = 1 then
    if c.hr = .discharge ∨ c.hr = .rampDown then
      s.onPdCh k fun c => { c with hr := .recover, tHr := s.now, conv := false, dschg := false }
    else if c.phase = 4 then
      ((s.onPdCh k fun c => { c with phase := 3, tPhase := s.now, conv := false, dschg := false, rp := 0, vTarget := 0 })).pdOwn
        k (ownMsg 6 false s.now)
    else s.onPdCh k fun c => { c with dschg := c.dschg && c.st = .errorRecovery && s.ctrlDown }
  else if c.hr = .restore then s.pdRestored k
  else if c.hr = .sinkWait then
    (s.onPdCh k fun c => { c with hr := .none, hrSwap := false }).pdResetEvent k
  else if c.phase = 6 then s.pdSwapUp k
  else if c.frs ∧ c.source then s.onPdCh k fun c => { c with frsUp := true }
  else s

/-- R365, R366, R370: VBUS reaches the level that a ramp or a discharge aims at: 5 V, below 800 mV, or vSafe5V
(DESIGN CHOICE, log entry 6). -/
def execVbusLevelReached (k : Fin 2) (level : Fin 3) (s : State) : Host.Outcome State Fault Refusal :=
  .next (s.pdEv k.val fun s => s.vbusLevel k.val level.val)

/-- R365, R369: tSrcTransition ends: the slew or the turn-off starts. -/
def execSrcTransitionDone (k : Fin 2) (s : State) : Host.Outcome State Fault Refusal :=
  .next (s.pdEv k.val fun s =>
    let c := s.pdCh k.val
    match c.run with
    | some a =>
      if c.phase ≠ 1 then s
      else
        let s := s.pdTime c.tPhase 30
        if a.kind = 1 then (s.pdSlew k.val a.v).onPdCh k.val fun c => { c with phase := 2, tPhase := s.now }
        else (s.pdSlew k.val 5000).onPdCh k.val fun c => { c with phase := 4, tPhase := s.now }
    | none => s)

/-- R369: VBUS, mV, has been within ±5% of the target for `held`, µs, 1 ms: PS_RDY is sent. -/
def execSourceChangeDone (k : Fin 2) (v held : Nat) (s : State) : Host.Outcome State Fault Refusal :=
  .next (s.pdEv k.val fun s =>
    let c := s.pdCh k.val
    let near : Bool := 95 * c.vTarget ≤ 100 * v && 100 * v ≤ 105 * c.vTarget && decide (1000 ≤ held)
    if (c.run.map (·.kind)) = some 1 ∧ c.phase = 2 ∧ near then
      (s.pdOwn k.val (ownMsg 6 false s.now)).pdComplete k.val else s)

/-- R365: tSrcSettle ends. -/
def execSrcSettleTimeout (k : Fin 2) (s : State) : Host.Outcome State Fault Refusal :=
  .next (s.pdEv k.val fun s =>
    let c := s.pdCh k.val
    if c.phase = 2 then (((s.pdTime c.tPhase 275).raise 0x0E05 k.val).pdNote k.val 0x0A []).pdEscalate k.val 3 else s)

/-- R370: CC has been held low for `low`, µs (DEDUCED, log entry 109). -/
def execFrsSignalReceived (k : Fin 2) (low : Nat) (s : State) : Host.Outcome State Fault Refusal :=
  .next (s.pdEv k.val fun s =>
    let c := s.pdCh k.val
    if c.st = .attachedSnk ∧ !c.source ∧ s.flag Fld.Pd.FRS_RX_EN k.val ∧ 8 ≤ low ∧ low ≤ 120 then
      (s.onPdCh k.val fun c => { c with frs := true, frsUp := false }).raise 0x0E10 k.val
    else s)

/-- R370: VBUS, mV, falls below 4,750 mV after an FRS signal. -/
def execFrsVbusDrop (k : Fin 2) (v : Nat) (s : State) : Host.Outcome State Fault Refusal :=
  .next (s.pdEv k.val fun s =>
    let c := s.pdCh k.val
    if c.frs ∧ !c.source ∧ v < 4750 then
      let r := s.advert k.val
      (s.onPdCh k.val fun c =>
        { c with source := true, conv := true, vTarget := 5000, vFrom := 5000, tSlew := s.now,
                 iLimit := min (rpMa r) (c.pLim / 5) }).pdNote k.val 8 []
    else s)

/-- R372: P_LIM of a source port, mW. -/
def State.pdLimit (s : State) (k : Nat) : Nat :=
  if s.bus.st = .dead then 0
  else 1000 * min (s.fld Fld.Pd.SRC_LIMIT_W k) (min s.capPd s.thrPd)

/-- R359, R370, R372: P_LIM takes effect on a port. -/
def State.pdApplyLim (k : Nat) (s : State) : State :=
  let c := s.pdCh k
  let s := s.onPdCh k fun c => { c with pLim := c.limNext }
  let r := s.advert k
  let l := c.limNext
  let s := s.onPdCh k fun c =>
    if c.attached ∧ c.source then
      { c with
        rp := if c.typeC ∧ c.ams.isNone then r else c.rp,
        iLimit := min (if c.contract then c.iContract else rpMa (if c.typeC then r else c.rp)) (l * 1000 / max 1 c.vTarget),
        belowRaised := c.contract && l < c.pContract }
    else c
  let s :=
    if c.attached ∧ c.source ∧ c.contract ∧ l < c.pContract ∧ !c.belowRaised then
      (s.raise 0x0E0D k).pdNote k 0x0C (toLE 2 (l / 1000))
    else s
  if l < 2500 ∧ s.sys.fwReady ∧ s.flag Fld.Pd.PRESENT k then
    if c.srcSide then
      let s := if c.attached ∧ s.flag Fld.Pd.FRS_TX_EN k then s.pdOut k [0xF2] else s
      (s.pdErrRec k).onPdCh k fun c => { c with limited := true }
    else s.onPdCh k fun c => { c with limited := true }
  else s

/-- R372: a share tick sets P_LIM for the ports' next switching period ends; a port whose converter is off follows at
once. -/
def State.pdShareTick (s : State) : State :=
  s.each [0, 1] fun k s =>
    let l := s.pdLimit k
    let s := s.onPdCh k fun c =>
      { c with limNext := l, okSince := if 2500 ≤ l then c.okSince.orElse fun _ => some s.now else none }
    if (s.pdCh k).conv then s else s.pdApplyLim k

/-- R125, R357, R372: a switching period of the port's converter ends. -/
def State.pdPeriodEnd (k : Nat) (s : State) : State :=
  if (s.pdCh k).conv then (s.boundary .pd0 k .sw).pdApplyLim k else s

/-- R372: P_LIM has been at least 2.5 W for 1 s. -/
def execSourceLimitRestored (k : Fin 2) (s : State) : Host.Outcome State Fault Refusal :=
  .next (s.pdEv k.val fun s =>
    let c := s.pdCh k.val
    match c.okSince with
    | some t =>
      if c.limited then
        ((s.pdTime t 1000).onPdCh k.val fun c => { c with limited := false }).errRecDone k.val
      else s
    | none => s)

/-- R373: source VBUS, mV, above 1.1 × V_target + 500 mV. -/
def execPdSrcOv (k : Fin 2) (v : Nat) (s : State) : Host.Outcome State Fault Refusal :=
  .next (s.pdEv k.val fun s =>
    let c := s.pdCh k.val
    if c.attached ∧ c.source ∧ c.conv ∧ 11 * c.vTarget + 5000 < 10 * v then (s.pdErrRec k.val).raise 0x0E01 k.val else s)

/-- R373: source current, mA, of 1.25 × the limit for `held`, ms, 10 ms, or of 7,500 mA. -/
def execPdSrcOc (k : Fin 2) (i held : Nat) (s : State) : Host.Outcome State Fault Refusal :=
  .next (s.pdEv k.val fun s =>
    let c := s.pdCh k.val
    let trip : Bool := (5 * c.iLimit ≤ 4 * i && decide (10 ≤ held)) || decide (7500 ≤ i)
    if c.attached ∧ c.source ∧ c.conv ∧ trip then (s.pdErrRec k.val).raise 0x0E02 k.val else s)

/-- R373: sink VBUS, mV, above 1.15 × the contract voltage; the port stays attached. -/
def execPdSinkOv (k : Fin 2) (v : Nat) (s : State) : Host.Outcome State Fault Refusal :=
  .next (s.pdEv k.val fun s =>
    let c := s.pdCh k.val
    if c.st = .attachedSnk ∧ !c.source ∧ 115 * c.vTarget < 100 * v then
      (s.onPdCh k.val fun c => { c with conv := false }).raise 0x0E03 k.val else s)

/-- R373: a CC pin above 6.0 V (`v`, mV): the switches stay open, and the port in ErrorRecovery, until the pin's state changes.
(DEDUCED, log entry 109.) -/
def execCcOv (k : Fin 2) (v : Nat) (s : State) : Host.Outcome State Fault Refusal :=
  .next (s.pdEv k.val fun s =>
    if (s.pdCh k.val).attached ∧ 6000 < v then
      ((s.pdErrRec k.val).onPdCh k.val fun c => { c with ccOpen := true }).raise 0x0E0F k.val
    else s)

/-- R373: VCONN current, mA, above 300 mA for `held`, ms. -/
def execVconnOc (k : Fin 2) (i held : Nat) (s : State) : Host.Outcome State Fault Refusal :=
  .next (s.pdEv k.val fun s =>
    if (s.pdCh k.val).vconn ∧ 300 < i ∧ 1 ≤ held then
      (s.onPdCh k.val fun c => { c with vconn := false, vconnTrip := true }).raise 0x0E04 k.val
    else s)

/-- R376: the BIST carrier ends. -/
def execBistCarrierEnd (k : Fin 2) (s : State) : Host.Outcome State Fault Refusal :=
  .next (s.pdEv k.val fun s =>
    match (s.pdCh k.val).bist with
    | some t => (s.pdTime t 45).onPdCh k.val fun c => { c with bist := none }
    | none => s)

/-- R358, R441: a port at firmware ready; one that finds Rp keeps Rd and enters AttachWait.SNK. A control-die shutdown holds
it in ErrorRecovery. -/
def State.pdReady (k : Nat) (s : State) : State :=
  if s.ctrlDown ∧ (s.pdCh k).st = .errorRecovery then s
  else if !s.flag Fld.Pd.PRESENT k then s.pdTo k .disabled
  else
    let role := s.fld Fld.Pd.ROLE k
    if role ≠ 1 ∧ (s.pdCh k).rpSeen.isSome then s.pdTo k .attachWaitSnk
    else (s.pdTo k (s.unattachedOf k)).pdCheck k

/-- R70: what the host-contact watchdog's expiry does to a port. -/
def State.pdSafe (k : Nat) (s : State) : State :=
  if !s.flag Fld.Pd.PRESENT k then s
  else
    let s := s.onPdCh k fun c => { c with out := [] }
    let s := if (s.pdCh k).attached ∧ (s.pdCh k).contract then s.pdHardReset k true 2 else s
    if (s.pdCh k).typeC then s else s.pdTypeC k

/-- R441: the control die's power stages stop: the port's converter is off, DSCHG applied, and it is held in
ErrorRecovery. -/
def State.pdShutdown (k : Nat) (s : State) : State :=
  if !s.flag Fld.Pd.PRESENT k ∨ (s.pdCh k).st = .disabled then s
  else (s.pdErrRec k).onPdCh k fun c => { c with conv := false, dschg := true, tDschg := s.now }

/-- R22, R125, R360, R364: ports that are idle at the 10 µs tick; VCONN follows VCONN_IN; bit 14 stays set while events wait.
-/
def State.pdTick (s : State) : State :=
  (s.each [0, 1] fun k s => ((s.vconnSet k).pdDrain k).pdIdle k).pdIrq

/-- R376. -/
def execPdControl (o : Origin) (p : List Byte) (s : State) : Host.Outcome State Fault Refusal :=
  let k := s.single 0x0E (u p 0 2)
  let a := u p 2 1
  let kk := k.getD 0
  .next (s.run o 0x0E01 1
    (paramState (p.length = 4 ∧ 1 ≤ a ∧ a ≤ 9 ∧ u p 3 1 = 0 ∧ k.isSome) (s.pdRefuse a kk = st.ok)) fun s =>
      (.later, ((s.onPdCh kk fun c => { c with out := [] }).await o 0x0E01 (2 ^ kk) 0 [byte a]).pdIdle kk))

/-- R377: the parameters of PD_TX after SEL. -/
def txParams (p : List Byte) : Bool :=
  8 ≤ p.length && u p 2 1 ≤ 2 && u p 3 1 < 16 && u p 3 1 % 4 ≠ 3 && (u p 4 2 / 64 % 4 = 1 || u p 4 2 / 64 % 4 = 2) &&
    u p 6 2 ≤ 262 && p.length = 8 + u p 6 2

/-- R377. -/
def execPdTx (o : Origin) (p : List Byte) (s : State) : Host.Outcome State Fault Refusal :=
  let k := s.single 0x0E (u p 0 2)
  let kk := k.getD 0
  .next (s.run o 0x0E02 1 (paramState (txParams p ∧ k.isSome) (!s.txRefuse (u p 2 1) kk)) fun s =>
    (.later, ((s.onPdCh kk fun c => { c with out := [] }).await o 0x0E02 (2 ^ kk) 0 (p.drop 2)).pdIdle kk))

/-- R378: the oldest events that fit in one reply. -/
def fitEvents : Nat → List (List Byte) → List (List Byte)
  | _, [] => []
  | room, e :: es => if e.length ≤ room then e :: fitEvents (room - e.length) es else []

/-- R378. -/
def execPdEvent (o : Origin) (p : List Byte) (s : State) : Host.Outcome State Fault Refusal :=
  let k := s.single 0x0E (u p 0 2)
  let kk := k.getD 0
  .next (s.run o 0x0E03 1 (param (p.length = 2 ∧ k.isSome)) fun s =>
    let evs := fitEvents (maxData - 1) (s.pdCh kk).queue
    (.done st.ok (byte evs.length :: evs.flatten),
      (s.onPdCh kk fun c => { c with queue := c.queue.drop evs.length }).pdDrain kk))

/-- R369: a new command replaces the one already armed, which replies RESULT 2. -/
def State.pdArm (k : Nat) (a : Armed) (s : State) : State :=
  let old := (s.pdCh k).armed.bind (·.owed)
  (s.onPdCh k fun c => { c with armed := some a }).pdReply old 2

/-- R379: the parameters of PD_POWER after SEL. -/
def powerParams (p : List Byte) : Bool :=
  let f := u p 3 1
  let v := u p 4 4
  let i := u p 8 4
  p.length = 16 && u p 2 1 ≤ 1 && f < 4 && 5000 ≤ v && v ≤ 48000 && v % 20 = 0 && (v ≤ 21000 || f.testBit 0) &&
    i ≤ 5000 && i % 10 = 0 && (i ≤ 3000 || f.testBit 1) && u p 12 4 ≤ 240000

/-- R379, R357, R369: PD_POWER arms a contract change, or changes the limits at the present voltage at once. -/
def execPdPower (o : Origin) (p : List Byte) (s : State) : Host.Outcome State Fault Refusal :=
  let k := s.single 0x0E (u p 0 2)
  let kk := k.getD 0
  let v := u p 4 4
  let c := s.pdCh kk
  let ok : Bool := c.attached && !c.typeC && (u p 8 4 ≤ 3000 || s.vconnIn) && (u p 2 1 = 1 || (v = c.vTarget && c.run.isNone))
  .next (s.run o 0x0E04 1 (paramState (powerParams p ∧ k.isSome) ok) fun s =>
    let a : Armed := { kind := 1, epr := bitOf (u p 3 1) 0, v := v, i := u p 8 4, p := u p 12 4, owed := some ⟨o, 0x0E04, []⟩ }
    let s := s.pdArm kk a
    if u p 2 1 = 1 then (.later, s)
    else (.later, ((s.onPdCh kk fun c => { c with armed := none, run := some a }).pdComplete kk)))

/-- R380. -/
def execPdSwap (o : Origin) (p : List Byte) (s : State) : Host.Outcome State Fault Refusal :=
  let k := s.single 0x0E (u p 0 2)
  let kk := k.getD 0
  let c := s.pdCh kk
  .next (s.run o 0x0E05 1
    (paramState (p.length = 4 ∧ 1 ≤ u p 2 1 ∧ u p 2 1 ≤ 4 ∧ u p 3 1 = 0 ∧ k.isSome) (c.attached && !c.typeC)) fun s =>
      (.later, s.pdArm kk { kind := u p 2 1 + 1, epr := false, v := 0, i := 0, p := 0, owed := some ⟨o, 0x0E05, []⟩ }))

/-- R381. -/
def execPdStatus (o : Origin) (p : List Byte) (s : State) : Host.Outcome State Fault Refusal :=
  let k := s.single 0x0E (u p 0 2)
  .next (s.report o 0x0E06 (param (p.length = 2 ∧ k.isSome)) fun s => s.pdStatus (k.getD 0))

end Sys2Proof.Machine
end

