-- ==== Sys2Proof/Machine/Link.lean ====
section
/-! DEFINITION. The Zwijan link: ports and training (R326–R330), share and decision frames (R335–R341), event frames
(R338), election (R332, R333), and the capping computation (R342–R347). -/

namespace Sys2Proof.Machine

/-- A link port (DEDUCED, log entry 104). -/
def State.linkPort (s : State) (p : Nat) : LinkPort := s.link.port[fin 3 p]

/-- A change of a link port. -/
def State.onPort (p : Nat) (f : LinkPort → LinkPort) (s : State) : State :=
  s.onLink fun l => { l with port := upd l.port (fin 3 p) f }


/-- R341: the share period, ticks. -/
def State.sharePeriod (s : State) : Nat := us (s.fld Fld.Link.SHARE_US)

/-- Used ports, and those that lead away from the root (R330). -/
def Link.usedPorts (l : Link) : List Nat := (List.range 3).filter fun p => (l.port[fin 3 p]).used
def Link.awayPorts (l : Link) : List Nat := (List.range 3).filter fun p => (l.port[fin 3 p]).used && (l.port[fin 3 p]).use = .away

/-- R329: the pairings of port numbers that are allowed, and the ring closure. -/
def pairOk (a b : Nat) : Bool := (a, b) ∈ [(1, 0), (0, 1), (2, 0), (0, 2), (1, 2), (2, 1)]
def pairRing (a b : Nat) : Bool := (a, b) ∈ [(1, 2), (2, 1)]

/-- A port of this node whose link closes the ring (R329). -/
def State.closures (s : State) : List Nat :=
  (List.range 3).filter fun p =>
    let c := s.linkPort p
    (c.line = .up1 ∨ c.line = .up2) && (c.peer.map fun x => pairRing p x.1).getD false && c.use ≠ .unused

/-- R329, R347: the plant is a ring: this node holds an end of the closure, or enumeration found one. -/
def State.inRing (s : State) : Bool := !s.closures.isEmpty || s.link.ring

/-- A frame with SOF, EOF and a good CRC: its body (R334–R338). -/
def frameBody (sof : Byte) (n : Nat) (f : List Byte) : Option (List Byte) :=
  if f.length = n ∧ f.head? = some sof ∧ f.getLast? = some eof ∧ u f (n - 3) 2 = crc16 (sliceBytes f 1 (n - 4)) then
    some (sliceBytes f 1 (n - 4))
  else none

/-- R335: the figures of a share frame's body: SEQ, the sums, and TIME. -/
def shareOf (b : List Byte) : Nat × ShareFig × Nat :=
  (u b 0 1,
    { sSrc := u b 1 3, sBatt := u b 4 3, d := u b 7 3, chgReq := u b 10 3, reserve := u b 13 3, iRect := u b 16 3,
      nRect := u b 19 2, vMin := u b 21 2, capFlt := u b 23 1 },
    u b 24 4)

/-- R335: the body of a share frame. -/
def shareBytes (seq : Nat) (f : ShareFig) (time : Nat) : List Byte :=
  toLE 1 seq ++ toLE 3 f.sSrc ++ toLE 3 f.sBatt ++ toLE 3 f.d ++ toLE 3 f.chgReq ++ toLE 3 f.reserve ++
    toLE 3 f.iRect ++ toLE 2 f.nRect ++ toLE 2 f.vMin ++ toLE 1 f.capFlt ++ toLE 4 time

/-- R335: two sets of figures aggregated, sums saturating at the field's maximum. -/
def ShareFig.add (a b : ShareFig) : ShareFig :=
  { sSrc := satAdd 0xFFFFFF a.sSrc b.sSrc, sBatt := satAdd 0xFFFFFF a.sBatt b.sBatt, d := satAdd 0xFFFFFF a.d b.d,
    chgReq := satAdd 0xFFFFFF a.chgReq b.chgReq, reserve := satAdd 0xFFFFFF a.reserve b.reserve,
    iRect := satAdd 0xFFFFFF a.iRect b.iRect, nRect := satAdd 0xFFFF a.nRect b.nRect, vMin := min a.vMin b.vMin,
    capFlt := max (a.capFlt % 16) (b.capFlt % 16) + 16 * (a.capFlt / 16 ||| b.capFlt / 16) }

/-- R336: a decision frame's body read and written. -/
def decisionOf (b : List Byte) : Decision :=
  { seq := u b 0 1, flags := u b 1 1, level := u b 2 1, apply := u b 3 4, head := u b 7 3, chgReq := u b 10 3,
    iShare := u b 13 3, sSrc := u b 16 3, sBatt := u b 19 3, d := u b 22 3, root := u b 25 1, nodes := u b 26 1 }

def Decision.bytes (d : Decision) : List Byte :=
  toLE 1 d.seq ++ toLE 1 d.flags ++ toLE 1 d.level ++ toLE 4 d.apply ++ toLE 3 d.head ++ toLE 3 d.chgReq ++
    toLE 3 d.iShare ++ toLE 3 d.sSrc ++ toLE 3 d.sBatt ++ toLE 3 d.d ++ toLE 1 d.root ++ toLE 1 d.nodes ++ [0]

/-- A 64-bit time from its low 32 bits, the nearest to a known time (DEDUCED, log entry 103). -/
def nearTime (now low : Nat) : Nat :=
  let base := now / 2 ^ 32 * 2 ^ 32 + low
  if base + 2 ^ 31 ≤ now then base + 2 ^ 32 else if now + 2 ^ 31 < base ∧ 2 ^ 32 ≤ base then base - 2 ^ 32 else base

/-- R342, R344: S_SRC of this node in mW, its own predicted channels left out where `drop` says so.
(DEDUCED, log entry 102.) -/
def State.ownSrc (s : State) (drop : Bool) : Nat :=
  let rect (k : Nat) : Nat := if drop && (s.rectCh k).bar.drop then 0 else s.pAvail k
  let aux (k : Nat) : Nat :=
    let c := s.auxCh k
    if c.st = .walkIn then c.walk / 100000 else if c.st = .on then s.fld Fld.Bus.ILIM_MA k * c.vin / 1000 else 0
  rect 0 + rect 1 + aux 0 + aux 1 + s.pSink 0 + s.pSink 1

/-- R335: the cap request of this node, 0 while the safe defaults are in force (R138). -/
def State.capFloor (s : State) : Nat := if s.sys.safe then 0 else s.fld Fld.Link.CAP_FLOOR

/-- R345, R347, R341: this node caps locally (DEDUCED, log entry 100). -/
def State.capsLocally (s : State) : Bool :=
  !s.flag Fld.Link.LINK_EN || !s.flag Fld.Link.PLANT_CAP || s.link.mismatch || s.link.capping = 2

/-- R335, R342: this node's figures, W and mA (DEDUCED, log entry 102). -/
def State.figures (s : State) : ShareFig :=
  let runs := (List.range 2).filter fun k => (s.rectCh k).st = .run
  let hold : Bool := s.sys.mode = .hold ∨ s.sys.mode = .holdOnly
  { sSrc := s.ownSrc false / 1000, sBatt := s.gauge.pBatt.toNat / 1000, d := s.demand / 1000, chgReq := s.chgReq / 1000,
    reserve := s.eAvail / 3600000, iRect := (runs.map fun k => (s.rectCh k).iOut.toNat).sum, nRect := runs.length,
    vMin := min 0xFFFF s.vBus,
    capFlt := s.capFloor % 16 + 16 * bitsOf [s.tripped, s.system || hold, s.capsLocally,
      (s.rectCh 0).bar.drop || (s.rectCh 1).bar.drop] }

/-- R343: BASE from x in W with the thresholds scaled: steps up, then down. -/
def capBase (tbl : List Byte) (scale : Int) (x : Int) (base : Nat) : Nat :=
  let enter (l : Nat) : Int := i tbl (4 + 8 * l) 2 * scale
  let exit_ (l : Nat) : Int := i tbl (6 + 8 * l) 2 * scale
  let up := (List.range 15).foldl (fun b _ => if b < 15 ∧ enter (b + 1) ≤ x then b + 1 else b) base
  (List.range 15).foldl (fun b _ => if 0 < b ∧ x < exit_ b then b - 1 else b) up

/-- R349: HEAD_MAX_W applied to a headroom in mW. -/
def State.headLimit (s : State) (mw : Nat) : Nat :=
  let m := s.fld Fld.Link.HEAD_MAX_W
  if s.sys.safe ∨ m = 0xFFFFFFFF then mw else min mw (1000 * m)

/-- R222, R223, R314: the level and headroom in force act on the charger and the ports. -/
def State.capAct (head : Nat) (s : State) : State := ((s.onLink fun l => { l with head := head }).chargeGrant head).shedTick

/-- R343, R344: local capping from this node's own figures, SCALE 1 (DEDUCED, log entry 100). -/
def State.capLocal (s : State) : State :=
  let src := s.ownSrc true / 1000
  let f := s.link.fig
  let base := capBase (s.table (s.palOld 5) 0x07 0) 1 ((f.d : Int) - (src + f.sBatt : Nat)) s.link.base
  let s := s.onLink fun l => { l with base := base, level := max base s.capFloor, plantAt := none }
  (s.onPal fun p => { p with plant := none }).capAct (s.headLimit (1000 * (src - f.d)))

/-- R347: the decisions say from `was` to `is` that the ring is wrapped: a node at the closure that is not the root uses it,
or returns it to standby (DEDUCED, log entry 101). -/
def State.followWrap (was is : Bool) (s : State) : State :=
  if s.link.role = 2 ∨ (!is ∧ !was) then s
  else
    (s.each s.closures fun p s => s.onPort p fun c =>
      if is then (if c.use = .standby then { c with use := .away } else c) else { c with use := .standby }).onLink fun l =>
        { l with wrapped := is }

/-- R345: a decision is applied. P_HEAD is fixed here, from the node's CHG_REQ at this share tick. -/
def State.capApply (d : Decision) (s : State) : State :=
  let own := s.link.fig.chgReq
  let head := if d.chgReq = 0 then 0 else 1000 * d.head * own / d.chgReq
  let was := (s.link.last.map fun x => x.flags.testBit 2).getD false
  let s := s.onLink fun l =>
    { l with level := d.level, last := some d, tApply := s.now, rootAddr := d.root, capping := 0 }
  (s.followWrap was (d.flags.testBit 2)).capAct (s.headLimit head)

/-- R345, R347: between decisions the last one stands, with its P_HEAD; the grant follows the strings' demand (R223). -/
def State.capHold (s : State) : State := s.capAct s.link.head

/-- R344: the supply at risk for the share frames from now on: a node's cleared entry goes, and a later DROP takes the place
of its earlier one. -/
def riskNext (r : List (Nat × Nat × Nat)) : List (Nat × Nat × Nat) :=
  (r.filter fun x => x.2.2 ≠ 2 && !(x.2.2 = 1 && r.any fun y => y.1 = x.1 && y.2.2 = 0)).map fun x => (x.1, x.2.1, 1)

/-- R335: the root sends a share frame (DEDUCED, log entry 101). -/
def State.originate (s : State) : State :=
  let seq := (s.link.seq + 1) % 256
  let s := s.onLink fun l =>
    { l with
      seq := seq, flight := some (seq, s.now, true), merge := [], everSeen := true, missedRun := 0, risk := riskNext l.risk }
  s.sendOn (fun _ p => p.use = .away)
    (frameOf sofShare (shareBytes seq ShareFig.zero (s.now % 2 ^ 32)))

/-- R336, R343, R344: the root computes and sends the decision for a whole share frame whose sums, this node's own
included, are `t` (DEDUCED, log entry 101). -/
def State.rootDecide (t : ShareFig) (time : Nat) (s : State) : State :=
  let l := s.link
  let ownDrop := (s.ownSrc false - s.ownSrc true) / 1000
  let src := t.sSrc - ownDrop - ((l.risk.filter fun r => r.2.2 ≠ 0).map fun r => r.2.1).sum
  let scale := s.fld Fld.Link.CAP_SCALE
  let base := capBase (s.table (s.palOld 5) 0x07 0) (scale : Int) ((t.d : Int) - (src + t.sBatt : Nat)) l.base
  let adopt : Bool := (l.plantAt.map fun t0 => decide (t0 + ms 250 ≤ s.now)).getD false
  let apply := time + 2 * s.sharePeriod
  let d : Decision :=
    { seq := l.seq, flags := 1 + 2 * b2n adopt + 4 * b2n l.wrapped + 16 * (t.capFlt / 16), level := max base (t.capFlt % 16),
      apply := apply % 2 ^ 32, head := src - t.d, chgReq := t.chgReq,
      iShare := if t.nRect = 0 then 0 else t.iRect / t.nRect, sSrc := src, sBatt := t.sBatt, d := t.d,
      root := l.nodeAddr, nodes := l.table.length }
  let s := s.onLink fun l =>
    { l with
      base := base, flight := none, heldDec := l.heldDec ++ [d], plantAt := if adopt then none else l.plantAt }
  let s := if adopt ∧ s.pal.plant.isSome then s.onPal fun p => { p with plant := some apply } else s
  s.sendOn (fun _ p => p.use = .away) (frameOf sofDecision d.bytes)

/-- R332: this node is eligible as root. -/
def State.eligible (s : State) : Bool :=
  s.flag Fld.Link.LINK_EN && s.flag Fld.Link.ROOT_CAPABLE && s.link.nodeAddr ≠ 0 &&
    (!s.link.usedPorts.isEmpty || s.link.everSeen)

/-- R332: a claim is at least as good as another: a sampled ROOT strap first, then the lower address. -/
def claimGe (a b : Bool × Nat) : Bool := if a.1 = b.1 then a.2 ≤ b.2 else a.1

/-- R332: the claim of this node. -/
def State.ownClaim (s : State) : Bool × Nat := (s.sys.root, s.link.nodeAddr)

/-- R338: the VALUE of a ROOT_CLAIM. -/
def claimValue (c : Bool × Nat) : Nat := b2n c.1 + 256 * c.2

/-- R330: a node takes ROLE. -/
def State.toRole (role : Nat) (s : State) : State :=
  if s.link.role = role then s else s.onLink fun l => { l with role := role, tRole := s.now }

/-- R148, R341, R345: the capping part of a share tick, at the tick's own time (DEDUCED, log entry 100). -/
def State.capTick (s : State) : State :=
  let s := if s.plantReady then s.adopt 5 0 else s
  let f := s.figures
  let s := s.onLink fun l => { l with fig := f }
  let now := s.now % 2 ^ 32
  let due := s.link.heldDec.find? fun d => d.apply = now
  let s := s.onLink fun l => { l with heldDec := l.heldDec.filter fun d => d.apply ≠ now }
  let plant := s.flag Fld.Link.LINK_EN && s.flag Fld.Link.PLANT_CAP && !s.link.mismatch
  match due with
  | some d => if plant then s.capApply d else s.capLocal
  | none => if s.capsLocally then s.capLocal else s.capHold

/-- R347: the root returns the closure to standby. -/
def State.restoreRing (s : State) : State :=
  if s.link.restoreDue then
    (s.each s.closures fun p s => s.onPort p fun c => { c with use := .standby }).onLink fun l =>
      { l with wrapped := false, restoreDue := false }
  else s

/-- R332, R333, R335, R336, R340, R347: the root's part of a share tick (DEDUCED, log entry 101). -/
def State.rootTick (s : State) : State :=
  if s.link.role ≠ 2 then s
  else
    let s := s.restoreRing
    let late : Bool := (s.link.flight.map fun f => f.2.2).getD false
    let s := s.onLink fun l => { l with flight := none }
    let s := if late then s.raise 0x0D09 else s
    if !s.flag Fld.Link.ROOT_CAPABLE ∨ s.link.yielding then
      (s.toRole 1).onLink fun l => { l with yielding := false }
    else
      let s := s.originate
      if s.link.awayPorts.isEmpty then s.rootDecide s.link.fig s.now else s

/-- R332, R333: the share tick closes a period: missed unless a valid share frame passed; a root passes its own. -/
def State.closePeriod (s : State) : State :=
  s.onLink fun l =>
    { l with
      missNow := !l.seen && l.role ≠ 2 && (l.everSeen || !l.usedPorts.isEmpty), seen := false,
      electDue := false, joining := if l.joining = 1 then 2 else l.joining }

/-- R327: 100 µs without lock, so the port's idles change generation, where generation 2 is allowed (R348) and the
plant is not held at generation 1. -/
def execLinkTrainSwitch (p : Fin 3) (s : State) : Host.Outcome State Fault Refusal :=
  .next (
    let c := s.linkPort p.val
    if c.line ≠ .training then s
    else
      let s := s.advanceTo (c.tTrain + us 100)
      s.onPort p.val fun c =>
        { c with
          gen1 := if s.flag Fld.Link.GEN2_EN ∧ s.link.gen ≠ 1 then !c.gen1 else true, tTrain := s.now })

/-- R327, R337: every port but `keep` retrains at generation 1. -/
def State.retrain (keep : Nat → Bool) (s : State) : State :=
  s.onLink fun l =>
    { l with
      gen := 1,
      port := Vector.ofFn fun p =>
        if keep p.val ∨ (l.port[p]).line = .down then l.port[p]
        else { LinkPort.reset with gen1 := true, tTrain := s.now } }

/-- R329, R330: the use of a port that comes up, from the port numbers of its two ends. -/
def State.useOf (s : State) (p peer : Nat) : PortUse :=
  if !pairOk p peer then .unused
  else if pairRing p peer then (if s.closures.any (· ≠ p) then .unused else .standby)
  else if s.link.role ≠ 2 ∧ p = 0 then .toRoot else .away

/-- R328: a port that has received `valid` consecutive valid symbols, 1,024 or more, and its neighbour's IDENT comes up at the
generation it trains at. -/
def execLinkPortUp (p : Fin 3) (valid : Nat) (s : State) : Host.Outcome State Fault Refusal :=
  .next (
    let c := s.linkPort p.val
    if valid < 1024 then s
    else
    match c.line, c.peer with
    | .training, some (peer, _) =>
      let use_ := s.useOf p.val peer
      let s := s.onPort p.val fun c => { c with line := if c.gen1 then .up1 else .up2, use := use_, tUp := s.now }
      let s := if use_ = .unused then s.raise 0x0D07 else s
      let s :=
        if c.gen1 ∧ s.link.gen ≠ 1 then
          ((s.flood 6 0 0).retrain (· = p.val)).raise 0x0D0A
        else s
      if s.link.role = 2 then s.flood 5 0 (claimValue s.ownClaim) else s
    | _, _ => s)

/-- R330, R347: a ring link is down: the closure, held in standby, comes into use as a path away from the root, at the nodes
that hold its ends as at a root that does (DEDUCED, log entry 101). -/
def State.wrap (s : State) : State :=
  let mine := s.closures.filter fun p => (s.linkPort p).use = .standby
  if s.link.wrapped ∨ !s.inRing ∨ (s.link.role ≠ 2 ∧ mine.isEmpty) then s
  else
    ((s.each mine fun p s => s.onPort p fun c => { c with use := .away }).onLink fun l => { l with wrapped := true }).raise
      0x0D02

/-- R328, R336, R347: a port with no valid symbol for `quiet` ns, 2 µs or more, or with `errs` code or disparity errors within
1 µs, more than 16, goes down and trains again; a used one is announced, voids the root's frame in flight and, in a ring, makes the
root wrap. -/
def execLinkPortDown (p : Fin 3) (quiet errs : Nat) (s : State) : Host.Outcome State Fault Refusal :=
  .next (
    let c := s.linkPort p.val
    if (c.line ≠ .up1 ∧ c.line ≠ .up2) ∨ (quiet < 2000 ∧ errs ≤ 16) then s
    else
      let s := s.onPort p.val fun _ => s.trainPort
      let s := s.raise 0x0D01
      let s := s.onLink fun l => { l with flight := l.flight.map fun f => (f.1, f.2.1, false) }
      if c.used then (s.flood 4 0 p.val).wrap else s)

/-- R347: the broken ring link has been up for 100 ms: the root returns the closure to standby at its next share tick. -/
def execRingRestore (s : State) : Host.Outcome State Fault Refusal :=
  .next (
    if s.link.role = 2 ∧ s.link.wrapped then s.onLink fun l => { l with restoreDue := true } else s)

/-- R337: the trim of the rate that an error asks for, toward it and at most ±200 ppm (DESIGN CHOICE, log entry 144). -/
def State.rateTrim (s : State) (err : Int) : Int := (if 0 ≤ err then 1 else -1) * (min 200 (Config.rateTrim s.free) : Nat)

/-- R333, R337, R341: a share frame's SOF arrives at time `t`: a node that joins, or whose error exceeds 1 µs, loads
TIME + path delay, and any other trims its rate; SHARE_US is held against TIME (DEDUCED, log entry 103). -/
def State.followTime (time : Nat) (s : State) : State :=
  let plant := nearTime s.now time
  let goal := plant + s.link.pathDelay / 10
  let off := if goal ≤ s.now then s.now - goal else goal - s.now
  let s :=
    if s.link.role = 0 ∨ s.link.joining = 2 ∨ us 1 < off then
      ((s.onSys fun y => { y with time := goal, wdBase := goal - (y.time - y.wdBase) }).onSkb fun k =>
        { k with hist := { k.hist with loaded := true } }).raise 0x0D0D
    else (s.onLink fun l => { l with trim := s.rateTrim ((goal : Int) - s.now) }).drew
  let bad : Bool := plant % s.sharePeriod ≠ 0
  if bad = s.link.mismatch then s
  else
    let s := s.onLink fun l => { l with mismatch := bad, capping := if bad then 2 else l.capping }
    if bad then s.raise 0x0D08 else s

/-- R329: a port's link is a ring closure. -/
def LinkPort.closes (c : LinkPort) (p : Nat) : Bool := (c.peer.map fun x => pairRing p x.1).getD false

/-- R330, R332, R347: a valid outbound share frame has come in on a port, which leads to the root from then on. A closure
that led to the root until now is back in standby, and one that leads to it now is in use. -/
def State.sharePassed (p seq time : Nat) (s : State) : State :=
  let s := s.onLink fun l => { l with pathDelay := (l.port[fin 3 p]).path }
  let s := s.followTime time
  let s := s.toRole 1
  s.onLink fun l =>
    { l with
      seq := seq, seen := true, everSeen := true, missedRun := 0, best := none, claimed := false, outSeq := some seq,
      joining := if l.joining = 2 then 0 else l.joining,
      merge := [], capping := if l.capping = 3 then 0 else l.capping,
      wrapped :=
        if (l.port[fin 3 p]).closes p then true
        else l.wrapped && !((List.range 3).any fun q => (l.port[fin 3 q]).closes q && (l.port[fin 3 q]).use = .toRoot)
      port := Vector.ofFn fun q =>
        let c := l.port[q]
        if q.val = p then { c with use := .toRoot }
        else if c.use = .toRoot then { c with use := if c.closes q.val then .standby else .away } else c }

/-- R335: the frame ends with K30.7 where it came in void. -/
def voidFrame (f : List Byte) : List Byte := f.take (f.length - 1) ++ [eofAbort]

/-- R330: a branch has returned on a port. -/
def Link.branch (l : Link) (p : Nat) (f : Option ShareFig) : List (Nat × Option ShareFig) :=
  (p, f) :: l.merge.filter fun x => x.1 ≠ p

/-- R330, R335: every branch away from the root has returned, and the merged figures unless one of them came back void. -/
def Link.whole (l : Link) (m : List (Nat × Option ShareFig)) : Bool := l.awayPorts.all fun q => m.any fun x => x.1 = q
def mergeFig (m : List (Nat × Option ShareFig)) : Option ShareFig :=
  m.foldl (fun a x => match a, x.2 with
    | some a, some f => some (a.add f)
    | _, _ => none) (some ShareFig.zero)

/-- R330, R335: the share frame goes on toward the root with this node's figures, void if a part of it was. -/
def State.shareReturn (seq time : Nat) (m : List (Nat × Option ShareFig)) (s : State) : State :=
  let frame (f : ShareFig) : List Byte := frameOf sofShare (shareBytes seq (f.add s.link.fig) time)
  (s.onLink fun l => { l with outSeq := none, merge := [] }).sendOn (fun _ p => p.use = .toRoot)
    (match mergeFig m with
      | some f => frame f
      | none => voidFrame (frame ShareFig.zero))

/-- R330, R335: at a node, a branch returns with its figures, or void: the node waits for the others, or returns the whole.
-/
def State.nodeBranch (p seq time : Nat) (f : Option ShareFig) (s : State) : State :=
  let m := s.link.branch p f
  if s.link.whole m then s.shareReturn seq time m else s.onLink fun l => { l with merge := m }

/-- R330, R336, R340, R343: at the root, a branch of the frame in flight returns `loopNs` after its share tick; the last of
them makes the frame whole. A frame that is not this root's own shows that another plant has joined (R333); one of the period
before is nothing. -/
def State.rootBranch (p loopNs : Nat) (f : List Byte) (s : State) : State :=
  let body := (frameBody sofShare 32 f).map shareOf
  let ours (t : Nat) (x : Nat × ShareFig × Nat) : Bool := x.2.2 = t % 2 ^ 32
  match s.link.flight with
  | some (seq, t0, ok) =>
    let late : Bool := (body.map (ours (t0 - s.sharePeriod))).getD false
    let mine : Bool := (body.map fun x => decide (x.1 = seq) && ours t0 x).getD true
    if late then s
    else if !mine then s.flood 5 0 (claimValue s.ownClaim)
    else
      let m := s.link.branch p (body.map fun x => x.2.1)
      if !s.link.whole m then s.onLink fun l => { l with merge := m }
      else
        let s := s.onLink fun l => { l with tLoop := loopNs, flight := none, merge := [] }
        if 10 * s.sharePeriod ≤ loopNs then s.raise 0x0D09
        else
          match mergeFig m with
          | some t => if ok then s.rootDecide (t.add s.link.fig) t0 else s
          | none => s
  | none =>
    let own : Bool := (body.map fun x => (s.link.tShare.map fun t => ours t x || ours (t - s.sharePeriod) x).getD false).getD true
    if own then s else s.flood 5 0 (claimValue s.ownClaim)

/-- R330, R335, R337, R341: a share frame arrives on a port at time `t` of this node's timebase. A void frame is passed on
void, and its return with it. -/
def State.shareIn (p : Nat) (t : Nat) (f : List Byte) (s : State) : State :=
  let c := s.linkPort p
  if !s.flag Fld.Link.LINK_EN ∨ (c.line ≠ .up1 ∧ c.line ≠ .up2) ∨ c.use = .unused then s
  else
    let s := s.advanceTo t
    let back : Bool := c.use = .away ∧ s.link.outSeq.isSome
    let body := (frameBody sofShare 32 f).map shareOf
    if s.link.role = 2 ∧ !s.link.yielding then
      if c.use = .away then s.rootBranch p (10 * (s.now - (s.link.flight.map (·.2.1)).getD s.now)) f else s
    else
      match body with
      | none =>
        if back then s.nodeBranch p (s.link.outSeq.getD 0) (u f 25 4) none
        else if c.use = .toRoot then
          let s := s.onLink fun l => { l with outSeq := some (u f 1 1), merge := [(p, none)] }
          if s.link.awayPorts.isEmpty then s.shareReturn (u f 1 1) (u f 25 4) s.link.merge
          else s.sendOn (fun _ x => x.use = .away) (voidFrame f)
        else s.sendOn (fun q x => q ≠ p && x.use = .away) (voidFrame f)
      | some x =>
        if back ∧ s.link.outSeq = some x.1 then s.nodeBranch p x.1 x.2.2 (some x.2.1)
        else if c.use = .standby ∧ s.link.seen ∧ s.link.seq = x.1 then s
        else
          let s := s.sharePassed p x.1 x.2.2
          if s.link.awayPorts.isEmpty then s.shareReturn x.1 x.2.2 [(p, some x.2.1)]
          else s.sendOn (fun q y => q ≠ p && y.use = .away) (frameOf sofShare (shareBytes x.1 x.2.1 x.2.2))

def execShareFrame (p : Fin 3) (t : Nat) (f : List Byte) (s : State) : Host.Outcome State Fault Refusal :=
  .next (s.shareIn p.val t f)

/-- R336, R340, R343: the share frame is back at the root, `loopNs` after its share tick, on its last branch. -/
def execShareFrameReturn (p : Fin 3) (loopNs : Nat) (f : List Byte) (s : State) : Host.Outcome State Fault Refusal :=
  .next (
    match s.link.flight with
    | some (_, t0, _) =>
      if s.link.role ≠ 2 ∨ !(s.linkPort p.val).used then s
      else (s.advanceTo (t0 + loopNs / 10)).rootBranch p.val loopNs f
    | none => s)

/-- R336: a decision frame arrives at time `t`: it goes on, and is held until its APPLY tick or discarded if late. -/
def execDecisionFrame (p : Fin 3) (t : Nat) (f : List Byte) (s : State) : Host.Outcome State Fault Refusal :=
  .next (
    if !s.flag Fld.Link.LINK_EN ∨ !(s.linkPort p.val).used then s
    else
      let s := s.advanceTo t
      match frameBody sofDecision 32 f with
      | none => s.sendOn (fun q x => q ≠ p.val && x.use = .away) (voidFrame f)
      | some b =>
        let d := decisionOf b
        let s := s.sendOn (fun q x => q ≠ p.val && x.use = .away) f
        let at_ := nearTime s.now d.apply
        if s.link.role = 2 ∨ !s.flag Fld.Link.PLANT_CAP ∨ s.link.mismatch then s
        else if at_ < s.now then (s.onLink fun l => { l with late := satAdd 0xFFFFFFFF l.late 1 }).raise 0x0D0E
        else
          let adopt := d.flags.testBit 1
          let s := s.onLink fun l => { l with heldDec := l.heldDec ++ [d], plantAt := if adopt then none else l.plantAt }
          if adopt ∧ s.pal.plant.isSome then s.onPal fun q => { q with plant := some at_ } else s)

/-- R347: a period has passed with no valid share frame: the last decision stands; at the third the node caps locally
from the next share tick. A node that has never followed a root has no decision to hold (DEDUCED, log entry 100). -/
def execSharePeriodMissed (s : State) : Host.Outcome State Fault Refusal :=
  .next (
    if !s.link.missNow then s
    else
      let n := s.link.missedRun + 1
      let s := s.onLink fun l =>
        { l with missNow := false, electDue := true, missed := satAdd 0xFFFFFFFF l.missed 1, missedRun := n }
      if !s.link.everSeen then s
      else if n = 1 then
        (s.onLink fun l => { l with capping := if l.capping = 0 then 3 else l.capping }).raise 0x0D03
      else if n = 3 then
        ((s.onLink fun l => { l with capping := 2, heldDec := [] }).toRole (if s.link.usedPorts.isEmpty then 0 else 1)).raise
          0x0D04
      else s)

/-- R332, R336, R343: a claimant that has seen no better claim by this share tick is root and originates from it. -/
def State.becomeRoot (s : State) : State :=
  let s := s.toRole 2
  let s := s.onLink fun l =>
    { l with
      best := none, claimed := false, joining := 0, pathDelay := 0, outSeq := none, merge := [],
      base := (l.last.map (·.level)).getD l.base,
      port := l.port.map fun c => if c.use = .toRoot then { c with use := .away } else c }
  let s := (s.raise 0x0D05).originate
  if s.link.awayPorts.isEmpty then s.rootDecide s.link.fig s.now else s

/-- R332: the election's part of a share tick that ends a missed period. -/
def execRootElection (s : State) : Host.Outcome State Fault Refusal :=
  .next (
    if !s.link.electDue then s
    else
      let s := s.onLink fun l => { l with electDue := false }
      if !s.eligible then s
      else if s.link.claimed then (if s.link.best = some s.ownClaim then s.becomeRoot else s)
      else
        let own := s.ownClaim
        let best := match s.link.best with
          | some b => if claimGe own b then own else b
          | none => own
        (s.onLink fun l => { l with claimed := true, best := some best }).flood 5 0 (claimValue own))

/-- R338: an event frame of TYPE `type` arrives on a used port and goes on to the others; `act` is what it does. -/
def State.eventIn (type p : Nat) (f : List Byte) (act : List Byte → State → State) (s : State) : State :=
  match frameBody sofEvent 16 f with
  | none => s
  | some b =>
    if u b 0 1 ≠ type ∨ !s.flag Fld.Link.LINK_EN ∨ !(s.linkPort p).used then s
    else
      let s := s.onLink fun l => { l with eventsRx := satAdd 0xFFFFFFFF l.eventsRx 1 }
      act b (s.sendOn (fun q _ => q ≠ p) f)

/-- R462, R463: the event entry of a link FAULT, DROP or BREAK. -/
def State.linkEntry (kind : Nat) (b : List Byte) (s : State) : State :=
  let code := if kind = 1 then u b 2 2 else 0
  s.log
    { code := code, sev := (severity code).getD 0, kind := kind,
      parent := (s.flt.running.map (·.seq)).getD 0xFFFFFFFF, node := u b 1 1, ch := 0xFF, slot := 0xFF,
      flags := s.entryFlags, data := b }

/-- R338: a FAULT of another node. -/
def execFaultEvent (p : Fin 3) (f : List Byte) (s : State) : Host.Outcome State Fault Refusal :=
  .next (s.eventIn 1 p.val f (fun b s => s.linkEntry 1 b))

/-- R344: supply at risk at another node, in place of what it said before, from the next share frame on. -/
def execDropEvent (p : Fin 3) (f : List Byte) (s : State) : Host.Outcome State Fault Refusal :=
  .next (s.eventIn 2 p.val f fun b s =>
    let s := s.linkEntry 2 b
    s.onLink fun l => { l with risk := (l.risk.filter fun r => r.1 ≠ u b 1 1 || r.2.2 ≠ 0) ++ [(u b 1 1, u b 4 4, 0)] })

/-- R344: the supply is no longer at risk. -/
def execDropClearEvent (p : Fin 3) (f : List Byte) (s : State) : Host.Outcome State Fault Refusal :=
  .next (s.eventIn 3 p.val f fun b s =>
    s.onLink fun l =>
      { l with
        risk := (l.risk.filter fun r => r.1 ≠ u b 1 1 || r.2.2 ≠ 0).map fun r => if r.1 = u b 1 1 then (r.1, r.2.1, 2) else r })

/-- R336, R347: a used port of another node went down. -/
def execBreakEvent (p : Fin 3) (f : List Byte) (s : State) : Host.Outcome State Fault Refusal :=
  .next (s.eventIn 4 p.val f fun b s =>
    ((s.linkEntry 3 b).onLink fun l => { l with flight := l.flight.map fun x => (x.1, x.2.1, false) }).wrap)

/-- R333: the claim of the root that this node follows, as the last decision and the node table give it. -/
def State.rootClaim (s : State) : Bool × Nat :=
  (s.link.table.any fun e => e.addr = s.link.rootAddr && bitOf e.flags 4, s.link.rootAddr)

/-- R333, R337: a claim better than that of the root that this node follows, and that still sends, comes from a plant that it
joins (DEDUCED, log entry 103). -/
def State.joins (s : State) (c : Bool × Nat) : Bool :=
  let own := if s.link.role = 2 then s.ownClaim else s.rootClaim
  s.link.role ≠ 0 && s.link.missedRun = 0 && own.2 ≠ 0 && claimGe c own && c ≠ own

/-- R332, R333: a claim goes on only if it is at least as good as the best seen; a root that sees a better one stops
originating at its next share tick, and answers a worse one with its own. -/
def execRootClaim (p : Fin 3) (f : List Byte) (s : State) : Host.Outcome State Fault Refusal :=
  .next (
    match frameBody sofEvent 16 f with
    | none => s
    | some b =>
      if u b 0 1 ≠ 5 ∨ !s.flag Fld.Link.LINK_EN ∨ !(s.linkPort p.val).used then s
      else
        let s := s.onLink fun l => { l with eventsRx := satAdd 0xFFFFFFFF l.eventsRx 1 }
        let c : Bool × Nat := (bitOf (u b 4 4) 0, u b 5 1)
        let best : Option (Bool × Nat) := if s.link.role = 2 then some s.ownClaim else s.link.best
        let s := if s.joins c then s.onLink fun l => { l with joining := 1 } else s
        if (best.map (claimGe c)).getD true then
          let s := s.sendOn (fun q _ => q ≠ p.val) f
          if s.link.role = 2 then s.onLink fun l => { l with yielding := c ≠ s.ownClaim }
          else s.onLink fun l => { l with best := some c }
        else if s.link.role = 2 ∧ !s.link.yielding then s.flood 5 0 (claimValue s.ownClaim)
        else s)

/-- R327: the plant goes to generation 1. -/
def execGen1Event (p : Fin 3) (f : List Byte) (s : State) : Host.Outcome State Fault Refusal :=
  .next (s.eventIn 6 p.val f fun _ s => if s.link.gen = 1 then s else (s.retrain fun _ => false).raise 0x0D0A)

/-- R329, R337: the neighbour's IDENT on a port, with the round trip measured and the neighbour's own path delay. It
travels one hop only. -/
def execIdent (p : Fin 3) (f : List Byte) (roundNs upNs : Nat) (s : State) : Host.Outcome State Fault Refusal :=
  .next (
    match frameBody sofEvent 16 f with
    | none => s
    | some b =>
      if u b 0 1 ≠ 7 ∨ !s.flag Fld.Link.LINK_EN ∨ (s.linkPort p.val).line = .down then s
      else
        let s := s.onLink fun l => { l with eventsRx := satAdd 0xFFFFFFFF l.eventsRx 1 }
        let path := upNs + roundNs / 2 + s.link.tHop
        let s := s.onPort p.val fun c => { c with peer := some (u b 4 1 % 4, u b 5 3), delay := roundNs / 2, path := path }
        if (s.linkPort p.val).use = .toRoot then s.onLink fun l => { l with pathDelay := path } else s)

/-- R350: TOPO as this node sees it. -/
def State.topo (s : State) : Nat :=
  let l := s.link
  let parents := (l.table.filter fun e => e.depth ≠ 0).map (·.parent)
  if l.usedPorts.isEmpty then 0
  else if l.wrapped then 3
  else if s.inRing then 2
  else if (1 ∈ l.usedPorts ∧ 2 ∈ l.usedPorts) ∨ parents.dedup.length < parents.length then 4
  else 1

/-- R350: a node and its ancestors toward the head, as the enumeration table has them. -/
def ancestors (t : List NodeEnt) : Nat → Nat → List Nat
  | 0, a => [a]
  | n + 1, a =>
    match t.find? fun e => e.addr = a with
    | some e => if e.parent = 0 then [a] else a :: ancestors t n e.parent
    | none => [a]

/-- R350: the hops between two nodes along the path tree: up to their first common ancestor and down again. -/
def hops (t : List NodeEnt) (a b : Nat) : Nat :=
  let x := ancestors t t.length a
  let y := ancestors t t.length b
  match x.find? fun n => n ∈ y with
  | some n => x.idxOf n + y.idxOf n
  | none => 0

/-- R350: DEPTH: the hops from the root, 0 while none is known. -/
def Link.hopsUp (l : Link) : Nat := if l.rootAddr = 0 ∨ l.role = 2 then 0 else hops l.table l.nodeAddr l.rootAddr

/-- LINK_STATUS (R350). -/
def State.linkStatus (s : State) : List Byte :=
  let l := s.link
  let gen := if l.gen = 1 ∨ !s.flag Fld.Link.GEN2_EN then 1 else 2
  r1 l.nodeAddr ++ r1 l.rootAddr ++ r1 l.role ++ r1 gen ++ r1 s.topo ++
    r1 (if s.flag Fld.Link.PLANT_CAP then l.capping else 1) ++ r1 l.table.length ++ r1 l.hopsUp ++
    r2 (s.fld Fld.Link.SHARE_US) ++ r2 l.pathDelay ++ r4 (if l.role = 2 then l.tLoop else 0) ++
    ((List.range 3).map fun p => byte ((s.linkPort p).line.code + 4 * (s.linkPort p).use.code)) ++ r1 0 ++ r4 l.missed ++
    r4 l.late ++ r4 l.eventsRx ++ r8 l.tRole

def execLinkStatus (o : Origin) (p : List Byte) (s : State) : Host.Outcome State Fault Refusal :=
  .next (s.report o 0x0D01 (param p.isEmpty) State.linkStatus)

/-- R351: the enumeration table; the root flag is that of the last decision's root (R350). -/
def execNodeTable (o : Origin) (p : List Byte) (s : State) : Host.Outcome State Fault Refusal :=
  .next (s.report o 0x0D02 (param p.isEmpty) fun s =>
    let t := s.link.table.mergeSort fun a b => a.addr ≤ b.addr
    let root (e : NodeEnt) : Bool := e.addr = s.link.rootAddr
    byte t.length :: t.flatMap fun e => [byte e.addr, byte e.depth, byte (b2n (root e) + 2 * (e.flags / 2)), byte e.parent])

def execCapStatus (o : Origin) (p : List Byte) (s : State) : Host.Outcome State Fault Refusal :=
  .next (s.report o 0x0D04 (param p.isEmpty) State.capStatus)

/-- R331: the next free address. -/
def freeAddr (taken : List Nat) : Nat := ((List.range' 1 239).find? fun a => a ∉ taken).getD 0

/-- R331: one visited node takes its address: the pinned one, the one it holds, or the next free one. The later of two
claimants of one address gets a new one. `keep` is false when every unpinned node is renumbered. -/
def visitAddr (keep : Bool) (pins taken done : List Nat) (v : Visit) : Nat × Bool :=
  let want := if v.pin ≠ 0 then v.pin else if keep then v.addr else 0
  if want ≠ 0 ∧ want ∉ done then (want, false) else (freeAddr (pins ++ taken ++ done), decide (want ≠ 0))

/-- R331: the visit in order: every node's address and whether it lost a conflict. -/
def visitAll (keep : Bool) (vs : List Visit) : List (Nat × Bool) :=
  let pins := (vs.map (·.pin)).filter (· ≠ 0)
  let held := if keep then (vs.map (·.addr)).filter (· ≠ 0) else []
  vs.foldl (fun out v => out ++ [visitAddr keep pins held (out.map (·.1)) v]) []

/-- R331: this node as the visit finds it, with `k` nodes visited before it. -/
def State.ownVisit (s : State) (k : Nat) : Visit :=
  { addr := s.link.nodeAddr, pin := s.fld Fld.Link.PIN_ADDR, capable := s.flag Fld.Link.ROOT_CAPABLE, gen2 := s.link.gen = 2,
    strap := s.sys.root, up := if k = 0 then 0 else 1 + Config.visitUp s.free % k }

/-- The nodes in visiting order and the place of this node among them. With no used port there is no other node; what
the visit finds at other nodes is a free value (DESIGN CHOICE, log entry 18). -/
def State.visits (s : State) : List Visit × Nat :=
  if s.link.usedPorts.isEmpty then ([s.ownVisit 0], 0)
  else
    let others := (Config.visit s.free).2.take 238
    let k := if (s.linkPort 0).used then min (Config.visit s.free).1 others.length else 0
    (others.take k ++ [s.ownVisit k] ++ others.drop k, k)

/-- Places of a visited node's ancestors, its own first: it is `up` places after its parent. -/
def depthOf (vs : List Visit) : Nat → Nat → Nat
  | 0, _ => 0
  | n + 1, k =>
    let b := ((vs[k]?).map (·.up)).getD 0
    if b = 0 ∨ k < b then 0 else 1 + depthOf vs n (k - b)

/-- R331, R351: enumeration fills the table and gives this node its address.
(DESIGN CHOICE, log entry 18; DEDUCED, log entry 105.) -/
def State.enumerate (keep : Bool) (s : State) : State :=
  let vs := s.visits.1
  let k := s.visits.2
  let got := visitAll keep vs
  let addr (j : Nat) : Nat := (got[j]?.map (·.1)).getD 0
  let ents := (List.range vs.length).map fun j =>
    let v := vs[j]?.getD (s.ownVisit k)
    let a := addr j
    { addr := a, depth := depthOf vs vs.length j, parent := if v.up = 0 ∨ j < v.up then 0 else addr (j - v.up)
      flags := bitsOf [decide (a = s.link.rootAddr ∧ a ≠ 0), v.capable, decide (v.pin ≠ 0), v.gen2, v.strap] : NodeEnt }
  let ring : Bool := !s.link.usedPorts.isEmpty && Config.ring s.free
  let s := (s.onLink fun l => { l with nodeAddr := addr k, table := ents, ring := ring }).drew
  if (got[k]?.map (·.2)).getD false then s.raise 0x0D06 else s

/-- R352: ENUMERATE; it may not go to a group or to all nodes (DEDUCED, log entry 105). -/
def execEnumerate (o : Origin) (p : List Byte) (s : State) : Host.Outcome State Fault Refusal :=
  .next (s.run o 0x0D03 2
    (paramState (p.length = 2 && (u p 0 1 = 1 || u p 0 1 = 2) && u p 1 1 = 0 && !o.fanned)
      (s.flag Fld.Link.LINK_EN && !s.link.claimed && s.link.best.isNone))
    fun s => (.done st.ok [], s.enumerate (u p 0 1 = 1)))

end Sys2Proof.Machine
end

