-- ==== Sys2Proof/Machine/Thermal.lean ====
section
/-! DEFINITION. Thermal management (chapter 17): sensors, the shutdown vote, the throttle, the bands and the fans. -/

namespace Sys2Proof.Machine

/-- R439: a window's reading lies outside −55.0 to +175.0 °C. -/
def outOfRange (t : Int) : Bool := t < -550 || 1750 < t

/-- R438–R440: a sensor's window: its last 100 windows, or broken for good. -/
def Sensor.window (t : Int) (c : Sensor) : Sensor :=
  if c.broken || outOfRange t then { win := [], broken := true } else { c with win := (t :: c.win).take 100 }

/-- R438, R439: the telemetry channel of a sensor, 208–227. -/
def State.sensorTel (j : Nat) (s : State) : State :=
  let c := s.therm.sens[fin 20 j]
  let bad : Bool := c.broken || s.sensorAbsent j
  let v : Int := if s.sensorAbsent j then -32768 else if c.broken then 2000 else c.win.head?.getD 0
  let s := s.measure (208 + j) v
  if bad then s.onMeas fun m => { m with tel := upd m.tel (fin 256 (208 + j)) fun t => { t with invalid := true } } else s

/-- R438, R439: a window of one sensor closes. -/
def State.sensorWindow (j : Nat) (t : Int) (s : State) : State :=
  let was := (s.therm.sens[fin 20 j]).broken
  let s :=
    if s.sensorAbsent j then
      s.onTherm fun h => { h with sens := upd h.sens (fin 20 j) fun _ => { win := [], broken := false } }
    else s.onTherm fun h => { h with sens := upd h.sens (fin 20 j) (Sensor.window t) }
  let s := s.sensorTel j
  if (s.therm.sens[fin 20 j]).broken ∧ !was then s.raise 0x1101 j else s


/-- R438–R442: a 10 µs window of every sensor closes: readings, T_HOT, the band, and the cooling of zones that are shut
down. -/
def State.thermalWindow (temps : Vector Int 20) (s : State) : State :=
  let s := s.each (List.range 20) fun j s => s.sensorWindow j temps[fin 20 j]
  let s := s.onTherm fun h => { h with tHot := (s.hottest (List.range 20)).getD h.tHot }
  let s := s.ctrlBand
  s.onTherm fun h =>
    { h with zone := Vector.ofFn fun z =>
        let x := h.zone[z]
        { x with coolSince := if x.shut && !s.zoneAt 1250 z.val then some (x.coolSince.getD s.now) else none } }

def execThermalWindow (temps : Vector Int 20) (s : State) : Host.Outcome State Fault Refusal := .next (s.thermalWindow temps)

/-- R443: varnish item 0x0004: the lifetime counts. -/
def Therm.item (t : Therm) : List Byte :=
  toLE 2 t.life.1 ++ toLE 2 t.life.2.1 ++ toLE 2 t.life.2.2.1 ++ toLE 2 t.life.2.2.2

/-- R441: a feed port at a control-die shutdown (DEDUCED, log entry 122). -/
def State.portHeat (n : Nat) (s : State) : State :=
  let stays : Bool := s.flag Fld.Feed.AUTO_ON n && (s.portCh n).enable
  let to_ : PState := if stays then .wait else .off
  match (s.portCh n).st with
  | .absent | .latched => s
  | _ =>
    let s := s.onPortCh n fun c => { c with enable := stays }
    if (s.portCh n).st = to_ then s else s.portTo n to_

/-- R441: a string at a control-die shutdown (DEDUCED, log entry 122). -/
def State.strHeat (k : Nat) (s : State) : State :=
  let was := (s.strCh k).st
  if was = .matching ∨ was = .cold ∨ was = .connected ∨ was = .chargeOnly ∨ was = .test then
    (s.strTo k .opened true).testLeave k was
  else s

/-- R441: an auxiliary input at a control-die shutdown. -/
def State.auxHeat (k : Nat) (s : State) : State :=
  match (s.auxCh k).st with
  | .off | .disabled | .absent | .fault | .latched => s
  | _ => s.auxTo k .absent

/-- R441: the control die's power stages stop (DEDUCED, log entry 122). -/
def State.ctrlStop (s : State) : State :=
  let s := s.each ((List.range 15).map (· + 1)) fun k s => s.domOff k false
  let s := s.each (List.range 24) State.portHeat
  let s := s.each [0, 1] State.strHeat
  let s := s.each [0, 1] State.auxHeat
  let s := s.each [0, 1] State.pdShutdown
  let s := s.each [0, 1] fun k s => (s.stopAssert k).onRectCh k fun c => { c with sr := false }
  s.seqPreempt.onSeq fun q => { q with seqOut := false }

/-- R441, R443: zone C0–C3 votes hot. The third entry within 60 minutes latches. -/
def State.ctrlHeat (z : Nat) (s : State) : State :=
  let was := s.ctrlDown
  let s := s.onTherm fun h => { h with zone := upd h.zone (fin 5 z) fun _ => { shut := true, coolSince := none } }
  if was then s
  else
    let entries := recent s.now (sec 3600) s.therm.ctrlIn
    let latch : Bool := 3 ≤ entries.length
    let s := s.onTherm fun h =>
      { h with ctrlIn := entries, ctrlLatch := latch,
               life := (satAdd 0xFFFF h.life.1 1, satAdd 0xFFFF h.life.2.1 (b2n latch), h.life.2.2) }
    let s := s.ctrlStop.raise 0x1102
    let s := if latch then s.raise 0x1104 else s
    s.vWrite 4 s.therm.item

def execThermalShutdown (z : Fin 4) (s : State) : Host.Outcome State Fault Refusal :=
  .next (if s.zoneAt 1500 z.val ∧ !(s.therm.zone[fin 5 z.val]).shut then s.ctrlHeat z.val else s)

/-- R441, R443: zone M votes hot: both powered sections trip; the third entry within 60 minutes latches both channels.
(DEDUCED, log entry 124.) -/
def State.mainsHeat (s : State) : State :=
  let entries := recent s.now (sec 3600) s.therm.mainsIn
  let latch : Bool := s.therm.mainsLatch || 3 ≤ entries.length
  let new : Bool := latch && !s.therm.mainsLatch
  let s := s.onTherm fun h =>
    { h with
      zone := upd h.zone 4 fun _ => { shut := true, coolSince := none }, mainsIn := entries, mainsLatch := latch,
      life := (h.life.1, h.life.2.1, satAdd 0xFFFF h.life.2.2.1 1, satAdd 0xFFFF h.life.2.2.2 (b2n new)) }
  let s := s.each [0, 1] fun k s =>
    let c := s.rectCh k
    if c.powered ∧ (c.switching ∨ c.st = .qualify) then s.rectTrip k 0x070D else s
  let s := if new then
      let s := s.each [0, 1] fun k s =>
        if (s.rectCh k).st = .latched ∨ !s.flag Fld.Rect.PRESENT k then s else s.rectTo k .latched
      s.raise 0x1105
    else s
  s.vWrite 4 s.therm.item

/-- R166, R441: the hot vote of zone M. -/
def execMainsThermalTrip (s : State) : Host.Outcome State Fault Refusal :=
  .next (if s.zoneAt 1500 4 ∧ !(s.therm.zone[4]).shut then s.mainsHeat else s)

/-- R442: what the end of a control-die shutdown releases (DEDUCED, log entry 122). -/
def State.ctrlRelease (s : State) : State :=
  let s := s.settle fun a => a.code = 0x1102
  let s := s.each [0, 1] State.stopRelease
  let s := s.each [0, 1] fun k s => if (s.auxCh k).st = .absent ∧ (s.auxCh k).inWin then s.auxTo k .delay else s
  let s := s.each [0, 1] fun k s =>
    if (s.pdCh k).st = .errorRecovery then s.onPdCh k fun c => { c with tState := s.now } else s
  s.autoSeq

/-- R442: fewer than two sensors of the zone have read 125.0 °C for 100 ms. A latched die is not released (R443). -/
def execThermalShutdownEnd (z : Fin 5) (s : State) : Host.Outcome State Fault Refusal :=
  .next (
    match (s.therm.zone[z]).shut, (s.therm.zone[z]).coolSince with
    | true, some t =>
      let s := s.advanceTo (t + ms 100)
      let s := s.onTherm fun h => { h with zone := upd h.zone z fun _ => { shut := false, coolSince := none } }
      let latched : Bool := if z.val = 4 then s.therm.mainsLatch else s.therm.ctrlLatch
      if latched then s
      else
        let s := s.raise 0x1103
        if z.val = 4 ∨ s.ctrlDown then s else s.ctrlRelease
    | _, _ => s)

/-- R444: the throttle table's thresholds of a step. -/
def State.thrEnter (s : State) (n : Nat) : Int := i (s.table (s.palOld 6) 0x08 0) (4 + 12 * (n - 1)) 2
def State.thrExit (s : State) (n : Nat) : Int := i (s.table (s.palOld 6) 0x08 0) (6 + 12 * (n - 1)) 2

/-- R444: the step moves up, at most `n` places. -/
def State.stepUp (s : State) : Nat → Nat → Nat
  | 0, k => k
  | n + 1, k => if k < 8 ∧ s.thrEnter (k + 1) ≤ s.therm.tHot then s.stepUp n (k + 1) else k

/-- R444: the step moves down, at most `n` places. -/
def State.stepDown (s : State) : Nat → Nat → Nat
  | 0, k => k
  | n + 1, k => if 0 < k ∧ s.therm.tHot < s.thrExit k then s.stepDown n (k - 1) else k

/-- R148, R444: the throttle at a 10 µs tick, on the active bank's table. -/
def State.throttleTick (s : State) : State :=
  let s := s.adopt 6 0
  let old := s.therm.step
  let new := s.stepDown 8 (s.stepUp 8 old)
  if new = old then s
  else
    let s := s.onTherm fun h => { h with step := new, tStep := s.now }
    if old = 0 then s.raise 0x1107 else if new = 0 then s.raise 0x1108 else s

/-- R449: the temperature of a fan's source; none while it is broken or absent. -/
def State.fanSource (s : State) (m : Nat) : Option Int :=
  let src := s.fld Fld.Therm.SRC m
  let mains := (List.range 4).map (· + 16)
  if src = 0 ∨ (src = 1 ∧ mains.all s.sensorAbsent) then s.hottest (List.range 16)
  else if src = 1 then s.hottest mains
  else if src = 6 then s.hottest (List.range 20)
  else if (s.telOf (111 + src)).invalid then none else some (s.tel (111 + src))

/-- R449: T_HIGH − T_LOW of a fan, 0.1 °C. -/
def State.fanSpan (s : State) (m : Nat) : Nat := (s.fldI Fld.Therm.T_HIGH m - s.fldI Fld.Therm.T_LOW m).toNat

/-- R449: the duty by temperature, % × `fanSpan` (DEDUCED, log entry 123). -/
def State.fanDuty (s : State) (m : Nat) (t : Int) : Nat :=
  let d0 : Int := s.fld Fld.Therm.DUTY_MIN m
  let d1 : Int := s.fld Fld.Therm.DUTY_MAX m
  let w : Int := s.fanSpan m
  (max (d0 * w) (min (d1 * w) (d0 * w + (d1 - d0) * (t - s.fldI Fld.Therm.T_LOW m)))).toNat

/-- R449: COMPARE of a fan's channel for a duty of `num` / `den` %: a preload of the channel.
(DEDUCED, log entry 125.) -/
def State.fanDrive (m num den : Nat) (s : State) : State :=
  let v := rdiv (num * (s.fld Fld.Meas.PERIOD m + 1)) (100 * max 1 den)
  s.onCopy .meas2 m fun c => { c with live := Fld.Meas.COMPARE.set v c.live, easel := Fld.Meas.COMPARE.set v c.easel }

/-- R449: one fan's update; a fan that is not fitted holds its output low (DEDUCED, log entry 123). -/
def State.fanUpdate (m : Nat) (s : State) : State :=
  let f := s.therm.fan[fin 4 m]
  if !s.flag Fld.Therm.FITTED m then
    (s.onTherm fun h => { h with fan := upd h.fan (fin 4 m) fun f => { f with duty := 0, forced := false, stalled := false } }).fanDrive
      m 0 1
  else
    let src := s.fanSource m
    let t := src.getD f.tSrc
    let used := max t (min f.tUsed (t + s.fldI Fld.Therm.HYST m))
    let forced : Bool := 1 ≤ s.therm.step || f.stalled || src.isNone
    let den := if forced then 1 else s.fanSpan m
    let num := if forced then 100 else s.fanDuty m used
    (s.onTherm fun h =>
      { h with fan := upd h.fan (fin 4 m) fun f =>
          { f with duty := num / max 1 den, forced := forced, tUsed := used, tSrc := t } }).fanDrive m num den

/-- R449: the 100 ms update; until firmware ready the fans run at 100% (R52). -/
def execFanUpdate (s : State) : Host.Outcome State Fault Refusal :=
  .next (if s.sys.fwReady then s.each (List.range 4) State.fanUpdate else s)

/-- R450: the speed has been below STALL_RPM for `held` with the duty above 0. Firmware reports it. -/
def execFanStall (m : Fin 4) (held : Nat) (s : State) : Host.Outcome State Fault Refusal :=
  .next (
    let f := s.therm.fan[m]
    if s.sys.mode = .running ∧ s.flag Fld.Therm.FITTED m.val ∧ s.flag Fld.Therm.STALL_EN m.val ∧ !f.stalled ∧ 0 < f.duty ∧
        (s.meas.tach[m]).rpm < s.fld Fld.Therm.STALL_RPM m.val ∧ sec (s.fld Fld.Therm.STALL_S m.val) ≤ held then
      let s := s.onTherm fun h =>
        { h with fan := upd h.fan m fun f => { f with stalled := true, duty := 100, forced := true } }
      (s.fanDrive m.val 100 1).raise 0x1106 m.val
    else s)

/-- R450: the speed has held at or above STALL_RPM for `held`. -/
def execFanStallClear (m : Fin 4) (held : Nat) (s : State) : Host.Outcome State Fault Refusal :=
  .next (
    if s.sys.mode = .running ∧ (s.therm.fan[m]).stalled ∧ s.fld Fld.Therm.STALL_RPM m.val ≤ (s.meas.tach[m]).rpm ∧
        sec (s.fld Fld.Therm.STALL_S m.val) ≤ held then
      s.onTherm fun h => { h with fan := upd h.fan m fun f => { f with stalled := false } }
    else s)

/-- THERMAL_STATUS (R453). -/
def execThermalStatus (o : Origin) (p : List Byte) (s : State) : Host.Outcome State Fault Refusal :=
  .next (s.report o 0x1101 (param p.isEmpty) State.thermalStatus)

/-- R454: one fan's entry. -/
def State.fanEntry (s : State) (m : Nat) : List Byte :=
  let f := s.therm.fan[fin 4 m]
  r1 f.duty ++ r1 (bitsOf [s.flag Fld.Therm.FITTED m, f.stalled, f.forced]) ++ r2 (min 0xFFFF (s.meas.tach[fin 4 m]).rpm) ++
    ri2 f.tSrc ++ r2 0

/-- FAN_STATUS (R454). -/
def execFanStatus (o : Origin) (p : List Byte) (s : State) : Host.Outcome State Fault Refusal :=
  .next (s.report o 0x1102 (param p.isEmpty) fun s => (List.range 4).flatMap s.fanEntry)

end Sys2Proof.Machine
end

