-- ==== Sys2Proof/Machine/Sketch.lean ====
section
/-! DEFINITION. The sketchbook recorder (chapter 18): history, captures, scrub, streams and the SKB commands. -/

namespace Sys2Proof.Machine

/-- R460: a value saturated at the limits of an unsigned or signed field of `n` bytes. -/
def satU (n : Nat) (v : Int) : List Byte := toLE n (min (2 ^ (8 * n) - 1) v.toNat)
def satI (n : Nat) (v : Int) : List Byte := toLEi n (max (-(2 ^ (8 * n - 1) : Nat)) (min ((2 ^ (8 * n - 1) - 1 : Nat) : Int) v))

/-- R22, R413: the snapshot is latched, and the second's own accumulators take it. -/
def Tel.latch (t : Tel) : Tel :=
  let v := t.latest
  { t with
    snap := v, hMin := if t.hCnt = 0 then v else min t.hMin v, hMax := if t.hCnt = 0 then v else max t.hMax v,
    hSum := t.hSum + v, hCnt := t.hCnt + 1 }

/-- R323: a port's part of the snapshot. -/
def PortCh.latch (c : PortCh) : PortCh := { c with snapE := c.energy, snapSt := c.st, snapCls := c.cls }

/-- R22, R323, R413 (DEDUCED, log entry 57). -/
def State.latch (s : State) : State :=
  (s.onMeas fun m => { m with tel := m.tel.map Tel.latch }).onFeed fun f => { f with ch := f.ch.map PortCh.latch }

/-- R460, R461: what a second gathers at each 10 µs tick beside the channels. -/
def State.histTick (s : State) : State :=
  let rms (k : Nat) : Nat × Nat :=
    let x := s.skb.hist.rms.getD k (0, 0)
    (x.1 + (s.rectCh k).rms, x.2 + 1)
  s.onSkb fun k =>
    { k with hist :=
        { k.hist with
          level := max k.hist.level s.link.level, step := max k.hist.step s.therm.step,
          hold := k.hist.hold || (s.sys.mode = .hold || s.sys.mode = .holdOnly),
          rms := [rms 0, rms 1],
          dom := (List.range 16).map fun d => k.hist.dom.getD d 0 ||| ((s.domStatus d).getD 1 0).toNat } }

/-- R460: PLANT gathers at each share tick. -/
def State.histShare (s : State) : State :=
  let f := s.link.fig
  let add := [f.sSrc, f.sBatt, f.d, s.link.head / 1000]
  s.onSkb fun k =>
    { k with hist :=
        { k.hist with plant := (List.range 4).map fun j => k.hist.plant.getD j 0 + add.getD j 0, ticks := k.hist.ticks + 1 } }

/-- The second's minimum, maximum and mean of a channel. -/
def State.hMin (s : State) (c : Nat) : Int := if (s.telOf c).hCnt = 0 then s.snap c else (s.telOf c).hMin
def State.hMax (s : State) (c : Nat) : Int := if (s.telOf c).hCnt = 0 then s.snap c else (s.telOf c).hMax
def State.hMean (s : State) (c : Nat) : Int :=
  if (s.telOf c).hCnt = 0 then s.snap c else (s.telOf c).hSum / ((s.telOf c).hCnt : Int)

/-- R461: the value of the largest magnitude. -/
def State.hPeak (s : State) (c : Nat) : Int := if (s.hMax c).natAbs < (s.hMin c).natAbs then s.hMin c else s.hMax c

/-- R461: a rectifier's entry. -/
def State.histRect (s : State) (k : Nat) : List Byte :=
  let c := s.rectCh k
  let r := s.skb.hist.rms.getD k (0, 0)
  r1 c.st.code ++ [(s.rectStatus k).getD 1 0] ++ satU 2 (r.1 / max 1 r.2 / 100 : Nat) ++ satU 2 (s.hMin (139 + 8 * k) / 100) ++
    satU 2 (s.hMean (202 + k) / 1000) ++ satU 2 (s.pAvail k / 1000 : Nat) ++
    satU 2 (if c.half = 0 then 0 else 5000000000 / c.half : Nat)

/-- R461: a source's entry: an auxiliary input or a PD port. -/
def State.histSource (s : State) (st flags : Byte) (c : Nat) : List Byte :=
  [st, flags] ++ satU 2 (s.hMean c / 10) ++ satI 2 (s.hMean (c + 1) / 10) ++ satI 2 (s.hPeak (c + 1) / 10)

/-- R461: a string's entry. -/
def State.histString (s : State) (k : Nat) : List Byte :=
  let c := s.strCh k
  let i := 98 + 2 * k
  satU 2 (s.hMean (97 + 2 * k) / 10) ++ satI 2 (s.hMean i / 10) ++ satI 2 (s.hMin i / 10) ++ satI 2 (s.hMax i / 10) ++
    r2 (((s.gaugeCh k).rep.map fun r => r / 100).getD 0xFFFF) ++ satI 2 ((s.tBat k).getD (-32768)) ++
    r1 c.st.code ++ r1 c.chg.code ++ r1 c.ps ++ r1 c.limit ++ satI 4 ((s.telOf (200 + k)).hE / 100000000) ++ zeros 4

/-- R461: a domain's entry. -/
def State.histDom (s : State) (k : Nat) : List Byte :=
  satU 2 (s.hMin (80 + k)) ++ satU 2 (s.hMax (80 + k)) ++ satI 2 (s.hMean (184 + k) / 10) ++ satI 2 (s.hMax (184 + k) / 10) ++
    r1 (s.domCh k).st.code ++ r1 (s.skb.hist.dom.getD k 0) ++ r1 (maskBits 32 (s.activeMask k)).length ++ r1 0

/-- R461: a port's entry (DEDUCED, log entry 128). -/
def State.histPort (s : State) (n : Nat) : List Byte :=
  let c := s.portCh n
  satI 2 (s.hMean n / 10) ++ satI 2 (s.hMax n / 10) ++ satU 2 (s.hMin (24 + n) / 10) ++ r1 c.st.code ++ r1 (min 255 c.trips) ++
    satU 4 ((s.telOf (160 + n)).hE / 100000000)

/-- R412: a channel number that names a quantity and holds no valid value. -/
def State.someInvalid (s : State) : Bool := (List.range 256).any fun c => telNamed c && (s.telOf c).invalid

/-- R460: the history record of the second that ends now; GAP is filled when it is written (R459).
(DEDUCED, log entry 128.) -/
def State.histRecord (s : State) : List Byte :=
  let h := s.skb.hist
  let mean (j : Nat) : List Byte := satU 2 (h.plant.getD j 0 / max 1 h.ticks / 1000 : Nat)
  withCrc32 (padTo 1020 (
    toLE 4 s.skb.histSeq ++ toLE 4 s.sys.porCount ++ toLE 8 s.now ++
    r2 (bitsOf [h.hold, s.sys.safe, false, h.loaded, s.sys.rcClock, s.someInvalid]) ++
    r1 s.bus.st.code ++ r1 h.level ++ r1 h.step ++ r1 s.seq.st.code ++ r2 (min 0xFFFF s.skb.evSecond) ++
    toLE 4 (s.skb.evSeq - 1) ++ toLE 4 0 ++
    satU 2 (s.hMin 96 / 10) ++ satU 2 (s.hMax 96 / 10) ++ satU 2 (s.hMean 96 / 10) ++ zeros 2 ++
    s.histRect 0 ++ s.histRect 1 ++
    s.histSource (byte (s.auxCh 0).st.code) 0 101 ++ s.histSource (byte (s.auxCh 1).st.code) 0 103 ++
    s.histSource (byte (s.pdCh 0).st.code) ((s.pdStatus 0).getD 1 0) 105 ++
    s.histSource (byte (s.pdCh 1).st.code) ((s.pdStatus 1).getD 1 0) 107 ++
    mean 0 ++ mean 1 ++ mean 2 ++ mean 3 ++ satU 2 (s.hMin 117 / 10) ++ satU 2 (s.hMin 118) ++
    s.histString 0 ++ s.histString 1 ++ zeros 4 ++
    (List.range 16).flatMap s.histDom ++ (List.range 24).flatMap s.histPort ++
    ((List.range 20).flatMap fun j => satI 2 (s.hMax (208 + j))) ++
    ((List.range 8).flatMap fun j => satI 2 (s.tel (109 + j))) ++
    ((List.range 4).flatMap fun j => satU 2 (s.tel (204 + j)))))

/-- A second begins: its accumulators are cleared. -/
def State.histClear (s : State) : State :=
  let s := s.onMeas fun m => { m with tel := m.tel.map fun t => { t with hMin := 0, hMax := 0, hSum := 0, hCnt := 0, hE := 0 } }
  s.onSkb fun k => { k with hist := HistAcc.none, evSecond := 0 }

/-- R459: a record joins the queue of 1,024, displacing the oldest while it is full. -/
def State.histPut (r : List Byte) (s : State) : State :=
  let full : Bool := 1024 ≤ s.skb.histQ.length
  let first : Bool := full && s.skb.gap = 0
  let s := s.onSkb fun k =>
    { k with
      histSeq := k.histSeq + 1, histQ := (if full then k.histQ.drop 1 else k.histQ) ++ [r]
      gap := if full then k.gap + 1 else k.gap }
  let s := if first then s.raise 0x1208 else s
  let queued (j : Job) : Bool := j.op = .history
  if s.skb.waiting.any queued ∨ s.skb.running.any queued then s else s.enqueue .history none

/-- R459: the end of a second of the timebase. -/
def execHistoryRecord (s : State) : Host.Outcome State Fault Refusal :=
  .next (
    if s.sys.por then s
    else
      let s := s.advanceTo ((s.now + 99999999) / 100000000 * 100000000)
      let s := if s.flag Fld.Skb.HIST_EN then s.histPut s.histRecord else s
      s.histClear.pump)

/-- R468: one sample of a channel. -/
def State.sample (s : State) (c : Nat) : Int :=
  if (s.telOf c).invalid then -32768
  else max (-32768) (min 32767 (s.tel c / (2 ^ capShift c : Nat)))

/-- R466: an area takes a sample; before a trigger it holds the newest 8,192. -/
def State.areaSample (s : State) (a : Area) : Area :=
  let xs := a.samples ++ [a.chans.map s.sample]
  { a with
    samples := if a.phase = .recording then xs.drop (xs.length - 8192) else xs.take 8192
    tLast := if a.phase = .triggered ∧ 8192 ≤ a.samples.length then a.tLast else s.now }

/-- R466: an INTERVAL of the recording area passes. -/
def execCaptureSample (s : State) : Host.Outcome State Fault Refusal :=
  .next (
    match s.skb.areas.find? Area.isRecording with
    | none => s
    | some a =>
      let s := if a.samples.isEmpty then s else s.advanceTo (a.tLast + a.interval)
      s.onSkb fun k => { k with areas := k.areas.map fun x => if x.isRecording then s.areaSample x else x })

/-- R466: an area that holds its 8,192 samples freezes, and a free area takes over the recording. -/
def execCaptureFreeze (s : State) : Host.Outcome State Fault Refusal :=
  .next (
    let full (a : Area) : Bool := a.phase = .triggered && 8192 ≤ a.samples.length
    let j := s.skb.areas.findIdx full
    if j < s.skb.areas.length then
      let s := s.onSkb fun k => { k with areas := k.areas.modify j fun a => { a with phase := .frozen } }
      ((s.enqueue (.capture j) none).arm).pump
    else s)

/-- R133, R474: SCRUB_H of the band in force, in hours. -/
def State.scrubHours (s : State) : Nat := u (s.table (s.palOld 10) 0x02 2) (12 + 4 * s.therm.bandCtrl) 2

/-- R474: a scrub is scheduled SCRUB_H hours ahead, by the active bank (R148). -/
def State.scrubNext (s : State) : State :=
  let s := s.scrubAdopt
  s.onSkb fun k => { k with scrubDue := s.now + sec (3600 * s.scrubHours) }

/-- R474: SCRUB_H hours have passed. -/
def execScrubStart (s : State) : Host.Outcome State Fault Refusal :=
  .next (
    if s.sys.mode = .running ∧ !s.skb.failed ∧ !s.skb.scrub then
      let s := s.advanceTo s.skb.scrubDue
      (s.onSkb fun k => { k with scrub := true, scrubPos := 0, eccRun := 0, tSlice := s.now }).scrubNext
    else s)

/-- R458, R474: the sectors that the 10 ms of a slice can read, four in each page of 70 µs. -/
def sliceSectors : Nat := 568

/-- R474: a record or sample sector that cannot be corrected is lost: history by SEQ, events by the SEQ of the sector's
first entry, capture data by slot and sector, cards by CARD_SEQ. -/
def Skb.lose (x : Fin 4 × Nat) (k : Skb) : Skb :=
  if x.1 = 0 then { k with histRing := k.histRing.map fun r => if seqOf r = x.2 then lostRecord 1024 else r }
  else if x.1 = 1 then
    { k with evRing := k.evRing.map fun r => if x.2 ≤ seqOf r && seqOf r < x.2 + 16 then lostRecord 64 else r }
  else if x.1 = 2 then
    { k with slots := k.slots.map fun z =>
        if z.slot = x.2 / 1024 then
          let at_ := x.2 % 1024 * 1024
          { z with data := (z.data.take at_ ++ List.replicate 1024 0xFF ++ z.data.drop (at_ + 1024)).take z.data.length }
        else z }
  else { k with cards := k.cards.filter fun c => u c 20 4 ≠ x.2 }

/-- R474: a slice has read `sectors` sectors, with at most `bits` corrected in one, has found blocks with a sector of more than
24 corrected bits, `worn`, and lost some sectors; `last` ends the scrub. Slices start 100 ms apart or more.
(DESIGN CHOICE, log entry 145.) -/
def execScrubSlice (sectors bits : Nat) (worn : List (Fin 16192)) (lost : List (Fin 4 × Nat)) (last : Bool) (s : State) :
    Host.Outcome State Fault Refusal :=
  .next (
    if s.skb.scrub ∧ s.sys.mode = .running ∧ sectors ≤ sliceSectors then
      let s := s.advanceTo s.skb.tSlice
      let worn := if 24 < bits ∧ !s.sys.nandBar then worn else []
      let s := s.onSkb fun k => { k with
        scrubPos := k.scrubPos + sectors, eccRun := min 40 (max k.eccRun bits), tSlice := s.now + ms 100
        blk := worn.foldl (fun b l => b.relocate l.val) k.blk }
      let s := s.each lost fun x s => (s.onSkb (Skb.lose x)).raise 0x1204
      if last then s.onSkb fun k => { k with scrub := false, eccMax := k.eccRun, tScrub := s.now } else s
    else s)

/-- R477: 10 s without a STREAM_READ. -/
def execStreamTimeout (s : State) : Host.Outcome State Fault Refusal :=
  .next (
    if s.skb.stream.isSome then
      (s.advanceTo (s.skb.tStream + sec 10)).onSkb fun k => { k with stream := none }
    else s)

/-- SKB_STATUS (R479). -/
def execSkbStatus (o : Origin) (p : List Byte) (s : State) : Host.Outcome State Fault Refusal :=
  .next (s.report o 0x1201 (param p.isEmpty) State.skbStatus)

/-- R476: the records `first` to `first + n − 1` of a ring; a missing one reads 0xFF. A failed die reads nothing.
(DEDUCED, log entry 126.) -/
def ringRead (ring : List (List Byte)) (dead : Bool) (len first n : Nat) : List Byte :=
  (List.range n).flatMap fun j =>
    match if dead then none else ring.find? fun r => seqOf r = first + j with
    | some r => r
    | none => List.replicate len 0xFF

/-- R476, R477: what the open stream has still to send: records of a ring as they stand when they are sent. -/
def Skb.streamLeft (k : Skb) : List Byte :=
  match k.stream with
  | none => []
  | some x =>
    (match x.src with
      | 0 => ringRead k.histRing k.failed 1024 x.first x.n
      | 1 => ringRead k.evRing k.failed 64 x.first x.n
      | _ => x.data).drop x.pos

/-- R476: a range of records lies within those held. -/
def ringHolds (ring : List (List Byte)) (first n : Nat) : Bool :=
  match (readable ring).head?, (readable ring).getLast? with
  | some a, some b => 1 ≤ n && seqOf a ≤ first && first + n ≤ seqOf b + 1
  | _, _ => false

/-- R476: every card held, 256 bytes each: ascending BLOCK and CHANNEL, newest first (DEDUCED, log entry 126). -/
def Skb.cardData (k : Skb) : List Byte :=
  let key (c : List Byte) : Nat := 256 * u c 0 1 + u c 1 1
  (k.cards.mergeSort fun a b => key a ≤ key b).flatMap (padTo 256)

/-- R476: a capture's bytes within its data. -/
def dataHolds (d : List Byte) (first n : Nat) : Bool := first % 2 = 0 && n % 2 = 0 && first + n ≤ d.length && 1 ≤ n

/-- R476: the data of a read; none when it names what is not held (DEDUCED, log entry 126). -/
def State.skbData (s : State) (src slot first n : Nat) : Option (List Byte) :=
  let k := s.skb
  let cut (d : List Byte) : Option (List Byte) := if dataHolds d first n then some (sliceBytes d first n) else none
  match src with
  | 0 => if ringHolds k.histRing first n then some (ringRead k.histRing k.failed 1024 first n) else none
  | 1 => if ringHolds k.evRing first n then some (ringRead k.evRing k.failed 64 first n) else none
  | 2 => match k.slots.find? fun z => z.slot = slot ∧ z.state = 2 with
    | some z => cut (if k.failed then List.replicate z.data.length 0xFF else z.data)
    | none => none
  | 3 => if first = 0 ∧ n = 0 then some k.cardData else none
  | 4 => match k.areas[slot]? with
    | some a => if a.phase = .frozen ∨ a.phase = .committing then cut a.data else none
    | none => none
  | _ => none

/-- SKB_READ (R476, R477, R479) (DEDUCED, log entry 126). -/
def execSkbRead (o : Origin) (p : List Byte) (s : State) : Host.Outcome State Fault Refusal :=
  let d := s.skbData (u p 0 1) (u p 2 1) (u p 4 4) (u p 8 4)
  let stream : Bool := u p 1 1 = 1
  .next (s.run o 0x1202 0
    (paramState (p.length = 12 ∧ u p 1 1 ≤ 1 ∧ u p 3 1 = 0 ∧ d.isSome) (!stream || s.skb.stream.isNone)) fun s =>
      let bs := d.getD []
      if stream then
        let x : Stream :=
          { src := u p 0 1, first := u p 4 4, n := u p 8 4, data := if 2 ≤ u p 0 1 then bs else [], pos := 0,
            total := bs.length }
        (.done st.ok (toLE 4 bs.length), s.onSkb fun k => { k with stream := some x, tStream := s.now })
      else (.done st.ok (toLE 4 bs.length ++ bs), s))

/-- SKB_STREAM_STOP (R479). -/
def execSkbStreamStop (o : Origin) (p : List Byte) (s : State) : Host.Outcome State Fault Refusal :=
  .next (s.run o 0x1203 0 (paramState p.isEmpty s.skb.stream.isSome) fun s =>
    (.done st.ok [], s.onSkb fun k => { k with stream := none }))

/-- R469: the header of a slot with no capture. -/
def slotHeader (slot state : Nat) : List Byte := withCrc32 (padTo 252 ([0, 0, 0, 0] ++ [byte slot, byte state]))

/-- R469: the header of a slot: a capture that waits for it in SRAM, a committed or damaged one, or empty. -/
def State.captureInfo (s : State) (slot : Nat) : List Byte :=
  match s.skb.areas.find? fun a => a.slot = slot ∧ (a.phase = .triggered ∨ a.phase = .frozen ∨ a.phase = .committing) with
  | some a => s.capHeader a 1
  | none =>
    match s.skb.slots.find? fun z => z.slot = slot with
    | some z => if z.state = 2 then z.header else slotHeader slot z.state
    | none => slotHeader slot 0

/-- SKB_CAPTURE_INFO (R469, R479). -/
def execSkbCaptureInfo (o : Origin) (p : List Byte) (s : State) : Host.Outcome State Fault Refusal :=
  .next (s.report o 0x1204 (param (p.length = 2 ∧ u p 1 1 = 0)) fun s => s.captureInfo (u p 0 1))

/-- SKB_TRIGGER (R466, R479): it acts at the next 10 µs tick (DEDUCED, log entry 127). -/
def execSkbTrigger (o : Origin) (p : List Byte) (s : State) : Host.Outcome State Fault Refusal :=
  .next (s.run o 0x1205 1 (paramState p.isEmpty (s.flag Fld.Skb.CAP_EN)) fun s => (.later, s.await o 0x1205 0 0 []))

/-- R479: the waiting SKB_TRIGGERs at the 10 µs tick. -/
def State.skbTriggers (s : State) : State :=
  let ws := s.hif.waits.filter fun w => w.op = 0x1205
  let s := s.each ws fun _ s => s.raiseWith { force := true } 0x1211 blockWide
  s.wake (fun w => w.op = 0x1205) fun _ => (st.ok, [])

/-- SKB_MARK (R479): the reply gives the entry's SEQ (DEDUCED, log entries 127, 128). -/
def execSkbMark (o : Origin) (p : List Byte) (s : State) : Host.Outcome State Fault Refusal :=
  .next (s.run o 0x1206 1 (param (p.length = 32)) fun s =>
    let seq := s.skb.evSeq
    (.done st.ok (toLE 4 seq), s.raiseWith { mark := some p } 0x1210 blockWide))

/-- SKB_CLEAR (R479): the reply follows the erasure; with the die failed it is TIMEOUT (DEDUCED, log entry 127). -/
def execSkbClear (o : Origin) (p : List Byte) (s : State) : Host.Outcome State Fault Refusal :=
  .next (s.run o 0x1207 2 (param (p.length = 2 ∧ u p 0 1 < 16 ∧ u p 1 1 = 0x5A)) fun s =>
    if s.skb.failed then (.done st.timeout [], s)
    else (.later, (s.enqueue (.erase (u p 0 1)) (some ⟨o, 0x1207, []⟩)).pump))

/-- The recorder at firmware ready: metadata copies that are valid (R472, R475), captures that wait (R467), and the first
scrub. -/
def State.skbReady (meta_ : Nat) (s : State) : State :=
  let s := if s.skb.scrubDue = 0 then s.scrubNext else s
  let s := if meta_ = 0 then (if s.skb.failed then s else s.nandFail) else if meta_ = 1 then s.raise 0x1209 else s
  s.arm.pump

end Sys2Proof.Machine
end

