-- ==== Sys2Proof/Machine/Power.lean ====
section
/-! DEFINITION. Power-up, resets and the host-contact watchdog (chapter 3): power-on reset and HK12, straps, boot image
selection, pin, warm and cold reset, hold-mode restarts, and the block's commands. -/

namespace Sys2Proof.Machine

/-- R261: since when the energy gate of varnish writes has been open (DESIGN CHOICE, log entries 12, 33). -/
def State.gateWatch (s : State) : State :=
  (s.onVarn fun v => { v with openSince := if s.gateOpen then some (v.openSince.getD s.now) else none }).drew

/-- R53, R64: the last valid D0 boot record, or the defaults. -/
def Sys.lastRec (y : Sys) : BootRec := ((y.bootRecs.filter BootRec.valid).getLast?).getD BootRec.default

/-- R489: the fault queue is emptied. -/
def State.dropQueue (s : State) : State := s.onFlt fun f => { f with queue := [], running := none, susp := [] }

/-- R260, R457, R458, R469: what a NAND program cut short by power-on reset leaves: a torn varnish page, an invalid store copy,
a record or card that reads as never written, or a slot with data and no header (DEDUCED, log entry 28). -/
def State.tear (s : State) : State :=
  match s.skb.running with
  | none => s
  | some j =>
    match j.op with
    | .varnish id _ _ => (s.onItem id fun x => x.program x.target []).onSkb (Skb.skip 4)
    | .store area _ =>
      if area = 2 ∨ area = 3 then s.onPal fun p => { p with store := p.store.set! (area - 2) (some []) } else s
    | .card _ => s.onSkb (Skb.skip 1)
    | .history => s.onSkb (Skb.histAdd [lostRecord 1024])
    | .events => s.onSkb fun k => k.evAdd ((k.evBuf.take 16).map fun _ => lostRecord 64)
    | .capture a =>
      s.onSkb fun k =>
        let x := k.areas.getD a Area.free
        { k with slots := ⟨x.slot, 3, [], []⟩ :: k.slots.filter fun z => z.slot ≠ x.slot }
    | .erase _ | .move _ => s

/-- The value of a varnish item's newest copy, 0 with none. -/
def State.storedNat (s : State) (id n : Nat) : Nat := ((s.stored id).map fun d => u d 0 n).getD 0

/-- R29, R49, R57, R58: what power-on reset at `now` keeps of a rectifier channel: its section, where powered, with its
record, its line and its own qualification. A channel in AUTONOMOUS whose link has never been up runs on by itself; another
stops by the silence (R170). The timebase starts over, so what has run of each time is kept (DEDUCED, log entry 80). -/
def RectCh.porKeep (now : Nat) (c : RectCh) : RectCh :=
  let on : Bool := c.st = .autonomous && !c.bar.everUp
  if c.powered then
    { RectCh.reset with
      powered := true, st := if on then .autonomous else .off, relay := c.relay && on, llc := c.llc && on
      stRan := if on then c.stRan + (now - c.tState) else 0
      autoAt := c.autoAt.map (· - now), autoTimeouts := c.autoTimeouts
      qualFrom := c.qualFrom.map fun _ => 0
      qualRan := c.qualRan + (c.qualFrom.map fun t => now - t).getD 0, qualMs := c.qualMs
      burst := c.burst && on, primPct := if on then c.primPct else 100, rms := c.rms, rmsPrev := c.rmsPrev,
      peak := c.peak, half := c.half, bulk := c.bulk
      bar := { Barrier.reset with
        everUp := c.bar.everUp, secRec := c.bar.secRec, period := if on then c.bar.period else 0 } }
  else RectCh.reset

/-- R49: power-on reset with KEEP at `keep`: every control-die and NAND-die block is reset; what NAND and OTP hold, the
levels at the pins, and powered mains-die sections stay (DEDUCED, log entry 27). -/
def State.powerOn (keep : Nat) (s0 : State) : State :=
  let s := s0.tear
  { State.reset with
    pending := s.pending
    free := s.free
    sys := { Sys.reset with
      keepMv := keep, vioHost := s.sys.vioHost, vioPwm := s.sys.vioPwm, rstLow := s.sys.rstLow, porCount := s.sys.porCount,
      bootRecs := s.sys.bootRecs, boot := s.sys.lastRec, serial := s.sys.serial, installKey := s.sys.installKey,
        pubKey := s.sys.pubKey }
    cfg := { Cfg.reset with recs := recsReset s.sys.lastRec, save := s.cfg.save }
    pal := { Pal.reset with
      bank := Vector.replicate 2 { st := .empty, bytes := [] }, active := .builtIn, previous := .builtIn, mark := s.pal.mark
      store := s.pal.store }
    rect := { ch := s.rect.ch.map (RectCh.porKeep s.now) }
    bus := { Bus.reset with aux := s.bus.aux.map fun c => { AuxCh.reset with inWin := c.inWin, vin := c.vin } }
    str := { ch := s.str.ch.map fun c =>
      { StrCh.reset with chgPin := c.chgPin, chgOk := c.chgPin, dsgPin := c.dsgPin, dsgOk := c.dsgPin } }
    feed := { Feed.reset with ch := s.feed.ch.map fun c => { PortCh.reset with inWin := c.inWin } }
    varn := { items := s.varn.items.map fun x => { x with deferred := none }, openSince := none }
    pd := { ch := s.pd.ch.map fun c => { PdCh.reset with cc1 := c.cc1, cc2 := c.cc2 } }
    seq := { Seq.reset with seqIn := s.seq.seqIn, fltPin := s.seq.fltPin }
    therm := { Therm.reset with
      sens := Vector.ofFn fun j => { win := [], broken := decide (16 ≤ j.val) && (s.therm.sens[j]).broken } }
    skb := { Skb.reset with
      evSeq := s.skb.evSeq, evRing := s.skb.evRing, cardSeq := s.skb.cardSeq, cards := s.skb.cards, histSeq := s.skb.histSeq
      histRing := s.skb.histRing, capSeq := s.skb.capSeq, nextSlot := s.skb.nextSlot, slots := s.skb.slots
      blk := s.skb.blk }
    img := { Img.reset with
      area := s.img.area.map fun a => { a with st := if a.bytes.isEmpty then .empty else a.st }, active := s.img.active
      rollback := s.storedNat 2 4 } }

/-- POWER_ON_RESET (R49). -/
def execPowerOnReset (keepMv : Nat) (s : State) : Host.Outcome State Fault Refusal := .next (s.powerOn keepMv)

/-- R19: KEEP is at `mv`: the brown-out flag and the bar on sketchbook writes follow. -/
def State.setKeep (mv : Nat) (s : State) : State :=
  (s.onSys fun y => { y with keepMv := mv, brownOut := decide (mv < 9000), nandBar := decide (mv < 6000) }).gateWatch

/-- R16, R49, R506: the falling and the rising threshold of power-on reset, mV, each at the limit that the rules give for
every device (DESIGN CHOICE, log entry 132). -/
abbrev porMv : Nat := 4500
/-- DESIGN CHOICE, log entry 132. -/
abbrev porRiseMv : Nat := 4600

/-- POR_RELEASE (R16, R49–R51): the timebase starts at 0 and HK12 ramps; below the rising threshold the device stays in
reset. -/
def execPorRelease (keepMv : Nat) (s : State) : Host.Outcome State Fault Refusal :=
  .next (
    if s.sys.por ∧ porRiseMv ≤ keepMv then
      let s := s.onSys fun y => { y with por := false, hk := .ramp, tHk := y.time, strapDue := true, tRstOut := y.time }
      (s.onHif fun h => { h with mbx := { h.mbx with state := .busy } }).setKeep keepMv
    else s)

/-- HK12_GOOD (R50, R51): the boot ROM begins and D0 starts from its boot values (DESIGN CHOICE, log entries 3, 5). -/
def execHk12Good (s : State) : Host.Outcome State Fault Refusal :=
  .next (
    if s.sys.hk = .ramp then
      ((s.onSys fun y => { y with hk := .good, tHk := y.time }).onDomCh 0 fun c => { c with enable := true }).domTo 0 .check
    else s)

/-- HK12_TIMEOUT (R50) (DESIGN CHOICE, log entry 4). -/
def execHk12Timeout (s : State) : Host.Outcome State Fault Refusal :=
  .next (
    if s.sys.hk = .ramp then
      (s.advanceTo (s.sys.tHk + ms 10)).onSys fun y => { y with hk := .retryWait, tHk := y.time }
    else s)

/-- HK12_RETRY (R50): while KEEP stays above 4.5 V. -/
def execHk12Retry (s : State) : Host.Outcome State Fault Refusal :=
  .next (
    if s.sys.hk = .retryWait ∧ porMv < s.sys.keepMv then
      (s.advanceTo (s.sys.tHk + ms 100)).onSys fun y => { y with hk := .ramp, tHk := y.time }
    else s)

/-- KEEP_THRESHOLD_CROSS (R16, R19, R49): below the falling threshold the device is in power-on reset. -/
def execKeepThresholdCross (keepMv : Nat) (s : State) : Host.Outcome State Fault Refusal :=
  .next (
    if keepMv < porMv then s.powerOn keepMv
    else if s.sys.por then s.onSys fun y => { y with keepMv := keepMv }
    else (s.setKeep keepMv).pump)

/-- STRAP_SAMPLE (R45, R46): once HK12 has been good and VIO_HOST valid for 100 µs. -/
def execStrapSample (addr : Fin 8) (root : Bool) (s : State) : Host.Outcome State Fault Refusal :=
  .next (
    if s.sys.strapDue ∧ s.sys.vioHost ∧ s.sys.hk = .good then
      (s.advanceTo (s.sys.tVioHost + us 100)).onSys fun y =>
        { y with strapDue := false, sampled := true, addr := addr.val, root := root }
    else s)

/-- R54, R494: the boot ROM's verdict on an area: none for an empty one, else the first failing check (0 accepted). -/
def State.bootVerdict (s : State) (k : Fin 2) : Option Nat :=
  if (s.img.area[k]).st = .empty then none else some (s.imgCheck k)

/-- R55: no image is accepted: the boot loader runs and takes packets. -/
def State.bootLoader (s : State) : State :=
  let s := (s.onSys fun y => { y with mode := .bootLoader }).raise 0x1401
  s.onHif fun h => { h with mbx := h.mbx.clear }

/-- R54: the image `k` is accepted and becomes the booted image, loaded into SRAM; it ends 0x1401 (R490). -/
def State.bootAccept (k : Fin 2) (s : State) : State :=
  (s.onImg fun i => { i with booted := some k, sram := some k }).settle fun a => a.code = 0x1401

/-- R54: the boot ROM tries an area: a rejected image raises 0x1402; `next` is what follows without an image. -/
def State.bootTry (k : Fin 2) (next : State → State) (s : State) : State :=
  match s.bootVerdict k with
  | none => next s
  | some 0 => s.bootAccept k
  | some e => next (s.raiseWith { cause := e, image := k.val, value := u (s.img.area[k]).bytes 12 4 } 0x1402 blockWide)

/-- R54, R55: the active image, then the other; without a mark, A and then B (DEDUCED, log entry 20). -/
def State.bootSelect (s : State) : State :=
  let k := s.img.active.getD 0
  s.bootTry k fun s => s.bootTry (otherArea k) State.bootLoader

/-- BOOT_IMAGE_SELECT (R54): the boot ROM runs from HK12 good, and is held while RST_N is low (R60). -/
def execBootImageSelect (s : State) : Host.Outcome State Fault Refusal :=
  .next (
    if s.sys.mode = .bootRom ∧ s.sys.hk = .good ∧ !s.sys.rstLow ∧ s.img.booted.isNone then s.bootSelect else s)

/-- RST_OUT_RELEASE (R61) (DEDUCED, log entry 113). -/
def execRstOutRelease (s : State) : Host.Outcome State Fault Refusal :=
  .next (
    match s.sys.d0InWin with
    | some t =>
      if s.sys.rstOut then
        (s.advanceTo (max t s.sys.tRstOut + ms 20)).onSys fun y => { y with rstOut := false }
      else s
    | none => s)

/-- R60: the boot ROM starts over with a cause (DEDUCED, log entry 23). Until an image runs SYS_STATUS keeps the version of the
one that ran before (DEDUCED, log entry 23; DESIGN CHOICE, log entry 133). -/
def State.bootAgain (cause : Nat) (s : State) : State :=
  (s.onSys fun y =>
    { y with mode := .bootRom, cause := cause, tReset := y.time, flagStaged := false, flagFallback := false,
             wdRunning := false, fwReady := false, resetDue := none }).onImg fun i =>
    { i with booted := none, sram := none, download := 0 }

/-- PIN_RESET_ASSERT (R44, R60): hold mode while RST_N is low; before firmware ready the boot ROM is held; the power-down
sequence of a cold reset runs on (DEDUCED, log entries 24, 25). -/
def execPinResetAssert (s : State) : Host.Outcome State Fault Refusal :=
  .next (
    if s.sys.por ∨ s.sys.rstLow ∨ !s.sys.vioHost then s
    else
      let s := s.onSys fun y => { y with rstLow := true }
      match s.sys.mode with
      | .running => (s.enterHold 2 false).onSys fun y => { y with pinRestart := true }
      | .hold | .holdOnly =>
        s.onSys fun y => { y with mode := .hold, tHold := y.time, cause := 2, tReset := y.time, pinRestart := true }
      | .bootRom | .bootLoader => (s.dropOwed.bootAgain 2).onHif Hif.bootEntry
      | .coldReset => s)

/-- R519: a pin reset returns the host interfaces to their reset state; the options of HIF_CONFIG, the counters of
HIF_STATUS (R103) and what the bus has shown stay, and so do PAGE, WRITE_PROTECT and the status bits of the PMBus window, which
the rule does not name (DESIGN CHOICE, log entry 134). MBX_STATUS reports BUSY until firmware takes packets. -/
def Hif.pinReset (h : Hif) : Hif :=
  { Hif.reset with
    waits := h.waits.filter Wait.mute, opt := h.opt, optNext := h.optNext, tNotify := h.tNotify, tStart := h.tStart,
      members := h.members
    mbx := { Mbx.reset with state := .busy }
    pecErrors := h.pecErrors, timeouts := h.timeouts, nacks := h.nacks, notifies := h.notifies, cures := h.cures
    spiDiscards := h.spiDiscards, pmPage := h.pmPage, pmProtect := h.pmProtect, pm := h.pm, privFails := h.privFails
    lockout := h.lockout, linkOut := h.linkOut }

/-- R60, R61, R397: RST_OUT_N is asserted, absorbing a watchdog pulse that still runs, and the full boot of a cold reset begins;
HK12 is already good and the straps are sampled at its start (DEDUCED, log entries 22, 31). -/
def State.coldBoot (s : State) : State :=
  ((s.bootAgain 4).onSys fun y => { y with rstOut := true, tRstOut := y.time, strapDue := true }).onSeq fun q =>
    { q with pulse := none, wdArm := none, wdEdge := none }

/-- R60, R489, R519: RST_N is no longer low (DEDUCED, log entry 24). -/
def State.pinRelease (s : State) : State :=
  if !s.sys.rstLow ∨ s.sys.por then s.onSys fun y => { y with rstLow := false }
  else
    let s := s.onSys fun y => { y with rstLow := false, strapDue := true, wdTimeout := 0x3C }
    let s := ((s.onHif Hif.pinReset).onSkb fun k => { k with stream := none }).dropQueue
    match s.sys.mode with
    | .hold | .holdOnly =>
      (s.onSys fun y => { y with holds := y.holds.map fun h => (h.1, false), otherTried := false }).settle fun a => a.code = 0x0104
    | .bootRom | .bootLoader => s.bootAgain 2
    | .coldReset => if s.seq.coldDue then s else s.coldBoot
    | .running => s

/-- PIN_RESET_RELEASE (R60, R489, R519). -/
def execPinResetRelease (s : State) : Host.Outcome State Fault Refusal := .next s.pinRelease

/-- BANK_SUPPLY_CHANGE (R44): VIO_HOST (`host`) or VIO_PWM rises to 1.5 V (`valid`) or falls below it. A bank without its
supply ignores its inputs: RST_N no longer counts as low (DESIGN CHOICE, log entry 135). -/
def execBankSupplyChange (host valid : Bool) (s : State) : Host.Outcome State Fault Refusal :=
  let s' := s.onSys fun y =>
    if host then { y with vioHost := valid, tVioHost := if valid && !y.vioHost then y.time else y.tVioHost }
    else { y with vioPwm := valid }
  .next (if host && !valid && s.sys.rstLow then s'.pinRelease else s')

/-- R60: a cold reset begins: the processor stops and the power-down sequence runs (DEDUCED, log entry 22). -/
def State.coldReset (s : State) : State :=
  let s := s.onSys fun y => { y with mode := .coldReset, wdRunning := false, resetDue := none }
  let s := ((s.onHif Hif.bootEntry).dropPass).dropOwed
  (s.onSeq fun q => { q with coldDue := true, startDue := none, deferred := false }).powerDown

/-- R496: the hold-mode restart of IMG_ACTIVATE loads the active image; the boot loader repeats the image selection. -/
def State.imageRestart (s : State) : State :=
  if s.sys.mode = .running then
    ((s.dropQueue).onImg fun i => { i with booted := i.active, sram := none, download := 0 }).enterHold 7 false
  else if s.sys.mode = .bootLoader then (s.dropOwed.bootAgain 7).onHif Hif.bootEntry
  else s

/-- A reply has neither been read nor discarded on an interface, or is still being gathered (R102).
(DEDUCED, log entry 32.) -/
def Hif.replyStands (h : Hif) (i : Itf) : Bool :=
  let gathering := h.fwds.any fun f => f.o.itf = i
  match i with
  | .i2c => h.mbx.state = .reply || (h.mbx.state = .busy && gathering)
  | .spi => !h.spi.reply.isEmpty || (h.spi.running && gathering)
  | .link => false

/-- R102: options whose reply has been delivered or abandoned take effect. -/
def Hif.optStep (h : Hif) : Hif :=
  match h.optNext with
  | some (o, i) => if h.replyStands i then h else { h with opt := o, optNext := none }
  | none => h

/-- R62, R496: a reset that waits for its reply to be delivered or abandoned begins (DEDUCED, log entry 32). -/
def State.serveReset (s : State) : State :=
  match s.sys.resetDue with
  | none => s
  | some (kind, i) =>
    if s.hif.replyStands i then s
    else
      let s := s.onSys fun y => { y with resetDue := none }
      if kind = 7 then s.imageRestart
      else if s.sys.mode ≠ .running then s
      else if kind = 1 then s.enterHold 3 false
      else s.coldReset

/-- What waits for a reply to be delivered or abandoned (R62, R102, R496); in hold mode it waits for the end of hold mode
(DEDUCED, log entry 32). -/
def State.hifServe (s : State) : State :=
  if s.sys.mode = .running ∨ s.sys.mode = .bootLoader then (s.onHif Hif.optStep).serveReset else s

/-- R62: RESET. -/
def execReset (o : Origin) (p : List Byte) (s : State) : Host.Outcome State Fault Refusal :=
  let kind := u p 0 1
  .next (s.run o 0x0110 (if kind = 2 then 2 else 1) (param (p.length = 2 ∧ (kind = 1 ∨ kind = 2) ∧ u p 1 1 = 0x5A)) fun s =>
    (.done st.ok [], s.onSys fun y => { y with resetDue := some (kind, o.itf) })).serveReset

/-- R496: IMG_ACTIVATE. -/
def execImgActivate (o : Origin) (p : List Byte) (s : State) : Host.Outcome State Fault Refusal :=
  let k := fin 2 (u p 0 1)
  .next (s.run o 0x1404 2 (paramState (p.length = 2 ∧ u p 0 1 ≤ 1 ∧ u p 1 1 ≤ 1) ((s.img.area[k]).st = .valid)) fun s =>
    let par : FaultParam := { image := k.val, value := u (s.img.area[k]).bytes 12 4 }
    let s := (s.onImg fun i => { i with active := some k }).raiseWith par 0x1404 blockWide
    (.done st.ok [], if u p 1 1 = 1 then s.onSys fun y => { y with resetDue := some (7, o.itf) } else s)).serveReset

/-- R60, R211: a string is in OPEN from a cold reset until firmware is ready. -/
def State.strStop (k : Nat) (s : State) : State :=
  let c := s.strCh k
  if c.st = .opened then s else (s.strTo k .opened true).testLeave k c.st

/-- R60: an auxiliary input is opened as a cold reset stops it. -/
def State.auxStop (k : Nat) (s : State) : State :=
  let c := s.auxCh k
  if c.st = .off ∨ c.st = .disabled ∨ c.st = .latched ∨ c.st = .absent then s else s.auxTo k .absent

/-- R60: a rectifier channel is stopped by a cold reset: its section stays powered and waits for a start command. -/
def State.rectStop (k : Nat) (s : State) : State :=
  let c := s.rectCh k
  if c.starting ∨ c.st = .lost ∨ c.st = .qualify ∨ (c.st = .autonomous ∧ c.linked) then s.rectTo k .listen else s

/-- R60: a PD port is stopped by a cold reset: dead-battery Rd until firmware is ready (R359). -/
def State.pdStop (k : Nat) (s : State) : State :=
  let s := if (s.pdCh k).attached then s.pdDrop k else s
  if (s.pdCh k).st = .disabled then s else s.pdTo k .unattachedSnk

/-- R60: every power stage but D0 stops (DEDUCED, log entry 22). -/
def State.stopStages (s : State) : State :=
  let s := s.each ((List.range 15).map (· + 1)) fun k s => s.domOff k false
  let s := s.each (List.range 24) State.portStop
  let s := s.each [0, 1] State.strStop
  let s := s.each [0, 1] State.auxStop
  let s := s.each [0, 1] State.pdStop
  (s.each [0, 1] State.rectStop).onSeq fun q => { q with seqOut := false }

/-- COLD_RESET_SEQ_DONE (R52, R60, R61): every stage but D0 stops and stays so until firmware is ready; the full boot begins
at once, or at the release of RST_N. -/
def execColdResetSeqDone (s : State) : Host.Outcome State Fault Refusal :=
  .next (
    if s.seq.coldDue ∧ s.seq.st ≠ .running then
      let s := (s.onSeq fun q => { q with coldDue := false }).stopStages.dropQueue
      let s := s.onSys fun y => { y with fwReady := false }
      if s.sys.rstLow then s else s.coldBoot
    else s)

/-- R60: a hold-mode restart by the processor's own supervision, from the running state (DEDUCED, log entry 21). -/
def State.restart (cause : Nat) (counted : Bool) (s : State) : State :=
  if s.sys.mode = .running then s.enterHold cause counted else s

/-- LOCKSTEP_MISMATCH (R60, R68). -/
def execLockstepMismatch (s : State) : Host.Outcome State Fault Refusal := .next (s.restart 5 true)

/-- FW_WATCHDOG_EXPIRY (R60, R68). -/
def execFwWatchdogExpiry (s : State) : Host.Outcome State Fault Refusal := .next (s.restart 6 true)

/-- FIRMWARE_RESTART (R60). -/
def execFirmwareRestart (s : State) : Host.Outcome State Fault Refusal := .next (s.restart 7 false)

/-- RESET_CAUSE (R63); HOLD_COUNT keeps the low byte of its count, and IMAGE is 0xFF while no image is booted (DESIGN CHOICE,
log entries 142, 143). -/
def execResetCause (o : Origin) (p : List Byte) (s : State) : Host.Outcome State Fault Refusal :=
  .next (s.report o 0x0111 (param p.isEmpty) fun s =>
    let y := s.sys
    [byte y.cause, areaCode s.img.booted, byte (bitsOf [y.flagStaged, y.flagFallback, decide (y.mode = .holdOnly)]),
      byte (y.holds.filter fun h => y.time < h.1 + sec 600).length] ++ toLE 8 y.tReset ++ toLE 4 y.porCount)

/-- R64: the ranges of a D0 boot record. -/
def bootRecOk (p : List Byte) : Bool :=
  let r (off n lo hi : Nat) : Bool := lo ≤ u p off n && u p off n ≤ hi
  p.length = 16 && r 0 4 400 5500 && r 4 2 200 2000 && r 6 2 2 1000 && r 8 2 1 1000 && r 10 4 500 30000 && r 14 1 2 20 &&
    u p 15 1 = 0

/-- R64: the record that a D0_BOOT_RECORD writes, with its CRC-16. -/
def bootRecOf (p : List Byte) : BootRec :=
  BootRec.seal ⟨u p 0 4, u p 4 2, u p 6 2, u p 8 2, u p 10 4, u p 14 1, 0⟩

/-- D0_BOOT_RECORD (R64). -/
def execD0BootRecord (o : Origin) (p : List Byte) (s : State) : Host.Outcome State Fault Refusal :=
  let chk := if !bootRecOk p then st.badParam else if 4 ≤ s.sys.bootRecs.length then st.notPermitted else st.ok
  .next (s.run o 0x0112 2 chk fun s =>
    (.done st.ok [], s.onSys fun y =>
      { y with bootRecs := y.bootRecs ++ [bootRecOf p] }))

/-- KEEP_RESERVOIR (R65). -/
def execKeepReservoir (o : Origin) (p : List Byte) (s : State) : Host.Outcome State Fault Refusal :=
  let c := u p 0 4
  .next (s.run o 0x0113 2 (param (p.length = 8 ∧ u p 4 4 = 0 ∧ (c = 0 ∨ (470 ≤ c ∧ c ≤ 100000)))) fun s =>
    if c = 0 then (.done st.ok (toLE 4 s.sys.cUf), s)
    else (.later, (((s.onSys fun y => { y with cUf := c }).gateWatch).await o 0x0113 0 0 []).vWrite 5 (toLE 4 c)))

/-- R69: a write of HOST_WD: 0 reloads without changing the timeout. -/
def State.wdWrite (v : Nat) (s : State) : State :=
  s.onSys fun y => Sys.reload { y with wdTimeout := if v = 0 then y.wdTimeout else v }

/-- HOST_WD_EXPIRY (R70). -/
def execHostWdExpiry (s : State) : Host.Outcome State Fault Refusal :=
  .next (
    if s.sys.wdRunning ∧ !s.sys.safe then
      let s := (s.advanceTo (s.sys.wdBase + s.sys.wdLeft)).onSys fun y => { y with safe := true, wdLeft := 0, wdBase := y.time }
      ((s.raise 0x0101).irq 1).each [0, 1] State.pdSafe
    else s)

end Sys2Proof.Machine
end

