-- ==== Sys2Proof/Machine/Boot.lean ====
section
/-! DEFINITION. Firmware ready: the one that ends a full boot (R56) and the one that ends hold mode (R56, R66, R489). -/

namespace Sys2Proof.Machine

/-- Every record takes the given live bytes, and what changed takes its effect (R56). -/
def State.putRecs (recs : List (List (List Byte))) (s : State) : State :=
  s.each allRecs fun r s =>
    s.each (List.range (recChans r)) fun ch s =>
      s.setCopy r ch (RecCopy.settled ((recs.getD (recIdx r) []).getD ch []))

/-- R56, R64: every block takes its reset values, D0 those it booted with. -/
def State.putReset (s : State) : State :=
  let recs := (recsReset s.sys.boot).map fun l => l.map fun c => c.live
  ((s.putRecs recs).onSys fun y => { y with groups := 0 }).onHif fun h => { h with opt := HifOpt.reset, optNext := none }

/-- R56, R457: the newer valid copy of the easel save. -/
def Cfg.newest (c : Cfg) : Option SaveCopy :=
  let good := (c.save.toList.filterMap id).filter fun x => x.2.ok
  (good.foldl (fun m x =>
    match m with
    | some (b : Nat × SaveCopy) => if b.1 < x.1 then some x else m
    | none => some x) none).map (·.2)

/-- R56: step 1: the configuration is restored, and the palette loaded and judged against it. -/
def State.restoreConfig (s : State) : State :=
  let s := s.onCfg fun c => { c with gen := Vector.replicate 21 1 }
  let s : State := match s.cfg.newest with
    | some c =>
      ((s.putRecs c.recs).onSys fun y => { y with groups := c.groups }).onHif fun h =>
        { h with opt := c.opt, optNext := none }
    | none => if s.cfg.save.toList.any fun x => x.isSome then s.putReset.raise 0x0303 else s.putReset
  (if s.palHopeless then s.putReset.raise 0x0303 else s).palLoad

/-- R262: what reading an item finds: an invalid copy, or no valid copy of a programmed item (DEDUCED, log entry 63). -/
def State.readItem (x : VItem) (s : State) : State :=
  let pages := x.page0.toList ++ x.page1.toList
  if x.copies.isEmpty then (if pages.isEmpty then s else s.raise 0x12C2)
  else s.each (pages.filter fun p => !vValid x.id p) fun _ s => s.raise 0x12C1

/-- A number in a varnish item as held, or the owner's default. -/
def State.heldNat (s : State) (id off n dflt : Nat) : Nat := ((s.held id).map fun d => u d off n).getD dflt

/-- R56: step 2: every varnish item is read, and its owner takes it (R63, R65, R258, R427, R443, R497).
(DEDUCED, log entry 63.) -/
def State.restoreItems (s : State) : State :=
  let s := s.each s.varn.items State.readItem
  let s := s.onSys fun y => { y with porCount := s.heldNat 1 0 4 0, cUf := s.heldNat 5 0 4 470 }
  let s := s.onImg fun i => { i with rollback := s.heldNat 2 0 4 0 }
  let s := s.onTherm fun t => { t with life := (s.heldNat 4 0 2 0, s.heldNat 4 2 2 0, s.heldNat 4 4 2 0, s.heldNat 4 6 2 0) }
  let s := s.each [0, 1] State.gaugeRestore
  match s.held 0x20 with
  | some d => s.onMeas (Meas.restore d)
  | none => s

/-- R66: the processor runs from its SRAM-resident image when that passes its CRC-32 (`sramOk`), and otherwise loads the booted
image from NAND. FW_MINOR and FW_BUILD are those of the image that runs (R117, R493). -/
def State.setFw (sramOk : Bool) (s : State) : State :=
  match if sramOk then s.img.sram.or s.img.booted else s.img.booted with
  | some k =>
    (s.onImg fun i => { i with sram := some k }).onSys fun y =>
      { y with fw := (u (s.img.area[k]).bytes 6 1, u (s.img.area[k]).bytes 8 2) }
  | none => s

/-- R190: an auxiliary input at the firmware ready of a full boot (DEDUCED, log entry 83). -/
def State.auxReady (k : Nat) (s : State) : State :=
  let c := s.auxCh k
  if c.st = .latched then s
  else
    s.auxTo k (if !s.flag Fld.Bus.PRESENT k then .off else if !s.flag Fld.Bus.AUTO_ENABLE k then .disabled
      else if c.inWin then .delay else .absent)

/-- R211: a string at the firmware ready of a full boot (DEDUCED, log entry 83). -/
def State.strReady (k : Nat) (s : State) : State :=
  (s.strTo k (if !s.flag Fld.Chg.PRESENT k then .absent else if s.flag Fld.Chg.AUTO_CONNECT k then .opened else .disabled)
    true).onStrCh k fun c => { c with ps := s.initialState k, tPs := s.now, psHeld := 0 }

/-- R305, R313: a feed port at the firmware ready of a full boot (DEDUCED, log entry 99). -/
def State.portBoot (d : Option (List Byte)) (n : Nat) (s : State) : State :=
  (s.portTo n (if s.flag Fld.Feed.PRESENT n then .off else .absent)).portReady d n

/-- R52, R327: the link ports start, or stay as a cold reset left them (DEDUCED, log entry 104). -/
def State.linkReady (s : State) : State :=
  s.onLink fun l =>
    { l with
      port := Vector.ofFn fun p =>
        let on : Bool := s.flag Fld.Link.LINK_EN && (s.fld Fld.Link.PORT_EN).testBit p.val
        let c := l.port[p]
        if !on then { LinkPort.reset with line := .down } else if c.line = .down then s.trainPort else c }

/-- R485, R488: Korisk drains the queue: its head starts (DEDUCED, log entry 29). -/
def State.drainQueue (s : State) : State := s.onFlt fun f => if f.running.isNone then f.nextHandler else f

/-- R63: a power-on reset is counted and recorded, at the firmware ready it leads to (DESIGN CHOICE, log entry 136). -/
def State.countPor (s : State) : State :=
  if s.sys.porDue then
    let s := s.onSys fun y => { y with porDue := false, porCount := y.porCount + 1 }
    (s.vWrite 1 (toLE 4 s.sys.porCount)).raise 0x0105
  else s

/-- The host interfaces take packets (R51, R66), and options whose reply hold-mode entry has abandoned take effect (R102),
those too whose reply stands unread in the SPI buffer (DESIGN CHOICE, log entry 131). -/
def Hif.open_ (h : Hif) : Hif :=
  { h with
    mbx := if h.mbx.state = MbxState.busy then h.mbx.clear else h.mbx
    opt := (h.optNext.map (·.1)).getD h.opt
    optNext := none }

/-- R56: the firmware ready that ends a full boot (DEDUCED, log entries 31, 73). -/
def State.bootReady (tests : SelfTests) (meta_ : Nat) (s : State) : State :=
  let s := ((s.onSys fun y => { y with mode := .running, fwReady := true, resetDue := none }).setFw true).drainQueue
  let s := s.settle fun a => a.code = 0x1301 || a.code = 0x1003
  let s := s.restoreConfig.restoreItems
  let s := s.domRetarget 0 0
  let s := s.onSys fun y => Sys.reload { y with wdRunning := true, pinRestart := false }
  let s := s.gateWatch.measReady tests
  let s := (s.each [0, 1] State.auxReady).each [0, 1] State.strReady
  let d := s.held 0x30
  let s := (s.each (List.range 24) (State.portBoot d)).linkReady
  let s := (s.each [0, 1] (State.rectReady true)).each [0, 1] State.pdReady
  ((s.onHif Hif.open_).countPor.skbReady meta_).autoSeq

/-- R66, R490: the firmware ready that ends hold mode (DEDUCED, log entries 26, 29). -/
def State.holdReady (tests : SelfTests) (meta_ : Nat) (sramOk : Bool) (s : State) : State :=
  let lost := s.flt.lostHold
  let s := ((s.onSys fun y => { y with mode := .running, fwReady := true }).setFw sramOk).drainQueue
  let s := s.settle fun a => a.code = 0x1301 || a.code = 0x1003
  let s := s.onFlt fun f => { f with lostHold := 0 }
  let s := s.onSys fun y =>
    let y := { y with wdRunning := true, wdBase := y.time }
    if y.pinRestart then Sys.reload { y with pinRestart := false } else y
  let s := s.each [0, 1] fun k s =>
    ((s.onGaugeCh k (GaugeCh.afterHold s.now)).onStrCh k fun c => { c with psHeld := c.psHeld + (s.now - s.sys.tHold) }).testTick k
  let s := ((s.measReady tests).each [0, 1] (State.rectReady false)).onHif Hif.open_
  let s := if s.sys.flagFallback then
      s.raiseWith { cause := s.sys.cause, image := ((s.img.booted.map fun k => k.val).getD 0xFF) } 0x0103 blockWide
    else s
  ((if lost ≠ 0 then s.raiseWith { count := lost } 0x1302 blockWide else s).skbReady meta_).pdIrq

/-- FIRMWARE_READY (R56, R66): `tests` are the self-checks it runs (R415), `meta_` how many copies of the recorder's
metadata are valid (R475), `sramOk` whether the SRAM-resident image passed its CRC-32 (R66) (DEDUCED, log entry 26). -/
def execFirmwareReady (tests : SelfTests) (meta_ : Nat) (sramOk : Bool) (s : State) :
    Host.Outcome State Fault Refusal :=
  .next (
    if s.sys.rstLow then s
    else
      match s.sys.mode with
      | .hold => s.holdReady tests meta_ sramOk
      | .bootRom => if s.sys.hk = .good ∧ s.img.booted.isSome then s.bootReady tests meta_ else s
      | .bootLoader | .running | .holdOnly | .coldReset => s)

end Sys2Proof.Machine
end

