-- ==== Sys2Proof/Machine/HostIf.lean ====
section
/-! DEFINITION. The host interfaces at bus level (chapter 4): pointer registers on I2C and SPI (R73–R88, R96, R97), PEC and
SMBus timeout (R79, R80), attention (R91–R95), and the interface's own commands (R102, R103). -/

namespace Sys2Proof.Machine

/-- R44, R45, R72: the device answers on I2C. While a sampling after RST_N or a cold reset waits for VIO_HOST, it answers at
the address sampled before (DESIGN CHOICE, log entry 159). -/
def State.i2cUp (s : State) : Bool := s.sys.sampled && s.sys.vioHost && !s.sys.por

/-- R44, R96: the device answers on SPI. -/
def State.spiUp (s : State) : Bool := s.sys.vioHost && !s.sys.por

/-- R46: the register address with its read/write bit. -/
def State.i2cAddr (s : State) (read : Bool) : Byte := byte (2 * (0x40 + s.sys.addr) + b2n read)

/-- R78: a START on the bus; a matching address wakes the interface. -/
def State.i2cStart (s : State) : State := s.onHif fun h => { h with asleep := false, tStart := s.now }

/-- The bytes the device drives in a transaction (DESIGN CHOICE, log entry 38). -/
def State.drive (bs : List Byte) (s : State) : State := s.onHif fun h => { h with out := bs }

/-- R84, R85: the flags that exist. -/
abbrev irqBits : Nat := 0x001FFFCE

/-- R82: DEV_ID. -/
abbrev devId : Nat := 0x54507424

/-- R82: STEPPING. -/
abbrev stepping : Nat := 0x10

/-- R83, R86: the ATTN_CTRL register. -/
def Hif.attnCtrl (h : Hif) : Nat := h.attnMode + 4 * h.minSev + 32 * b2n h.replyFlag

/-- R88: the MBX_STATUS register. -/
def Mbx.status (m : Mbx) : Nat :=
  m.state.code + 8 * b2n m.more + 16 * b2n m.seqErr + 32 * b2n m.pecErr + 64 * b2n m.timeout + 128 * b2n m.reject

/-- R88: a byte of MBX_WINDOW; one beyond MBX_SIZE, or that nothing has written, reads 0 (DESIGN CHOICE, log entry 19). In
BUSY a read returns the buffer as it stands (DESIGN CHOICE, log entries 19, 161). -/
def Mbx.window (m : Mbx) (a : Nat) : Byte :=
  let k := 128 * m.page + (a - 0x80)
  if k < m.size then m.buf.getD k 0 else 0

/-- R75, R81–R88: the byte that a read finds at a pointer address; the mailbox is not seen from SPI. -/
def State.regByte (s : State) (spi : Bool) (a : Nat) : Byte :=
  let h := s.hif
  let part (v base : Nat) : Byte := byte (v / 256 ^ (a - base))
  if a < 4 then part devId 0
  else if a = 0x04 then byte stepping
  else if a = 0x08 then s.summary
  else if 0x0C ≤ a ∧ a ≤ 0x0F then part h.irq 0x0C
  else if 0x10 ≤ a ∧ a ≤ 0x13 then part h.mask 0x10
  else if a = 0x14 then byte h.attnCtrl
  else if a = 0x18 then byte s.sys.wdTimeout
  else if 0x1C ≤ a ∧ a ≤ 0x23 then part h.snap 0x1C
  else if spi then 0
  else if a = 0x40 then byte h.mbx.page
  else if a = 0x41 then byte h.mbx.status
  else if a = 0x42 ∨ a = 0x43 then part h.mbx.len 0x42
  else if a = 0x44 then byte h.mbx.sizeCode
  else if 0x80 ≤ a then h.mbx.window a
  else 0

/-- `n` bytes read from address `a`, incrementing and wrapping (R73). -/
def State.regBytes (s : State) (spi : Bool) (a n : Nat) : List Byte :=
  (List.range n).map fun j => s.regByte spi ((a + j) % 256)

/-- R87: the timebase is latched into TIME_SNAP. -/
def State.snapTime (s : State) : State := s.onHif fun h => { h with snap := s.now % 2 ^ 64 }

/-- A register write as it goes on: the pointer; how many bytes have been taken; the flags hardware sets meanwhile (R84); the
bytes received of IRQ_MASK and MBX_LEN; what takes effect at the boundary (R74); and that no byte has been refused (R76). -/
structure RegWalk where
  h : Hif
  ptr : Nat
  taken : Nat
  hw : Nat
  maskPart : List (Nat × Nat)
  lenPart : List (Nat × Nat)
  mask : Option Nat
  attn : Option Nat
  wd : Option Nat
  page : Option Nat
  act : Nat
  size : Option Nat
  len : Option Nat
  ok : Bool

/-- A multi-byte register with the bytes written of it. -/
def patch (v : Nat) (ps : List (Nat × Nat)) : Nat :=
  ps.foldl (fun v p => v - v / 256 ^ p.1 % 256 * 256 ^ p.1 + p.2 * 256 ^ p.1) v

/-- R88: a byte enters the mailbox buffer. -/
def Mbx.put (k : Nat) (v : Byte) (m : Mbx) : Mbx :=
  { m with buf := if k < m.buf.length then m.buf.set k v else m.buf ++ zeros (k - m.buf.length) ++ [v] }

/-- R88: the highest window page. -/
def Mbx.pages (m : Mbx) : Nat := m.size / 128 - 1

/-- R88: writes of mailbox registers, from 0x40. -/
def RegWalk.mbxByte (a n : Nat) (w : RegWalk) : RegWalk :=
  let m := w.h.mbx
  let no : RegWalk := { w with ok := false }
  let on (m : Mbx) : RegWalk := { w with h := { w.h with mbx := m } }
  if a = 0x40 then
    if 4 < n / 32 ∨ m.pages < n % 32 then no else { w with page := some (n % 32), act := if n / 32 = 0 then w.act else n / 32 }
  else if a = 0x41 then
    on { m with
      seqErr := m.seqErr && !n.testBit 4, pecErr := m.pecErr && !n.testBit 5, timeout := m.timeout && !n.testBit 6
      reject := m.reject && !n.testBit 7 }
  else if a = 0x42 then { w with lenPart := [(0, n)] }
  else if a = 0x43 then
    let v := patch m.len (w.lenPart ++ [(1, n)])
    if 1 ≤ v ∧ v ≤ m.size then { w with len := some v, lenPart := [] } else { no with lenPart := [] }
  else if a = 0x44 then if m.state = .idle ∧ n ≤ 6 then { w with size := some n } else no
  else if 0x80 ≤ a then
    let k := 128 * m.page + (a - 0x80)
    if (m.state = .idle ∨ m.state = .accept) ∧ k < m.size then on (m.put k (byte n)) else no
  else w

/-- R74–R76, R84–R88: one byte written at the pointer, which advances. -/
def RegWalk.byte (spi : Bool) (w0 : RegWalk) (v : Byte) : RegWalk :=
  if !w0.ok then w0
  else
    let a := w0.ptr
    let n := v.toNat
    let w := { w0 with ptr := (a + 1) % 256, taken := w0.taken + 1 }
    let no : RegWalk := { w with ok := false, maskPart := [], mask := none }
    let bad (base : Nat) : Bool := n &&& (irqBits / 256 ^ (a - base) % 256) ≠ n
    if 0x0C ≤ a ∧ a ≤ 0x0F then
      if bad 0x0C then { w with ok := false } else { w with h := w.h.clearIrq (n * 256 ^ (a - 0x0C)) w.hw }
    else if 0x10 ≤ a ∧ a ≤ 0x13 then
      if bad 0x10 then no
      else
        let ps := w.maskPart ++ [(a - 0x10, n)]
        if a = 0x13 then { w with mask := some (patch w.h.mask ps), maskPart := [] } else { w with maskPart := ps }
    else if a = 0x14 then if 64 ≤ n ∨ 4 < n / 4 % 8 then { w with ok := false } else { w with attn := some n }
    else if a = 0x18 then { w with wd := some n }
    else if a < 0x40 ∨ spi then w
    else w.mbxByte a n

/-- The write that starts at a pointer. -/
def Hif.walk (h : Hif) (ptr hw : Nat) : RegWalk :=
  { h := h, ptr := ptr, taken := 0, hw := hw, maskPart := [], lenPart := [], mask := none, attn := none, wd := none, page := none,
    act := 0, size := none, len := none, ok := true }

/-- R80: a PEC-checked write is applied register by register: where a byte is refused, the bytes already written to its
register have no effect; of the registers whose bytes act one by one only IRQ_FLAGS has more than one. The bytes of
MBX_WINDOW count as a register each: those before one that R88 refuses stay written, and REJECT is set. (DESIGN CHOICE, log
entry 161.) -/
def Hif.walkPec (h : Hif) (ptr hw : Nat) (ds : List Byte) : RegWalk :=
  let w := ds.foldl (RegWalk.byte false) (h.walk ptr hw)
  let a := (w.ptr + 255) % 256
  if w.ok ∨ a < 0x0C ∨ 0x0F < a then w
  else
    let before := (ds.take (w.taken - 1 - min (w.taken - 1) (a - 0x0C))).foldl (RegWalk.byte false) (h.walk ptr hw)
    { before with ptr := w.ptr, ok := false }

/-- R86: ATTN_CTRL takes a value; only the mode in force keeps an alert or a notify. -/
def Hif.setAttn (v : Nat) (h : Hif) : Hif :=
  { h with
    attnMode := v % 4, minSev := v / 4 % 8, replyFlag := v.testBit 5, alert := h.alert && v % 4 = 2
    notifyDue := h.notifyDue && v % 4 = 3 }

/-- R74: the boundary: what was written takes effect; the mailbox action that is left for its own step (DEDUCED, log entry 35).
A smaller MBX_SIZE cuts the buffer and leaves PAGE and MBX_LEN as they are.
(DEDUCED, log entry 35; DESIGN CHOICE, log entry 137.) -/
def RegWalk.commit (w : RegWalk) (s : State) : State :=
  let opt {α : Type} (x : Option α) (f : α → Hif → Hif) (h : Hif) : Hif :=
    match x with
    | some v => f v h
    | none => h
  let h := opt w.mask (fun v h => Hif.attend { h with mask := v } false) w.h
  let h := opt w.attn Hif.setAttn h
  let h := opt w.size (fun v h => { h with mbx := { h.mbx with sizeCode := v, buf := h.mbx.buf.take (64 * 2 ^ v) } }) h
  let h := opt w.len (fun v h => { h with mbx := { h.mbx with len := v } }) h
  let h := opt w.page (fun v h => { h with mbx := { h.mbx with page := v } }) h
  let s := s.onHif fun _ => h
  match w.wd with
  | some v => s.wdWrite v
  | none => s

/-- R103: a byte refused on I2C is counted. -/
def Hif.nack (h : Hif) : Hif := { h with nacks := satAdd 0xFFFF h.nacks 1 }

/-- R80, R84: a write discarded for its PEC. -/
def State.pecBad (s : State) : State :=
  ((s.onHif fun h => { h with mbx := { h.mbx with pecErr := true }, pecErrors := satAdd 0xFFFF h.pecErrors 1 }).raise 0x0203).irq 2

/-- R80: a PEC-checked write in which a byte was refused. -/
def State.pecReject (s : State) : State := (s.onHif fun h => { h with mbx := { h.mbx with reject := true } }.nack).irq 2

/-- R73, R80, R84: a register write on I2C, `bytes` being all that follows address+W, while hardware sets the flags `hw`; the
state at its boundary and the mailbox action it asks for (0 none) (DEDUCED, log entry 34). A byte that R88 refuses counts in
NACKS as one that R76 refuses (DEDUCED, log entry 34; DESIGN CHOICE, log entry 161). -/
def State.i2cWrite (hw : Nat) (bytes : List Byte) (s : State) : State × Nat :=
  let s := (s.i2cStart).drive []
  let pec := s.hif.opt.pec
  let body := if pec then bytes.dropLast else bytes
  if pec ∧ !bytes.isEmpty ∧ byte (crc8 (s.i2cAddr false :: body)) ≠ bytes.getLastD 0 then (s.pecBad, 0)
  else
    match body with
    | [] => (s, 0)
    | p :: ds =>
      let w := if pec then s.hif.walkPec p.toNat hw ds else ds.foldl (RegWalk.byte false) (s.hif.walk p.toNat hw)
      let s := (w.commit s).onHif fun h => { h with ptr := w.ptr }
      let s := if w.ok then s else if pec then s.pecReject else s.onHif Hif.nack
      (s, w.act)

/-- R80: bytes read on I2C with the PEC of a transaction whose bytes before them are `pre`; `len` is the block length. -/
def State.withPec (s : State) (pre data : List Byte) (len n : Nat) : List Byte :=
  if s.hif.opt.pec ∧ len < n then
    data.take len ++ [byte (crc8 (pre ++ data.take len))] ++ List.replicate (n - len - 1) 0xFF
  else data.take n

/-- R80, R81: the block length of a read that starts at a pointer: the register's size from its lowest byte; in MBX_WINDOW the
rest of the valid fragment, as far as the window shows it (DEDUCED, log entry 138); 1 otherwise. -/
def Hif.blockLen (h : Hif) (a : Nat) : Nat :=
  let k := 128 * h.mbx.page + (a - 0x80)
  if a = 0x00 ∨ a = 0x0C ∨ a = 0x10 then 4
  else if a = 0x1C then 8
  else if a = 0x42 then 2
  else if 0x80 ≤ a ∧ k < h.mbx.len then min (h.mbx.len - k) (256 - a)
  else 1

/-- R73, R75, R80, R87: a read of `n` bytes on the register address, with a pointer or from the address the pointer holds. A
read that starts at 0x1C latches the timebase; the pointer advances by the bytes of registers sent. -/
def State.i2cRead (ptr : Option Byte) (n : Nat) (s : State) : State :=
  let s := s.i2cStart
  let a := (ptr.map fun p => p.toNat).getD s.hif.ptr
  let s := if a = 0x1C then s.snapTime else s
  let len := s.hif.blockLen a
  let k := if s.hif.opt.pec then min n len else n
  let pre := ((ptr.map fun p => [s.i2cAddr false, p]).getD []) ++ [s.i2cAddr true]
  (s.drive (s.withPec pre (s.regBytes false a k) len n)).onHif fun h => { h with ptr := (a + k) % 256 }

/-- TIME_SNAP_READ (R73, R87): a read of `n` bytes on I2C: with pointer `ptr`, 0x1C to latch the timebase, or from the address
the pointer holds. -/
def execTimeSnapRead (ptr : Option Byte) (n : Nat) (s : State) : Host.Outcome State Fault Refusal :=
  .next (if s.i2cUp ∧ 1 ≤ n then s.i2cRead ptr n else s)

/-- IRQ_FLAGS_CLEAR (R73, R80, R84): a write from pointer 0x0C whose bytes after the pointer are `bytes`, while hardware sets
the flags `hw`: those stay or become set. -/
def execIrqFlagsClear (bytes : List Byte) (hw : Nat) (s : State) : Host.Outcome State Fault Refusal :=
  let hw := hw &&& irqBits
  .next (if s.i2cUp then (s.i2cWrite hw (0x0C :: bytes)).1.onHif (Hif.clearIrq · 0 hw) else s)

/-- I2C_WAKE (R78). -/
def execI2cWake (s : State) : Host.Outcome State Fault Refusal :=
  .next (if s.i2cUp ∧ s.hif.asleep then s.i2cStart else s)

/-- I2C_SLEEP (R78) (DEDUCED, log entry 37). -/
def execI2cSleep (s : State) : Host.Outcome State Fault Refusal :=
  let h := s.hif
  .next (
    if s.i2cUp ∧ h.opt.options.testBit 1 ∧ !h.asleep ∧ h.mbx.state ≠ .busy ∧ !h.alert ∧ !h.notifyDue then
      (s.advanceTo (h.tStart + ms 10)).onHif fun h => { h with asleep := true }
    else s)

/-- SMBUS_TIMEOUT (R79): with timeouts enabled; a write whose boundary had not been reached has changed nothing. -/
def execSmbusTimeout (s : State) : Host.Outcome State Fault Refusal :=
  .next (
    if s.i2cUp ∧ s.hif.opt.options.testBit 0 then
      ((s.onHif fun h =>
        { h with mbx := { h.mbx with timeout := true }, timeouts := satAdd 0xFFFF h.timeouts 1 }).raise 0x0204).irq 2
    else s)

/-- R78: a START on the bus that does not wake the interface. -/
def State.busStart (s : State) : State := s.onHif fun h => { h with tStart := s.now }

/-- ALERT_RESPONSE (R78, R92): in ALERT mode with IRQ_N asserted; `won` is the outcome of arbitration.
(DESIGN CHOICE, log entry 38.) -/
def execAlertResponse (won : Bool) (s : State) : Host.Outcome State Fault Refusal :=
  .next (
    let s := s.busStart
    if s.i2cUp ∧ s.hif.attnMode = 2 ∧ s.hif.alert ∧ won then
      let a := s.i2cAddr false
      (s.drive ([a] ++ if s.hif.opt.pec then [byte (crc8 [0x19, a])] else [])).onHif fun h => { h with alert := false }
    else s.drive [])

/-- R93: the number of the highest enabled flag that is set. -/
def Hif.topFlag (h : Hif) : Nat := ((List.range 32).filter fun k => (h.irq &&& h.mask).testBit k).foldl max 0

/-- R93: the notify frame. -/
def State.notifyFrame (s : State) : List Byte :=
  let f := [byte (2 * s.hif.opt.hnAddr), s.i2cAddr false, s.summary, byte s.hif.topFlag]
  f ++ if s.hif.opt.pec then [byte (crc8 f)] else []

/-- R94, R103: a bus cure is counted. -/
def State.cure (s : State) : State := s.onHif fun h => { h with cures := satAdd 0xFFFF h.cures 1 }

/-- R93: the host has acknowledged a notify. -/
def State.notifySent (s : State) : State :=
  (s.drive s.notifyFrame).onHif fun h =>
    { h with notifyDue := false, tNotify := some s.now, notifyTries := 0, notifies := satAdd 0xFFFF h.notifies 1 }

/-- R95: the host does not acknowledge HN_ADDR: three retries, and then notifies are suspended. -/
def State.notifyNacked (s : State) : State :=
  let s := (s.drive [byte (2 * s.hif.opt.hnAddr)]).onHif fun h => { h with notifyTries := h.notifyTries + 1 }
  if 4 ≤ s.hif.notifyTries then
    (s.onHif fun h => { h with notifyDue := false, notifySusp := true, notifyTries := 0 }).raise 0x0202
  else s.onHif fun h => { h with notifyHold := s.now + ms 10 }

/-- R94: the cure is abandoned: the attempt is made again 100 ms later. -/
def State.cureAbandoned (s : State) : State :=
  ((s.drive []).onHif fun h => { h with notifyHold := s.now + ms 100 }).raise 0x0201 |>.irq 2

/-- R78, R93–R95: an attempt at a notify, after a cure where the bus was stuck, and how it ends. An interface that sleeps
stays asleep through it, and while an attention or notify action is pending (DESIGN CHOICE, log entry 160). -/
def State.notify (r : NotifyRes) (s : State) : State :=
  match r with
  | .acked => s.busStart.notifySent
  | .lost => s.busStart.drive []
  | .nacked => s.busStart.notifyNacked
  | .cured => s.cure.busStart.notifySent
  | .curedLost => s.cure.busStart.drive []
  | .curedNacked => s.cure.busStart.notifyNacked
  | .stuck => s.cure.cureAbandoned

/-- R93: a notify may be attempted. -/
def State.notifyReady (s : State) : Bool := s.i2cUp && s.hif.attnMode = 3 && s.hif.notifyDue && !s.hif.notifySusp

/-- HOST_NOTIFY (R93, R94): at least 1 ms after the last one. -/
def execHostNotify (r : NotifyRes) (s : State) : Host.Outcome State Fault Refusal :=
  .next (
    if s.notifyReady ∧ s.hif.notifyHold = 0 then (s.advanceTo ((s.hif.tNotify.map fun t => t + ms 1).getD 0)).notify r else s)

/-- HOST_NOTIFY_RETRY (R94, R95): the retry interval expires. -/
def execHostNotifyRetry (r : NotifyRes) (s : State) : Host.Outcome State Fault Refusal :=
  .next (
    if s.hif.notifyHold = 0 then s
    else
      let s := (s.advanceTo s.hif.notifyHold).onHif fun h => { h with notifyHold := 0 }
      if s.notifyReady then s.notify r else s)

/-- R96: SPI_STATUS. -/
def State.spiStatus (s : State) : Byte :=
  let hold : Bool := s.sys.mode = .hold || s.sys.mode = .holdOnly
  byte (bitsOf [!s.hif.spi.reply.isEmpty, s.hif.spi.running || hold, s.skb.stream.isSome,
    s.hif.spi.discarded, s.attn, hold])

/-- R96: a frame begins: its instruction byte reports SPI_STATUS, and a discarded frame is reported once; `more` is what the
device drives after it. -/
def State.spiFrame (more : List Byte) (s : State) : State :=
  (s.drive (s.spiStatus :: more)).onHif fun h => { h with spi := { h.spi with discarded := false } }

/-- R96–R98, R103: a frame is discarded. -/
def State.spiDiscard (s : State) : State :=
  s.onHif fun h => { h with spi := { h.spi with discarded := true }, spiDiscards := satAdd 0xFFFF h.spiDiscards 1 }

/-- R97: a REG_WRITE frame: address, then data. A byte that R76 refuses is counted in SPI_DISCARDS and not in NACKS, which
counts what a bus leaves without an acknowledge (DEDUCED, log entry 36; DESIGN CHOICE, log entry 139). -/
def State.spiWrite (bytes : List Byte) (s : State) : State :=
  let s := s.spiFrame (zeros bytes.length)
  match bytes with
  | [] => s
  | p :: ds =>
    let w := ds.foldl (RegWalk.byte true) (s.hif.walk p.toNat 0)
    let s := w.commit s
    if w.ok then s else s.spiDiscard

/-- The SPI instructions (R97). -/
inductive SpiOp where
  | regWrite | regRead | pktWrite | pktRead | streamRead
  deriving DecidableEq, Repr

/-- R97: the instruction a frame's first byte picks; every other value discards the frame. -/
def spiOp (b : Byte) : Option SpiOp :=
  if b = 0x01 then some .regWrite
  else if b = 0x03 then some .regRead
  else if b = 0x10 then some .pktWrite
  else if b = 0x11 then some .pktRead
  else if b = 0x12 then some .streamRead
  else none

/-- R87, R97: REG_READ: the address and one dummy byte, then data from the address. -/
def State.spiRead (rest : List Byte) (s : State) : State :=
  match rest with
  | [] => s.spiFrame []
  | [_] => s.spiFrame [0]
  | p :: _ :: ds =>
    let s := if p.toNat = 0x1C ∧ !ds.isEmpty then s.snapTime else s
    s.spiFrame ([0, 0] ++ s.regBytes true p.toNat ds.length)

/-- R99, R477: STREAM_READ: one dummy byte, then COUNT and the stream; the bytes clocked beyond COUNT are 0 and not taken. -/
def State.spiStream (rest : List Byte) (s : State) : State :=
  let bs := s.skb.streamLeft
  let count := min 4096 bs.length
  let k := min (rest.length - 3) count
  let s := s.spiFrame (([0] ++ toLE 2 count ++ bs.take k ++ zeros (rest.length - (3 + k))).take rest.length)
  if s.skb.stream.isNone ∨ rest.length < 3 then s
  else s.onSkb fun q =>
    { q with
      stream := (q.stream.map fun x => { x with pos := x.pos + k }).filter fun x => x.pos < x.total
      tStream := s.now }

/-- R98: PKT_READ: one dummy byte, then LEN and the reply, which is removed once all of it has been read. MISO carries 0x00
in the dummy byte, and past the reply (DESIGN CHOICE, log entry 140). Options of HIF_CONFIG that wait for this reply take
effect at the frame's end, in hold mode too (R102). -/
def State.spiReply (rest : List Byte) (s : State) : State :=
  let r := s.hif.spi.reply
  let s := s.spiFrame (([0] ++ toLE 2 r.length ++ r ++ zeros (rest.length - (3 + r.length))).take rest.length)
  if r.isEmpty ∨ rest.length < 3 + r.length then s
  else
    let s := s.onHif fun h => { h with spi := { h.spi with reply := [] } }
    if s.hif.optNext.map (·.2) = some Itf.spi then (s.onHif Hif.optStep).hifServe else s.hifServe

/-- HIF_CONFIG (R102): the options are held until the reply has been delivered or abandoned. -/
def execHifConfig (o : Origin) (p : List Byte) (s : State) : Host.Outcome State Fault Refusal :=
  let a := u p 2 1
  let own := 0x40 + s.sys.addr
  .next (s.run o 0x0201 1
    (param (p.length = 4 ∧ u p 0 1 ≤ 1 ∧ u p 1 1 < 8 ∧ 0x08 ≤ a ∧ a ≤ 0x77 ∧ a ≠ own ∧ a ≠ own + 8 ∧ u p 3 1 = 0)) fun s =>
    (.done st.ok [], s.onHif fun h =>
      { h with optNext := some ({ pec := u p 0 1 = 1, options := u p 1 1, hnAddr := a }, o.itf) })).hifServe

/-- HIF_STATUS (R103). -/
def execHifStatus (o : Origin) (p : List Byte) (s : State) : Host.Outcome State Fault Refusal :=
  .next (s.report o 0x0202 (param p.isEmpty) fun s =>
    let h := s.hif
    [byte (b2n h.opt.pec), byte h.opt.options, byte h.opt.hnAddr, 0] ++
      [h.pecErrors, h.timeouts, h.nacks, h.notifies, h.cures, h.spiDiscards].flatMap (toLE 2))

end Sys2Proof.Machine
end

