-- ==== Sys2Proof/Machine/Pmbus.lean ====
section
/-! DEFINITION. The PMBus compatibility window (R100, R101): each domain is a page. A command's operand `w` is `none` for a
read and the data bytes of a write otherwise, its PEC among them where PEC is required (R80). -/

namespace Sys2Proof.Machine

/-- R72, R102: the window answers. -/
def State.pmUp (s : State) : Bool := s.i2cUp && s.hif.opt.options.testBit 2

/-- R46: the window's address with its read/write bit. -/
def State.pmAddr (s : State) (read : Bool) : Byte := byte (2 * (0x48 + s.sys.addr) + b2n read)

/-- R100: the domains that PAGE selects. -/
def Hif.pmDoms (h : Hif) : List Nat := if h.pmPage = 255 then List.range 16 else [h.pmPage]

/-- R100: a change of the window's status bits of the pages selected. -/
def State.onPages (f : PmPage → PmPage) (s : State) : State :=
  s.onHif fun h => { h with pm := h.pmDoms.foldl (fun v k => upd v (fin 16 k) f) h.pm }

/-- R100, R103: a byte is not acknowledged: STATUS_CML takes bit `b`, and the byte is counted. With PEC required the device
acknowledges, and then rejects the write (R80) (DEDUCED, log entry 40). -/
def State.pmRefuse (b : Nat) (write : Bool) (s : State) : State :=
  let s := s.onPages fun x => { x with cml := x.cml ||| 2 ^ b }
  if write ∧ s.hif.opt.pec then s.pecReject else s.onHif Hif.nack

/-- R80: the bytes of a read of command `c`, with the PEC of its transaction where it is required. -/
def State.pmDrive (c : Byte) (data : List Byte) (s : State) : State :=
  s.drive (data ++ if s.hif.opt.pec then [byte (crc8 ([s.pmAddr false, c, s.pmAddr true] ++ data))] else [])

/-- A read of command `c`: `wide` is a command that a page of 0xFF does not shut (R100) (DEDUCED, log entry 41). -/
def State.pmRead (c : Byte) (wide : Bool) (data : State → List Byte) (s : State) : State :=
  if !wide ∧ s.hif.pmPage = 255 then s.pmRefuse 7 false else s.pmDrive c (data s)

/-- PMBus 1.3: a write protection leaves command `c` writable (R100) (PRESUMED, log entry 60). -/
def Hif.pmOpen (h : Hif) (c : Byte) : Bool :=
  c = 0x10 || h.pmProtect = 0 || (h.pmProtect = 0x40 && (c = 0x00 || c = 0x01)) ||
    (h.pmProtect = 0x20 && (c = 0x00 || c = 0x01 || c = 0x21))

/-- R80, R100, R101: a write of `n` data bytes to command `c`: `ok` judges the value and `act` is what it does. One that
breaks off before its last byte changes nothing (DEDUCED, log entries 39, 40). -/
def State.pmWrite (c : Byte) (n : Nat) (w : List Byte) (ok : Nat → State → Bool) (act : Nat → State → State) (s : State) :
    State :=
  let pec := s.hif.opt.pec
  let data := if pec then w.dropLast else w
  let v := leNat data
  if s.sys.mode ≠ .running then s
  else if pec ∧ (w.isEmpty ∨ byte (crc8 ([s.pmAddr false, c] ++ data)) ≠ w.getLastD 0) then s.pecBad
  else if data.length < n then s
  else if n < data.length ∨ !s.hif.pmOpen c ∨ !ok v s then s.pmRefuse 6 true
  else act v (s.onSys Sys.reload)

/-- A command of the window: `rd` is its read and `wr` its write (DEDUCED, log entry 39). With the window disabled its
address matches nothing, but its START has appeared on the bus (R78). -/
def State.pmbus (w : Option (List Byte)) (rd : State → State) (wr : List Byte → State → State) (s : State) : State :=
  if !s.pmUp then (if s.i2cUp then s.busStart else s)
  else
    let s := s.i2cStart.drive []
    match w with
    | none => rd s
    | some bs => wr bs s

/-- R80: the PEC that ends a write of command `c` is missing or wrong where it is required. -/
def State.pmPecBad (s : State) (c : Byte) (w : List Byte) : Bool :=
  s.hif.opt.pec && (w.isEmpty || byte (crc8 ([s.pmAddr false, c] ++ w.dropLast)) ≠ w.getLastD 0)

/-- A command that is only read: a write of it is not supported; with PEC required it is judged once its PEC has matched
(R80) (DEDUCED, log entry 40). -/
def State.pmReadOnly (c : Byte) (wide : Bool) (w : Option (List Byte)) (data : State → List Byte) (s : State) : State :=
  s.pmbus w (State.pmRead c wide data) fun bs s =>
    if s.sys.mode ≠ .running then s else if s.pmPecBad c bs then s.pecBad else s.pmRefuse 7 true

/-- R100: 2¹² or 2¹¹: the units of a volt of ULINEAR16 in a domain's range. -/
def State.pmUnit (s : State) (k : Nat) : Nat := if s.flag Fld.Dom.RANGE k then 2048 else 4096

/-- R100: mV in ULINEAR16. -/
def State.toUlin (s : State) (k mv : Nat) : Nat := min 0xFFFF (rdiv (mv * s.pmUnit k) 1000)

/-- R100: ULINEAR16 to mV on the nearest step of a domain's range (DESIGN CHOICE, log entry 42). -/
def State.ofUlin (s : State) (k v : Nat) : Nat :=
  if s.flag Fld.Dom.RANGE k then 5 * rdiv (1000 * v) (5 * s.pmUnit k) else rdiv (1000 * v) (s.pmUnit k)

/-- Nearest integer to `a / b · 2⁻ᵉ`, ties away from zero. -/
def linMant (a : Int) (b : Nat) (e : Int) : Int :=
  let num := a * 2 ^ (-e).toNat
  let den : Nat := b * 2 ^ e.toNat
  if 0 ≤ num then Int.ofNat (rdiv num.toNat den) else -Int.ofNat (rdiv (-num).toNat den)

/-- LINEAR11 of `a / b`, with the finest exponent whose mantissa fits (DESIGN CHOICE, log entry 42). -/
def toLin11 (a : Int) (b : Nat) : Nat :=
  let es : List Int := (List.range 32).map fun j => Int.ofNat j - 16
  let e := (es.find? fun e => -1023 ≤ linMant a b e ∧ linMant a b e ≤ 1023).getD 15
  unsignedOf 5 e * 2048 + unsignedOf 11 (linMant a b e)

/-- LINEAR11: mantissa and exponent of a word. -/
def ofLin11 (v : Nat) : Int × Int := (signedOf 11 v, signedOf 5 (v / 2048))

/-- R100, R279: a rate of VOUT_TRANSITION_RATE as SLEW, 0.01 mV/µs, when it lies in 0.05–20 mV/µs. -/
def lin11Slew (v : Nat) : Option Nat :=
  let m := (ofLin11 v).1
  let e := (ofLin11 v).2
  let num := 100 * m.toNat * 2 ^ e.toNat
  let den := 2 ^ (-e).toNat
  if 5 * den ≤ num ∧ num ≤ 2000 * den then some (rdiv num den) else none

/-- The origin of what the window starts: nothing replies (DEDUCED, log entry 43). -/
def pmOrigin : Origin := { itf := .link, src := 0, level := 1, tag := 0, noReply := true, fanned := false }

/-- R101: a domain command through the window waits for the domains' boundaries. -/
def State.pmCommand (op : Nat) (own : List Byte) (chk : Nat → Nat) (s : State) : State :=
  (s.selWait pmOrigin op ⟨1, maskOf s.hif.pmDoms⟩ own chk).2

/-- The first selected domain: the one that a page of one domain reads (DEDUCED, log entry 41). -/
def State.pmDom (s : State) : Nat := s.hif.pmPage % 16

/-- R100: a write of one field of every selected domain's record, when the records keep their rules. -/
def State.pmFieldOk (f : Field) (v : Nat → Nat) (s : State) : Bool :=
  let ks := s.hif.pmDoms
  let ix := (fieldsOf .dom0).findIdx fun g => g = f
  let d (k : Nat) : List Byte := let c := (s.copy .dom0 k).easel; if k ∈ ks then applyVals .dom0 [(ix, v k)] c else c
  ks.all fun k => fieldOk f (v k) && s.crossOk .dom0 k d [f]

/-- R101: the field takes the value as an easel write would give it. -/
def State.pmField (f : Field) (v : Nat → Nat) (s : State) : State :=
  let ix := (fieldsOf .dom0).findIdx fun g => g = f
  (s.each s.hif.pmDoms fun k s => s.easelApply .dom0 k [(f, ix, v k)]).bumpGen 0x0B

/-- PAGE (R100). -/
def execPage (w : Option (List Byte)) (s : State) : Host.Outcome State Fault Refusal :=
  .next (s.pmbus w (State.pmRead 0x00 true fun s => [byte s.hif.pmPage]) fun bs s =>
    s.pmWrite 0x00 1 bs (fun v _ => v < 16 ∨ v = 255) fun v s => s.onHif fun h => { h with pmPage := v })

/-- R100: the DOM_CONTROL action of an OPERATION value. -/
def operationAct (v : Nat) : Option Nat :=
  match v with
  | 0x00 => some 3
  | 0x40 => some 2
  | 0x80 => some 1
  | 0x98 => some 6
  | 0xA8 => some 7
  | _ => none

/-- R100: OPERATION as it reads back (DEDUCED, log entry 43). -/
def DomCh.operation (c : DomCh) : Nat :=
  if !c.enable then 0x00 else if c.margin = 1 then 0x98 else if c.margin = 2 then 0xA8 else 0x80

/-- OPERATION (R100, R271, R278, R291) (DEDUCED, log entry 43). -/
def execOperation (w : Option (List Byte)) (s : State) : Host.Outcome State Fault Refusal :=
  .next (s.pmbus w (State.pmRead 0x01 false fun s => [byte (s.domCh s.pmDom).operation]) fun bs s =>
    s.pmWrite 0x01 1 bs (fun v s => (operationAct v).isSome && (v = 0x80 || 0 ∉ s.hif.pmDoms)) fun v s =>
      let a := (operationAct v).getD 1
      (s.pmCommand 0x0B01 [byte a, 0] (s.domRefuse a)).domJudge)

/-- ON_OFF_CONFIG (R100). -/
def execOnOffConfig (w : Option (List Byte)) (s : State) : Host.Outcome State Fault Refusal :=
  .next (s.pmReadOnly 0x02 true w fun _ => [0x1A])

/-- CLEAR_FAULTS (R100): a send byte. -/
def execClearFaults (bytes : List Byte) (s : State) : Host.Outcome State Fault Refusal :=
  .next (s.pmbus (some bytes) id fun bs s =>
    s.pmWrite 0x03 0 bs (fun _ _ => true) fun _ s => s.onPages fun _ => { vout := 0, iout := 0, cml := 0 })

/-- WRITE_PROTECT (R100). -/
def execWriteProtect (w : Option (List Byte)) (s : State) : Host.Outcome State Fault Refusal :=
  .next (s.pmbus w (State.pmRead 0x10 true fun s => [byte s.hif.pmProtect]) fun bs s =>
    s.pmWrite 0x10 1 bs (fun v _ => v ∈ [0x00, 0x20, 0x40, 0x80]) fun v s => s.onHif fun h => { h with pmProtect := v })

/-- CAPABILITY (R100). -/
def execCapability (w : Option (List Byte)) (s : State) : Host.Outcome State Fault Refusal :=
  .next (s.pmReadOnly 0x19 true w fun _ => [0xD0])

/-- VOUT_MODE (R100). -/
def execVoutMode (w : Option (List Byte)) (s : State) : Host.Outcome State Fault Refusal :=
  .next (s.pmReadOnly 0x20 false w fun s => [if s.flag Fld.Dom.RANGE s.pmDom then 0x15 else 0x14])

/-- VOUT_COMMAND (R100, R298, R300). -/
def execVoutCommand (w : Option (List Byte)) (s : State) : Host.Outcome State Fault Refusal :=
  let fits (v : Nat) (s : State) : Bool := s.hif.pmDoms.all fun k => s.voutFits k (s.ofUlin k v)
  .next (s.pmbus w
    (State.pmRead 0x21 false fun s =>
      toLE 2 (s.toUlin s.pmDom (Fld.Dom.VOUT_MV.getRaw (s.copy .dom0 s.pmDom).easel))) fun bs s =>
    s.pmWrite 0x21 2 bs fits fun v s => s.each s.hif.pmDoms fun k s =>
      let mv := s.ofUlin k v
      ((s.writeVout mv [k]).selWait pmOrigin 0x0B02 ⟨1, 2 ^ k⟩ (toLE 4 mv ++ [0, 0, 0]) fun _ => st.ok).2)

/-- A margin target (R100). -/
def State.pmMargin (c : Byte) (f : Field) (w : Option (List Byte)) (s : State) : State :=
  s.pmbus w (State.pmRead c false fun s => toLE 2 (s.toUlin s.pmDom (f.getRaw (s.copy .dom0 s.pmDom).easel))) fun bs s =>
    s.pmWrite c 2 bs (fun v s => s.pmFieldOk f fun k => s.ofUlin k v) fun v s => s.pmField f fun k => s.ofUlin k v

/-- VOUT_MARGIN_HIGH (R100). -/
def execVoutMarginHigh (w : Option (List Byte)) (s : State) : Host.Outcome State Fault Refusal :=
  .next (s.pmMargin 0x25 Fld.Dom.MARGIN_HIGH_MV w)

/-- VOUT_MARGIN_LOW (R100). -/
def execVoutMarginLow (w : Option (List Byte)) (s : State) : Host.Outcome State Fault Refusal :=
  .next (s.pmMargin 0x26 Fld.Dom.MARGIN_LOW_MV w)

/-- VOUT_TRANSITION_RATE (R100, R279). -/
def execVoutTransitionRate (w : Option (List Byte)) (s : State) : Host.Outcome State Fault Refusal :=
  .next (s.pmbus w
    (State.pmRead 0x27 false fun s =>
      toLE 2 (toLin11 (Int.ofNat (Fld.Dom.SLEW.getRaw (s.copy .dom0 s.pmDom).easel)) 100)) fun bs s =>
    s.pmWrite 0x27 2 bs (fun v s => (lin11Slew v).isSome && s.pmFieldOk Fld.Dom.SLEW fun _ => (lin11Slew v).getD 0)
      fun v s => s.pmField Fld.Dom.SLEW fun _ => (lin11Slew v).getD 0)

/-- R100: STATUS_WORD of the page, whose low byte is STATUS_BYTE (PRESUMED, log entry 60). -/
def State.pmStatus (s : State) : Nat :=
  let k := s.pmDom
  let p := s.hif.pm[fin 16 k]
  bitsOf [false, p.cml ≠ 0, s.ctrlDown, false, p.iout.testBit 7, p.vout.testBit 7, !(s.domCh k).running, false,
    false, false, false, !s.powerGood k, false, false, p.iout ≠ 0, p.vout ≠ 0]

/-- STATUS_BYTE (R100). -/
def execStatusByte (w : Option (List Byte)) (s : State) : Host.Outcome State Fault Refusal :=
  .next (s.pmReadOnly 0x78 false w fun s => [byte s.pmStatus])

/-- STATUS_WORD (R100). -/
def execStatusWord (w : Option (List Byte)) (s : State) : Host.Outcome State Fault Refusal :=
  .next (s.pmReadOnly 0x79 false w fun s => toLE 2 s.pmStatus)

/-- STATUS_VOUT (R100). -/
def execStatusVout (w : Option (List Byte)) (s : State) : Host.Outcome State Fault Refusal :=
  .next (s.pmReadOnly 0x7A false w fun s => [byte (s.hif.pm[fin 16 s.pmDom]).vout])

/-- STATUS_IOUT (R100). -/
def execStatusIout (w : Option (List Byte)) (s : State) : Host.Outcome State Fault Refusal :=
  .next (s.pmReadOnly 0x7B false w fun s => [byte (s.hif.pm[fin 16 s.pmDom]).iout])

/-- STATUS_CML (R100). -/
def execStatusCml (w : Option (List Byte)) (s : State) : Host.Outcome State Fault Refusal :=
  .next (s.pmReadOnly 0x7E false w fun s => [byte (s.hif.pm[fin 16 s.pmDom]).cml])

/-- READ_VOUT (R100). -/
def execReadVout (w : Option (List Byte)) (s : State) : Host.Outcome State Fault Refusal :=
  .next (s.pmReadOnly 0x8B false w fun s => toLE 2 (s.toUlin s.pmDom (s.domV s.pmDom).toNat))

/-- READ_IOUT (R100). -/
def execReadIout (w : Option (List Byte)) (s : State) : Host.Outcome State Fault Refusal :=
  .next (s.pmReadOnly 0x8C false w fun s => toLE 2 (toLin11 (s.domI s.pmDom) 1000))

/-- READ_TEMPERATURE_1 (R100): the hottest control-die sensor. -/
def execReadTemperature1 (w : Option (List Byte)) (s : State) : Host.Outcome State Fault Refusal :=
  .next (s.pmReadOnly 0x8D false w fun s => toLE 2 (toLin11 ((s.hottest (List.range 16)).getD 0) 10))

/-- PMBUS_REVISION (R100). -/
def execPmbusRevision (w : Option (List Byte)) (s : State) : Host.Outcome State Fault Refusal :=
  .next (s.pmReadOnly 0x98 true w fun _ => [0x33])

/-- The bytes of a block read: its length and its characters. -/
def pmBlock (t : String) : List Byte := byte t.length :: t.toList.map fun c => byte c.toNat

/-- MFR_ID (R100). -/
def execMfrId (w : Option (List Byte)) (s : State) : Host.Outcome State Fault Refusal :=
  .next (s.pmReadOnly 0x99 true w fun _ => pmBlock "TUTHEN")

/-- MFR_MODEL (R100). -/
def execMfrModel (w : Option (List Byte)) (s : State) : Host.Outcome State Fault Refusal :=
  .next (s.pmReadOnly 0x9A true w fun _ => pmBlock "PT7424")

/-- R100: the command bytes that the window supports. -/
def pmCommands : List Byte :=
  [0x00, 0x01, 0x02, 0x03, 0x10, 0x19, 0x20, 0x21, 0x25, 0x26, 0x27, 0x78, 0x79, 0x7A, 0x7B, 0x7E, 0x8B, 0x8C, 0x8D, 0x98,
   0x99, 0x9A]

/-- PMBUS_UNSUPPORTED_COMMAND (R80, R100, R101): command byte `c`, with `w` as for the other commands. Outside the running state
no byte of a write is acknowledged, so none waits for its PEC. -/
def execPmbusUnsupportedCommand (c : Byte) (w : Option (List Byte)) (s : State) : Host.Outcome State Fault Refusal :=
  .next (
    if c ∈ pmCommands then s
    else s.pmbus w (State.pmRefuse 7 false) fun bs s =>
      if s.sys.mode = .running ∧ s.pmPecBad c bs then s.pecBad else s.pmRefuse 7 (s.sys.mode = .running))

end Sys2Proof.Machine
end

