-- ==== Sys2Proof/Machine/System.lean ====
section
/-! DEFINITION. The system family's own commands and the privilege of sessions (R116–R121). -/

namespace Sys2Proof.Machine

/-- NOP (R116). -/
def execNop (o : Origin) (p : List Byte) (s : State) : Host.Outcome State Fault Refusal :=
  .next (s.report o 0x0100 (param p.isEmpty) fun _ => [])

/-- SYS_STATUS (R117). -/
def execSysStatus (o : Origin) (p : List Byte) (s : State) : Host.Outcome State Fault Refusal :=
  .next (s.report o 0x0101 (param p.isEmpty) fun s =>
    [3, byte s.sys.fw.1] ++ toLE 2 s.sys.fw.2 ++
      [byte stepping, byte s.sys.mode.code, byte (s.sys.addr + 8 * b2n s.sys.root), byte s.nodeAddr] ++ toLE 2 s.sys.groups ++
      [byte (s.level o), 0] ++ padTo 8 s.sys.serial ++ toLE 8 s.now)

/-- NODE_GROUPS (R121). -/
def execNodeGroups (o : Origin) (p : List Byte) (s : State) : Host.Outcome State Fault Refusal :=
  .next (s.run o 0x0105 1 (param (p.length = 2 ∧ u p 0 2 < 2 ^ 15)) fun s =>
    (.done st.ok [], s.onSys fun y => { y with groups := u p 0 2 }))

/-- R119: a 16-byte nonce, random: a free value (DESIGN CHOICE, log entry 11). -/
def State.newNonce (s : State) : List Byte := (List.range 16).map fun j => Config.nonceByte s.free j

/-- R119: the outstanding nonce of a session. -/
def Hif.nonce (h : Hif) (i : Itf) : Option (List Byte × Nat) :=
  match i with
  | .i2c => h.nonceI2c
  | .spi => h.nonceSpi
  | .link => none

/-- R119: the outstanding nonce of a session changes. -/
def Hif.setNonce (i : Itf) (x : Option (List Byte × Nat)) (h : Hif) : Hif :=
  match i with
  | .i2c => { h with nonceI2c := x }
  | .spi => { h with nonceSpi := x }
  | .link => h

/-- R119: a session's level changes. -/
def Hif.setSession (i : Itf) (x : Session) (h : Hif) : Hif :=
  match i with
  | .i2c => { h with i2c := x }
  | .spi => { h with spiS := x }
  | .link => h

/-- R120: a privilege command reaches its own entry node, and no group (DEDUCED, log entry 45). -/
def ownEntry (o : Origin) : Bool := o.itf ≠ .link && !o.fanned

/-- PRIV_CHALLENGE (R119, R120) (DEDUCED, log entry 44). -/
def execPrivChallenge (o : Origin) (p : List Byte) (s : State) : Host.Outcome State Fault Refusal :=
  .next (s.run o 0x0210 0
    (if ownEntry o ∧ (s.hif.lockout.isSome ∨ (p.length = 1 ∧ u p 0 1 ≠ 2)) then st.notPermitted
      else param (ownEntry o && p.length = 1)) fun s =>
      (.done st.ok s.newNonce, (s.onHif (Hif.setNonce o.itf (some (s.newNonce, s.now)))).drew))

/-- R119: the message that a response authenticates. -/
def State.privMessage (s : State) (nonce : List Byte) (i : Itf) : List Byte :=
  nonce ++ padTo 8 s.sys.serial ++ [2, if i = .spi then 2 else 1]

/-- R119: a response is right: its nonce is at most 30 s old and the HMAC matches (DESIGN CHOICE, log entry 46). -/
def State.privOk (s : State) (i : Itf) (mac : List Byte) : Bool :=
  match s.hif.nonce i with
  | some (nonce, t) => s.now ≤ t + sec 30 && mac = hmac256 s.sys.installKey (s.privMessage nonce i)
  | none => false

/-- R119: a failure; the third in a row locks out challenges (DEDUCED, log entry 44). -/
def State.privFail (s : State) : State :=
  let n := s.hif.privFails + 1
  if 3 ≤ n then
    (s.onHif fun h => { h with privFails := 0, lockout := some s.now }).raiseWith { count := n } 0x1406 blockWide
  else s.onHif fun h => { h with privFails := n }

/-- R119: the session reaches Install. -/
def State.privGrant (i : Itf) (s : State) : State :=
  (s.onHif fun h => { h.setSession i { level := 2, tInstall := s.now } with privFails := 0 }).raise 0x1407

/-- PRIV_RESPONSE (R119, R120): the nonce is used up (DEDUCED, log entry 44). -/
def execPrivResponse (o : Origin) (p : List Byte) (s : State) : Host.Outcome State Fault Refusal :=
  let fits : Bool := ownEntry o && p.length = 32
  let good := s.privOk o.itf p
  let used (s : State) : State := s.onHif (Hif.setNonce o.itf none)
  .next (
    if s.gate o 0x0211 0 = st.ok ∧ o.form ∧ fits ∧ !good then (used s).privFail.answer o 0x0211 st.notPermitted []
    else s.run o 0x0211 0 (param fits) fun s => (.done st.ok [], (used s).privGrant o.itf))

/-- PRIV_DROP (R119, R120). -/
def execPrivDrop (o : Origin) (p : List Byte) (s : State) : Host.Outcome State Fault Refusal :=
  .next (s.run o 0x0212 0 (param (ownEntry o && p.isEmpty)) fun s =>
    (.done st.ok [], s.onHif (Hif.setSession o.itf Session.reset)))

/-- PRIV_LOCKOUT_END (R119) (DESIGN CHOICE, log entry 46). -/
def execPrivLockoutEnd (s : State) : Host.Outcome State Fault Refusal :=
  .next (
    match s.hif.lockout with
    | some t => (s.advanceTo (t + sec 60)).onHif fun h => { h with lockout := none }
    | none => s)

/-- R118: a raisable session. -/
def Hif.session (h : Hif) (i : Itf) : Session :=
  match i with
  | .i2c => h.i2c
  | .spi => h.spiS
  | .link => Session.reset

/-- PRIV_SESSION_TIMEOUT (R119): 15 minutes after the last accepted command that needed Install.
(DESIGN CHOICE, log entry 46.) -/
def execPrivSessionTimeout (itf : Itf) (s : State) : Host.Outcome State Fault Refusal :=
  .next (
    if (s.hif.session itf).level < 2 then s
    else (s.advanceTo ((s.hif.session itf).tInstall + sec 900)).onHif (Hif.setSession itf Session.reset))

end Sys2Proof.Machine
end

