-- ==== Sys2Proof/Machine/Packet.lean ====
section
/-! DEFINITION. Korisk packets on their way (R104–R115, R122): the checks of a packet, its routing, the executor, the
mailbox's actions (R88–R90), the SPI packet path (R98) and command frames (R339). -/

namespace Sys2Proof.Machine

/-- An opcode's command: its privilege as its heading gives it, whether a packet with these parameters may go to a group
(R110: its reply carries no parameters), and its meaning. -/
structure KCmd where
  op : Nat
  priv : Nat
  grp : List Byte → Bool
  run : Origin → List Byte → State → Host.Outcome State Fault Refusal

/-- Block 0x01 (R115). -/
def cmdsSystem : List KCmd :=
  [
    { op := 0x0100, priv := 0, grp := fun _ => true, run := execNop },
    { op := 0x0101, priv := 0, grp := fun _ => false, run := execSysStatus },
    { op := 0x0105, priv := 1, grp := fun _ => true, run := execNodeGroups },
    { op := 0x0110, priv := 1, grp := fun _ => true, run := execReset },
    { op := 0x0111, priv := 0, grp := fun _ => false, run := execResetCause },
    { op := 0x0112, priv := 2, grp := fun _ => true, run := execD0BootRecord },
    { op := 0x0113, priv := 2, grp := fun _ => false, run := execKeepReservoir }]

/-- Block 0x02 (R115). -/
def cmdsHif : List KCmd :=
  [
    { op := 0x0201, priv := 1, grp := fun _ => true, run := execHifConfig },
    { op := 0x0202, priv := 0, grp := fun _ => false, run := execHifStatus },
    { op := 0x0210, priv := 0, grp := fun _ => false, run := execPrivChallenge },
    { op := 0x0211, priv := 0, grp := fun _ => true, run := execPrivResponse },
    { op := 0x0212, priv := 0, grp := fun _ => true, run := execPrivDrop }]

/-- Block 0x03 (R115). -/
def cmdsConfig : List KCmd :=
  [
    { op := 0x0301, priv := 1, grp := fun _ => false, run := execMultiCommit },
    { op := 0x0302, priv := 2, grp := fun _ => true, run := execEaselSave }]

/-- Block 0x06 (R115). -/
def cmdsPalette : List KCmd :=
  [
    { op := 0x0601, priv := 2, grp := fun _ => true, run := execPalBegin },
    { op := 0x0602, priv := 2, grp := fun _ => true, run := execPalData },
    { op := 0x0603, priv := 2, grp := fun _ => true, run := execPalEnd },
    { op := 0x0604, priv := 2, grp := fun _ => true, run := execPalSwitch },
    { op := 0x0605, priv := 0, grp := fun _ => false, run := execPalStatus },
    { op := 0x0606, priv := 0, grp := fun _ => false, run := execPalRead }]

/-- Block 0x07 (R115). -/
def cmdsRect : List KCmd :=
  [
    { op := 0x0701, priv := 1, grp := fun _ => true, run := execRectControl },
    { op := 0x0702, priv := 0, grp := fun _ => false, run := execRectStatus },
    { op := 0x0703, priv := 0, grp := fun _ => false, run := execBarrierStatus }]

/-- Block 0x08 (R115). -/
def cmdsBus : List KCmd :=
  [
    { op := 0x0801, priv := 0, grp := fun _ => false, run := execBusStatus },
    { op := 0x0802, priv := 1, grp := fun _ => true, run := execAuxControl }]

/-- Block 0x09 (R115). -/
def cmdsCharger : List KCmd :=
  [
    { op := 0x0901, priv := 1, grp := fun _ => true, run := execStringControl },
    { op := 0x0902, priv := 1, grp := fun _ => true, run := execChgControl },
    { op := 0x0903, priv := 1, grp := fun _ => true, run := execStringTest },
    { op := 0x0904, priv := 0, grp := fun _ => false, run := execChgStatus }]

/-- Block 0x0A (R115). -/
def cmdsGauge : List KCmd :=
  [
    { op := 0x0A01, priv := 0, grp := fun _ => false, run := execGaugeStatus },
    { op := 0x0A02, priv := 2, grp := fun _ => true, run := execGaugeReset },
    { op := 0x0A03, priv := 2, grp := fun _ => true, run := execGaugeSetFcc }]

/-- Block 0x0B (R115) (DEDUCED, log entry 51). -/
def cmdsDomain : List KCmd :=
  [
    { op := 0x0B01, priv := 1, grp := fun p => u p 2 1 < 5, run := execDomControl },
    { op := 0x0B02, priv := 1, grp := fun _ => false, run := execDomVout },
    { op := 0x0B03, priv := 0, grp := fun _ => false, run := execDomStatus },
    { op := 0x0B04, priv := 0, grp := fun _ => false, run := execPhaseStatus }]

/-- Block 0x0C (R115). -/
def cmdsFeed : List KCmd :=
  [
    { op := 0x0C01, priv := 1, grp := fun _ => true, run := execPortControl },
    { op := 0x0C02, priv := 0, grp := fun _ => false, run := execPortStatus },
    { op := 0x0C03, priv := 0, grp := fun _ => false, run := execPortMeter }]

/-- Block 0x0D (R115). -/
def cmdsLink : List KCmd :=
  [
    { op := 0x0D01, priv := 0, grp := fun _ => false, run := execLinkStatus },
    { op := 0x0D02, priv := 0, grp := fun _ => false, run := execNodeTable },
    { op := 0x0D03, priv := 2, grp := fun _ => false, run := execEnumerate },
    { op := 0x0D04, priv := 0, grp := fun _ => false, run := execCapStatus }]

/-- Block 0x0E (R115). -/
def cmdsPd : List KCmd :=
  [
    { op := 0x0E01, priv := 1, grp := fun _ => true, run := execPdControl },
    { op := 0x0E02, priv := 1, grp := fun _ => false, run := execPdTx },
    { op := 0x0E03, priv := 1, grp := fun _ => false, run := execPdEvent },
    { op := 0x0E04, priv := 1, grp := fun _ => false, run := execPdPower },
    { op := 0x0E05, priv := 1, grp := fun _ => false, run := execPdSwap },
    { op := 0x0E06, priv := 0, grp := fun _ => false, run := execPdStatus }]

/-- Block 0x0F (R115). -/
def cmdsSeq : List KCmd :=
  [
    { op := 0x0F01, priv := 1, grp := fun _ => false, run := execSeqStart },
    { op := 0x0F02, priv := 1, grp := fun _ => true, run := execSeqControl },
    { op := 0x0F03, priv := 0, grp := fun _ => false, run := execSeqStatus },
    { op := 0x0F04, priv := 0, grp := fun _ => false, run := execEmStatus }]

/-- Block 0x10 (R115). -/
def cmdsMeas : List KCmd :=
  [
    { op := 0x1001, priv := 0, grp := fun _ => false, run := execAdcStatus },
    { op := 0x1002, priv := 0, grp := fun _ => false, run := execMeasPeek },
    { op := 0x1003, priv := 0, grp := fun _ => false, run := execTelemRead },
    { op := 0x1004, priv := 1, grp := fun _ => true, run := execCalRun },
    { op := 0x1005, priv := 0, grp := fun _ => false, run := execCalStatus },
    { op := 0x1006, priv := 0, grp := fun _ => false, run := execCcStatus }]

/-- Block 0x11 (R115). -/
def cmdsThermal : List KCmd :=
  [
    { op := 0x1101, priv := 0, grp := fun _ => false, run := execThermalStatus },
    { op := 0x1102, priv := 0, grp := fun _ => false, run := execFanStatus }]

/-- Block 0x12 (R115). -/
def cmdsSketch : List KCmd :=
  [
    { op := 0x1201, priv := 0, grp := fun _ => false, run := execSkbStatus },
    { op := 0x1202, priv := 0, grp := fun _ => false, run := execSkbRead },
    { op := 0x1203, priv := 0, grp := fun _ => true, run := execSkbStreamStop },
    { op := 0x1204, priv := 0, grp := fun _ => false, run := execSkbCaptureInfo },
    { op := 0x1205, priv := 1, grp := fun _ => true, run := execSkbTrigger },
    { op := 0x1206, priv := 1, grp := fun _ => false, run := execSkbMark },
    { op := 0x1207, priv := 2, grp := fun _ => true, run := execSkbClear }]

/-- Block 0x13 (R115). -/
def cmdsFault : List KCmd :=
  [
    { op := 0x1301, priv := 0, grp := fun _ => false, run := execFaultStatus },
    { op := 0x1302, priv := 0, grp := fun _ => false, run := execFaultActive }]

/-- Block 0x14 (R115). -/
def cmdsSecurity : List KCmd :=
  [
    { op := 0x1401, priv := 2, grp := fun _ => true, run := execImgBegin },
    { op := 0x1402, priv := 2, grp := fun _ => true, run := execImgData },
    { op := 0x1403, priv := 2, grp := fun _ => true, run := execImgEnd },
    { op := 0x1404, priv := 2, grp := fun _ => true, run := execImgActivate },
    { op := 0x1405, priv := 2, grp := fun _ => true, run := execImgConfirm },
    { op := 0x1406, priv := 0, grp := fun _ => false, run := execImgStatus }]

/-- R124–R127: a block's easel commands. -/
def cmdsEasel (blk : Nat) : List KCmd :=
  [
    { op := 256 * blk + 0xE0, priv := easelPriv blk, grp := fun _ => true, run := fun o => execEaselWrite o blk },
    { op := 256 * blk + 0xE1, priv := easelPriv blk, grp := fun _ => true, run := fun o => execEaselCommit o blk },
    { op := 256 * blk + 0xE2, priv := easelPriv blk, grp := fun _ => true, run := fun o => execEaselDiscard o blk },
    { op := 256 * blk + 0xE3, priv := 0, grp := fun _ => false, run := fun o => execEaselRead o blk },
    { op := 256 * blk + 0xE4, priv := 0, grp := fun _ => false, run := fun o => execEaselStatus o blk }]

/-- R115: the commands of a block. -/
def cmdsOf (blk : Nat) : List KCmd :=
  (match blk with
    | 0x01 => cmdsSystem
    | 0x02 => cmdsHif
    | 0x03 => cmdsConfig
    | 0x06 => cmdsPalette
    | 0x07 => cmdsRect
    | 0x08 => cmdsBus
    | 0x09 => cmdsCharger
    | 0x0A => cmdsGauge
    | 0x0B => cmdsDomain
    | 0x0C => cmdsFeed
    | 0x0D => cmdsLink
    | 0x0E => cmdsPd
    | 0x0F => cmdsSeq
    | 0x10 => cmdsMeas
    | 0x11 => cmdsThermal
    | 0x12 => cmdsSketch
    | 0x13 => cmdsFault
    | 0x14 => cmdsSecurity
    | _ => []) ++ if blk ∈ easelBlocks then cmdsEasel blk else []

/-- R115: the command of an opcode, if there is one. -/
def korisk (op : Nat) : Option KCmd := (cmdsOf (op / 256)).find? fun c => c.op = op

/-- R120: the privilege commands, which run at the entry node only. -/
def privOps : List Nat := [0x0210, 0x0211, 0x0212]

/-- A packet's fields (R104). -/
structure Packet where
  flags : Nat
  op : Nat
  tag : Byte
  dest : Nat
  params : List Byte

/-- The fields of a packet's bytes; those that are missing read 0. -/
def packetOf (bs : List Byte) : Packet :=
  { flags := u bs 1 1, op := u bs 2 2, tag := bs.getD 4 0, dest := u bs 5 1, params := sliceBytes bs 8 (u bs 6 2) }

/-- R104, R106, R114: SYNC, length and CRC. -/
def packetOk (bs : List Byte) : Bool :=
  let n := bs.length
  10 ≤ n && bs.head? = some 0xA5 && n = 10 + u bs 6 2 && crc16 (bs.take (n - 2)) = u bs (n - 2) 2

/-- R105: CONT (DEDUCED, log entry 50). -/
def Packet.cont (k : Packet) : Bool := k.flags.testBit 1

/-- R105: a request's FLAGS (DEDUCED, log entries 58, 70). -/
def Packet.form (k : Packet) : Bool := !k.flags.testBit 0 && k.flags / 8 % 8 = 0 && k.flags / 64 = 1

/-- R105, R108: the destination is a group or all nodes (DEDUCED, log entry 105). -/
def Packet.fanned (k : Packet) : Bool := 0xF0 ≤ k.dest

/-- Where a packet comes from, with what of its header its reply needs. -/
def Packet.origin (k : Packet) (i : Itf) (src level : Nat) : Origin :=
  { itf := i, src := src, level := level, tag := k.tag, noReply := k.flags.testBit 2 && !k.fanned, fanned := k.fanned,
    form := k.form }

/-- A meaning's next state. -/
def afterRun (r : Host.Outcome State Fault Refusal) (s : State) : State :=
  match r with
  | .next t => t
  | .fault _ | .refused _ => s

/-- R113: a CONT gets the next segment held; with none held it returns STATE. -/
def State.segment (o : Origin) (op : Nat) (s : State) : State :=
  match s.hif.seg o with
  | none => s.answer o op st.state []
  | some g =>
    let rest := g.rest.drop maxData
    let s := s.onHif fun h => h.setSeg o (if rest.isEmpty then none else some { g with rest := rest, since := s.now })
    if o.noReply then s.noReply o
    else s.deliver o (replyPacket op o.tag s.nodeAddr (if rest.isEmpty then st.ok else st.more) (g.rest.take maxData))

/-- R105, R113, R114: a packet at the node that executes it, from the check of NOT_PERMITTED on.
(DEDUCED, log entries 51, 58.) -/
def State.localPacket (o : Origin) (k : Packet) (c : KCmd) (s : State) : State :=
  if !k.cont then afterRun (c.run o k.params s) s
  else if s.gate o k.op c.priv ≠ st.ok then s.answer o k.op (s.gate o k.op c.priv) []
  else if !k.form ∨ !k.params.isEmpty then s.answer o k.op st.badParam []
  else s.segment o k.op

/-- R67, R114: the device takes no packet now. -/
def State.packetBusy (s : State) : Bool := s.sys.mode ≠ .running && s.sys.mode ≠ .bootLoader

/-- R113: any packet but the CONT that matches them (same OPCODE and TAG, CONT set, PLEN 0) ends the segments held for its
session. -/
def State.dropSeg (o : Origin) (keep : Bool) (op : Nat) (s : State) : State :=
  match s.hif.seg o with
  | some g => if keep && g.opcode = op && g.tag = o.tag then s else s.onHif fun h => h.setSeg o none
  | none => s

/-- R109: a node is in the enumeration table and the link is up. -/
def State.reaches (s : State) (dest : Nat) : Bool :=
  s.flag Fld.Link.LINK_EN && !s.link.usedPorts.isEmpty && s.link.table.any fun e => e.addr = dest

/-- R110, R121: this node is addressed by a group or all-nodes destination. -/
def State.inGroup (s : State) (dest : Nat) : Bool := dest = 0xFF || s.sys.groups.testBit (dest - 0xF0)

/-- R109, R118: a packet goes to another node with its session's level, and its reply is awaited. -/
def State.forward (o : Origin) (k : Packet) (left : List Nat) (send : Bool) (bs : List Byte) (s : State) : State :=
  s.onHif fun h =>
    { h with
      fwds := h.fwds ++ [⟨o, k.op, k.dest, k.params, left, [], s.now⟩]
      linkOut := if send then h.linkOut ++ [(k.dest, s.level o, bs)] else h.linkOut }

/-- R110: a packet to a group or to all nodes: the nodes that may answer, this one's own run, and the collected reply.
(DESIGN CHOICE, log entry 49.) -/
def State.fanOut (o : Origin) (k : Packet) (c : KCmd) (bs : List Byte) (s : State) : State :=
  let others := (s.link.table.map (·.addr)).filter fun a => a ≠ s.nodeAddr
  let mine := s.inGroup k.dest
  let left := (if mine then [s.nodeAddr] else []) ++ others
  if left.isEmpty then s.deliver o (replyPacket k.op o.tag s.nodeAddr st.ok [0])
  else
    let s := s.forward o k left (!others.isEmpty) bs
    if mine then s.localPacket o k c else s

/-- R55, R114: the answer to an opcode that no block has: the boot loader answers every opcode but its own with STATE. -/
def State.unknownOp (s : State) : Nat := if s.sys.mode = .bootLoader then st.state else st.badOpcode

/-- A packet that the mailbox or the SPI path hands over (R108–R110, R114) (DESIGN CHOICE, log entry 10). -/
def State.hostPacket (i : Itf) (bs : List Byte) (s : State) : State :=
  let k := packetOf bs
  let o := k.origin i 0 0
  let self : Origin := { o with noReply := false, fanned := false }
  let here : Bool := k.dest = 0 || k.dest = s.nodeAddr
  let s := s.dropSeg o (packetOk bs && k.cont && k.params.isEmpty && here) k.op
  let no (status : Nat) : State := s.answer self k.op status []
  if !packetOk bs then no st.crc
  else if s.packetBusy then no st.busy
  else if !here ∧ !k.fanned ∧ !s.reaches k.dest then no st.noRoute
  else
    match korisk k.op with
    | none => no s.unknownOp
    | some c =>
      if here then s.localPacket o k c
      else if k.op ∈ privOps ∨ (k.fanned ∧ !c.grp k.params) then no st.badParam
      else if k.fanned then s.fanOut o k c bs
      else s.forward o k [k.dest] true bs

/-- A whole packet that arrives over the link for this node (R109, R110, R118, R122) (DESIGN CHOICE, log entry 10). -/
def State.linkPacket (src level : Nat) (bs : List Byte) (s : State) : State :=
  let k := packetOf bs
  let o := k.origin .link src level
  let s := s.dropSeg o (packetOk bs && k.cont && k.params.isEmpty) k.op
  if !packetOk bs then s.answer o k.op st.crc []
  else if s.packetBusy then s.answer o k.op st.busy []
  else
    match korisk k.op with
    | none => s.answer o k.op s.unknownOp []
    | some c => s.localPacket o k c

/-- R110: a collected reply goes out. -/
def State.collected (f : Fwd) (s : State) : State :=
  s.deliver f.o (replyPacket f.op f.o.tag s.nodeAddr f.reply.1 f.reply.2)

/-- R69, R119: the privilege that a packet needs as sent: its heading's, or what its parameters raise it to (R128: each block
of a MULTI_COMMIT; what is staged at another node is not known here). -/
def privSent (op : Nat) (p : List Byte) : Nat :=
  let heading := ((korisk op).map fun c => c.priv).getD 0
  if op = 0x0110 ∧ u p 0 1 = 2 then 2
  else if op = 0x0301 then
    (List.range (u p 0 1)).foldl (fun m e => max m (easelPriv (u (multiEntry p e) 0 1))) heading
  else if op % 256 = 0xE0 ∧ op / 256 ∈ easelBlocks then writePriv (op / 256) p
  else heading

/-- R113, R114: a reply with this status comes from a command that was accepted. -/
def acceptedStatus (status : Nat) : Bool := status = st.ok || status = st.more || status = st.timeout || status = st.partly

/-- R119: an Install-level command that another node accepted restarts its session's 15 minutes at the entry node. -/
def State.farAccepted (f : Fwd) (s : State) : State :=
  if 2 ≤ privSent f.op f.params then s.onHif (Hif.installed f.o.itf s.now) else s

/-- R110, R121: what a node's reply shows of its groups: a NODE_GROUPS that ended OK sets them, and a reply to a packet for a
group shows a member (DESIGN CHOICE, log entry 49). -/
def Fwd.learn (f : Fwd) (node status : Nat) (h : Hif) : Hif :=
  let old := ((h.members.find? fun m => m.1 = node).map (·.2)).getD 0
  let new :=
    if f.op = 0x0105 ∧ status = st.ok then u f.params 0 2
    else if 0xF0 ≤ f.dest ∧ f.dest < 0xFF then old ||| 2 ^ (f.dest - 0xF0) else old
  { h with members := (node, new) :: h.members.filter fun m => m.1 ≠ node }

/-- R110: a node that a packet addresses, as far as the entry node knows. -/
def State.addressed (s : State) (f : Fwd) (a : Nat) : Bool :=
  f.dest = 0xFF || a = s.nodeAddr || s.hif.members.any fun m => m.1 = a && m.2.testBit (f.dest - 0xF0)

/-- R109, R110: a reply from node `node`. -/
def State.remoteReply (node : Nat) (bs : List Byte) (s : State) : State :=
  let k := packetOf bs
  if !packetOk bs ∨ !k.flags.testBit 0 ∨ k.params.isEmpty then s
  else
    match s.hif.fwds.find? fun f => f.op = k.op && f.o.tag = k.tag && node ∈ f.left && node ≠ s.nodeAddr with
    | none => s
    | some f =>
      let s := s.onHif (f.learn node (u k.params 0 1))
      let s := if acceptedStatus (u k.params 0 1) then s.farAccepted f else s
      if f.o.fanned then
        let g := f.note node (u k.params 0 1)
        if g.left.isEmpty then (s.onHif fun h => { h with fwds := h.fwds.erase f }).collected g
        else s.onHif fun h => { h with fwds := h.fwds.replace f g }
      else (s.onHif fun h => { h with fwds := h.fwds.erase f }).deliver f.o bs

/-- R339: a packet as command frames (DEDUCED, log entry 47). -/
def commandFrames (own dest priv : Nat) (bs : List Byte) : List (List Byte) :=
  let segs := (List.range ((bs.length + 255) / 256)).map fun j => sliceBytes bs (256 * j) 256
  segs.zipIdx.map fun x =>
    frameOf sofCommand
      ([byte dest, byte own, byte priv, byte (x.2 + if x.2 + 1 = segs.length then 128 else 0), byte (x.1.length - 1)] ++ x.1)

/-- R339: packets that wait for the link go out (DEDUCED, log entry 47; DESIGN CHOICE, log entry 48). -/
def State.sendPackets (s : State) : State :=
  let s' := s.each s.hif.linkOut fun x s =>
    s.each (commandFrames s.nodeAddr x.1 x.2.1 x.2.2) fun f s => s.sendOn (fun _ _ => true) f
  s'.onHif fun h => { h with linkOut := [] }

/-- What follows a packet row: replies delivered, and packets sent. -/
def State.packetEnd (s : State) : State := s.hifServe.sendPackets

/-- The mailbox after a change. -/
def State.onMbx (f : Mbx → Mbx) (s : State) : State := s.onHif fun h => { h with mbx := f h.mbx }

/-- R90: an action outside the table of R89 (DEDUCED, log entry 53). -/
def Mbx.ignored (m : Mbx) : Mbx := { m with seqErr := true }

/-- R89: the request with the fragment in the buffer added. -/
def Mbx.gathered (m : Mbx) : List Byte := m.asm ++ padTo m.len m.buf

/-- R89, R90: SUBMIT (DEDUCED, log entry 53). -/
def State.submit (last : Bool) (s : State) : State :=
  let m := s.hif.mbx
  if s.packetBusy ∨ !(m.state = .idle ∨ m.state = .accept) ∨ m.len = 0 then s.onMbx Mbx.ignored
  else
    let req := m.gathered
    if 4096 < req.length then
      let k := packetOf req
      let o := ({ k with dest := 0 } : Packet).origin .i2c 0 0
      (((s.dropSeg o false k.op).onMbx fun m => { m with state := .busy, asm := [] }).answer o k.op st.badParam []).packetEnd
    else if last then ((s.onMbx fun m => { m with state := .busy, asm := [] }).hostPacket .i2c req).packetEnd
    else s.onMbx fun m => { m with state := .accept, asm := req }

/-- R89, R84: RELEASE. -/
def State.release (s : State) : State :=
  let m := s.hif.mbx
  if m.state ≠ .reply then s.onMbx Mbx.ignored
  else if m.more then
    s.onHif fun h =>
      let h := { h with mbx := m.load m.rest }
      if h.replyFlag then h.setIrq 2 else h
  else (s.onMbx Mbx.clear).packetEnd

/-- R89: a reply owed to the mailbox has nobody to go to any more (DEDUCED, log entry 52). -/
def orphan (o : Origin) : Origin :=
  if o.itf = .i2c then { o with itf := .link, noReply := true, fanned := false } else o

/-- R89: replies owed to the mailbox's last packet are discarded when they come; the packet still runs.
(DEDUCED, log entry 52.) -/
def State.disown (s : State) : State :=
  let g (w : Owed) : Owed := { w with o := orphan w.o }
  let s := s.onHif fun h =>
    { h with waits := h.waits.map fun w => { w with o := orphan w.o }, fwds := h.fwds.filter fun f => f.o.itf ≠ .i2c }
  let s := s.onSkb fun k =>
    { k with
      waiting := k.waiting.map fun j => { j with owed := j.owed.map g }
      running := k.running.map fun j => { j with owed := j.owed.map g } }
  s.onPd fun d =>
    { d with
      ch := d.ch.map fun c =>
        { c with
          tx := c.tx.map fun x => { x with owed := x.owed.map g }
          armed := c.armed.map fun a => { a with owed := a.owed.map g }
          run := c.run.map fun a => { a with owed := a.owed.map g } } }

/-- R89, R102: ABORT (DEDUCED, log entries 52, 53). -/
def State.abort (s : State) : State :=
  if s.packetBusy then s else ((s.onMbx Mbx.clear).disown).packetEnd

/-- R88: an action of MBX_CTRL. -/
def State.mbxAct (n : Nat) (s : State) : State :=
  if n = 1 then s.submit true
  else if n = 2 then s.submit false
  else if n = 3 then s.release
  else if n = 4 then s.abort
  else s

/-- R73, R74: a transaction that writes action `n` to MBX_CTRL with the page it holds (DEDUCED, log entry 55). -/
def State.mbxRow (n : Nat) (s : State) : State :=
  if s.i2cUp then (((s.i2cStart.drive []).onHif fun h => { h with ptr := 0x41 }).mbxAct n) else s

/-- REGISTER_WRITE (R73): what follows address+W. -/
def execRegisterWrite (bytes : List Byte) (s : State) : Host.Outcome State Fault Refusal :=
  .next (if s.i2cUp then (s.i2cWrite 0 bytes).1.mbxAct (s.i2cWrite 0 bytes).2 else s)

/-- SUBMIT_MORE (R89, R90). -/
def execSubmitMore (s : State) : Host.Outcome State Fault Refusal := .next (s.mbxRow 2)

/-- SUBMIT_LAST (R89, R90, R114). -/
def execSubmitLast (s : State) : Host.Outcome State Fault Refusal := .next (s.mbxRow 1)

/-- RELEASE (R89, R90, R102). -/
def execRelease (s : State) : Host.Outcome State Fault Refusal := .next (s.mbxRow 3)

/-- ABORT (R89, R102). -/
def execAbort (s : State) : Host.Outcome State Fault Refusal := .next (s.mbxRow 4)

/-- R98: PKT_WRITE: LEN and the packet's bytes. -/
def State.spiPacket (rest : List Byte) (s : State) : State :=
  let b := s.hif.spi
  let len := u rest 0 2
  let s := s.spiFrame (zeros rest.length)
  if rest.length < 2 ∨ len < 10 ∨ 4096 < len ∨ rest.length - 2 < len ∨ b.running ∨ !b.reply.isEmpty then s.spiDiscard
  else
    ((s.onHif fun h => { h with spi := { h.spi with running := true } }).hostPacket .spi ((rest.drop 2).take len)).packetEnd

/-- R96, R97: an SPI frame from the falling to the rising edge of CS_N, its instruction byte first: that byte picks what the
frame does, and a frame of any other is discarded. -/
def State.spiTake (frame : List Byte) (s : State) : State :=
  match frame with
  | [] => s
  | b :: rest =>
    if !s.spiUp then s
    else
      match spiOp b with
      | none => (s.spiFrame []).spiDiscard
      | some .regWrite => s.spiWrite rest
      | some .regRead => s.spiRead rest
      | some .pktWrite => s.spiPacket rest
      | some .pktRead => s.spiReply rest
      | some .streamRead => s.spiStream rest

/-- REG_WRITE (R97): `bytes` are the address and the data. -/
def execRegWrite (bytes : List Byte) (s : State) : Host.Outcome State Fault Refusal := .next (s.spiTake (0x01 :: bytes))

/-- REG_READ (R97): `n` bytes from address `ptr`, after the address and a dummy byte. -/
def execRegRead (ptr : Byte) (n : Nat) (s : State) : Host.Outcome State Fault Refusal :=
  .next (s.spiTake (0x03 :: ptr :: 0 :: zeros n))

/-- PKT_WRITE (R97, R98): LEN and the bytes that arrive after it. -/
def execPktWrite (len : Nat) (bytes : List Byte) (s : State) : Host.Outcome State Fault Refusal :=
  .next (s.spiTake (0x10 :: (toLE 2 len ++ bytes)))

/-- PKT_READ (R97, R98): the host clocks `n` bytes after LEN (DESIGN CHOICE, log entry 140). -/
def execPktRead (n : Nat) (s : State) : Host.Outcome State Fault Refusal := .next (s.spiTake (0x11 :: zeros (3 + n)))

/-- STREAM_READ (R97, R99): the host clocks `n` bytes after COUNT. -/
def execStreamRead (n : Nat) (s : State) : Host.Outcome State Fault Refusal := .next (s.spiTake (0x12 :: zeros (3 + n)))

/-- SPI_UNKNOWN_INSTRUCTION (R97, R98, R103): a frame of the one byte `b`. A PKT_WRITE that ends there lacks its bytes and is
discarded as well; the other instructions do nothing before their bytes come. -/
def execSpiUnknownInstruction (b : Byte) (s : State) : Host.Outcome State Fault Refusal := .next (s.spiTake [b])

/-- HOST_WD_WRITE (R69, R96): a whole write of HOST_WD, with its PEC where it is required. -/
def execHostWdWrite (itf : Itf) (v : Byte) (s : State) : Host.Outcome State Fault Refusal :=
  .next (
    match itf with
    | .i2c =>
      if s.i2cUp then ((s.i2cStart.drive []).onHif fun h => { h with ptr := 0x19 }).wdWrite v.toNat else s
    | .spi => s.spiTake [0x01, 0x18, v]
    | .link => s)

/-- REMOTE_REPLY (R109, R110). -/
def execRemoteReply (node : Nat) (bytes : List Byte) (s : State) : Host.Outcome State Fault Refusal :=
  .next (s.remoteReply node bytes).packetEnd

/-- FORWARD_TIMEOUT (R109, R110, R119): 250 ms after the oldest packet forwarded; one with NO_REPLY that nothing answered
has been accepted (DEDUCED, log entry 50). -/
def execForwardTimeout (s : State) : Host.Outcome State Fault Refusal :=
  .next (
    match s.hif.fwds with
    | [] => s
    | f :: rest =>
      let s := (s.advanceTo (f.since + ms 250)).onHif fun h => { h with fwds := rest }
      (if f.o.fanned then
        s.collected { f with left := [], entries := f.entries ++ (f.left.filter (s.addressed f)).map fun a => (a, st.timeout) }
      else if f.o.noReply then (s.farAccepted f).noReply f.o
      else s.answer f.o f.op st.timeout []).packetEnd)

/-- SEGMENT_HOLD_EXPIRY (R113): 1 s without a CONT; of the link's sessions, the one that has waited longest. -/
def execSegmentHoldExpiry (itf : Itf) (s : State) : Host.Outcome State Fault Refusal :=
  let drop (g : Option Segs) (f : Hif → Hif) : State :=
    match g with
    | some g => (s.advanceTo (g.since + sec 1)).onHif f
    | none => s
  .next (
    match itf with
    | .i2c => drop s.hif.segI2c fun h => { h with segI2c := none }
    | .spi => drop s.hif.segSpi fun h => { h with segSpi := none }
    | .link => drop (s.hif.segLink.head?.map (·.2)) fun h => { h with segLink := h.segLink.drop 1 })

/-- R339: a segment joins the packet of its entry node: the packets still being assembled, and the bytes of one that is
whole. A segment out of order, or one that makes the packet longer than 4,096 bytes, loses its packet. -/
def assemble (asm : List CmdAsm) (src level seg : Nat) (data : List Byte) : List CmdAsm × Option (List Byte) :=
  let rest := asm.filter fun a => a.src ≠ src
  let old : Option (List Byte) :=
    if seg % 128 = 0 then some []
    else (asm.find? fun a => a.src = src && a.next = seg % 128).map (·.bytes)
  match old with
  | none => (rest, none)
  | some bs =>
    let bs := bs ++ data
    if 4096 < bs.length then (rest, none)
    else if 128 ≤ seg then (rest, some bs)
    else (rest ++ [{ src := src, level := level, next := seg % 128 + 1, bytes := bs }], none)

/-- COMMAND_FRAME (R339, R109, R110): a command frame on port `p`. A frame for another node, a group or all nodes goes on
along the path tree; one with a bad CRC loses its packet (DEDUCED, log entry 47). -/
def execCommandFrame (p : Fin 3) (f : List Byte) (s : State) : Host.Outcome State Fault Refusal :=
  .next (
    if !s.flag Fld.Link.LINK_EN ∨ !(s.linkPort p.val).used then s
    else
      match frameBody sofCommand (10 + u f 5 1) f with
      | none => s.onLink fun l => { l with asm := l.asm.filter fun a => a.src ≠ u f 2 1 }
      | some b =>
        let dest := u b 0 1
        let src := u b 1 1
        let s := if dest = s.nodeAddr then s else s.sendOn (fun q _ => q ≠ p.val) f
        if dest ≠ s.nodeAddr ∧ !(0xF0 ≤ dest ∧ s.inGroup dest) then s
        else
          let r := assemble s.link.asm src (u b 2 1) (u b 3 1) (b.drop 5)
          let s := s.onLink fun l => { l with asm := r.1 }
          match r.2 with
          | none => s
          | some bs =>
            (if (packetOf bs).flags.testBit 0 then s.remoteReply src bs
            else s.linkPacket src (u b 2 1) bs).packetEnd)

end Sys2Proof.Machine
end

