-- ==== Sys2Proof/Machine/BusTick.lean ====
section
/-! DEFINITION. The bus controller at the 10 µs tick: references, walk-in limits, the selection of sources
(R183, R187, R188, R190–R192, R194, R196, R199). -/

namespace Sys2Proof.Machine

/-- A value moves toward a target by at most `m`. -/
def slewTo (m v goal : Nat) : Nat := if v ≤ goal then min goal (v + m) else max goal (v - m)

/-- An auxiliary input in MATCH. -/
def State.matchingIn (s : State) : Option Nat := (List.range 2).find? fun k => (s.auxCh k).st = .matching

/-- R183, R191: where the strings' reference goes, mV. -/
def State.refGoal (s : State) : Nat :=
  match s.matchingIn with
  | some k => (s.auxCh k).vin - s.fld Fld.Bus.AUX_WALK_MV
  | none => s.vStby

/-- R187: the loop reference of a rectifier channel, µV: BUS_SET while it walks in or runs, falling toward V_STBY − 500 mV
while its LLC runs on, none otherwise. -/
def State.rectRefNext (s : State) (k : Nat) : Nat :=
  let c := s.rectCh k
  let r := s.bus.rectRef[fin 2 k]
  let m := 10 * s.fld Fld.Bus.REF_SLEW_MV_MS
  let goal := 1000 * s.fld Fld.Bus.BUS_SET_MV
  if c.delivers then (if r = 0 then goal else slewTo m r goal)
  else if c.st = .lost ∧ c.llc then slewTo m r (1000 * (s.vStby - 500))
  else 0

/-- R191: the walk-in limit of an auxiliary input, in units of 0.00001 mW, at most ILIM_MA × V_IN. -/
def State.auxWalk (s : State) (k : Nat) (c : AuxCh) : AuxCh :=
  if c.st = .walkIn then
    { c with walk := min (c.walk + 1000 * s.fld Fld.Rect.WALKIN_W_S) (100 * s.fld Fld.Bus.ILIM_MA k * c.vin) }
  else c

/-- R183, R191: references, walk-in limits and V_IN at a tick. -/
def State.busRefs (s : State) : State :=
  let m := 10 * s.fld Fld.Bus.REF_SLEW_MV_MS
  let ref := slewTo m s.bus.ref (1000 * s.refGoal)
  let r0 := s.rectRefNext 0
  let r1 := s.rectRefNext 1
  let fresh : Bool := s.now % ms 1 < us 10
  let s := s.onBus fun b =>
    { b with ref := ref, rectRef := #v[r0, r1], uv := b.uv && s.vBus < s.fld Fld.Bus.BUS_UV_MV }
  s.each [0, 1] fun k s =>
    s.onAuxCh k fun c => s.auxWalk k (if fresh then { c with vin := (s.auxV k).toNat } else c)

/-- R190: an input outside its window does not stay in DELAY (DEDUCED, log entry 86). -/
def State.auxDelays (s : State) : State :=
  s.each [0, 1] fun k s => if (s.auxCh k).st = .delay ∧ !(s.auxCh k).inWin then s.auxTo k .absent else s

/-- R199: a hand-back is deferred for want of a string; 0x0805 is raised once (DEDUCED, log entry 82). -/
def State.deferBack (want : Bool) (s : State) : State :=
  if want then if s.bus.deferred then s else (s.onBus fun b => { b with deferred := true }).raise 0x0805
  else s.onBus fun b => { b with deferred := false }

/-- R188: an auxiliary input is listed above the rectifiers and may be selected. -/
def State.auxAbove (s : State) (k : Nat) : Bool := s.sourceOn (2 + k) && s.rankOf (2 + k) < s.rankOf 1

/-- R188: the rectifiers are held disabled: their entry is disabled, or an input ranked above them is QUALIFIED or in
use (DEDUCED, log entry 82). -/
def State.rectWanted (s : State) : Bool :=
  !s.sourceOn 1 || (List.range 2).any fun k =>
    let c := s.auxCh k
    s.auxAbove k && (c.st = .qualified || c.st = .matching || c.running)

/-- A channel that RECT_CONTROL action 0x02 would act on (R177). -/
def RectCh.holdable (c : RectCh) : Bool :=
  c.st ≠ .off && c.st ≠ .autonomous && c.st ≠ .latched && c.st ≠ .disabled && !c.softOff

/-- R188: the rectifier channels are disabled, or re-enabled, by the source priority table (DEDUCED, log entry 82). -/
def State.rectHolds (want : Bool) (s : State) : State :=
  let s := s.onBus fun b => { b with rectHeld := want }
  s.each [0, 1] fun k s =>
    let c := s.rectCh k
    if want then
      if c.holdable then (s.onRectCh k fun c => { c with heldOff := true }).rectDisable true k else s
    else if c.heldOff then
      if c.st = .disabled then s.rectFree k
      else s.onRectCh k fun c => { c with heldOff := false, softOff := false }
    else s

/-- R187, R199: PFC_RAMP that waited for a string goes on to LLC_START (DEDUCED, log entry 82). -/
def State.llcRelease (s : State) : State :=
  s.each [0, 1] fun k s =>
    let c := s.rectCh k
    if c.llcHeld ∧ c.st = .pfcRamp ∧ !s.llcBarred then
      (s.onRectCh k fun c => { c with llcHeld := false }).rectTo k .llcStart
    else s


/-- R188: the input that ranks highest of those `p` selects, among the enabled ones. -/
def State.bestAux (s : State) (p : AuxCh → Bool) : Option Nat :=
  let ks := (List.range 2).filter fun k => s.sourceOn (2 + k) && p (s.auxCh k)
  match ks with
  | [0, 1] => some (if s.rankOf 2 < s.rankOf 3 then 0 else 1)
  | _ => ks.head?

/-- An input that may be selected (R191). -/
def AuxCh.ready_ (c : AuxCh) : Bool := c.st = .qualified || c.st = .ready

/-- R187: what must replace the input in use, or the one in MATCH: the rectifiers in LLC_START, or a higher-ranked
input (DEDUCED, log entry 90). -/
def State.outranked (s : State) (k : Nat) : Bool :=
  let rect : Bool := s.rectAbove k && ((s.rectCh 0).st = .llcStart || (s.rectCh 1).st = .llcStart)
  let other : Bool := s.sourceOn (3 - k) && (!s.sourceOn (2 + k) || s.rankOf (3 - k) < s.rankOf (2 + k)) &&
    (s.auxCh (1 - k)).st = .qualified
  rect || other

/-- R187, R191, R192: the selection of sources at a tick (DEDUCED, log entry 90). -/
def State.select (s : State) : State :=
  match s.auxInUse, s.matchingIn with
  | some k, _ => if s.outranked k ∧ 0 < s.standbys then s.auxOpen k .ready else s
  | none, some k => if s.outranked k then s.auxTo k .ready else s
  | none, none =>
    if s.ctrlDown ∨ s.rectComing ∨ !s.sys.fwReady then s
    else if s.bus.st = .outage ∧ 0 < s.standbys then
      match s.bestAux AuxCh.ready_ with
      | none => s
      | some k => s.auxTo k .matching
    else if s.bus.st = .dead ∧ s.standbys = 0 then
      match s.bestAux fun c => c.st = .qualified with
      | none => s
      | some k => if s.gapOk k then s.auxTo k .coldConnect else s
    else s

/-- R199: a hand-back that would open one source before another is wanted while no string is in hot standby.
(DEDUCED, log entry 82.) -/
def State.deferWanted (s : State) : Bool :=
  let held : Bool := (List.range 2).any fun k => (s.rectCh k).llcHeld && (s.rectCh k).st = .pfcRamp
  let out : Bool := (s.auxInUse.map s.outranked).getD false
  let rank : Bool := s.sourceOn 1 && s.rectWanted && !s.bus.rectHeld && ((s.rectCh 0).delivers || (s.rectCh 1).delivers)
  s.standbys = 0 && (held || out || rank)

/-- R188, R199: the rectifiers are handed off to a higher-ranked input only with a string ready.
(DEDUCED, log entry 82.) -/
def State.rectHoldStep (s : State) : State :=
  let want := s.rectWanted
  let barred : Bool := want && s.sourceOn 1 && !s.bus.rectHeld && s.standbys = 0 &&
    ((s.rectCh 0).delivers || (s.rectCh 1).delivers)
  if barred then s else s.rectHolds want

/-- R186, R188: the strings carry the bus that a source has left. -/
def State.handDone (s : State) : State := if s.atStby then s.onBus fun b => { b with handing := false } else s

/-- R188: no hand-over or walk-in is in progress: no channel in LLC_START or WALK_IN, no input in MATCH, WALK_IN, COLD_CONNECT
or READY or being opened, no bus on its way to the strings and no feed-forward current (DEDUCED, log entry 82). -/
def State.busQuiet (s : State) : Bool :=
  s.bus.ff.mode = .none && !s.bus.handing && (List.range 2).all fun k =>
    let r := (s.rectCh k).st
    let a := s.auxCh k
    r ≠ .llcStart && r ≠ .walkIn && a.st ≠ .matching && a.st ≠ .walkIn && a.st ≠ .coldConnect && a.st ≠ .ready && a.opening.isNone

/-- R148, R188: the source priority table is adopted at the first quiet tick. -/
def State.adoptSources (s : State) : State := if s.busQuiet then s.adopt 8 0 else s

/-- The bus controller's 10 µs tick. -/
def State.busTick (s : State) : State :=
  let s := s.adoptSources.busRefs
  let s := (((s.auxOpenDue 0).auxOpenDue 1).ffJudge).handDone
  let s := (s.auxDelays).deferBack s.auxDelays.deferWanted
  ((s.rectHoldStep).llcRelease).select.busEval

end Sys2Proof.Machine
end

