-- ==== Sys2Proof/Machine/Tick.lean ====
section
/-! DEFINITION. What the device's own clock brings: the 10 µs tick and the share tick (R22, R341), and the end of a
converter's switching period (R125). -/

namespace Sys2Proof.Machine

/-- The first multiple of a period that is not before `now` and after `last` (DEDUCED, log entry 56). -/
def nextTick (period now : Nat) (last : Option Nat) : Nat :=
  let p := max 1 period
  let a := (now + p - 1) / p * p
  match last with
  | some t => if t < a then a else (t / p + 1) * p
  | none => a

/-- The later of two times, where there are any (DEDUCED, log entry 56). -/
def later : Option Nat → Option Nat → Option Nat
  | some a, some b => some (max a b)
  | some a, none => some a
  | none, b => b

/-- SHARE_TICK (R22, R341, R345, R444): the snapshot, the throttle step and the capping decision of this tick. It comes before the 10 µs tick of the
same time, at whose end the link's values land (R125) (DEDUCED, log entry 56). -/
def execShareTick (s : State) : Host.Outcome State Fault Refusal :=
  .next (
    if s.sys.por then s
    else
      let s := s.advanceTo (nextTick s.sharePeriod s.now (later s.link.tShare s.sys.tTick))
      let s := (s.onLink fun l => { l with tShare := some s.now }).latch
      let s := ((s.closePeriod.throttleTick.capTick).pdShareTick).rootTick
      (s.histShare).onLink fun l => { l with landDue := true })

/-- R22: the table engine on the snapshot: throttling, strings, bus and sources, sequences. -/
def State.tableEngine (s : State) : State := s.throttleTick.stringsTick.busTick.seqTick

/-- R22, R125: the values of the link and of capping land at their share tick, after the table engine. -/
def State.linkLand (s : State) : State :=
  if s.link.landDue then
    ((s.onLink fun l => { l with landDue := false }).boundary .link0 0 .main).boundary .link1 0 .main
  else s

/-- R22, R125: what lands and what is served at a 10 µs tick, after the table engine. -/
def State.tickLand (s : State) : State :=
  let s := s.domsTick.portsTick.pdTick.seqLand.linkLand.dropRaise
  let s := s.each [0, 1] fun k s => if (s.rectCh k).llc then s else s.rectServe k
  let s := (s.boundary .bus0 0 .main).each (List.range 4) fun k s => s.boundary .therm0 k .main
  ((s.boundary .skb0 0 .main).boundary .meas1 0 .main).skbTriggers

/-- TICK_10US (R22): the snapshot, unless the share tick of this time has latched it; the table engine; and what lands. The
link's packets that wait go out, and the recorder's writes start (R471).
(DESIGN CHOICE, log entry 48; DEDUCED, log entries 56, 57.) -/
def execTick10us (s : State) : Host.Outcome State Fault Refusal :=
  .next (
    if s.sys.por then s
    else
      let s := s.advanceTo (nextTick 1000 s.now s.sys.tTick)
      let s := (s.onSys fun y => { y with tTick := some y.time }).onLink fun l => { l with out := [] }
      let s := if s.link.tShare = some s.now then s else s.latch
      ((s.histTick.tableEngine.tickLand).palDone.pump.sendPackets).identTick)

/-- R148: consumer `c` reaches its boundary for channel `ch` and adopts the active bank there; what its tables decide is evaluated
anew at that boundary (DEDUCED, log entries 67, 68, 77, 82). -/
def State.palAdopt (c ch : Nat) (s : State) : State :=
  if !s.pal.pending.testBit c then s
  else
    (match c with
    | 0 => if ch < 2 then s.palCharger ch else s
    | 1 => if ch < 2 then (s.adopt 1 ch).bandStep ch else s
    | 3 => s.domAdopt ch
    | 4 => if s.seq.st = QState.idle then s.adopt 4 0 else s
    | 5 => if s.plantReady then s.capTick else s
    | 6 => s.throttleTick
    | 8 => s.adoptSources
    | 9 => (s.adopt 9 ch).secBand ch
    | 10 => s.scrubAdopt
    | _ => s.adopt c ch).palDone

/-- PALETTE_ADOPT (R148). -/
def execPaletteAdopt (c : Fin 12) (ch : Nat) (s : State) : Host.Outcome State Fault Refusal := .next (s.palAdopt c.val ch)

/-- CONVERTER_PERIOD_END (R125, R184, R409, R427). -/
def execConverterPeriodEnd (c : Conv) (s : State) : Host.Outcome State Fault Refusal :=
  .next (
    match c with
    | .llc k cap => s.llcEnd k.val cap
    | .str k => (((s.strEnd k.val).testPeriod k.val).calLand (· = 528 + k.val)).adcTrigger (0x28 + k.val)
    | .pd k => ((s.pdPeriodEnd k.val).calLand (· = 530 + k.val)).adcTrigger (0x2A + k.val))

end Sys2Proof.Machine
end

