-- ==== Sys2Proof/Machine/Dispatch.lean ====
section
/-! DEFINITION. One arm per command. -/

namespace Sys2Proof.Machine

/-- The effect of a command on everything but the queue. -/
def exec (i : Instr) (s : State) : Host.Outcome State Fault Refusal :=
  match i with
  | .powerOnReset keepMv => Sys2Proof.Machine.execPowerOnReset keepMv s
  | .porRelease keepMv => Sys2Proof.Machine.execPorRelease keepMv s
  | .hk12Good => Sys2Proof.Machine.execHk12Good s
  | .hk12Timeout => Sys2Proof.Machine.execHk12Timeout s
  | .hk12Retry => Sys2Proof.Machine.execHk12Retry s
  | .keepThresholdCross keepMv => Sys2Proof.Machine.execKeepThresholdCross keepMv s
  | .strapSample addr root => Sys2Proof.Machine.execStrapSample addr root s
  | .bootImageSelect => Sys2Proof.Machine.execBootImageSelect s
  | .firmwareReady tests meta_ sramOk => Sys2Proof.Machine.execFirmwareReady tests meta_ sramOk s
  | .rstOutRelease => Sys2Proof.Machine.execRstOutRelease s
  | .pinResetAssert => Sys2Proof.Machine.execPinResetAssert s
  | .pinResetRelease => Sys2Proof.Machine.execPinResetRelease s
  | .reset o p => Sys2Proof.Machine.execReset o p s
  | .coldResetSeqDone => Sys2Proof.Machine.execColdResetSeqDone s
  | .resetCause o p => Sys2Proof.Machine.execResetCause o p s
  | .d0BootRecord o p => Sys2Proof.Machine.execD0BootRecord o p s
  | .keepReservoir o p => Sys2Proof.Machine.execKeepReservoir o p s
  | .lockstepMismatch => Sys2Proof.Machine.execLockstepMismatch s
  | .fwWatchdogExpiry => Sys2Proof.Machine.execFwWatchdogExpiry s
  | .firmwareRestart => Sys2Proof.Machine.execFirmwareRestart s
  | .hostWdWrite itf v => Sys2Proof.Machine.execHostWdWrite itf v s
  | .hostWdExpiry => Sys2Proof.Machine.execHostWdExpiry s
  | .crystalFail => Sys2Proof.Machine.execCrystalFail s
  | .tick10us => Sys2Proof.Machine.execTick10us s
  | .shareTick => Sys2Proof.Machine.execShareTick s
  | .sectionPowerUp k => Sys2Proof.Machine.execSectionPowerUp k s
  | .autonomousStart k => Sys2Proof.Machine.execAutonomousStart k s
  | .autonomousTimeout k => Sys2Proof.Machine.execAutonomousTimeout k s
  | .autonomousRetry k => Sys2Proof.Machine.execAutonomousRetry k s
  | .registerWrite bytes => Sys2Proof.Machine.execRegisterWrite bytes s
  | .timeSnapRead ptr n => Sys2Proof.Machine.execTimeSnapRead ptr n s
  | .irqFlagsClear bytes hw => Sys2Proof.Machine.execIrqFlagsClear bytes hw s
  | .i2cWake => Sys2Proof.Machine.execI2cWake s
  | .i2cSleep => Sys2Proof.Machine.execI2cSleep s
  | .smbusTimeout => Sys2Proof.Machine.execSmbusTimeout s
  | .submitMore => Sys2Proof.Machine.execSubmitMore s
  | .submitLast => Sys2Proof.Machine.execSubmitLast s
  | .release => Sys2Proof.Machine.execRelease s
  | .abort => Sys2Proof.Machine.execAbort s
  | .alertResponse won => Sys2Proof.Machine.execAlertResponse won s
  | .hostNotify r => Sys2Proof.Machine.execHostNotify r s
  | .hostNotifyRetry r => Sys2Proof.Machine.execHostNotifyRetry r s
  | .regWrite bytes => Sys2Proof.Machine.execRegWrite bytes s
  | .regRead ptr n => Sys2Proof.Machine.execRegRead ptr n s
  | .pktWrite len bytes => Sys2Proof.Machine.execPktWrite len bytes s
  | .pktRead n => Sys2Proof.Machine.execPktRead n s
  | .streamRead n => Sys2Proof.Machine.execStreamRead n s
  | .page w => Sys2Proof.Machine.execPage w s
  | .operation w => Sys2Proof.Machine.execOperation w s
  | .onOffConfig w => Sys2Proof.Machine.execOnOffConfig w s
  | .clearFaults bytes => Sys2Proof.Machine.execClearFaults bytes s
  | .writeProtect w => Sys2Proof.Machine.execWriteProtect w s
  | .capability w => Sys2Proof.Machine.execCapability w s
  | .voutMode w => Sys2Proof.Machine.execVoutMode w s
  | .voutCommand w => Sys2Proof.Machine.execVoutCommand w s
  | .voutMarginHigh w => Sys2Proof.Machine.execVoutMarginHigh w s
  | .voutMarginLow w => Sys2Proof.Machine.execVoutMarginLow w s
  | .voutTransitionRate w => Sys2Proof.Machine.execVoutTransitionRate w s
  | .statusByte w => Sys2Proof.Machine.execStatusByte w s
  | .statusWord w => Sys2Proof.Machine.execStatusWord w s
  | .statusVout w => Sys2Proof.Machine.execStatusVout w s
  | .statusIout w => Sys2Proof.Machine.execStatusIout w s
  | .statusCml w => Sys2Proof.Machine.execStatusCml w s
  | .readVout w => Sys2Proof.Machine.execReadVout w s
  | .readIout w => Sys2Proof.Machine.execReadIout w s
  | .readTemperature1 w => Sys2Proof.Machine.execReadTemperature1 w s
  | .pmbusRevision w => Sys2Proof.Machine.execPmbusRevision w s
  | .mfrId w => Sys2Proof.Machine.execMfrId w s
  | .mfrModel w => Sys2Proof.Machine.execMfrModel w s
  | .hifConfig o p => Sys2Proof.Machine.execHifConfig o p s
  | .hifStatus o p => Sys2Proof.Machine.execHifStatus o p s
  | .remoteReply node bytes => Sys2Proof.Machine.execRemoteReply node bytes s
  | .forwardTimeout => Sys2Proof.Machine.execForwardTimeout s
  | .segmentHoldExpiry itf => Sys2Proof.Machine.execSegmentHoldExpiry itf s
  | .nop o p => Sys2Proof.Machine.execNop o p s
  | .sysStatus o p => Sys2Proof.Machine.execSysStatus o p s
  | .privChallenge o p => Sys2Proof.Machine.execPrivChallenge o p s
  | .privResponse o p => Sys2Proof.Machine.execPrivResponse o p s
  | .privDrop o p => Sys2Proof.Machine.execPrivDrop o p s
  | .privLockoutEnd => Sys2Proof.Machine.execPrivLockoutEnd s
  | .privSessionTimeout itf => Sys2Proof.Machine.execPrivSessionTimeout itf s
  | .nodeGroups o p => Sys2Proof.Machine.execNodeGroups o p s
  | .easelWrite o blk p => Sys2Proof.Machine.execEaselWrite o blk p s
  | .easelCommit o blk p => Sys2Proof.Machine.execEaselCommit o blk p s
  | .easelDiscard o blk p => Sys2Proof.Machine.execEaselDiscard o blk p s
  | .easelRead o blk p => Sys2Proof.Machine.execEaselRead o blk p s
  | .easelStatus o blk p => Sys2Proof.Machine.execEaselStatus o blk p s
  | .commitLand r ch b => Sys2Proof.Machine.execCommitLand r ch b s
  | .lValueLand r ch b => Sys2Proof.Machine.execLValueLand r ch b s
  | .commitTimeout => Sys2Proof.Machine.execCommitTimeout s
  | .multiCommit o p => Sys2Proof.Machine.execMultiCommit o p s
  | .easelSave o p => Sys2Proof.Machine.execEaselSave o p s
  | .palBegin o p => Sys2Proof.Machine.execPalBegin o p s
  | .palData o p => Sys2Proof.Machine.execPalData o p s
  | .palEnd o p => Sys2Proof.Machine.execPalEnd o p s
  | .palSwitch o p => Sys2Proof.Machine.execPalSwitch o p s
  | .palStatus o p => Sys2Proof.Machine.execPalStatus o p s
  | .palRead o p => Sys2Proof.Machine.execPalRead o p s
  | .paletteAdopt c ch => Sys2Proof.Machine.execPaletteAdopt c ch s
  | .palSwitchTimeout => Sys2Proof.Machine.execPalSwitchTimeout s
  | .sectionPowerLoss k => Sys2Proof.Machine.execSectionPowerLoss k s
  | .barrierHeartbeat k toMains line => Sys2Proof.Machine.execBarrierHeartbeat k toMains line s
  | .barrierSilence k => Sys2Proof.Machine.execBarrierSilence k s
  | .barrierEstablished k delayNs => Sys2Proof.Machine.execBarrierEstablished k delayNs s
  | .init k line => Sys2Proof.Machine.execInit k line s
  | .config k line => Sys2Proof.Machine.execConfig k line s
  | .commit k line => Sys2Proof.Machine.execCommit k line s
  | .command k line => Sys2Proof.Machine.execCommand k line s
  | .time k line => Sys2Proof.Machine.execTime k line s
  | .srTiming k line => Sys2Proof.Machine.execSrTiming k line s
  | .hello k line => Sys2Proof.Machine.execHello k line s
  | .status k line => Sys2Proof.Machine.execStatus k line s
  | .halfCycle k line => Sys2Proof.Machine.execHalfCycle k line s
  | .ack k line => Sys2Proof.Machine.execAck k line s
  | .faultFrame k line => Sys2Proof.Machine.execFaultFrame k line s
  | .barrierResend k => Sys2Proof.Machine.execBarrierResend k s
  | .fltLine k => Sys2Proof.Machine.execFltLine k s
  | .dropLine k => Sys2Proof.Machine.execDropLine k s
  | .stopLine k => Sys2Proof.Machine.execStopLine k s
  | .stopRelease k => Sys2Proof.Machine.execStopRelease k s
  | .halfCycleEnd k rms peak half => Sys2Proof.Machine.execHalfCycleEnd k rms peak half s
  | .qualTimerExpiry k => Sys2Proof.Machine.execQualTimerExpiry k s
  | .prechargeTimeout k => Sys2Proof.Machine.execPrechargeTimeout k s
  | .relaySettled k => Sys2Proof.Machine.execRelaySettled k s
  | .pfcRampDone k bulk => Sys2Proof.Machine.execPfcRampDone k bulk s
  | .llcStartDone k v => Sys2Proof.Machine.execLlcStartDone k v s
  | .llcSsTimeout k => Sys2Proof.Machine.execLlcSsTimeout k s
  | .walkInDone k => Sys2Proof.Machine.execWalkInDone k s
  | .dropoutPredicted k => Sys2Proof.Machine.execDropoutPredicted k s
  | .zcLateExpiry k => Sys2Proof.Machine.execZcLateExpiry k s
  | .predictionTimeout k => Sys2Proof.Machine.execPredictionTimeout k s
  | .bulkMinReached k bulk => Sys2Proof.Machine.execBulkMinReached k bulk s
  | .linePeakLimit k v => Sys2Proof.Machine.execLinePeakLimit k v s
  | .bulkOvLimit k bulk => Sys2Proof.Machine.execBulkOvLimit k bulk s
  | .bulkOvTrip k bulk => Sys2Proof.Machine.execBulkOvTrip k bulk s
  | .pfcOcTrip k => Sys2Proof.Machine.execPfcOcTrip k s
  | .llcOcTrip k => Sys2Proof.Machine.execLlcOcTrip k s
  | .capacitiveModeTrip k => Sys2Proof.Machine.execCapacitiveModeTrip k s
  | .mainsThermalTrip => Sys2Proof.Machine.execMainsThermalTrip s
  | .busOvStop v => Sys2Proof.Machine.execBusOvStop v s
  | .srReverseDisable k => Sys2Proof.Machine.execSrReverseDisable k s
  | .shareToleranceFault k => Sys2Proof.Machine.execShareToleranceFault k s
  | .rectControl o p => Sys2Proof.Machine.execRectControl o p s
  | .rectStatus o p => Sys2Proof.Machine.execRectStatus o p s
  | .barrierStatus o p => Sys2Proof.Machine.execBarrierStatus o p s
  | .busUndervoltage v held => Sys2Proof.Machine.execBusUndervoltage v held s
  | .busWindowExit v => Sys2Proof.Machine.execBusWindowExit v s
  | .auxWindowEnter k v => Sys2Proof.Machine.execAuxWindowEnter k v s
  | .auxWindowExit k v held => Sys2Proof.Machine.execAuxWindowExit k v held s
  | .auxInsertDone k => Sys2Proof.Machine.execAuxInsertDone k s
  | .auxMatchDone k => Sys2Proof.Machine.execAuxMatchDone k s
  | .auxWalkInDone k iMa held => Sys2Proof.Machine.execAuxWalkInDone k iMa held s
  | .coldConnectDone k v => Sys2Proof.Machine.execColdConnectDone k v s
  | .auxSoaTrip k held => Sys2Proof.Machine.execAuxSoaTrip k held s
  | .auxFastTrip k iMa => Sys2Proof.Machine.execAuxFastTrip k iMa s
  | .auxReverseTrip k iMa held => Sys2Proof.Machine.execAuxReverseTrip k iMa held s
  | .auxRetry k => Sys2Proof.Machine.execAuxRetry k s
  | .bbmGapDone k => Sys2Proof.Machine.execBbmGapDone k s
  | .busStatus o p => Sys2Proof.Machine.execBusStatus o p s
  | .auxControl o p => Sys2Proof.Machine.execAuxControl o p s
  | .stringMatchDone k v => Sys2Proof.Machine.execStringMatchDone k v s
  | .stringMatchTimeout k => Sys2Proof.Machine.execStringMatchTimeout k s
  | .stringColdDone k => Sys2Proof.Machine.execStringColdDone k s
  | .chgOkDeassert k => Sys2Proof.Machine.execChgOkDeassert k s
  | .chgOkAssert k => Sys2Proof.Machine.execChgOkAssert k s
  | .dsgOkDeassert k => Sys2Proof.Machine.execDsgOkDeassert k s
  | .dsgOkAssert k => Sys2Proof.Machine.execDsgOkAssert k s
  | .ntcRecover k j => Sys2Proof.Machine.execNtcRecover k j s
  | .endOfDischarge k => Sys2Proof.Machine.execEndOfDischarge k s
  | .stringRetry k => Sys2Proof.Machine.execStringRetry k s
  | .stringFastTrip k iMa => Sys2Proof.Machine.execStringFastTrip k iMa s
  | .stringOvertempTrip k => Sys2Proof.Machine.execStringOvertempTrip k s
  | .packOvervoltage k v held => Sys2Proof.Machine.execPackOvervoltage k v held s
  | .chargerTick => Sys2Proof.Machine.execChargerTick s
  | .prechargeTimerExpiry k => Sys2Proof.Machine.execPrechargeTimerExpiry k s
  | .cccvTimerExpiry k => Sys2Proof.Machine.execCccvTimerExpiry k s
  | .wallTimerExpiry k => Sys2Proof.Machine.execWallTimerExpiry k s
  | .chargeResume k => Sys2Proof.Machine.execChargeResume k s
  | .stringTestEnd k cause => Sys2Proof.Machine.execStringTestEnd k cause s
  | .stringControl o p => Sys2Proof.Machine.execStringControl o p s
  | .chgControl o p => Sys2Proof.Machine.execChgControl o p s
  | .stringTest o p => Sys2Proof.Machine.execStringTest o p s
  | .chgStatus o p => Sys2Proof.Machine.execChgStatus o p s
  | .gaugeUpdate k => Sys2Proof.Machine.execGaugeUpdate k s
  | .gaugeStateSave k => Sys2Proof.Machine.execGaugeStateSave k s
  | .varnishRetry => Sys2Proof.Machine.execVarnishRetry s
  | .gaugeStatus o p => Sys2Proof.Machine.execGaugeStatus o p s
  | .gaugeReset o p => Sys2Proof.Machine.execGaugeReset o p s
  | .gaugeSetFcc o p => Sys2Proof.Machine.execGaugeSetFcc o p s
  | .domainInputReady k => Sys2Proof.Machine.execDomainInputReady k s
  | .domainInputLost k => Sys2Proof.Machine.execDomainInputLost k s
  | .domainCheckDone k sws => Sys2Proof.Machine.execDomainCheckDone k sws s
  | .softStartDone k => Sys2Proof.Machine.execSoftStartDone k s
  | .domainSsTimeout k => Sys2Proof.Machine.execDomainSsTimeout k s
  | .domainOv k v held => Sys2Proof.Machine.execDomainOv k v held s
  | .domainUv k v held => Sys2Proof.Machine.execDomainUv k v held s
  | .remoteSenseFault k => Sys2Proof.Machine.execRemoteSenseFault k s
  | .domainOcTrip k => Sys2Proof.Machine.execDomainOcTrip k s
  | .domainRetry k => Sys2Proof.Machine.execDomainRetry k s
  | .referenceArrived k => Sys2Proof.Machine.execReferenceArrived k s
  | .softStopDone k => Sys2Proof.Machine.execSoftStopDone k s
  | .loadRelease k => Sys2Proof.Machine.execLoadRelease k s
  | .loadReleaseEnd k atMax => Sys2Proof.Machine.execLoadReleaseEnd k atMax s
  | .phaseFail k ph => Sys2Proof.Machine.execPhaseFail k ph s
  | .syncLost => Sys2Proof.Machine.execSyncLost s
  | .syncRelock period stable => Sys2Proof.Machine.execSyncRelock period stable s
  | .domControl o p => Sys2Proof.Machine.execDomControl o p s
  | .domVout o p => Sys2Proof.Machine.execDomVout o p s
  | .domStatus o p => Sys2Proof.Machine.execDomStatus o p s
  | .phaseStatus o p => Sys2Proof.Machine.execPhaseStatus o p s
  | .meteringSlot n => Sys2Proof.Machine.execMeteringSlot n s
  | .portWindowEnter n => Sys2Proof.Machine.execPortWindowEnter n s
  | .portWindowExit n => Sys2Proof.Machine.execPortWindowExit n s
  | .portInsertDone n => Sys2Proof.Machine.execPortInsertDone n s
  | .portCheckPass n v => Sys2Proof.Machine.execPortCheckPass n v s
  | .portSwitchShort n v => Sys2Proof.Machine.execPortSwitchShort n v s
  | .portInrushDone n v => Sys2Proof.Machine.execPortInrushDone n v s
  | .portSoaTrip n => Sys2Proof.Machine.execPortSoaTrip n s
  | .portFastTrip n uv => Sys2Proof.Machine.execPortFastTrip n uv s
  | .portReverseCurrent n iMa held => Sys2Proof.Machine.execPortReverseCurrent n iMa held s
  | .portRetry n => Sys2Proof.Machine.execPortRetry n s
  | .portUnshed => Sys2Proof.Machine.execPortUnshed s
  | .portControl o p => Sys2Proof.Machine.execPortControl o p s
  | .portStatus o p => Sys2Proof.Machine.execPortStatus o p s
  | .portMeter o p => Sys2Proof.Machine.execPortMeter o p s
  | .linkTrainSwitch p => Sys2Proof.Machine.execLinkTrainSwitch p s
  | .linkPortUp p valid => Sys2Proof.Machine.execLinkPortUp p valid s
  | .linkPortDown p quiet errs => Sys2Proof.Machine.execLinkPortDown p quiet errs s
  | .shareFrame p t f => Sys2Proof.Machine.execShareFrame p t f s
  | .shareFrameReturn p loopNs f => Sys2Proof.Machine.execShareFrameReturn p loopNs f s
  | .decisionFrame p t f => Sys2Proof.Machine.execDecisionFrame p t f s
  | .sharePeriodMissed => Sys2Proof.Machine.execSharePeriodMissed s
  | .rootElection => Sys2Proof.Machine.execRootElection s
  | .faultEvent p f => Sys2Proof.Machine.execFaultEvent p f s
  | .dropEvent p f => Sys2Proof.Machine.execDropEvent p f s
  | .dropClearEvent p f => Sys2Proof.Machine.execDropClearEvent p f s
  | .breakEvent p f => Sys2Proof.Machine.execBreakEvent p f s
  | .rootClaim p f => Sys2Proof.Machine.execRootClaim p f s
  | .gen1Event p f => Sys2Proof.Machine.execGen1Event p f s
  | .ident p f roundNs upNs => Sys2Proof.Machine.execIdent p f roundNs upNs s
  | .commandFrame p f => Sys2Proof.Machine.execCommandFrame p f s
  | .ringRestore => Sys2Proof.Machine.execRingRestore s
  | .linkStatus o p => Sys2Proof.Machine.execLinkStatus o p s
  | .nodeTable o p => Sys2Proof.Machine.execNodeTable o p s
  | .enumerate o p => Sys2Proof.Machine.execEnumerate o p s
  | .capStatus o p => Sys2Proof.Machine.execCapStatus o p s
  | .ccDebounceDone k => Sys2Proof.Machine.execCcDebounceDone k s
  | .pdDebounceDone k => Sys2Proof.Machine.execPdDebounceDone k s
  | .drpToggle k => Sys2Proof.Machine.execDrpToggle k s
  | .errorRecoveryDone k => Sys2Proof.Machine.execErrorRecoveryDone k s
  | .pdDetach k v held => Sys2Proof.Machine.execPdDetach k v held s
  | .pdMessageReceived k sop header data => Sys2Proof.Machine.execPdMessageReceived k sop header data s
  | .crcReceiveTimeout k => Sys2Proof.Machine.execCrcReceiveTimeout k s
  | .sinkTxWaitDone k => Sys2Proof.Machine.execSinkTxWaitDone k s
  | .amsTimeout k => Sys2Proof.Machine.execAmsTimeout k s
  | .senderResponseExpiry k => Sys2Proof.Machine.execSenderResponseExpiry k s
  | .psTransitionExpiry k => Sys2Proof.Machine.execPsTransitionExpiry k s
  | .psSourceTimeout k => Sys2Proof.Machine.execPsSourceTimeout k s
  | .hardResetReceived k => Sys2Proof.Machine.execHardResetReceived k s
  | .psHardResetDone k => Sys2Proof.Machine.execPsHardResetDone k s
  | .safe0vTimeout k => Sys2Proof.Machine.execSafe0vTimeout k s
  | .srcRecoverDone k => Sys2Proof.Machine.execSrcRecoverDone k s
  | .sinkHardResetWaitEnd k => Sys2Proof.Machine.execSinkHardResetWaitEnd k s
  | .srcTransitionDone k => Sys2Proof.Machine.execSrcTransitionDone k s
  | .sourceChangeDone k v held => Sys2Proof.Machine.execSourceChangeDone k v held s
  | .srcSettleTimeout k => Sys2Proof.Machine.execSrcSettleTimeout k s
  | .frsSignalReceived k low => Sys2Proof.Machine.execFrsSignalReceived k low s
  | .frsVbusDrop k v => Sys2Proof.Machine.execFrsVbusDrop k v s
  | .sourceLimitRestored k => Sys2Proof.Machine.execSourceLimitRestored k s
  | .pdSrcOv k v => Sys2Proof.Machine.execPdSrcOv k v s
  | .pdSrcOc k iMa held => Sys2Proof.Machine.execPdSrcOc k iMa held s
  | .pdSinkOv k v => Sys2Proof.Machine.execPdSinkOv k v s
  | .ccOv k v => Sys2Proof.Machine.execCcOv k v s
  | .vconnOc k iMa held => Sys2Proof.Machine.execVconnOc k iMa held s
  | .pdControl o p => Sys2Proof.Machine.execPdControl o p s
  | .pdTx o p => Sys2Proof.Machine.execPdTx o p s
  | .pdEvent o p => Sys2Proof.Machine.execPdEvent o p s
  | .pdPower o p => Sys2Proof.Machine.execPdPower o p s
  | .pdSwap o p => Sys2Proof.Machine.execPdSwap o p s
  | .pdStatus o p => Sys2Proof.Machine.execPdStatus o p s
  | .seqStepSettled => Sys2Proof.Machine.execSeqStepSettled s
  | .seqStepTimeout => Sys2Proof.Machine.execSeqStepTimeout s
  | .seqDelayDone => Sys2Proof.Machine.execSeqDelayDone s
  | .seqChatter => Sys2Proof.Machine.execSeqChatter s
  | .seqMemberLost j => Sys2Proof.Machine.execSeqMemberLost j s
  | .seqInChange level held => Sys2Proof.Machine.execSeqInChange level held s
  | .seqFltSensed low => Sys2Proof.Machine.execSeqFltSensed low s
  | .emWindowExit m => Sys2Proof.Machine.execEmWindowExit m s
  | .emWindowEnter m => Sys2Proof.Machine.execEmWindowEnter m s
  | .wdiEdge t => Sys2Proof.Machine.execWdiEdge t s
  | .wdiExpiry => Sys2Proof.Machine.execWdiExpiry s
  | .rstPulseEnd => Sys2Proof.Machine.execRstPulseEnd s
  | .seqStart o p => Sys2Proof.Machine.execSeqStart o p s
  | .seqControl o p => Sys2Proof.Machine.execSeqControl o p s
  | .seqStatus o p => Sys2Proof.Machine.execSeqStatus o p s
  | .emStatus o p => Sys2Proof.Machine.execEmStatus o p s
  | .adcConversion k v spares drained => Sys2Proof.Machine.execAdcConversion k v spares drained s
  | .triggerMiss k v spares => Sys2Proof.Machine.execTriggerMiss k v spares s
  | .triadDisagree t => Sys2Proof.Machine.execTriadDisagree t s
  | .calPassStart tests => Sys2Proof.Machine.execCalPassStart tests s
  | .calPassComputed => Sys2Proof.Machine.execCalPassComputed s
  | .calPassTimeout => Sys2Proof.Machine.execCalPassTimeout s
  | .calPassAccepted => Sys2Proof.Machine.execCalPassAccepted s
  | .captureEdge k rising held => Sys2Proof.Machine.execCaptureEdge k rising held s
  | .tachEdge m => Sys2Proof.Machine.execTachEdge m s
  | .tachTimeout m => Sys2Proof.Machine.execTachTimeout m s
  | .adcStatus o p => Sys2Proof.Machine.execAdcStatus o p s
  | .measPeek o p => Sys2Proof.Machine.execMeasPeek o p s
  | .telemRead o p => Sys2Proof.Machine.execTelemRead o p s
  | .calRun o p => Sys2Proof.Machine.execCalRun o p s
  | .calStatus o p => Sys2Proof.Machine.execCalStatus o p s
  | .ccStatus o p => Sys2Proof.Machine.execCcStatus o p s
  | .thermalWindow temps => Sys2Proof.Machine.execThermalWindow temps s
  | .thermalShutdown z => Sys2Proof.Machine.execThermalShutdown z s
  | .thermalShutdownEnd z => Sys2Proof.Machine.execThermalShutdownEnd z s
  | .fanUpdate => Sys2Proof.Machine.execFanUpdate s
  | .fanStall m held => Sys2Proof.Machine.execFanStall m held s
  | .fanStallClear m held => Sys2Proof.Machine.execFanStallClear m held s
  | .thermalStatus o p => Sys2Proof.Machine.execThermalStatus o p s
  | .fanStatus o p => Sys2Proof.Machine.execFanStatus o p s
  | .historyRecord => Sys2Proof.Machine.execHistoryRecord s
  | .eventFlush => Sys2Proof.Machine.execEventFlush s
  | .nandOpDone ok => Sys2Proof.Machine.execNandOpDone ok s
  | .nandTimeout => Sys2Proof.Machine.execNandTimeout s
  | .captureFreeze => Sys2Proof.Machine.execCaptureFreeze s
  | .captureCommit => Sys2Proof.Machine.execCaptureCommit s
  | .scrubStart => Sys2Proof.Machine.execScrubStart s
  | .scrubSlice sectors bits worn lost last => Sys2Proof.Machine.execScrubSlice sectors bits worn lost last s
  | .streamTimeout => Sys2Proof.Machine.execStreamTimeout s
  | .skbStatus o p => Sys2Proof.Machine.execSkbStatus o p s
  | .skbRead o p => Sys2Proof.Machine.execSkbRead o p s
  | .skbStreamStop o p => Sys2Proof.Machine.execSkbStreamStop o p s
  | .skbCaptureInfo o p => Sys2Proof.Machine.execSkbCaptureInfo o p s
  | .skbTrigger o p => Sys2Proof.Machine.execSkbTrigger o p s
  | .skbMark o p => Sys2Proof.Machine.execSkbMark o p s
  | .skbClear o p => Sys2Proof.Machine.execSkbClear o p s
  | .faultRaise code ch => Sys2Proof.Machine.execFaultRaise code ch s
  | .handlerComplete => Sys2Proof.Machine.execHandlerComplete s
  | .imgBegin o p => Sys2Proof.Machine.execImgBegin o p s
  | .imgData o p => Sys2Proof.Machine.execImgData o p s
  | .imgEnd o p => Sys2Proof.Machine.execImgEnd o p s
  | .imgActivate o p => Sys2Proof.Machine.execImgActivate o p s
  | .imgConfirm o p => Sys2Proof.Machine.execImgConfirm o p s
  | .imgStatus o p => Sys2Proof.Machine.execImgStatus o p s
  | .faultStatus o p => Sys2Proof.Machine.execFaultStatus o p s
  | .faultActive o p => Sys2Proof.Machine.execFaultActive o p s
  | .bankSupplyChange host valid => Sys2Proof.Machine.execBankSupplyChange host valid s
  | .spiUnknownInstruction b => Sys2Proof.Machine.execSpiUnknownInstruction b s
  | .pmbusUnsupportedCommand c w => Sys2Proof.Machine.execPmbusUnsupportedCommand c w s
  | .converterPeriodEnd c => Sys2Proof.Machine.execConverterPeriodEnd c s
  | .domainPwmPeriod k ph e zero ocp => Sys2Proof.Machine.execDomainPwmPeriod k ph e zero ocp s
  | .bulkDropConfirmation k bulk => Sys2Proof.Machine.execBulkDropConfirmation k bulk s
  | .bulkOvRelease k bulk => Sys2Proof.Machine.execBulkOvRelease k bulk s
  | .domainUvClear k v held => Sys2Proof.Machine.execDomainUvClear k v held s
  | .domainTripCountClear k => Sys2Proof.Machine.execDomainTripCountClear k s
  | .portTripCountClear n => Sys2Proof.Machine.execPortTripCountClear n s
  | .ccStateChange k cc1 cc2 => Sys2Proof.Machine.execCcStateChange k cc1 cc2 s
  | .vbusLevelReached k level => Sys2Proof.Machine.execVbusLevelReached k level s
  | .bistCarrierEnd k => Sys2Proof.Machine.execBistCarrierEnd k s
  | .seqFltReleased => Sys2Proof.Machine.execSeqFltReleased s
  | .ccCounterWrap k => Sys2Proof.Machine.execCcCounterWrap k s
  | .ccCompareMatch k => Sys2Proof.Machine.execCcCompareMatch k s
  | .captureSample => Sys2Proof.Machine.execCaptureSample s

end Sys2Proof.Machine
end

