-- ==== Sys2Proof/Machine/Step.lean ====
section
/-! DEFINITION. One step of the block: the command at the front of the queue. -/

namespace Sys2Proof.Machine

/-- R5, R87: with nothing commanded the timebase counts one 10 ns tick once power-on reset is released (log entry 2).
(DESIGN CHOICE, log entry 2.) -/
def State.idle (s : State) : State := if s.sys.por then s else s.onSys fun y => { y with time := y.time + 1 }

/-- A step takes the command at the front of the queue and runs it on the state with the queue's rest. -/
def step (s : State) : Host.Outcome State Fault Refusal :=
  match s.pending with
  | [] => .next s.idle
  | c :: rest => exec c { s with pending := rest }

/-- The state with the command that a word spells at the front of its queue; unchanged where the word spells none.
(DESIGN CHOICE, log entries 1, 9.) -/
def State.withFetchWord (s : State) (nbits w : Nat) : State :=
  match Sys2Proof.decodeTableWord nbits w with
  | some c => { s with pending := c :: s.pending }
  | none => s

end Sys2Proof.Machine
end

