-- ==== Sys2Proof/Safety.lean ====
section
/-! DEFINITION. What a safe run of the block keeps, in the terms the claims use: the identity that OTP holds, and a queue
that only its sender changes. -/

namespace Sys2Proof.Machine

/-- R117, R119, R494: what OTP holds and no command writes: serial number, install key and Tuthen's public key. -/
def Sys.otp (y : Sys) : List Byte × List Byte × (Nat × Nat) := (y.serial, y.installKey, y.pubKey)

/-- What no command's effect changes: the queue and OTP's identity. -/
def State.fixed (s : State) : List Instr × (List Byte × List Byte × (Nat × Nat)) := (s.pending, s.sys.otp)

/-- R485, R486: the fault queue in order: at most 32 held, running and suspended handlers among them; the pending entries by
rank; every entry of severity 1 to 4; each running handler of a higher severity than the one it suspended; and none suspended
while none runs. -/
structure QueueOrder (queue : List QEntry) (running : Option QEntry) (susp : List QEntry) : Prop where
  held : queue.length + (if running.isSome then 1 else 0) + susp.length ≤ 32
  sorted : queue.Pairwise fun a b => b.ahead a = false
  ranks : ∀ e ∈ queue ++ (running.toList ++ susp), 1 ≤ e.sev ∧ e.sev ≤ 4
  nested : (running.toList ++ susp).Pairwise fun a b => b.sev < a.sev
  idle : running = none → susp = []

/-- The fault manager's queue is in order. -/
abbrev Flt.Ordered (f : Flt) : Prop := QueueOrder f.queue f.running f.susp

/-- A command takes one state to another. -/
abbrev Goes (c : Instr) (s t : State) : Prop := exec c s = .next t

/-- R107, R122: the command that packet `o` asks for has run, from `s` to `t`, and its reply is `status` with `data`. -/
abbrev Replies (c : Instr) (s t : State) (o : Origin) (op status : Nat) (data : List Byte) : Prop :=
  Goes c s (t.finish o op status data)

/-- R122: the command waits from then on for its end, in the state `t`. -/
abbrev Waits (c : Instr) (s t : State) (o : Origin) (op left failed : Nat) (own : List Byte) : Prop :=
  Goes c s (t.await o op left failed own)

/-- R114, R118: the device takes the command, and the level of the packet's session suffices for it. -/
abbrev State.lets (s : State) (o : Origin) (op priv : Nat) : Prop := s.gate o op priv = st.ok

/-- R105, R114: the command is let through, and its packet's FLAGS are good. -/
abbrev State.admits (s : State) (o : Origin) (op priv : Nat) : Prop := s.lets o op priv ∧ o.form = true

/-- An event: where `g` holds it takes `s` to `t`; out of place it changes nothing. -/
abbrev Fires (c : Instr) (s : State) (g : Prop) (t : State) : Prop := (g → Goes c s t) ∧ (¬g → Goes c s s)

/-- R105, R107, R122: what a command's act leaves, from the state `s` of its packet: the reply goes out where the command has
ended, STATE without any effect, and nothing more happens where it waits. -/
def Settled (s : State) (o : Origin) (op : Nat) (r : Res × State) : State :=
  match r with
  | (.done status d, t) => if status = st.state then s.answer o op st.state [] else t.finish o op status d
  | (.later, t) => t

/-- R114, R122: a command that the device and the session's level let through: where `chk`, its own check of parameters and
state, is not OK, that status is the reply and nothing else happens; where it is OK, the command acts from the state of its
acceptance. -/
abbrev Obeys (c : Instr) (s : State) (o : Origin) (op priv chk : Nat) (act : State → Res × State) : Prop :=
  s.admits o op priv →
    (chk ≠ st.ok → Goes c s (s.answer o op chk [])) ∧ (chk = st.ok → Goes c s (Settled s o op (act (s.accepted o priv))))

/-- R112, R114, R122: a command on the channels of a selector that is let through: where its parameters are not `good`, or no
channel answers to the selector, it is refused and nothing else happens; the selected channels that `can` take it wait for
their boundary, from the acceptance on; the others are refused, with STATE; where none can, the reply goes out at once, STATE
in single mode and PARTIAL with the mask otherwise. `post` is what is done at once. -/
abbrev Selects (c : Instr) (s : State) (o : Origin) (op priv : Nat) (good : Prop) (sel : Option Sel) (own : List Byte)
    (can : Nat → Bool) (post : State → State := id) : Prop :=
  s.admits o op priv →
    (¬good ∨ sel = none → Goes c s (s.answer o op st.badParam [])) ∧
    ∀ l : Sel, sel = some l → good →
      let ks := maskBits 32 l.mask
      let bad := ks.filter fun k => !can k
      (ks.any can → Goes c s
        (post ((s.accepted o priv).await o op (maskOf (ks.filter can)) (maskOf bad)
          ([byte l.mode, byte (if bad = [] then 0 else st.state)] ++ zeros 4 ++ own)))) ∧
      (ks.any can = false → ks ≠ [] → l.mode = 0 → Goes c s (s.answer o op st.state [])) ∧
      (ks.any can = false → ks ≠ [] → l.mode ≠ 0 →
        Replies c s (post (s.accepted o priv)) o op st.partly (toLE 4 (maskOf bad) ++ [byte st.state])) ∧
      (ks = [] → Replies c s (post (s.accepted o priv)) o op st.ok [])

/-- A step is safe: it answers a next state. -/
def Safe (s : State) : Prop := ∃ t, step s = .next t

end Sys2Proof.Machine
end

