-- ==== Sys2Proof/Certificates/Slice0/Obligations.lean ====
section
/-! DEFINITION. What is claimed of the model, statement by statement. Each docstring names the rules of the spec that its
statement formalises, and says where a clause is the model's own choice. -/

open Sys2Proof Sys2Proof.Machine

/-! ## The block as a whole -/

/-- O1. A step runs the command at the front of the queue on the state with the queue's rest. -/
def Obligations.StepRunsFront : Prop :=
  ∀ (c : Instr) (s : State), step { s with pending := c :: s.pending } = exec c s

/-- O2. On an empty queue the block idles: the timebase counts one tick once power-on reset is released, and nothing else
changes. The model's choice of log entry 2. -/
def Obligations.StepIdles : Prop :=
  ∀ s : State, s.pending = [] →
    ∃ t, step s = .next t ∧ t = { s with sys := t.sys } ∧ t.sys = { s.sys with time := t.now } ∧
      t.now = if s.sys.por then s.now else s.now + 1

/-- O3. R49, R82–R88, R100–R103, R118, R150, R186, R190, R212, R271, R305, R327, R356, R384, R411: what reset leaves where the
spec gives the value. -/
def Obligations.ResetValues : Prop :=
  State.reset.pending = [] ∧ State.reset.sys.por = true ∧ State.reset.sys.rstOut = true ∧ State.reset.now = 0 ∧
    State.reset.sys.wdTimeout = 0x3C ∧ State.reset.sys.safe = false ∧ State.reset.sys.groups = 0 ∧
    State.reset.hif.irq = 0 ∧ State.reset.hif.mask = 0x001FFFCE ∧ State.reset.hif.attnCtrl = 0x29 ∧
    State.reset.hif.snap = 0 ∧ State.reset.hif.mbx.sizeCode = 1 ∧ State.reset.hif.mbx.len = 0 ∧ State.reset.hif.mbx.page = 0 ∧
    State.reset.hif.opt = { pec := false, options := 7, hnAddr := 8 } ∧ State.reset.hif.pmProtect = 0 ∧
    State.reset.hif.i2c.level = 1 ∧ State.reset.hif.spiS.level = 1 ∧
    (∀ k : Fin 2, (State.reset.rectCh k).st = .off) ∧ State.reset.bus.st = .dead ∧
    (∀ k : Fin 2, (State.reset.strCh k).st = .opened) ∧ (∀ k : Fin 16, (State.reset.domCh k).st = .off) ∧
    (∀ n : Fin 24, (State.reset.portCh n).st = .off) ∧ State.reset.seq.st = .idle

/-- O4. The reset state has the fault queue in order, empty, and no boot record. -/
def Obligations.ResetInvariants : Prop :=
  State.reset.flt.Ordered ∧ State.reset.flt.held = 0 ∧ State.reset.sys.bootRecs.length = 0

/-- O5. R485, R486: from every state with the fault queue in order, every step leaves it so: at most 32 entries held, running
and suspended handlers among them; the pending ones by severity, highest first, then by raise time; and every handler of a
higher severity than the one it suspended.
Its own choices and readings of the rules: log entries 61, 62. -/
def Obligations.FaultQueueStaysOrdered : Prop :=
  ∀ s t : State, s.flt.Ordered → step s = .next t → t.flt.Ordered

/-- O6. R486: with the queue in order, at most three handlers are suspended at once.
Its own choices and readings of the rules: log entries 61, 62. -/
def Obligations.AtMostThreeSuspended : Prop :=
  ∀ f : Flt, f.Ordered → f.susp.length ≤ 3

/-- O7. R64: the OTP has four slots for boot records, whatever is commanded. -/
def Obligations.BootRecordsStayInSlots : Prop :=
  ∀ s t : State, s.sys.bootRecs.length ≤ 4 → step s = .next t → t.sys.bootRecs.length ≤ 4

/-- O8. R117, R119, R494: no step changes the serial number, the install key or Tuthen's public key; and a step takes the front
command from the queue and leaves the rest of it. -/
def Obligations.IdentityStays : Prop :=
  ∀ s t : State, step s = .next t → t.sys.otp = s.sys.otp ∧ t.pending = s.pending.tail

/-- O9. The block never stops: in every state a step answers a next state, and so does every command, which leaves the queue of
commands and the identity in the OTP as they are. -/
def Obligations.EveryStepIsSafe : Prop :=
  (∀ s : State, Safe s) ∧
    ∀ (c : Instr) (s : State), ∃ t, exec c s = .next t ∧ t.pending = s.pending ∧ t.sys.otp = s.sys.otp

/-! ## Host commands: the checks of a packet and the reports -/

/-- The commands that only report (R116, R117, R63, R103, R127, R146 and each block's status command), for a session's packet
`o` with parameters `p`. -/
def IsReport (o : Origin) (p : List Byte) (c : Instr) : Prop :=
  (∃ blk, c = .easelRead o blk p ∨ c = .easelStatus o blk p) ∨
  c ∈ [.nop o p, .sysStatus o p, .resetCause o p, .hifStatus o p, .palStatus o p, .palRead o p, .rectStatus o p, .barrierStatus o p, .busStatus o p, .chgStatus o p, .gaugeStatus o p, .domStatus o p,
    .phaseStatus o p, .portStatus o p, .portMeter o p, .linkStatus o p, .nodeTable o p, .capStatus o p, .pdStatus o p,
    .seqStatus o p, .adcStatus o p, .calStatus o p, .ccStatus o p, .thermalStatus o p, .fanStatus o p, .skbCaptureInfo o p,
    .imgStatus o p, .faultStatus o p, .faultActive o p]

/-- O10. A report leaves everything as it was but the interface its reply goes out on: in every state, whatever its session
and its parameters (the host-contact watchdog of R69 and the session's timer of R119 among what stays). -/
def Obligations.ReportsChangeOnlyTheInterface : Prop :=
  ∀ (o : Origin) (p : List Byte) (c : Instr) (s t : State), IsReport o p c → Goes c s t → t = { s with hif := t.hif }

/-- The host commands that run at once, with their opcode and the privilege of their heading (R115). -/
def IsCommand (o : Origin) (p : List Byte) (c : Instr) (op priv : Nat) : Prop :=
  let is (d : Instr) (n m : Nat) : Prop := c = d ∧ op = n ∧ priv = m
  is (.nop o p) 0x0100 0 ∨ is (.sysStatus o p) 0x0101 0 ∨ is (.nodeGroups o p) 0x0105 1 ∨ is (.resetCause o p) 0x0111 0 ∨
    is (.d0BootRecord o p) 0x0112 2 ∨ is (.keepReservoir o p) 0x0113 2 ∨ is (.hifStatus o p) 0x0202 0 ∨
    is (.privChallenge o p) 0x0210 0 ∨ is (.privResponse o p) 0x0211 0 ∨ is (.privDrop o p) 0x0212 0 ∨
    is (.multiCommit o p) 0x0301 1 ∨ is (.easelSave o p) 0x0302 2 ∨ is (.palBegin o p) 0x0601 2 ∨
    is (.palData o p) 0x0602 2 ∨ is (.palEnd o p) 0x0603 2 ∨ is (.palSwitch o p) 0x0604 2 ∨
    is (.palStatus o p) 0x0605 0 ∨ is (.palRead o p) 0x0606 0 ∨ is (.rectControl o p) 0x0701 1 ∨
    is (.rectStatus o p) 0x0702 0 ∨ is (.barrierStatus o p) 0x0703 0 ∨ is (.busStatus o p) 0x0801 0 ∨
    is (.auxControl o p) 0x0802 1 ∨ is (.stringControl o p) 0x0901 1 ∨ is (.chgControl o p) 0x0902 1 ∨
    is (.stringTest o p) 0x0903 1 ∨ is (.chgStatus o p) 0x0904 0 ∨ is (.gaugeStatus o p) 0x0A01 0 ∨
    is (.gaugeReset o p) 0x0A02 2 ∨ is (.gaugeSetFcc o p) 0x0A03 2 ∨ is (.domControl o p) 0x0B01 1 ∨
    is (.domVout o p) 0x0B02 1 ∨ is (.domStatus o p) 0x0B03 0 ∨ is (.phaseStatus o p) 0x0B04 0 ∨
    is (.portControl o p) 0x0C01 1 ∨ is (.portStatus o p) 0x0C02 0 ∨ is (.portMeter o p) 0x0C03 0 ∨
    is (.linkStatus o p) 0x0D01 0 ∨ is (.nodeTable o p) 0x0D02 0 ∨ is (.enumerate o p) 0x0D03 2 ∨
    is (.capStatus o p) 0x0D04 0 ∨ is (.pdControl o p) 0x0E01 1 ∨ is (.pdTx o p) 0x0E02 1 ∨ is (.pdEvent o p) 0x0E03 1 ∨
    is (.pdPower o p) 0x0E04 1 ∨ is (.pdSwap o p) 0x0E05 1 ∨ is (.pdStatus o p) 0x0E06 0 ∨ is (.seqStart o p) 0x0F01 1 ∨
    is (.seqControl o p) 0x0F02 1 ∨ is (.seqStatus o p) 0x0F03 0 ∨ is (.emStatus o p) 0x0F04 0 ∨
    is (.adcStatus o p) 0x1001 0 ∨ is (.measPeek o p) 0x1002 0 ∨ is (.calRun o p) 0x1004 1 ∨
    is (.calStatus o p) 0x1005 0 ∨ is (.ccStatus o p) 0x1006 0 ∨ is (.thermalStatus o p) 0x1101 0 ∨
    is (.fanStatus o p) 0x1102 0 ∨ is (.skbStatus o p) 0x1201 0 ∨ is (.skbRead o p) 0x1202 0 ∨
    is (.skbStreamStop o p) 0x1203 0 ∨ is (.skbCaptureInfo o p) 0x1204 0 ∨ is (.skbTrigger o p) 0x1205 1 ∨
    is (.skbMark o p) 0x1206 1 ∨ is (.skbClear o p) 0x1207 2 ∨ is (.faultStatus o p) 0x1301 0 ∨
    is (.faultActive o p) 0x1302 0 ∨ is (.imgBegin o p) 0x1401 2 ∨ is (.imgData o p) 0x1402 2 ∨
    is (.imgEnd o p) 0x1403 2 ∨ is (.imgConfirm o p) 0x1405 2 ∨ is (.imgStatus o p) 0x1406 0

/-- O11. R105, R114, R118, R67, R55: a command that the device's mode or the session's level turns away does nothing: the packet
is answered with BUSY, STATE or NOT_PERMITTED; and one that they let through with bad FLAGS gets BAD_PARAM, but for three that
have a check of privilege of their own (D0_BOOT_RECORD, PRIV_CHALLENGE, MULTI_COMMIT), which comes first: NOT_PERMITTED where
that fails; only the interface the answer goes out on changes.
Its own choice or reading of the rules: log entry 54. -/
def Obligations.TurnedAwayCommandsDoNothing : Prop :=
  ∀ (o : Origin) (p : List Byte) (c : Instr) (op priv : Nat) (s : State), IsCommand o p c op priv →
    (¬s.lets o op priv → ∃ t, Goes c s t ∧ t = s.answer o op (s.gate o op priv) [] ∧ t = { s with hif := t.hif }) ∧
    (s.lets o op priv → o.form = false → ∃ t status,
      (status = st.badParam ∨ status = st.notPermitted ∧ op ∈ [0x0112, 0x0210, 0x0301]) ∧
      Goes c s t ∧ t = s.answer o op status [] ∧ t = { s with hif := t.hif })

/-- O12. R118: with the device running, a session below a command's privilege gets NOT_PERMITTED, and one at or above it is let
through; in hold mode and in the boot ROM every packet gets BUSY (R67). -/
def Obligations.PrivilegeDecides : Prop :=
  ∀ (s : State) (o : Origin) (op priv : Nat),
    (s.sys.mode = .running → s.level o < priv → s.gate o op priv = st.notPermitted) ∧
    (s.sys.mode = .running → priv ≤ s.level o → s.lets o op priv) ∧
    ((s.sys.mode = .hold ∨ s.sys.mode = .holdOnly ∨ s.sys.mode = .bootRom ∨ s.sys.mode = .coldReset) →
      s.gate o op priv = st.busy)

/-- O13. R69, R119: an accepted command above Observe reloads the host-contact watchdog and ends its safe defaults; one that
needs Install restarts its session's 15 minutes; an Observe command does neither. -/
def Obligations.AcceptanceReloadsTheWatchdog : Prop :=
  ∀ (s : State) (o : Origin),
    s.accepted o 0 = s ∧
    (∀ priv, 1 ≤ priv → (s.accepted o priv).sys =
      { s.sys with wdLeft := sec s.sys.wdTimeout, wdLoaded := s.sys.wdTimeout, wdBase := s.now, safe := false }) ∧
    (o.itf = .i2c → (s.accepted o 2).hif.i2c = { s.hif.i2c with tInstall := s.now }) ∧
    (o.itf = .spi → (s.accepted o 2).hif.spiS = { s.hif.spiS with tInstall := s.now })

/-- O14. R116: NOP does nothing and replies OK; it takes no parameters and needs Observe only. -/
def Obligations.NopDoesNothing : Prop :=
  (∀ (o : Origin) (s : State), s.admits o 0x0100 0 → Replies (.nop o []) s s o 0x0100 st.ok []) ∧
  ∀ (o : Origin) (p : List Byte) (s : State), s.admits o 0x0100 0 → p ≠ [] →
    Goes (.nop o p) s (s.answer o 0x0100 st.badParam [])

/-- A report's reply is OK with the bytes `d`, `n` of them, and nothing else has happened. -/
abbrev Reports (c : Instr) (s : State) (o : Origin) (op n : Nat) (d : List Byte) : Prop :=
  s.admits o op 0 → d.length = n ∧ Replies c s s o op st.ok d

/-- O15. R117, R63, R103, R146, R205, R323, R350, R353, R403, R432, R435, R453, R454, R498, R499: a report without parameters
replies OK with as many bytes as its table gives, laid out as written here or by the function named, and changes nothing else.
Its own choices and readings of the rules: log entries 18, 30, 84, 93, 142, 143. -/
def Obligations.ReportsReplyWithTheirTable : Prop :=
  ∀ (o : Origin) (s : State),
    Reports (.sysStatus o []) s o 0x0101 28
      ([3, byte s.sys.fw.1] ++ toLE 2 s.sys.fw.2 ++
        [byte stepping, byte s.sys.mode.code, byte (s.sys.addr + 8 * b2n s.sys.root), byte s.nodeAddr] ++
        toLE 2 s.sys.groups ++ [byte (s.level o), 0] ++ padTo 8 s.sys.serial ++ toLE 8 s.now) ∧
    (∃ d, Reports (.resetCause o []) s o 0x0111 16 d ∧
      sliceBytes d 0 2 = [byte s.sys.cause, areaCode s.img.booted] ∧
      sliceBytes d 4 12 = toLE 8 s.sys.tReset ++ toLE 4 s.sys.porCount) ∧
    Reports (.hifStatus o []) s o 0x0202 16
      ([byte (b2n s.hif.opt.pec), byte s.hif.opt.options, byte s.hif.opt.hnAddr, 0] ++ toLE 2 s.hif.pecErrors ++
        toLE 2 s.hif.timeouts ++ toLE 2 s.hif.nacks ++ toLE 2 s.hif.notifies ++ toLE 2 s.hif.cures ++
        toLE 2 s.hif.spiDiscards) ∧
    (∀ blk ∈ easelBlocks, ∃ d, Reports (.easelStatus o blk []) s o (256 * blk + 0xE4) 14 d ∧
      sliceBytes d 0 2 = toLE 2 s.cfg.gen[fin 21 blk] ∧
      sliceBytes d 6 8 = toLE 4 (s.statusMask blk fun c => c.stagedB) ++ toLE 4 (s.armedMask blk)) ∧
    (∃ d, Reports (.palStatus o []) s o 0x0605 20 d ∧ sliceBytes d 2 4 = toLE 4 (palId (s.bankBytes s.pal.active)) ∧
      sliceBytes d 10 10 =
        [byte s.pal.error, byte s.pal.errTable] ++ toLE 4 s.pal.errOffset ++ toLE 4 s.pal.pending) ∧
    Reports (.busStatus o []) s o 0x0801 60 s.busStatus ∧
    Reports (.portMeter o []) s o 0x0C03 576 ((List.range 24).flatMap s.meterEntry) ∧
    Reports (.linkStatus o []) s o 0x0D01 40 s.linkStatus ∧
    (∃ d, Reports (.nodeTable o []) s o 0x0D02 (1 + 4 * s.link.table.length) d ∧ d.head? = some (byte s.link.table.length)) ∧
    Reports (.capStatus o []) s o 0x0D04 52 s.capStatus ∧
    Reports (.seqStatus o []) s o 0x0F03 24 s.seqStatus ∧
    Reports (.adcStatus o []) s o 0x1001 80 s.adcStatus ∧
    Reports (.calStatus o []) s o 0x1005 20
      (toLE 1 s.meas.cal.code ++ toLE 1 s.meas.calUnit ++ toLE 2 s.meas.discarded ++ toLE 4 s.meas.calCount ++
        toLEi 2 s.meas.tPass ++ toLE 2 0 ++ toLE 8 s.meas.tLast) ∧
    Reports (.thermalStatus o []) s o 0x1101 68 s.thermalStatus ∧
    Reports (.fanStatus o []) s o 0x1102 32 ((List.range 4).flatMap s.fanEntry) ∧
    Reports (.faultStatus o []) s o 0x1301 28
      ([byte s.flt.held, byte s.flt.susp.length] ++ toLE 2 ((s.flt.running.map fun e => e.code).getD 0) ++
        toLE 2 s.flt.overflows ++ toLE 2 s.flt.lost ++ s.flt.raised.toList.flatMap (toLE 4)) ∧
    (∃ d, Reports (.faultActive o []) s o 0x1302 (2 + 16 * min 255 s.flt.active.length) d ∧
      sliceBytes d 0 2 = [byte (min 255 s.flt.active.length), 0]) ∧
    (∃ d, Reports (.imgStatus o []) s o 0x1406 32 d ∧
      sliceBytes d 0 8 = [areaCode s.img.booted, areaCode s.img.active, byte s.img.lastError, byte s.img.download] ++
        toLE 4 s.img.rollback)

/-- O16. R178, R179, R240, R265, R301, R302, R322, R381, R436, R469, R479: a report on one channel replies OK with as many bytes
as its table gives, laid out by the function named, and changes nothing else; `k` is the channel that its selector names.
Its own choices and readings of the rules: log entries 17, 30, 124. -/
def Obligations.ChannelReportsReplyWithTheirTable : Prop :=
  ∀ (o : Origin) (s : State) (p : List Byte) (k : Nat), p.length = 2 →
    (s.single 0x07 (u p 0 2) = some k →
      Reports (.rectStatus o p) s o 0x0702 52 (s.rectStatus k) ∧ Reports (.barrierStatus o p) s o 0x0703 28 (s.barrierStatus k)) ∧
    (s.single 0x09 (u p 0 2) = some k →
      Reports (.chgStatus o p) s o 0x0904 64 ((s.chgStatus k).set 4 (byte (s.limitShown k)))) ∧
    (s.single 0x0A (u p 0 2) = some k → Reports (.gaugeStatus o p) s o 0x0A01 48 (s.gaugeStatus k)) ∧
    (s.single 0x0B (u p 0 2) = some k →
      Reports (.domStatus o p) s o 0x0B03 52 (s.domStatus k) ∧
      Reports (.phaseStatus o p) s o 0x0B04 (4 + 8 * (s.phases k).length)
        ([byte (s.phases k).length, 0, 0, 0] ++
          (List.range (s.phases k).length).flatMap fun j => s.phaseEntry k j ((s.phases k).getD j 0))) ∧
    (s.single 0x0C (u p 0 2) = some k → Reports (.portStatus o p) s o 0x0C02 48 (s.portStatus k)) ∧
    (s.single 0x0E (u p 0 2) = some k → Reports (.pdStatus o p) s o 0x0E06 40 (s.pdStatus k)) ∧
    (s.single 0x10 (u p 0 2) = some k → Reports (.ccStatus o p) s o 0x1006 24 (s.ccStatus k)) ∧
    (u p 1 1 = 0 → s.admits o 0x1204 0 → Replies (.skbCaptureInfo o p) s s o 0x1204 st.ok (s.captureInfo (u p 0 1)))
/-! ## Power, boot and reset -/

/-- O17. R16, R19, R44, R45, R49, R50, R51: the power and strap events: what power-on reset leaves and what NAND and OTP keep over
it, the waiting times, the state of HK12, the timebase from power-on reset's release, the straps; each out of place changes
nothing.
The model's choice: log entry 3 (an event out of place changes nothing), 132 (4.5 V falling, 4.6 V rising), 135 (a bank without its supply). -/
def Obligations.PowerEventsRun : Prop :=
  ∀ s : State,
    (∀ mv, ∃ t, Goes (.powerOnReset mv) s t ∧ t = s.powerOn mv ∧ t.sys.por ∧ t.sys.rstOut ∧ t.now = 0 ∧ t.sys.keepMv = mv ∧
      t.sys.mode = .bootRom ∧ t.sys.bootRecs = s.sys.bootRecs ∧ t.img.active = s.img.active ∧ t.skb.evRing = s.tear.skb.evRing ∧
      (∀ k : Fin 16, (t.domCh k).st = .off) ∧ (∀ n : Fin 24, (t.portCh n).st = .off) ∧ t.flt.held = 0) ∧
    (∀ mv, Fires (.porRelease mv) s (s.sys.por ∧ 4600 ≤ mv)
      (((s.onSys fun y => { y with por := false, hk := .ramp, tHk := s.now, strapDue := true, tRstOut := s.now }).onHif
        fun h => { h with mbx := { h.mbx with state := .busy } }).setKeep mv)) ∧
    Fires .hk12Good s (s.sys.hk = .ramp)
      (((s.onSys fun y => { y with hk := .good, tHk := s.now }).onDomCh 0 fun c => { c with enable := true }).domTo 0 .check) ∧
    Fires .hk12Timeout s (s.sys.hk = .ramp)
      (s.onSys fun y => { y with time := max s.now (y.tHk + ms 10), hk := .retryWait, tHk := max s.now (y.tHk + ms 10) }) ∧
    Fires .hk12Retry s (s.sys.hk = .retryWait ∧ 4500 < s.sys.keepMv)
      (s.onSys fun y => { y with time := max s.now (y.tHk + ms 100), hk := .ramp, tHk := max s.now (y.tHk + ms 100) }) ∧
    (∀ mv, mv < 4500 → Goes (.keepThresholdCross mv) s (s.powerOn mv)) ∧
    (∀ mv, 4500 ≤ mv → s.sys.por → Goes (.keepThresholdCross mv) s (s.onSys fun y => { y with keepMv := mv })) ∧
    (∀ mv, 4500 ≤ mv → s.sys.por = false → Goes (.keepThresholdCross mv) s (s.setKeep mv).pump ∧
      (s.setKeep mv).sys = { s.sys with keepMv := mv, brownOut := decide (mv < 9000), nandBar := decide (mv < 6000) }) ∧
    (∀ (a : Fin 8) (r : Bool), Fires (.strapSample a r) s (s.sys.strapDue ∧ s.sys.vioHost ∧ s.sys.hk = .good)
      (s.onSys fun y =>
        { y with time := max s.now (y.tVioHost + us 100), strapDue := false, sampled := true, addr := a.val, root := r })) ∧
    (∀ v, let t := s.onSys fun y => { y with vioHost := v, tVioHost := if v ∧ y.vioHost = false then s.now else y.tVioHost }
      Goes (.bankSupplyChange true v) s (if v = false ∧ s.sys.rstLow then t.pinRelease else t)) ∧
    (∀ v, Goes (.bankSupplyChange false v) s (s.onSys fun y => { y with vioPwm := v }))

/-- O18. R54, R56, R61, R66: the boot ROM chooses an image once HK12 is good and RST_N high; firmware is ready from the boot ROM
or from hold mode; RST_OUT_N is released 20 ms after D0 is in its window.
The model's choice: log entry 3 (an event out of place changes nothing).
Its own choices and readings of the rules: log entries 20, 31, 73. -/
def Obligations.BootEventsRun : Prop :=
  ∀ s : State,
    Fires .bootImageSelect s
      (s.sys.mode = .bootRom ∧ s.sys.hk = .good ∧ s.sys.rstLow = false ∧ s.img.booted = none) s.bootSelect ∧
    (let k := s.img.active.getD 0
     (s.bootVerdict k = some 0 → s.bootSelect =
       (s.onImg fun i => { i with booted := some k, sram := some k }).settle fun a => a.code = 0x1401) ∧
     (s.bootVerdict k = none → s.bootVerdict (otherArea k) = some 0 → s.bootSelect =
       (s.onImg fun i => { i with booted := some (otherArea k), sram := some (otherArea k) }).settle fun a => a.code = 0x1401) ∧
     (s.bootVerdict k = none → s.bootVerdict (otherArea k) = none → s.bootSelect =
       ((s.onSys fun y => { y with mode := .bootLoader }).raise 0x1401).onHif fun h => { h with mbx := h.mbx.clear })) ∧
    (∀ tests n ok, s.sys.rstLow = false → s.sys.mode = .hold → Goes (.firmwareReady tests n ok) s (s.holdReady tests n ok)) ∧
    (∀ tests n ok, s.sys.rstLow = false → s.sys.mode = .bootRom → s.sys.hk = .good → s.img.booted.isSome →
      Goes (.firmwareReady tests n ok) s (s.bootReady tests n)) ∧
    (∀ tests n ok, (s.sys.rstLow ∨ s.sys.mode = .running ∨ s.sys.mode = .bootLoader ∨ s.sys.mode = .holdOnly ∨
      s.sys.mode = .coldReset) → Goes (.firmwareReady tests n ok) s s) ∧
    (∀ t, s.sys.d0InWin = some t → s.sys.rstOut → ∃ r, Goes .rstOutRelease s r ∧ r.sys.rstOut = false ∧
      r.now = max s.now (max t s.sys.tRstOut + ms 20) ∧ r = { s with sys := r.sys }) ∧
    ((s.sys.d0InWin = none ∨ s.sys.rstOut = false) → Goes .rstOutRelease s s)

/-- O19. R60, R61, R62, R68: what resets the device: RST_N low holds a running device, and the boot ROM before
firmware is ready, unless its bank has no supply (R44);
a failure of the control processors restarts it in hold mode; RESET is served once its reply is delivered.
The model's choice: log entry 3 (an event out of place changes nothing).
Its own choices and readings of the rules: log entries 21, 22, 24, 25, 32. -/
def Obligations.ResetsRun : Prop :=
  ∀ s : State,
    ((s.sys.por ∨ s.sys.rstLow ∨ s.sys.vioHost = false) → Goes .pinResetAssert s s) ∧
    (s.sys.por = false → s.sys.rstLow = false → s.sys.vioHost → s.sys.mode = .coldReset →
      Goes .pinResetAssert s (s.onSys fun y => { y with rstLow := true })) ∧
    (s.sys.por = false → s.sys.rstLow = false → s.sys.vioHost → s.sys.mode = .running →
      Goes .pinResetAssert s (((s.onSys fun y => { y with rstLow := true }).enterHold 2 false).onSys
        fun y => { y with pinRestart := true })) ∧
    (s.sys.por = false → s.sys.rstLow = false → s.sys.vioHost → (s.sys.mode = .hold ∨ s.sys.mode = .holdOnly) →
      ∃ r, Goes .pinResetAssert s r ∧ r.sys.mode = .hold ∧ r.sys.cause = 2 ∧ r.sys.rstLow ∧ r.sys.tReset = s.now) ∧
    (s.sys.por = false → s.sys.rstLow = false → s.sys.vioHost → (s.sys.mode = .bootRom ∨ s.sys.mode = .bootLoader) →
      Goes .pinResetAssert s (((s.onSys fun y => { y with rstLow := true }).dropOwed.bootAgain 2).onHif Hif.bootEntry)) ∧
    Goes .lockstepMismatch s (s.restart 5 true) ∧ Goes .fwWatchdogExpiry s (s.restart 6 true) ∧
    Goes .firmwareRestart s (s.restart 7 false) ∧
    Fires .coldResetSeqDone s (s.seq.coldDue ∧ s.seq.st ≠ .running)
      (let s := (s.onSeq fun q => { q with coldDue := false }).stopStages.dropQueue.onSys fun y => { y with fwReady := false }
       if s.sys.rstLow then s else s.coldBoot) ∧
    Fires .crystalFail s (s.sys.por = false ∧ s.sys.rcClock = false)
      ((s.onSys fun y => { y with rcClock := true }).raise 0x1008) ∧
    (∀ o p, s.admits o 0x0110 (if u p 0 1 = 2 then 2 else 1) → p.length = 2 → (u p 0 1 = 1 ∨ u p 0 1 = 2) → u p 1 1 = 0x5A →
      Goes (.reset o p) s (((s.accepted o (if u p 0 1 = 2 then 2 else 1)).onSys fun y =>
        { y with resetDue := some (u p 0 1, o.itf) }).finish o 0x0110 st.ok []).serveReset) ∧
    (∀ o p, s.admits o 0x0110 (if u p 0 1 = 2 then 2 else 1) → (p.length ≠ 2 ∨ (u p 0 1 ≠ 1 ∧ u p 0 1 ≠ 2) ∨ u p 1 1 ≠ 0x5A) →
      Goes (.reset o p) s (s.answer o 0x0110 st.badParam []).serveReset)

/-- O20. R60, R489, R519: the release of RST_N: the straps are sampled again, the watchdog's full time is 60 s again, the
interface resets and the fault queue is emptied; then hold mode settles its restarts, the boot ROM starts again, and a cold
reset that has ended its sequence boots.
Its own choices and readings of the rules: log entries 22, 24, 26. -/
def Obligations.PinResetReleaseRuns : Prop :=
  ∀ s : State, ((s.sys.rstLow = false ∨ s.sys.por) → Goes .pinResetRelease s (s.onSys fun y => { y with rstLow := false })) ∧
    (s.sys.rstLow → s.sys.por = false →
    let r := (((s.onSys fun y => { y with rstLow := false, strapDue := true, wdTimeout := 0x3C }).onHif Hif.pinReset).onSkb
      fun k => { k with stream := none }).dropQueue
    (s.sys.mode = .running → Goes .pinResetRelease s r) ∧
    ((s.sys.mode = .bootRom ∨ s.sys.mode = .bootLoader) → Goes .pinResetRelease s (r.bootAgain 2)) ∧
    (s.sys.mode = .coldReset → Goes .pinResetRelease s (if r.seq.coldDue then r else r.coldBoot)) ∧
    ((s.sys.mode = .hold ∨ s.sys.mode = .holdOnly) →
      Goes .pinResetRelease s ((r.onSys fun y =>
        { y with holds := y.holds.map fun h => (h.1, false), otherTried := false }).settle fun a => a.code = 0x0104)) ∧
    r.flt.held = 0 ∧ r.hif.mask = 0x001FFFCE ∧ r.skb.stream = none ∧ r.sys.wdTimeout = 0x3C)

/-- O21. R64, R65: a boot record takes the next of the four slots, with its CRC-16, and the reservoir's capacity is kept in varnish; a read of it
changes nothing else. -/
def Obligations.BootRecordsRun : Prop :=
  ∀ (s : State) (o : Origin) (p : List Byte),
    (s.admits o 0x0112 2 → bootRecOk p → s.sys.bootRecs.length < 4 →
      Replies (.d0BootRecord o p) s ((s.accepted o 2).onSys fun y =>
        { y with bootRecs := y.bootRecs ++ [bootRecOf p] }) o 0x0112 st.ok []) ∧
    (bootRecOf p).valid ∧ (bootRecOk p → (bootRecOf p).bytes = p) ∧
    (s.admits o 0x0112 2 → bootRecOk p → 4 ≤ s.sys.bootRecs.length →
      Goes (.d0BootRecord o p) s (s.answer o 0x0112 st.notPermitted [])) ∧
    (s.admits o 0x0112 2 → bootRecOk p = false → Goes (.d0BootRecord o p) s (s.answer o 0x0112 st.badParam [])) ∧
    (s.admits o 0x0113 2 → p.length = 8 → u p 4 4 = 0 → u p 0 4 = 0 →
      Replies (.keepReservoir o p) s (s.accepted o 2) o 0x0113 st.ok (toLE 4 s.sys.cUf)) ∧
    (s.admits o 0x0113 2 → p.length = 8 → u p 4 4 = 0 → 470 ≤ u p 0 4 → u p 0 4 ≤ 100000 →
      Goes (.keepReservoir o p) s (((((s.accepted o 2).onSys fun y => { y with cUf := u p 0 4 }).gateWatch).await o 0x0113 0 0
        []).vWrite 5 (toLE 4 (u p 0 4)))) ∧
    (s.admits o 0x0113 2 → (p.length ≠ 8 ∨ u p 4 4 ≠ 0 ∨ (0 < u p 0 4 ∧ u p 0 4 < 470) ∨ 100000 < u p 0 4) →
      Goes (.keepReservoir o p) s (s.answer o 0x0113 st.badParam []))

/-- O22. R69, R70: a write of HOST_WD is taken on a live interface, and the watchdog's expiry starts the safe defaults: both PD
ports lowered, 0x0101 raised and its flag set; it fires once.
The model's choice: log entry 3 (an event out of place changes nothing). -/
def Obligations.HostWatchdogRuns : Prop :=
  ∀ s : State,
    (∀ v, (s.wdWrite v).now = s.now ∧ (s.wdWrite v).sys = Sys.reload { s.sys with wdTimeout := if v = 0 then s.sys.wdTimeout else v }) ∧
    (∀ v, Fires (.hostWdWrite .i2c v) s s.i2cUp (((s.i2cStart.drive []).onHif fun h => { h with ptr := 0x19 }).wdWrite v.toNat)) ∧
    (∀ v, Fires (.hostWdWrite .spi v) s s.spiUp ((s.spiFrame [0, 0]).wdWrite v.toNat)) ∧ (∀ v, Goes (.hostWdWrite .link v) s s) ∧
    Fires .hostWdExpiry s (s.sys.wdRunning ∧ s.sys.safe = false)
      ((((s.onSys fun y =>
        { y with
          time := max s.now (y.wdBase + y.wdLeft), safe := true, wdLeft := 0, wdBase := max s.now (y.wdBase + y.wdLeft) }
        ).raise 0x0101).irq 1).each [0, 1] State.pdSafe)

/-- O23. R22, R341, R345: the two ticks: power-on reset holds them; each advances the timebase to its next multiple, and the
snapshot of a time is taken once; the share tick decides the throttle step and the capping before the 10 µs tick of the same
time acts; the table engine runs in R22's order, and what has waited lands after it, the link's values of a share tick among it.
Its own choices and readings of the rules: log entries 56, 57. -/
def Obligations.TicksRun : Prop :=
  ∀ s : State,
    (s.sys.por → Goes .tick10us s s ∧ Goes .shareTick s s) ∧
    (s.sys.por = false →
      let a := s.advanceTo (nextTick 1000 s.now s.sys.tTick)
      let b := (a.onSys fun y => { y with tTick := some y.time }).onLink fun l => { l with out := [] }
      Goes .tick10us s
        (((if b.link.tShare = some b.now then b else b.latch).histTick.tableEngine.tickLand).palDone.pump.sendPackets).identTick ∧
        a.now % 1000 = 0 ∧ s.now ≤ a.now) ∧
    (s.sys.por = false →
      let a := s.advanceTo (nextTick s.sharePeriod s.now (later s.link.tShare s.sys.tTick))
      Goes .shareTick s
        ((((((a.onLink fun l => { l with tShare := some a.now }).latch).closePeriod.throttleTick.capTick).pdShareTick).rootTick
          ).histShare.onLink fun l => { l with landDue := true })) ∧
    (∀ a b c d : State, a.tableEngine = a.throttleTick.stringsTick.busTick.seqTick ∧
      (b.link.landDue = false → b.linkLand = b) ∧
      (c.link.landDue → c.linkLand = ((c.onLink fun l => { l with landDue := false }).boundary .link0 0 .main).boundary .link1 0
        .main) ∧
      d.tickLand = ((((let e := d.domsTick.portsTick.pdTick.seqLand.linkLand.dropRaise
        let f := e.each [0, 1] fun k s => if (s.rectCh k).llc then s else s.rectServe k
        (f.boundary .bus0 0 .main).each (List.range 4) fun k s => s.boundary .therm0 k .main).boundary .skb0 0 .main).boundary
          .meas1 0 .main).skbTriggers))
/-! ## The host interfaces -/

/-- O24. R73, R78, R79, R84, R87, R92–R95: what comes on I2C while the device answers there: a register write, a read with
the snapshot, the clearing of interrupt flags, sleep and wake, the bus timeout, the alert response and host notify; each out of place, and
each while the device does not answer, changes nothing.
The model's choice: log entry 3 (an event out of place changes nothing).
Its own choices and readings of the rules: log entries 34, 36, 37, 38. -/
def Obligations.I2cEventsRun : Prop :=
  ∀ s : State,
    (∀ bytes, Fires (.registerWrite bytes) s s.i2cUp ((s.i2cWrite 0 bytes).1.mbxAct (s.i2cWrite 0 bytes).2)) ∧
    (∀ ptr n, s.i2cUp → 1 ≤ n →
      let a := (ptr.map fun p : Byte => p.toNat).getD s.hif.ptr
      let r := if a = 0x1C then s.i2cStart.snapTime else s.i2cStart
      let k := if s.hif.opt.pec then min n (s.hif.blockLen a) else n
      ∃ t, Goes (.timeSnapRead ptr n) s t ∧ t = { r with hif := { r.hif with ptr := (a + k) % 256, out := t.hif.out } } ∧
        (s.hif.opt.pec = false → t.hif.out = r.regBytes false a n)) ∧
    (∀ ptr n, (s.i2cUp = false ∨ n = 0) → Goes (.timeSnapRead ptr n) s s) ∧
    (∀ bytes hw, Fires (.irqFlagsClear bytes hw) s s.i2cUp
      ((s.i2cWrite (hw &&& irqBits) (0x0C :: bytes)).1.onHif (Hif.clearIrq · 0 (hw &&& irqBits)))) ∧
    Fires .i2cWake s (s.i2cUp ∧ s.hif.asleep) s.i2cStart ∧
    Fires .i2cSleep s
      (s.i2cUp ∧ s.hif.opt.options.testBit 1 ∧ s.hif.asleep = false ∧ s.hif.mbx.state ≠ .busy ∧ s.hif.alert = false ∧
        s.hif.notifyDue = false)
      ((s.advanceTo (s.hif.tStart + ms 10)).onHif fun h => { h with asleep := true }) ∧
    Fires .smbusTimeout s (s.i2cUp ∧ s.hif.opt.options.testBit 0)
      (((s.onHif fun h =>
        { h with mbx := { h.mbx with timeout := true }, timeouts := satAdd 0xFFFF h.timeouts 1 }).raise 0x0204).irq 2) ∧
    (s.i2cUp → s.hif.attnMode = 2 → s.hif.alert → Goes (.alertResponse true) s
      ((s.busStart.drive ([s.i2cAddr false] ++ if s.hif.opt.pec then [byte (crc8 [0x19, s.i2cAddr false])] else [])).onHif
        fun h => { h with alert := false })) ∧
    (∀ won : Bool, (s.i2cUp = false ∨ s.hif.attnMode ≠ 2 ∨ s.hif.alert = false ∨ won = false) →
      Goes (.alertResponse won) s (s.busStart.drive [])) ∧
    (∀ r, Fires (.hostNotify r) s (s.notifyReady ∧ s.hif.notifyHold = 0)
      ((s.advanceTo ((s.hif.tNotify.map fun t => t + ms 1).getD 0)).notify r)) ∧
    (∀ r, Fires (.hostNotifyRetry r) s (s.hif.notifyHold ≠ 0)
      (let s := (s.advanceTo s.hif.notifyHold).onHif fun h => { h with notifyHold := 0 }
       if s.notifyReady then s.notify r else s))

/-- O25. R73, R80, R84: hardware's set of a flag wins over the host's clear of it in the same cycle, and every other flag written
1 is cleared; one that is not written 1 stays: for a write of any of the four bytes, with its PEC where PEC is required. -/
def Obligations.SettingAFlagWins : Prop :=
  ∀ (s : State) (ds : List Byte) (hw : Nat), s.i2cUp → ds.length ≤ 4 → leNat ds &&& irqBits = leNat ds →
    ∃ t, Goes (.irqFlagsClear
        (if s.hif.opt.pec then ds ++ [byte (crc8 ([s.i2cAddr false, 0x0C] ++ ds))] else ds) hw) s t ∧
      t = { s with hif := t.hif } ∧ t.hif.ptr = 0x0C + ds.length ∧
      ∀ j, t.hif.irq.testBit j =
        ((s.hif.irq.testBit j && !(leNat ds).testBit j) || (hw.testBit j && irqBits.testBit j))

/-- O26. R89, R90, R96–R99, R102, R477: the mailbox's control writes on I2C and what the host clocks on SPI, from every state in
which the device answers there; where it does not answer, nothing changes.
The model's choice: log entry 3 (an event out of place changes nothing).
Its own choices and readings of the rules: log entries 36, 52, 53, 55. -/
def Obligations.MailboxAndSpiRun : Prop :=
  ∀ s : State,
    (let m (n : Nat) : State := ((s.i2cStart.drive []).onHif fun h => { h with ptr := 0x41 }).mbxAct n
     Fires .submitLast s s.i2cUp (m 1) ∧ Fires .submitMore s s.i2cUp (m 2) ∧ Fires .release s s.i2cUp (m 3) ∧
       Fires .abort s s.i2cUp (m 4)) ∧
    (∀ p ds, Fires (.regWrite (p :: ds)) s s.spiUp
      (let s := s.spiFrame (zeros (p :: ds).length)
       let w := ds.foldl (RegWalk.byte true) (s.hif.walk p.toNat 0)
       if w.ok then w.commit s else (w.commit s).spiDiscard)) ∧
    Fires (.regWrite []) s s.spiUp (s.spiFrame []) ∧
    (∀ ptr n, Fires (.regRead ptr n) s s.spiUp
      (let s := if ptr.toNat = 0x1C ∧ 1 ≤ n then s.snapTime else s
       s.spiFrame ([0, 0] ++ s.regBytes true ptr.toNat n))) ∧
    (∀ len bytes, s.spiUp = false → Goes (.pktWrite len bytes) s s) ∧
    (∀ len bytes, s.spiUp → 10 ≤ len → len ≤ 4096 → len ≤ bytes.length → s.hif.spi.running = false → s.hif.spi.reply = [] →
      Goes (.pktWrite len bytes) s
        ((((s.spiFrame (zeros (2 + bytes.length))).onHif fun h => { h with spi := { h.spi with running := true } }).hostPacket
          .spi (bytes.take len)).packetEnd)) ∧
    (∀ len bytes, s.spiUp → (len < 10 ∨ 4096 < len ∨ bytes.length < len ∨ s.hif.spi.running ∨ s.hif.spi.reply ≠ []) →
      Goes (.pktWrite len bytes) s ((s.spiFrame (zeros (2 + bytes.length))).spiDiscard)) ∧
    (∀ n, s.spiUp = false → Goes (.pktRead n) s s) ∧
    (∀ n, s.spiUp → s.hif.spi.reply ≠ [] → s.hif.spi.reply.length ≤ n →
      let r := (s.spiFrame ([0] ++ toLE 2 s.hif.spi.reply.length ++ s.hif.spi.reply.take n ++
        zeros (n - s.hif.spi.reply.length))).onHif fun h => { h with spi := { h.spi with reply := [] } }
      Goes (.pktRead n) s (if s.hif.optNext.map (·.2) = some Itf.spi then (r.onHif Hif.optStep).hifServe else r.hifServe)) ∧
    (∀ n, s.spiUp → (s.hif.spi.reply = [] ∨ n < s.hif.spi.reply.length) →
      Goes (.pktRead n) s (s.spiFrame ([0] ++ toLE 2 s.hif.spi.reply.length ++ s.hif.spi.reply.take n ++
        zeros (n - s.hif.spi.reply.length)))) ∧
    (∀ n, s.spiUp → ∀ x, s.skb.stream = some x →
      let bs := s.skb.streamLeft
      let k := min n (min 4096 bs.length)
      Goes (.streamRead n) s
        ((s.spiFrame ([0] ++ toLE 2 (min 4096 bs.length) ++ bs.take k ++ zeros (n - k))).onSkb fun q =>
          { q with stream := if x.pos + k < x.total then some { x with pos := x.pos + k } else none, tStream := s.now })) ∧
    (∀ n, s.spiUp → s.skb.stream = none → Goes (.streamRead n) s (s.spiFrame ([0, 0, 0] ++ zeros n))) ∧
    (∀ n, s.spiUp = false → Goes (.streamRead n) s s) ∧
    (∀ b, (spiOp b = none ∨ spiOp b = some .pktWrite) →
      Fires (.spiUnknownInstruction b) s s.spiUp (s.spiFrame []).spiDiscard) ∧
    (∀ b, (spiOp b = some .regWrite ∨ spiOp b = some .regRead ∨ spiOp b = some .pktRead ∨ spiOp b = some .streamRead) →
      Fires (.spiUnknownInstruction b) s s.spiUp (s.spiFrame []))

/-- O27. R78, R100: the reads of the PMBus window: with it open, a read drives the command's bytes (a page of all domains is refused
to a command of one), and a write of a command that is only read is refused while running; with it closed, a command changes
nothing but that its START has been on the bus.
Its own choices and readings of the rules: log entries 38, 39, 40, 41, 60. -/
def Obligations.PmbusReadsRun : Prop :=
  ∀ s : State,
    (∀ w bs b, s.pmUp = false → ∀ c ∈ [.page w, .operation w, .onOffConfig w, .clearFaults bs, .writeProtect w, .capability w,
      .voutMode w, .voutCommand w, .voutMarginHigh w, .voutMarginLow w, .voutTransitionRate w, .statusByte w, .statusWord w,
      .statusVout w, .statusIout w, .statusCml w, .readVout w, .readIout w, .readTemperature1 w, .pmbusRevision w, .mfrId w,
      .mfrModel w] ++ (if b ∈ pmCommands then [] else [.pmbusUnsupportedCommand b w]),
      Goes c s (if s.i2cUp then s.busStart else s)) ∧
    (s.pmUp →
    let r := s.i2cStart.drive []
    let no (c : Byte) (bs : List Byte) : State :=
      if r.sys.mode ≠ .running then r else if r.pmPecBad c bs then r.pecBad else r.pmRefuse 7 true
    let one (f : State → List Byte) (c : Byte) : State := if r.hif.pmPage = 255 then r.pmRefuse 7 false else r.pmDrive c (f r)
    Goes (.page none) s (r.pmDrive 0x00 [byte r.hif.pmPage]) ∧ Goes (.writeProtect none) s (r.pmDrive 0x10 [byte r.hif.pmProtect]) ∧
    Goes (.operation none) s (one (fun s => [byte (s.domCh s.pmDom).operation]) 0x01) ∧
    (let e (f : Field) (s : State) : Nat := f.getRaw (s.copy .dom0 s.pmDom).easel
     Goes (.voutCommand none) s (one (fun s => toLE 2 (s.toUlin s.pmDom (e Fld.Dom.VOUT_MV s))) 0x21) ∧
     Goes (.voutMarginHigh none) s (one (fun s => toLE 2 (s.toUlin s.pmDom (e Fld.Dom.MARGIN_HIGH_MV s))) 0x25) ∧
     Goes (.voutMarginLow none) s (one (fun s => toLE 2 (s.toUlin s.pmDom (e Fld.Dom.MARGIN_LOW_MV s))) 0x26) ∧
     Goes (.voutTransitionRate none) s (one (fun s => toLE 2 (toLin11 (Int.ofNat (e Fld.Dom.SLEW s)) 100)) 0x27)) ∧
    Goes (.onOffConfig none) s (r.pmDrive 0x02 [0x1A]) ∧ Goes (.capability none) s (r.pmDrive 0x19 [0xD0]) ∧
    Goes (.pmbusRevision none) s (r.pmDrive 0x98 [0x33]) ∧ Goes (.mfrId none) s (r.pmDrive 0x99 (pmBlock "TUTHEN")) ∧
    Goes (.mfrModel none) s (r.pmDrive 0x9A (pmBlock "PT7424")) ∧
    Goes (.voutMode none) s (one (fun s => [if s.flag Fld.Dom.RANGE s.pmDom then 0x15 else 0x14]) 0x20) ∧
    Goes (.statusByte none) s (one (fun s => [byte s.pmStatus]) 0x78) ∧
    Goes (.statusWord none) s (one (fun s => toLE 2 s.pmStatus) 0x79) ∧
    Goes (.statusVout none) s (one (fun s => [byte (s.hif.pm[fin 16 s.pmDom]).vout]) 0x7A) ∧
    Goes (.statusIout none) s (one (fun s => [byte (s.hif.pm[fin 16 s.pmDom]).iout]) 0x7B) ∧
    Goes (.statusCml none) s (one (fun s => [byte (s.hif.pm[fin 16 s.pmDom]).cml]) 0x7E) ∧
    Goes (.readVout none) s (one (fun s => toLE 2 (s.toUlin s.pmDom (s.domV s.pmDom).toNat)) 0x8B) ∧
    Goes (.readIout none) s (one (fun s => toLE 2 (toLin11 (s.domI s.pmDom) 1000)) 0x8C) ∧
    Goes (.readTemperature1 none) s (one (fun s => toLE 2 (toLin11 ((s.hottest (List.range 16)).getD 0) 10)) 0x8D) ∧
    (∀ bs, Goes (.onOffConfig (some bs)) s (no 0x02 bs) ∧ Goes (.capability (some bs)) s (no 0x19 bs) ∧
      Goes (.pmbusRevision (some bs)) s (no 0x98 bs) ∧ Goes (.mfrId (some bs)) s (no 0x99 bs) ∧
      Goes (.mfrModel (some bs)) s (no 0x9A bs) ∧ Goes (.voutMode (some bs)) s (no 0x20 bs) ∧
      Goes (.statusByte (some bs)) s (no 0x78 bs) ∧ Goes (.statusWord (some bs)) s (no 0x79 bs) ∧
      Goes (.statusVout (some bs)) s (no 0x7A bs) ∧ Goes (.statusIout (some bs)) s (no 0x7B bs) ∧
      Goes (.statusCml (some bs)) s (no 0x7E bs) ∧ Goes (.readVout (some bs)) s (no 0x8B bs) ∧
      Goes (.readIout (some bs)) s (no 0x8C bs) ∧ Goes (.readTemperature1 (some bs)) s (no 0x8D bs)) ∧
    (∀ c, c ∉ pmCommands → Goes (.pmbusUnsupportedCommand c none) s (r.pmRefuse 7 false) ∧
      ∀ bs, Goes (.pmbusUnsupportedCommand c (some bs)) s
        (if r.sys.mode = .running ∧ r.pmPecBad c bs then r.pecBad else r.pmRefuse 7 (r.sys.mode = .running))))

/-- O28. R80, R100, R101: the commands of the PMBus window that write: PAGE, WRITE_PROTECT, CLEAR_FAULTS, OPERATION,
VOUT_COMMAND, its margins and VOUT_TRANSITION_RATE: first what a write of any bytes does, with PEC or without, and a value that
the command does not take; then, with the device running, PEC off and no write protection, each for a value that it takes; and
a command byte that is none of the table's. A taken write reloads the host-contact watchdog.
Its own choices and readings of the rules: log entries 39, 40, 42, 43, 60. -/
def Obligations.PmbusWritesRun : Prop :=
  (∀ (c : Byte) (n : Nat) (w : List Byte) (ok : Nat → State → Bool) (act : Nat → State → State) (s : State),
    let data := if s.hif.opt.pec then w.dropLast else w
    let badPec := s.hif.opt.pec ∧ (w = [] ∨ byte (crc8 ([s.pmAddr false, c] ++ data)) ≠ w.getLastD 0)
    (s.sys.mode ≠ .running → s.pmWrite c n w ok act = s) ∧
    (s.sys.mode = .running → badPec → s.pmWrite c n w ok act = s.pecBad) ∧
    (s.sys.mode = .running → ¬badPec → data.length < n → s.pmWrite c n w ok act = s) ∧
    (s.sys.mode = .running → ¬badPec → n ≤ data.length →
      (n < data.length ∨ s.hif.pmOpen c = false ∨ ok (leNat data) s = false) → s.pmWrite c n w ok act = s.pmRefuse 6 true) ∧
    (s.sys.mode = .running → ¬badPec → data.length = n → s.hif.pmOpen c → ok (leNat data) s →
      s.pmWrite c n w ok act = act (leNat data) (s.onSys Sys.reload))) ∧
  (∀ s : State, s.pmUp → ∀ bs : List Byte,
    let r := s.i2cStart.drive []
    (∃ act, Goes (.page (some bs)) s (r.pmWrite 0x00 1 bs (fun v _ => v < 16 ∨ v = 255) act)) ∧
    (∃ act, Goes (.writeProtect (some bs)) s (r.pmWrite 0x10 1 bs (fun v _ => v ∈ [0x00, 0x20, 0x40, 0x80]) act)) ∧
    (∃ act, Goes (.clearFaults bs) s (r.pmWrite 0x03 0 bs (fun _ _ => true) act)) ∧
    (∃ act, Goes (.operation (some bs)) s
      (r.pmWrite 0x01 1 bs (fun v s => (operationAct v).isSome && (v = 0x80 || 0 ∉ s.hif.pmDoms)) act)) ∧
    (∃ act, Goes (.voutCommand (some bs)) s
      (r.pmWrite 0x21 2 bs (fun v s => s.hif.pmDoms.all fun k => s.voutFits k (s.ofUlin k v)) act)) ∧
    (∃ act, Goes (.voutMarginHigh (some bs)) s
      (r.pmWrite 0x25 2 bs (fun v s => s.pmFieldOk Fld.Dom.MARGIN_HIGH_MV fun k => s.ofUlin k v) act)) ∧
    (∃ act, Goes (.voutMarginLow (some bs)) s
      (r.pmWrite 0x26 2 bs (fun v s => s.pmFieldOk Fld.Dom.MARGIN_LOW_MV fun k => s.ofUlin k v) act)) ∧
    (∃ act, Goes (.voutTransitionRate (some bs)) s
      (r.pmWrite 0x27 2 bs (fun v s => (lin11Slew v).isSome && s.pmFieldOk Fld.Dom.SLEW fun _ => (lin11Slew v).getD 0) act))) ∧
  ∀ s : State, s.pmUp → s.sys.mode = .running → s.hif.opt.pec = false → s.hif.pmProtect = 0 →
    let r := (s.i2cStart.drive []).onSys Sys.reload
    (∀ v : Byte, (v.toNat < 16 ∨ v.toNat = 255) → Goes (.page (some [v])) s (r.onHif fun h => { h with pmPage := v.toNat })) ∧
    (∀ v : Byte, v.toNat ∈ [0x00, 0x20, 0x40, 0x80] →
      Goes (.writeProtect (some [v])) s (r.onHif fun h => { h with pmProtect := v.toNat })) ∧
    Goes (.clearFaults []) s (r.onPages fun _ => { vout := 0, iout := 0, cml := 0 }) ∧
    (∀ (v : Byte) a, operationAct v.toNat = some a → (v.toNat = 0x80 ∨ 0 ∉ s.hif.pmDoms) →
      Goes (.operation (some [v])) s ((r.pmCommand 0x0B01 [byte a, 0] (r.domRefuse a)).domJudge)) ∧
    (∀ x y : Byte, let v := leNat [x, y]
      (∀ k ∈ s.hif.pmDoms, let b := (s.copy .dom0 k).easel
        s.onRange k (s.ofUlin k v) ∧ Fld.Dom.MARGIN_LOW_MV.getRaw b ≤ s.ofUlin k v ∧
          s.ofUlin k v ≤ Fld.Dom.MARGIN_HIGH_MV.getRaw b) →
      Goes (.voutCommand (some [x, y])) s (r.each r.hif.pmDoms fun k s =>
        ((s.writeVout (s.ofUlin k v) [k]).selWait pmOrigin 0x0B02 ⟨1, 2 ^ k⟩ (toLE 4 (s.ofUlin k v) ++ [0, 0, 0])
          fun _ => st.ok).2)) ∧
    (∀ x y : Byte, s.pmFieldOk Fld.Dom.MARGIN_HIGH_MV (fun k => s.ofUlin k (leNat [x, y])) →
      Goes (.voutMarginHigh (some [x, y])) s (r.pmField Fld.Dom.MARGIN_HIGH_MV fun k => r.ofUlin k (leNat [x, y]))) ∧
    (∀ x y : Byte, s.pmFieldOk Fld.Dom.MARGIN_LOW_MV (fun k => s.ofUlin k (leNat [x, y])) →
      Goes (.voutMarginLow (some [x, y])) s (r.pmField Fld.Dom.MARGIN_LOW_MV fun k => r.ofUlin k (leNat [x, y]))) ∧
    (∀ (x y : Byte) n, lin11Slew (leNat [x, y]) = some n → s.pmFieldOk Fld.Dom.SLEW (fun _ => n) →
      Goes (.voutTransitionRate (some [x, y])) s (r.pmField Fld.Dom.SLEW fun _ => n)) ∧
    (∀ c bs, c ∉ pmCommands → Goes (.pmbusUnsupportedCommand c (some bs)) s ((s.i2cStart.drive []).pmRefuse 7 true)) ∧
    (∀ c, c ∉ pmCommands → Goes (.pmbusUnsupportedCommand c none) s ((s.i2cStart.drive []).pmRefuse 7 false)) ∧
    (∀ c w, c ∈ pmCommands → Goes (.pmbusUnsupportedCommand c w) s s)

/-! ## Packets, sessions and privilege -/

/-- O29. R109, R110, R113, R339: a reply from another node, and the timers of packets that were passed on and of segments; a
command frame for another node goes on and does no more; one for this node is put together with the others of its packet,
whose last hands the packet over; one with a bad CRC loses the packet.
The model's choice: log entry 4 (the time that an expiry moves the timebase to).
Its own choices and readings of the rules: log entries 47, 48, 49, 50. -/
def Obligations.PacketEventsRun : Prop :=
  ∀ s : State,
    (∀ n bs, Goes (.remoteReply n bs) s (s.remoteReply n bs).packetEnd) ∧
    (s.hif.fwds = [] → Goes .forwardTimeout s s) ∧
    (∀ f rest, s.hif.fwds = f :: rest → f.o.fanned = false → f.o.noReply = false →
      Goes .forwardTimeout s (((s.advanceTo (f.since + ms 250)).onHif fun h => { h with fwds := rest }).answer f.o f.op
        st.timeout []).packetEnd) ∧
    (∀ f rest, s.hif.fwds = f :: rest → f.o.fanned = false → f.o.noReply →
      Goes .forwardTimeout s ((((s.advanceTo (f.since + ms 250)).onHif fun h => { h with fwds := rest }).farAccepted f).noReply
        f.o).packetEnd) ∧
    (∀ f rest, s.hif.fwds = f :: rest → f.o.fanned →
      let r := (s.advanceTo (f.since + ms 250)).onHif fun h => { h with fwds := rest }
      Goes .forwardTimeout s (r.collected { f with
        left := [], entries := f.entries ++ (f.left.filter (r.addressed f)).map fun a => (a, st.timeout) }).packetEnd) ∧
    (∀ g, s.hif.segI2c = some g → Goes (.segmentHoldExpiry .i2c) s
      ((s.advanceTo (g.since + sec 1)).onHif fun h => { h with segI2c := none })) ∧
    (∀ g, s.hif.segSpi = some g → Goes (.segmentHoldExpiry .spi) s
      ((s.advanceTo (g.since + sec 1)).onHif fun h => { h with segSpi := none })) ∧
    (∀ g rest, s.hif.segLink = g :: rest → Goes (.segmentHoldExpiry .link) s
      ((s.advanceTo (g.2.since + sec 1)).onHif fun h => { h with segLink := rest })) ∧
    (s.hif.segI2c = none → Goes (.segmentHoldExpiry .i2c) s s) ∧
    (s.hif.segSpi = none → Goes (.segmentHoldExpiry .spi) s s) ∧
    (s.hif.segLink = [] → Goes (.segmentHoldExpiry .link) s s) ∧
    (∀ (p : Fin 3) f b, s.flag Fld.Link.LINK_EN → (s.linkPort p.val).used → frameBody sofCommand (10 + u f 5 1) f = some b →
      u b 0 1 < 0xF0 → u b 0 1 ≠ s.nodeAddr → Goes (.commandFrame p f) s (s.sendOn (fun q _ => q ≠ p.val) f)) ∧
    (∀ (p : Fin 3) f, s.flag Fld.Link.LINK_EN → (s.linkPort p.val).used → frameBody sofCommand (10 + u f 5 1) f = none →
      Goes (.commandFrame p f) s (s.onLink fun l => { l with asm := l.asm.filter fun a => a.src ≠ u f 2 1 })) ∧
    (∀ (p : Fin 3) f b, s.flag Fld.Link.LINK_EN → (s.linkPort p.val).used → frameBody sofCommand (10 + u f 5 1) f = some b →
      u b 0 1 = s.nodeAddr →
      let r := assemble s.link.asm (u b 1 1) (u b 2 1) (u b 3 1) (b.drop 5)
      let t := s.onLink fun l => { l with asm := r.1 }
      (r.2 = none → Goes (.commandFrame p f) s t) ∧
      (∀ bs, r.2 = some bs → (packetOf bs).flags.testBit 0 → Goes (.commandFrame p f) s (t.remoteReply (u b 1 1) bs).packetEnd) ∧
      (∀ bs, r.2 = some bs → (packetOf bs).flags.testBit 0 = false →
        Goes (.commandFrame p f) s (t.linkPacket (u b 1 1) (u b 2 1) bs).packetEnd)) ∧
    (∀ (p : Fin 3) f, (s.flag Fld.Link.LINK_EN = false ∨ (s.linkPort p.val).used = false) → Goes (.commandFrame p f) s s)

/-- O30. R119, R120: a session's privilege: a challenge gives a nonce of the session's own, unless the lockout stands or the level
asked for is none that a response grants; a good response grants, a bad one is counted and refused, and either way the nonce is
used up; a session of another kind, and other parameters, get BAD_PARAM; PRIV_DROP and 15 minutes without a command that needs Install return to Operate.
The model's choice: log entry 3 (an event out of place changes nothing); log entry 4 (the time that an expiry moves the timebase to).
Its own choices and readings of the rules: log entries 11, 44, 45, 46. -/
def Obligations.SessionsRun : Prop :=
  (∀ (s : State) (o : Origin) (p : List Byte), ownEntry o = false →
    (s.admits o 0x0210 0 → Goes (.privChallenge o p) s (s.answer o 0x0210 st.badParam [])) ∧
    (s.admits o 0x0211 0 → Goes (.privResponse o p) s (s.answer o 0x0211 st.badParam [])) ∧
    (s.admits o 0x0212 0 → Goes (.privDrop o p) s (s.answer o 0x0212 st.badParam []))) ∧
  ∀ (s : State) (o : Origin) (p : List Byte), ownEntry o →
    (s.admits o 0x0210 0 → s.hif.lockout = none → p.length ≠ 1 →
      Goes (.privChallenge o p) s (s.answer o 0x0210 st.badParam [])) ∧
    (s.admits o 0x0211 0 → p.length ≠ 32 → Goes (.privResponse o p) s (s.answer o 0x0211 st.badParam [])) ∧
    (s.admits o 0x0212 0 → p ≠ [] → Goes (.privDrop o p) s (s.answer o 0x0212 st.badParam [])) ∧
    (s.admits o 0x0210 0 → s.hif.lockout = none → p.length = 1 → u p 0 1 = 2 →
      Replies (.privChallenge o p) s ((s.onHif (Hif.setNonce o.itf (some (s.newNonce, s.now)))).drew) o 0x0210 st.ok s.newNonce) ∧
    (s.admits o 0x0210 0 → (s.hif.lockout.isSome ∨ (p.length = 1 ∧ u p 0 1 ≠ 2)) →
      Goes (.privChallenge o p) s (s.answer o 0x0210 st.notPermitted [])) ∧
    (s.admits o 0x0211 0 → p.length = 32 → s.privOk o.itf p →
      Replies (.privResponse o p) s ((s.onHif (Hif.setNonce o.itf none)).privGrant o.itf) o 0x0211 st.ok []) ∧
    (s.admits o 0x0211 0 → p.length = 32 → s.privOk o.itf p = false →
      ∃ r, Goes (.privResponse o p) s (r.answer o 0x0211 st.notPermitted []) ∧
        r = (s.onHif (Hif.setNonce o.itf none)).privFail) ∧
    (s.admits o 0x0212 0 → p = [] →
      Replies (.privDrop o p) s (s.onHif (Hif.setSession o.itf Session.reset)) o 0x0212 st.ok []) ∧
    (∀ t, s.hif.lockout = some t → Goes .privLockoutEnd s ((s.advanceTo (t + sec 60)).onHif fun h => { h with lockout := none })) ∧
    (s.hif.lockout = none → Goes .privLockoutEnd s s) ∧
    (∀ itf, Fires (.privSessionTimeout itf) s (2 ≤ (s.hif.session itf).level)
      ((s.advanceTo ((s.hif.session itf).tInstall + sec 900)).onHif (Hif.setSession itf Session.reset)))

/-- O31. R102, R121: NODE_GROUPS sets the groups of the node, of which there are fifteen; HIF_CONFIG's options take effect once
its reply has been delivered.
Its own choice or reading of the rules: log entry 32. -/
def Obligations.HostOptionsRun : Prop :=
  ∀ (s : State) (o : Origin) (p : List Byte),
    Obeys (.nodeGroups o p) s o 0x0105 1 (param (p.length = 2 ∧ u p 0 2 < 2 ^ 15))
      (fun s => (.done st.ok [], s.onSys fun y => { y with groups := u p 0 2 })) ∧
    (s.admits o 0x0105 1 → p.length = 2 → u p 0 2 < 2 ^ 15 →
      Replies (.nodeGroups o p) s ((s.accepted o 1).onSys fun y => { y with groups := u p 0 2 }) o 0x0105 st.ok []) ∧
    (s.admits o 0x0201 1 → p.length = 4 → u p 0 1 ≤ 1 → u p 1 1 < 8 → 0x08 ≤ u p 2 1 → u p 2 1 ≤ 0x77 →
      u p 2 1 ≠ 0x40 + s.sys.addr → u p 2 1 ≠ 0x48 + s.sys.addr → u p 3 1 = 0 →
      Goes (.hifConfig o p) s ((((s.accepted o 1).onHif fun h =>
        { h with optNext := some ({ pec := u p 0 1 = 1, options := u p 1 1, hnAddr := u p 2 1 }, o.itf) }).finish o 0x0201
          st.ok []).hifServe)) ∧
    (s.admits o 0x0201 1 → (p.length ≠ 4 ∨ 1 < u p 0 1 ∨ 8 ≤ u p 1 1 ∨ u p 2 1 < 0x08 ∨ 0x77 < u p 2 1 ∨
      u p 2 1 = 0x40 + s.sys.addr ∨ u p 2 1 = 0x48 + s.sys.addr ∨ u p 3 1 ≠ 0) → Goes (.hifConfig o p) s (s.answer o 0x0201 st.badParam []).hifServe)

/-! ## The easel and the palette -/

/-- O32. R105, R111, R112, R123, R124, R126, R127: the easel's commands on a block that has one, for every selection: a write takes each
of its values by its class on the selected channels (those of a block-wide record once), is refused with STATE where a value of
class S meets a running channel, and with BAD_PARAM where its form or a value is out of bounds; a commit is armed on the
channels that run and answers at once where none waits, and waits where one does; a discard takes back what is staged; a read
gives the easel's bytes or the live ones; on a block without an easel there is no such opcode.
Its own choices and readings of the rules: log entries 70, 71, 72, 75. -/
def Obligations.EaselCommandsRun : Prop :=
  ∀ (s : State) (o : Origin) (p : List Byte) (blk : Nat),
    (blk ∉ easelBlocks →
      (s.admits o (256 * blk + 0xE0) 0 → Goes (.easelWrite o blk p) s (s.answer o (256 * blk + 0xE0) st.badOpcode [])) ∧
      (s.admits o (256 * blk + 0xE1) 0 → Goes (.easelCommit o blk p) s (s.answer o (256 * blk + 0xE1) st.badOpcode [])) ∧
      (s.admits o (256 * blk + 0xE2) 0 → Goes (.easelDiscard o blk p) s (s.answer o (256 * blk + 0xE2) st.badOpcode [])) ∧
      (s.admits o (256 * blk + 0xE3) 0 → Goes (.easelRead o blk p) s (s.answer o (256 * blk + 0xE3) st.badOpcode []))) ∧
    (blk ∈ easelBlocks →
      (∀ r vs sel, writeForm blk p = some (r, vs) → s.writeParam blk p → s.sel blk (u p 0 2) = some sel →
        let op := 256 * blk + 0xE0
        let vals := vs.filter fun x => x.1.cls ≠ .ro
        let priv := writePriv blk p
        let a := s.accepted o priv
        s.admits o op priv →
          (recWide r → a.easelRefuse r 0 vals = false →
            Replies (.easelWrite o blk p) s ((a.easelApply r 0 vals).bumpGen blk) o op st.ok []) ∧
          (recWide r → a.easelRefuse r 0 vals → Goes (.easelWrite o blk p) s (s.answer o op st.state [])) ∧
          (∀ k < 32, recWide r = false → sel = ⟨0, 2 ^ k⟩ → a.easelRefuse r k vals = false →
            Replies (.easelWrite o blk p) s ((a.easelApply r k vals).bumpGen blk) o op st.ok []) ∧
          (∀ k < 32, recWide r = false → sel = ⟨0, 2 ^ k⟩ → a.easelRefuse r k vals →
            Goes (.easelWrite o blk p) s (s.answer o op st.state [])) ∧
          (recWide r = false → sel.mode ≠ 0 →
            let x := a.perChannel sel fun k s => if s.easelRefuse r k vals then (st.state, s) else (st.ok, s.easelApply r k vals)
            Replies (.easelWrite o blk p) s (x.1.bumpGen blk) o op (if x.2.1 = 0 then st.ok else st.partly)
              (if x.2.1 = 0 then [] else toLE 4 x.2.1 ++ [byte x.2.2]))) ∧
      (s.writeParam blk p = false → s.admits o (256 * blk + 0xE0) (writePriv blk p) →
        Goes (.easelWrite o blk p) s (s.answer o (256 * blk + 0xE0) st.badParam [])) ∧
      (let sel := s.sel blk (u p 0 2)
       let op := 256 * blk + 0xE1
       s.admits o op (s.commitPriv blk sel) →
        let a := s.accepted o (s.commitPriv blk sel)
        let id := a.commitId
        let r := (a.onCfg fun c => { c with commits := c.commits + 1 }).commitSel blk (sel.getD ⟨0, 0⟩) id
        let left := maskOf (r.armedOn blk id)
        (p.length = 4 → sel.isSome → s.genOk blk (u p 2 2) → left = 0 → Replies (.easelCommit o blk p) s r o op st.ok []) ∧
        (p.length = 4 → sel.isSome → s.genOk blk (u p 2 2) → left ≠ 0 →
          Goes (.easelCommit o blk p) s (r.awaitSel o op (sel.getD ⟨0, 0⟩) left 0 0 (toLE 4 id ++ toLE 4 left ++
            [byte (b2n ((a.toCommit blk (sel.getD ⟨0, 0⟩)).any fun x => !left.testBit x.2.2.1))]))) ∧
        (p.length = 4 → sel.isSome → s.genOk blk (u p 2 2) = false →
          Goes (.easelCommit o blk p) s (s.answer o op st.state [])) ∧
        ((p.length ≠ 4 ∨ sel = none) → Goes (.easelCommit o blk p) s (s.answer o op st.badParam []))) ∧
      (let sel := s.sel blk (u p 0 2)
       s.admits o (256 * blk + 0xE2) (s.discardPriv blk sel) →
        let a := s.accepted o (s.discardPriv blk sel)
        (p.length = 2 → sel.isSome →
          Replies (.easelDiscard o blk p) s ((a.discardCopies blk (sel.getD ⟨0, 0⟩)).withdraw blk a) o (256 * blk + 0xE2)
            st.ok []) ∧
        ((p.length ≠ 2 ∨ sel = none) → Goes (.easelDiscard o blk p) s (s.answer o (256 * blk + 0xE2) st.badParam []))) ∧
      (∀ r k, s.admits o (256 * blk + 0xE3) 0 → recOf blk (u p 2 1) = some r → s.readSel blk r (u p 0 2) = some k →
        p.length = 8 → u p 3 1 ≤ 1 → 1 ≤ u p 6 2 → u p 6 2 ≤ 4085 → u p 4 2 + u p 6 2 ≤ recLen r →
        Replies (.easelRead o blk p) s s o (256 * blk + 0xE3) st.ok
          (sliceBytes (if u p 3 1 = 1 then (s.copy r k).live else (s.copy r k).easel) (u p 4 2) (u p 6 2))) ∧
      (s.admits o (256 * blk + 0xE3) 0 →
        (p.length ≠ 8 ∨ 1 < u p 3 1 ∨ u p 6 2 = 0 ∨ 4085 < u p 6 2 ∨ recOf blk (u p 2 1) = none ∨
          ∃ r, recOf blk (u p 2 1) = some r ∧ (recLen r < u p 4 2 + u p 6 2 ∨ s.readSel blk r (u p 0 2) = none)) →
        Goes (.easelRead o blk p) s (s.answer o (256 * blk + 0xE3) st.badParam [])))

/-- O33. R123, R125–R128, R296, R457: values of class B are staged in the easel and leave the live copy alone; a boundary lands what
waits for it and changes nothing where nothing waits: it makes the values of the oldest armed commit live where it is due and
leaves the later ones armed (a domain's record and its entries of the phase table together); a channel that stops takes all of it, and a discard withdraws it; a commit that has waited for 1 s is answered and stays armed; MULTI_COMMIT checks every entry before it arms any; EASEL_SAVE stores the
records in the copy that is not the newer.
The model's choice: log entry 3 (an event out of place changes nothing); log entry 4 (the time that an expiry moves the timebase to).
Its own choices and readings of the rules: log entries 67, 74. -/
def Obligations.EaselLandsRun : Prop :=
  ∀ (s : State) (o : Origin) (p : List Byte) (r : RecId) (ch : Nat) (b : Bnd),
    (∀ (c : RecCopy) (x : Batch) (rest : List Batch),
      (∀ vals : List (Field × Nat × Nat), (∀ v ∈ vals, v.1.cls = .B) →
        s.easelApply r ch vals = s.onCopy r ch fun _ =>
          let c := s.copy r ch
          let idx := vals.map fun v => v.2.1
          { c with
            easel := applyVals r (vals.map fun v => v.2) c.easel, stagedB := c.stagedB ++ idx.filter fun i => i ∉ c.stagedB
            pendL := (c.pendL.map (Batch.drop idx)).filter fun y => !y.vals.isEmpty, armed := c.armed.map (Batch.drop idx) }) ∧
      (c.pendL = [] → c.armed = x :: rest → x.due r b →
        c.land r b = { c with live := applyVals r x.vals c.live, easel := applyVals r x.vals c.easel, armed := rest }) ∧
      (c.pendL = [] → c.armed = [] → c.land r b = c) ∧
      (c.pendL = [x] → c.armed = [] → x.due r b →
        c.land r b = { c with live := applyVals r x.vals c.live, easel := applyVals r x.vals c.easel, pendL := [] }) ∧
      (c.pendL = [x] → c.armed = [] → x.due r b = false → (c.land r b).live = c.live ∧ (c.land r b).pendL = [x.pass r b]) ∧
      (c.landAll r).pendL = [] ∧ (c.landAll r).armed = [] ∧ (c.landAll r).stagedB = c.stagedB ∧
      (let d := c.discard r (fun _ => true) fun _ => true
       d.live = c.live ∧ d.pendL = c.pendL ∧ d.stagedB = [] ∧ d.armed = [])) ∧
    (r ≠ .dom0 → r ≠ .dom1 →
      (let c := s.copy r ch
       let t := ((s.setCopy r ch (c.land r b)).landStopped r ch).wakeCommits
       Fires (.commitLand r ch b) s (c.armed ≠ []) t ∧ Fires (.lValueLand r ch b) s (c.pendL ≠ []) t)) ∧
    (let c := s.copy .dom0 ch
     let d := s.copy .dom1 0
     let go (x : Batch) : Bool := x.id = 0 || (s.domOldest ch).map (·.id) = some x.id
     Fires (.commitLand .dom0 ch b) s (c.armed ≠ []) (s.domLand ch) ∧
     Fires (.lValueLand .dom0 ch b) s (c.pendL ≠ []) (s.domLand ch) ∧
     Fires (.commitLand .dom1 ch b) s (d.armed ≠ []) (s.domLand ch) ∧
     Fires (.lValueLand .dom1 ch b) s (d.pendL ≠ []) (s.domLand ch) ∧
     (c.pendL ++ c.armed ≠ [] → d.pendL ++ d.armed ≠ [] →
       let t := (s.setCopy .dom0 ch (c.landIf go .dom0 .main)).setCopy .dom1 0 (d.landPhases fun x => x.own = ch && go x)
       s.domLand ch = ((t.landStopped .dom0 ch).calLand (t.elemDom ch)).wakeCommits) ∧
     (let cs := c.armed ++ d.armed.filter fun x => x.own = ch
      (cs = [] → s.domOldest ch = none) ∧
      ∀ x ∈ cs, ∃ y ∈ cs, s.domOldest ch = some y ∧ y.older x)) ∧
    (s.hif.waits.find? Wait.isCommit = none → Goes .commitTimeout s s) ∧
    (∀ w, s.hif.waits.find? Wait.isCommit = some w →
      let t := (s.advanceTo (w.since + sec 1)).onHif fun h => { h with waits := h.waits.erase w }
      (w.op ≠ 0x0301 → Goes .commitTimeout s ((t.finish w.o w.op st.timeout []).raise 0x0302)) ∧
      (w.op = 0x0301 → Goes .commitTimeout s ((t.finish w.o w.op st.partly
        ((multiStatuses w.data).map fun b => if b = 0xFF then byte st.timeout else b)).raise 0x0302))) ∧
    (s.admits o 0x0301 1 → (p.length ≠ 2 + 6 * u p 0 1 ∨ u p 0 1 = 0 ∨ 16 < u p 0 1 ∨ u p 1 1 ≠ 0) →
      Goes (.multiCommit o p) s (s.answer o 0x0301 st.badParam [])) ∧
    (let n := u p 0 1
     let es := List.range n
     let blk (e : Nat) : Nat := u (multiEntry p e) 0 1
     let sel (e : Nat) : Sel := (s.sel (blk e) (u (multiEntry p e) 2 2)).getD ⟨0, 0⟩
     let priv := es.foldl (fun m e => max m (s.commitPriv (blk e) (s.sel (blk e) (u (multiEntry p e) 2 2)))) 1
     s.admits o 0x0301 1 → p.length = 2 + 6 * n → 1 ≤ n → n ≤ 16 → u p 1 1 = 0 →
      (∀ c, (es.map (s.multiCheck o p)).find? (fun c => c ≠ st.ok) = some c →
        Goes (.multiCommit o p) s (s.answer o 0x0301 c [])) ∧
      ((∀ e ∈ es, s.multiCheck o p e = st.ok) →
        let a := (s.accepted o 1).accepted o priv
        let c := (a.onCfg fun c => { c with commits := c.commits + n }).each es fun e s =>
          s.commitSel (blk e) (sel e) (a.commitId + e)
        Goes (.multiCommit o p) s
          ((c.await o 0x0301 0 0 (toLE 4 a.commitId ++ es.flatMap fun e => [byte (blk e), 0xFF])).wakeCommits))) ∧
    (s.admits o 0x0302 2 →
      (p ≠ [] → Goes (.easelSave o p) s (s.answer o 0x0302 st.badParam [])) ∧
      (p = [] → (s.sys.nandBar ∨ s.anyArmed) → Goes (.easelSave o p) s (s.answer o 0x0302 st.state [])) ∧
      (p = [] → s.sys.nandBar = false → s.anyArmed = false → s.skb.failed →
        Replies (.easelSave o p) s (s.accepted o 2) o 0x0302 st.timeout []) ∧
      (p = [] → s.sys.nandBar = false → s.anyArmed = false → s.skb.failed = false →
        let a := s.accepted o 2
        let k := a.cfg.saveTarget
        let n := 1 + (a.cfg.save.toList.filterMap fun x => x.map (·.1)).foldl max 0
        Goes (.easelSave o p) s (((a.onCfg fun c => { c with save := upd c.save k fun _ => some (n, a.saveImage) }).enqueue
          (.store (4 + k.val) []) (some ⟨o, 0x0302, []⟩)).pump)))

/-- O34. R144–R148: the palette's commands: PAL_BEGIN opens the staged bank, PAL_DATA adds what comes in order, PAL_END checks the
image and keeps it, PAL_SWITCH changes the banks and waits until each consumer has adopted; a consumer adopts at its boundary
where its adoption is pending, and the switch ends with the last.
The model's choice: log entry 4 (the time that an expiry moves the timebase to).
Its own choices and readings of the rules: log entries 66, 67, 68, 77, 82. -/
def Obligations.PaletteRuns : Prop :=
  ∀ (s : State) (o : Origin) (p : List Byte),
    (s.admits o 0x0601 2 →
      (p.length = 4 → 24 ≤ u p 0 4 → u p 0 4 ≤ 32768 → s.pal.pending = 0 → s.pal.switching = false →
        Replies (.palBegin o p) s ((s.accepted o 2).onPal fun q =>
          { q.setBank q.staged { st := .loading, bytes := [] } with opened := some (u p 0 4) }) o 0x0601 st.ok []) ∧
      (p.length = 4 → 24 ≤ u p 0 4 → u p 0 4 ≤ 32768 → (s.pal.pending ≠ 0 ∨ s.pal.switching) →
        Goes (.palBegin o p) s (s.answer o 0x0601 st.state [])) ∧
      ((p.length ≠ 4 ∨ u p 0 4 < 24 ∨ 32768 < u p 0 4) → Goes (.palBegin o p) s (s.answer o 0x0601 st.badParam []))) ∧
    (∀ total, s.admits o 0x0602 2 → p.length = 6 + u p 4 2 → 1 ≤ u p 4 2 → u p 4 2 ≤ 4080 → s.pal.opened = some total →
      u p 0 4 = s.pal.stagedBank.bytes.length → s.pal.stagedBank.bytes.length + u p 4 2 ≤ total →
      Replies (.palData o p) s ((s.accepted o 2).onPal fun q =>
        q.setBank q.staged { q.stagedBank with bytes := q.stagedBank.bytes ++ p.drop 6 }) o 0x0602 st.ok []) ∧
    (∀ total, s.admits o 0x0602 2 → p.length = 6 + u p 4 2 → 1 ≤ u p 4 2 → u p 4 2 ≤ 4080 → s.pal.opened = some total →
      (u p 0 4 ≠ s.pal.stagedBank.bytes.length ∨ total < s.pal.stagedBank.bytes.length + u p 4 2) →
      Goes (.palData o p) s (s.answer o 0x0602 st.badParam [])) ∧
    (s.admits o 0x0602 2 → p.length = 6 + u p 4 2 → 1 ≤ u p 4 2 → u p 4 2 ≤ 4080 → s.pal.opened = none →
      Goes (.palData o p) s (s.answer o 0x0602 st.state [])) ∧
    (s.admits o 0x0603 2 → p = [] → s.pal.opened.isSome → s.sys.nandBar = false →
      let a := s.accepted o 2
      let put (b : BankState) (e : PErr) : State :=
        a.onPal fun q =>
          { q.setBank q.staged { q.stagedBank with st := b } with
            opened := none, error := e.1, errTable := e.2.1, errOffset := e.2.2 }
      (∀ e, a.palCheck a.pal.stagedBank.bytes (a.pal.opened.getD 0) = some e →
        Goes (.palEnd o p) s ((put .invalid e).finish o 0x0603 st.badParam [])) ∧
      (a.palCheck a.pal.stagedBank.bytes (a.pal.opened.getD 0) = none → s.skb.failed →
        Goes (.palEnd o p) s ((put .valid (0, 0xFF, 0)).finish o 0x0603 st.timeout [])) ∧
      (a.palCheck a.pal.stagedBank.bytes (a.pal.opened.getD 0) = none → s.skb.failed = false →
        Goes (.palEnd o p) s (((put .valid (0, 0xFF, 0)).enqueue (.store (2 + s.pal.staged.val) s.pal.stagedBank.bytes)
          (some ⟨o, 0x0603, []⟩)).pump))) ∧
    (s.admits o 0x0604 2 → p.length = 1 → u p 0 1 ≤ 1 → s.pal.stagedBank.st = .valid → s.pal.pending = 0 →
      s.pal.switching = false → s.namedErr s.pal.stagedBank.bytes = none → s.sys.mode = .running →
      let a := s.accepted o 2
      let t := a.onPal fun q => a.palPend
        { q with
          previous := q.active, active := selOf q.staged, mark := q.staged, staged := otherArea q.staged, switching := true,
          plant := if u p 0 1 = 1 then some 0 else none }
      Waits (.palSwitch o p) s (if u p 0 1 = 1 then t.onLink fun l => { l with plantAt := some s.now } else t)
        o 0x0604 0 0 []) ∧
    (s.admits o 0x0604 2 → p.length = 1 → u p 0 1 ≤ 1 → (s.pal.stagedBank.st ≠ .valid ∨ s.pal.pending ≠ 0 ∨ s.pal.switching ∨
      s.namedErr s.pal.stagedBank.bytes ≠ none ∨ s.sys.mode ≠ .running) → Goes (.palSwitch o p) s (s.answer o 0x0604 st.state [])) ∧
    (s.admits o 0x0604 2 → (p.length ≠ 1 ∨ 1 < u p 0 1) → Goes (.palSwitch o p) s (s.answer o 0x0604 st.badParam [])) ∧
    (s.admits o 0x0602 2 → (p.length ≠ 6 + u p 4 2 ∨ u p 4 2 = 0 ∨ 4080 < u p 4 2) →
      Goes (.palData o p) s (s.answer o 0x0602 st.badParam [])) ∧
    (s.admits o 0x0603 2 → p ≠ [] → Goes (.palEnd o p) s (s.answer o 0x0603 st.badParam [])) ∧
    (s.admits o 0x0603 2 → p = [] → (s.pal.opened = none ∨ s.sys.nandBar) →
      Goes (.palEnd o p) s (s.answer o 0x0603 st.state [])) ∧
    (let bs := if u p 0 1 = 0 then s.bankBytes s.pal.active else s.pal.stagedBank.bytes
     s.admits o 0x0606 0 → p.length = 7 → u p 0 1 ≤ 1 → 1 ≤ u p 5 2 → u p 5 2 ≤ 4085 → u p 1 4 + u p 5 2 ≤ bs.length →
      Replies (.palRead o p) s s o 0x0606 st.ok (sliceBytes bs (u p 1 4) (u p 5 2))) ∧
    (let bs := if u p 0 1 = 0 then s.bankBytes s.pal.active else s.pal.stagedBank.bytes
     s.admits o 0x0606 0 → (p.length ≠ 7 ∨ 1 < u p 0 1 ∨ u p 5 2 = 0 ∨ 4085 < u p 5 2 ∨ bs.length < u p 1 4 + u p 5 2) →
      Goes (.palRead o p) s (s.answer o 0x0606 st.badParam [])) ∧
    (∀ (c : Fin 12) ch, s.pal.pending.testBit c = false → Goes (.paletteAdopt c ch) s s) ∧
    (∀ (c : Fin 12) ch, s.pal.pending.testBit c → (c = 2 ∨ c = 7 ∨ c = 11) →
      Goes (.paletteAdopt c ch) s (s.adopt c ch).palDone) ∧
    (∀ ch, s.pal.pending.testBit 9 → Goes (.paletteAdopt 9 ch) s ((s.adopt 9 ch).secBand ch).palDone) ∧
    (∀ ch : Nat, 2 ≤ ch → (s.pal.pending.testBit 0 → Goes (.paletteAdopt 0 ch) s s.palDone) ∧
      (s.pal.pending.testBit 1 → Goes (.paletteAdopt 1 ch) s s.palDone)) ∧
    (∀ ch : Nat, ch < 2 → s.pal.pending.testBit 0 → Goes (.paletteAdopt 0 ch) s (s.palCharger ch).palDone) ∧
    (∀ ch : Nat, ch < 2 → s.pal.pending.testBit 1 → Goes (.paletteAdopt 1 ch) s ((s.adopt 1 ch).bandStep ch).palDone) ∧
    (∀ ch, s.pal.pending.testBit 3 → Goes (.paletteAdopt 3 ch) s (s.domAdopt ch).palDone) ∧
    (∀ ch, s.pal.pending.testBit 4 → Goes (.paletteAdopt 4 ch) s
      (if s.seq.st = QState.idle then s.adopt 4 0 else s).palDone) ∧
    (∀ ch, s.pal.pending.testBit 5 → Goes (.paletteAdopt 5 ch) s (if s.plantReady then s.capTick else s).palDone) ∧
    (∀ ch, s.pal.pending.testBit 6 → Goes (.paletteAdopt 6 ch) s s.throttleTick.palDone) ∧
    (∀ ch, s.pal.pending.testBit 8 → Goes (.paletteAdopt 8 ch) s s.adoptSources.palDone) ∧
    (∀ ch, s.pal.pending.testBit 10 → Goes (.paletteAdopt 10 ch) s s.scrubAdopt.palDone) ∧
    (∀ w, s.hif.waits.find? (fun w => w.op = 0x0604) = some w → Goes .palSwitchTimeout s
      ((s.advanceTo (w.since + sec 1)).wake (fun w => w.op = 0x0604) fun _ => (st.timeout, []))) ∧
    (s.hif.waits.find? (fun w => w.op = 0x0604) = none → Goes .palSwitchTimeout s s)

/-! ## The rectifier sections, the barrier and the bus -/

/-- O35. R57, R58, R66, R151, R153, R155, R162, R164, R174, R199: a section's power and the state machine of its channel: each event
moves a channel that is in its state, with the measured values that the rule asks for, at the time the rule gives where the event
ends a time, and changes nothing out of place; what a channel does to its gates and relay as it enters a state.
The model's choice: log entry 3 (an event out of place changes nothing); log entry 4 (the time that an expiry moves the timebase to).
Its own choices and readings of the rules: log entries 80, 81, 82, 85. -/
def Obligations.RectStatesRun : Prop :=
  ∀ (s : State) (k : Fin 2),
    (let c := s.rectCh k
     ∀ now, (c.enter now .autonomous).relay ∧ (c.enter now .autonomous).llc ∧ (c.enter now .autonomous).burst ∧
       (c.enter now .autonomous).primPct = 25 ∧ (c.enter now .autonomous).bar.period = 1111 ∧
       (c.enter now .pfcRamp).pfc ∧ (c.enter now .pfcRamp).relay ∧ (c.enter now .pfcRamp).llc = false ∧
       (c.enter now .qualify).qualFrom = some now ∧ (c.enter now .qualify).relay = false ∧ (c.enter now .walkIn).walk = 0 ∧
       ∀ st ∈ [RState.off, .listen, .disabled, .latched], (c.enter now st).relay = false ∧ (c.enter now st).pfc = false ∧
         (c.enter now st).llc = false ∧ (c.enter now st).sr = false ∧ (c.enter now st).st = st) ∧
    Fires (.sectionPowerUp k) s ((s.rectCh k).powered = false) (s.sectionUp k) ∧
    (let u := s.sectionUp k
     u = { s with rect := u.rect, therm := u.therm } ∧ (u.rectCh k).powered ∧ (u.rectCh k).bar.link = .down ∧
       (u.rectCh k).bar.secRec = recDefaults .rect0 ∧ (u.rectCh k).st = (s.rectCh k).st) ∧
    Fires (.sectionPowerLoss k) s (s.rectCh k).powered (s.sectionDown k) ∧
    (∀ t, (s.rectCh k).qualFrom = some t → (s.rectCh k).autoAt = none → s.mayAuto k →
      let r := s.till (t + (ms (s.rectCh k).qualMs - (s.rectCh k).qualRan))
      Goes (.autonomousStart k) s ((if s.sys.por then
        r.onRectCh k fun c => { c with qualRan := max c.qualRan (ms (s.rectCh k).qualMs) } else r).autoStart k)) ∧
    (((s.rectCh k).qualFrom = none ∨ (s.rectCh k).autoAt ≠ none ∨ s.mayAuto k = false) → Goes (.autonomousStart k) s s) ∧
    (s.mayAuto k = ((s.rectCh k).st = .off ∧ (s.rectCh k).powered ∧ (s.rectCh k).bar.link ≠ .up ∧ s.flag Fld.Rect.PRESENT k : Bool)) ∧
    (s.autoStart k = if ((s.rectTo k .autonomous).rectCh k).bar.stopped then
      (s.rectTo k .autonomous).onRectCh k fun c =>
        { c with pfc := false, llc := false, runOn := false, stopDue := false, sr := false, burst := false }
      else s.rectTo k .autonomous) ∧
    Fires (.autonomousTimeout k) s ((s.rectCh k).st = .autonomous ∧ (s.rectCh k).bar.link ≠ .up)
      (let c := s.rectCh k
       let s := (s.till (c.tState + (sec 1 - c.stRan))).rectTo k .off
       (s.onRectCh k fun d =>
         { d with
           autoTimeouts := satAdd 255 d.autoTimeouts 1, autoAt := some (s.now + sec 10), qualFrom := c.qualFrom
           qualRan := c.qualRan }).rectNote k) ∧
    (∀ t, (s.rectCh k).autoAt = some t → s.mayAuto k →
      ((s.till t).qualMet k → Goes (.autonomousRetry k) s ((s.till t).autoStart k)) ∧
      ((s.till t).qualMet k = false →
        Goes (.autonomousRetry k) s ((s.till t).onRectCh k fun c => { c with autoAt := none }))) ∧
    (((s.rectCh k).autoAt = none ∨ s.mayAuto k = false) → Goes (.autonomousRetry k) s s) ∧
    (∀ rms peak half, Fires (.halfCycleEnd k rms peak half) s (s.rectCh k).powered (s.halfCycle k rms peak half)) ∧
    (∀ t, (s.rectCh k).st = .qualify → (s.rectCh k).qualFrom = some t → (s.rectCh k).qualDone = none →
      Goes (.qualTimerExpiry k) s
        (let s := s.advanceTo (t + ms (s.rectCh k).qualMs)
         (s.onRectCh k fun c => { c with qualDone := some s.now }).qualTry k)) ∧
    (∀ t, (s.rectCh k).st = .qualify → (s.rectCh k).qualDone = some t → (s.rectCh k).precharged = false →
      Goes (.prechargeTimeout k) s (((s.advanceTo (t + ms 500)).rectTo k .listen).raise 0x0704 k)) ∧
    ((s.rectCh k).st ≠ .qualify → Goes (.qualTimerExpiry k) s s ∧ Goes (.prechargeTimeout k) s s) ∧
    Fires (.relaySettled k) s ((s.rectCh k).st = .relay)
      ((s.advanceTo ((s.rectCh k).tState + ms (s.secF Fld.Rect.RELAY_MS k))).rectTo k .pfcRamp) ∧
    (∀ bulk, Fires (.pfcRampDone k bulk) s
      ((s.rectCh k).st = .pfcRamp ∧ 98 * s.secF Fld.Rect.BULK_MV k ≤ 100 * bulk ∧ 100 * bulk ≤ 102 * s.secF Fld.Rect.BULK_MV k)
      (if s.llcBarred then s.onRectCh k fun c => { c with llcHeld := true } else s.rectTo k .llcStart)) ∧
    (∀ v, Fires (.llcStartDone k v) s
      ((s.rectCh k).st = .llcStart ∧ s.vBus ≤ v ∧ (∀ j : Fin 2, (s.auxCh j).running = false)) (s.rectTo k .walkIn)) ∧
    Fires (.llcSsTimeout k) s ((s.rectCh k).st = .llcStart)
      ((s.advanceTo ((s.rectCh k).tState + ms (s.fld Fld.Rect.LLC_SS_MS k))).rectTrip k 0x0707) ∧
    Fires (.walkInDone k) s ((s.rectCh k).st = .walkIn ∧ (s.rectCh k).softOff = false)
      (let c := s.rectCh k
       let rate := max 1 (s.fld Fld.Rect.WALKIN_W_S)
       let t := s.advanceTo (c.tWalk + ((100000 * s.pMax k - c.walk) * s.walkers + rate - 1) / rate)
       let r := t.onRectCh k (t.walkStep k)
       if (r.rectCh k).st = .walkIn ∧ (r.rectCh k).softOff = false ∧ 100000 * r.pMax k ≤ (r.rectCh k).walk then
         (r.rectTo k .run).readyBack else r) ∧
    (∀ bulk, Fires (.bulkMinReached k bulk) s
      ((s.rectCh k).st = .lost ∧ (s.rectCh k).runOn ∧ bulk < s.secF Fld.Rect.BULK_MIN_MV k)
      ((s.onRectCh k fun c => c.gatesOff.endPrediction).dropCleared k (s.rectCh k).bar.drop))

/-- O36. R151, R154, R157–R159, R161, R165, R166, R171, R180, R185, R338, R441: what stops a channel or limits it: the predictions of
a dropout, the limits of the line and the bulk, the trips, and the lines of the barrier; the trips act on a channel that
switches, and the fourth in 60 s latches it.
The model's choice: log entry 3 (an event out of place changes nothing); log entry 4 (the time that an expiry moves the timebase to).
Its own choices and readings of the rules: log entries 6, 80, 149. -/
def Obligations.RectTripsRun : Prop :=
  ∀ (s : State) (k : Fin 2),
    (s.predicts k = ((s.rectCh k).armed && (s.rectCh k).delivers && (s.rectCh k).predicted.isNone)) ∧
    (let after (t : Nat) : State := (s.advanceTo t).onRectCh k fun c =>
       { c with predicted := some (max s.now t), goodSince := 0, bar := { c.bar with drop := true } }
     (∀ t, (s.rectCh k).devSince = some t → Fires (.dropoutPredicted k) s (s.predicts k) (after (t + ms 1))) ∧
     ((s.rectCh k).devSince = none → Goes (.dropoutPredicted k) s s) ∧
     Fires (.zcLateExpiry k) s (s.predicts k ∧ (s.rectCh k).half ≠ 0)
       (after ((s.rectCh k).tZc + (s.rectCh k).half + us (s.secF Fld.Rect.ZC_LATE_US k)))) ∧
    (∀ t, (s.rectCh k).predicted = some t → Goes (.predictionTimeout k) s
      (((((s.advanceTo (t + ms 100)).onRectCh k fun c =>
        { c.endPrediction with template := List.replicate 128 0, armed := false, goodHalf := 0 }).dropCleared k
          (s.rectCh k).bar.drop).raise 0x070C k).ffRelease)) ∧
    ((s.rectCh k).predicted = none → Goes (.predictionTimeout k) s s) ∧
    Fires (.dropLine k) s (s.rectCh k).delivers
      (let t := s.onRectCh k fun c => { c with bar := { c.bar with drop := true } }
       let t := t.ffStart t.dropSum
       t.flood 2 0 ((t.dropped.map fun j => t.pAvail j).sum / 1000)) ∧
    (let t := s.onRectCh k fun c => { c with bar := { c.bar with stop := true } }
     ((s.rectCh k).st = .qualify ∨ (s.rectCh k).starting → Goes (.stopLine k) s ((t.rectLost k false).rectNote k)) ∧
     ((s.rectCh k).st = .lost → Goes (.stopLine k) s (t.llcStop k)) ∧
     ((s.rectCh k).st = .autonomous → Goes (.stopLine k) s (t.onRectCh k fun c =>
       { c with
         pfc := false, llc := false, runOn := false, stopDue := false, sr := false, burst := false, ordered := false
         qualFrom := none, qualRan := 0 })) ∧
     ((s.rectCh k).st ∈ [RState.off, .listen, .disabled, .latched] → Goes (.stopLine k) s t)) ∧
    Fires (.stopRelease k) s (s.ctrlDown = false) (s.onRectCh k fun c => { c with bar := { c.bar with stop := false } }) ∧
    (((s.rectCh k).bar.flt ∨ (s.rectCh k).starting = false) →
      Goes (.fltLine k) s (s.onRectCh k fun c => { c with bar := { c.bar with flt := true } })) ∧
    (let trips := recent s.now (sec 60) (s.rectCh k).trips
     let wait (c : RectCh) : RectCh := { c with trips := trips, bar := { c.bar with flt := true, fltWait := true } }
     (s.rectCh k).bar.flt = false → (s.rectCh k).starting →
      (trips.length < 4 → Goes (.fltLine k) s ((s.rectLost k false).onRectCh k wait)) ∧
      (4 ≤ trips.length → Goes (.fltLine k) s (((s.rectLost k false .latched).onRectCh k wait).raise 0x0711 k))) ∧
    (∀ bulk, Fires (.bulkDropConfirmation k bulk) s
      ((s.rectCh k).delivers ∧ bulk < s.secF Fld.Rect.BULK_DROP_MV k)
      ((s.rectLost k true).onRectCh k fun c => { c with dropDue := true })) ∧
    (∀ v, Fires (.linePeakLimit k v) s ((s.rectCh k).pfc ∧ 450000 < v)
      (s.onRectCh k fun c => { c with peakHold := true, peakCount := c.peakCount + 1 })) ∧
    (∀ bulk, Fires (.bulkOvLimit k bulk) s ((s.rectCh k).pfc ∧ s.secF Fld.Rect.BULK_MV k + 40000 < bulk)
      (s.onRectCh k fun c => { c with bulkHold := true })) ∧
    (∀ bulk, Fires (.bulkOvRelease k bulk) s (bulk < s.secF Fld.Rect.BULK_MV k + 10000)
      (s.onRectCh k fun c => { c with bulkHold := false })) ∧
    (let trips := recent s.now (sec 60) (s.rectCh k).trips
     let trip (code : Nat) (to_ : RState) : State :=
       ((s.rectLost k false to_).onRectCh k fun c =>
         { c with trips := trips, bar := { c.bar with flt := true, fltWait := false } }).raise code k
     let after (code : Nat) : State := if trips.length < 4 then trip code .lost else (trip code .latched).raise 0x0711 k
     (∀ bulk, Fires (.bulkOvTrip k bulk) s (460000 < bulk ∧ (s.rectCh k).switching) (after 0x0705)) ∧
     Fires (.pfcOcTrip k) s (s.rectCh k).switching (after 0x0706) ∧
     Fires (.llcOcTrip k) s (s.rectCh k).switching (after 0x0707) ∧
     Fires (.capacitiveModeTrip k) s (15 ≤ (s.rectCh k).guardRun ∧ (s.rectCh k).switching) (after 0x0708)) ∧
    Fires .mainsThermalTrip s (s.zoneAt 1500 4 ∧ (s.therm.zone[4]).shut = false) s.mainsHeat ∧
    (∀ v, Fires (.busOvStop v) s (60000 < v) ((s.raise 0x070E).each [0, 1] State.stopAssert)) ∧
    Fires (.srReverseDisable k) s (s.rectCh k).delivers
      ((s.onRectCh k fun c => { c with srOff := true, sr := false }).raise 0x0709 k) ∧
    (∀ t, (s.rectCh k).shareBad = some t → Fires (.shareToleranceFault k) s ((s.rectCh k).st = .run)
      (((s.advanceTo (t + sec 1)).onRectCh k fun c => { c with shareOk := false, shareBad := none }).raise 0x0710 k)) ∧
    ((s.rectCh k).shareBad = none → Goes (.shareToleranceFault k) s s)

/-- O37. R29, R58, R80, R152, R159, R163, R167–R170, R172, R173: what the barrier carries: a row's symbols are heard with the running
disparity kept; a frame does what the table says of its TYPE once its symbols, its length and its CRC hold, after the
heartbeats inserted in it; a bad heartbeat or frame is counted and does no more, a missing heartbeat is counted with the next
good one; an unpowered section takes none; silence, once the link has been up, and a frame unacknowledged after eight attempts
bring the link down.
The model's choice: log entry 3 (an event out of place changes nothing), 150 (the code's tables, and a frame of another TYPE).
Its own choices and readings of the rules: log entries 7, 80, 85, 148. -/
def Obligations.BarrierFramesRun : Prop :=
  ∀ (s : State) (k : Fin 2),
    (∀ type len line act, let r := s.hears k (type < 0x80) line
      let x := splitBeats r.1.length r.1
      let t := r.2.each x.1 (State.beat k (type < 0x80))
      ((s.rectCh k).powered = false → s.frame k type len line act = s) ∧
      ((s.rectCh k).powered → barFrame x.2 = none →
        s.frame k type len line act = t.onBar k fun b => { b with frameErr := satAdd 0xFFFFFFFF b.frameErr 1 }) ∧
      ((s.rectCh k).powered → ∀ p, barFrame x.2 = some (type, p) → len ≤ p.length → s.frame k type len line act = act p t) ∧
      ((s.rectCh k).powered → ∀ y p, barFrame x.2 = some (y, p) → (y ≠ type ∨ p.length < len) →
        s.frame k type len line act = t)) ∧
    (∀ m line, let r := s.hears k m line
      ((s.rectCh k).powered = false → Goes (.barrierHeartbeat k m line) s s) ∧
      ((s.rectCh k).powered → (beatOf (r.1.filter fun y => y ≠ kIdle) = none →
          Goes (.barrierHeartbeat k m line) s (if m then r.2.beatMains k false 0 0 else r.2.beatControl k false 0 0)) ∧
        ∀ q v, beatOf (r.1.filter fun y => y ≠ kIdle) = some (q, v) →
          Goes (.barrierHeartbeat k m line) s (if m then r.2.beatMains k true q v else r.2.beatControl k true q v)) ∧
      r.1 = (hear (if m then (s.rectCh k).bar.rdMains else (s.rectCh k).bar.rdControl) line).1 ∧
      r.2 = s.onBar k fun b =>
        let d := (hear (if m then (s.rectCh k).bar.rdMains else (s.rectCh k).bar.rdControl) line).2
        if m then { b with rdMains := d } else { b with rdControl := d }) ∧
    (∀ ok q v,
      let b := (s.rectCh k).bar
      let rx : Bool := Barrier.follows b.seqRx b.rxHeard q ok
      let tx : Bool := Barrier.follows b.seqTx b.txHeard q ok
      let gap := Barrier.between b.seqRx b.rxHeard q
      (rx = false → s.beatControl k ok q v =
        s.onBar k fun b => { b with goodRun := 0, hbBad := satAdd 0xFFFFFFFF b.hbBad 1, badSince := b.badSince + 1 }) ∧
      (rx → s.beatControl k ok q v = s.onBar k fun b =>
        { b with
          seqRx := q, rxHeard := true, goodRun := if gap = 0 then b.goodRun + 1 else 1, tGood := s.now, period := v
          hbBad := satAdd 0xFFFFFFFF b.hbBad (gap - b.badSince), badSince := 0
          link := if b.link = .down then .establishing else b.link }) ∧
      (tx = false → (s.rectCh k).llc → s.beatMains k ok q v = s.onBar k fun b => { b with goodMains := 0 }) ∧
      (tx → (s.rectCh k).llc → s.beatMains k ok q v = s.onRectCh k fun c =>
        { c with
          bar := ({ c.bar with
            seqTx := q, txHeard := true, goodMains := Barrier.runOf c.bar.seqTx c.bar.txHeard q c.bar.goodMains
            cmdPeriod := v } : Barrier).copy (!c.pfc) false })) ∧
    (∀ line, ∃ act, Goes (.init k line) s (s.frame k 0x01 (3 + recLen .rect0) line act) ∧ ∀ p t,
      act p t = if (t.rectCh k).bar.hello ∧ u p 0 1 = k.val then t.onBar k fun b =>
        { b with
          init := true, initAck := false, secRec := (p.drop 3).take (recLen .rect0), awaiting := some (1, 0), attempts := 1
          tSent := t.now } else t) ∧
    (∀ line, ∃ act, Goes (.config k line) s (s.frame k 0x02 2 line act) ∧ ∀ p t,
      act p t = t.onBar k fun b =>
        let old := if b.shadow.isEmpty then b.secRec else b.shadow
        { b with
          shadow := padTo (recLen .rect0) (old.take (u p 0 2) ++ p.drop 2 ++ old.drop (u p 0 2 + (p.drop 2).length))
          awaiting := some (2, 0), attempts := 1, tSent := t.now }) ∧
    (∀ line, ∃ act, Goes (.commit k line) s (s.frame k 0x03 2 line act) ∧ ∀ p t,
      act p t = if u p 0 1 ≤ 2 then t.onBar k fun b =>
        { b with
          token := some (u p 0 1), zcSeen := false, landed := false, awaiting := some (3, u p 1 1), attempts := 1
          tSent := t.now } else t) ∧
    (∀ line, ∃ act, Goes (.command k line) s (s.frame k 0x04 1 line act) ∧ ∀ p r,
      let t := r.onBar k fun b => { b with awaiting := some (4, 0), attempts := 1, tSent := r.now }
      (u p 0 1 = 1 → (r.rectCh k).st = .qualify → (r.rectCh k).qualDone.isSome → t.startAllowed k →
        act p r = (t.onRectCh k fun c => { c with ordered := true }).qualTry k) ∧
      (u p 0 1 = 1 → (r.rectCh k).st = .autonomous → t.startAllowed k →
        act p r = (t.onRectCh k fun c => { c with ordered := true }).autoTry k) ∧
      (u p 0 1 = 1 → (t.startAllowed k = false ∨ ((r.rectCh k).st ≠ .autonomous ∧
        ((r.rectCh k).st ≠ .qualify ∨ (r.rectCh k).qualDone = none))) → act p r = t) ∧
      (u p 0 1 = 2 → (r.rectCh k).llc → act p r = t.onRectCh k fun c => { c with stopDue := true }) ∧
      (u p 0 1 = 2 → (r.rectCh k).llc = false → act p r = t.onRectCh k fun c =>
        { c with pfc := false, llc := false, runOn := false, stopDue := false, sr := false, burst := false }) ∧
      (u p 0 1 = 3 → act p r = t.onRectCh k fun c => { c with relay := false }) ∧
      (u p 0 1 = 4 → act p r = t.onRectCh k fun c => { c with ordered := false, autoAt := none }) ∧
      (u p 0 1 = 5 →
        act p r = (t.fltGone k).onRectCh k fun c => { c with srOff := false, bar := { c.bar with flt := false } }) ∧
      (u p 0 1 = 0 ∨ 5 < u p 0 1 → act p r = t)) ∧
    (∀ line, ∃ act, Goes (.time k line) s (s.frame k 0x05 8 line act) ∧ ∀ p t,
      act p t = t.onBar k fun b => { b with shadowTime := u p 0 8 + b.delayNs / 10 }) ∧
    (∀ line, ∃ act, Goes (.srTiming k line) s (s.frame k 0x06 4 line act) ∧ ∀ p t,
      act p t = t.onBar k fun b => { b with srTime := (u p 0 2, u p 2 2) }) ∧
    (∀ line, ∃ act, Goes (.hello k line) s (s.frame k 0x81 6 line act) ∧ ∀ p t,
      let r := t.onRectCh k fun c =>
        { c with
          secState := u p 3 1, secCause := u p 4 1
          bar := { c.bar with hello := true, romVer := u p 1 2, link := if c.bar.link = .up then .up else .establishing } }
      act p t =
        if u p 0 1 = k.val ∧ ((t.rectCh k).bar.link = .up ∨ (16 ≤ (t.rectCh k).bar.goodRun ∧ 16 ≤ (t.rectCh k).bar.goodMains)) then
          (if u p 5 1 = 0 ∨ t.flag Fld.Rect.PRESENT k = false then r else r.raise 0x070F k) else t) ∧
    (∀ line, ∃ act, Goes (.status k line) s (s.frame k 0x82 26 line act) ∧ ∀ p t,
      act p t = (t.onRectCh k fun c =>
        { c with
          secState := u p 0 1, secFlags := u p 1 1, bulk := u p 2 4, rms := u p 6 4, iOut := Sys2Proof.i p 10 4, pCap := u p 14 4
          pAvail := u p 18 4, tMax := Sys2Proof.i p 22 2, band := u p 24 1, dtInst := u p 25 1 }).qualTry k) ∧
    (∀ line, ∃ act, Goes (.halfCycle k line) s (s.frame k 0x83 22 line act) ∧ ∀ p t,
      act p t = t.onRectCh k fun c =>
        { c with tZc := u p 0 8, rms := u p 8 4, peak := u p 12 4, half := u p 16 4, maxDev := u p 20 2 }) ∧
    (∀ line, ∃ act, Goes (.ack k line) s (s.frame k 0x84 3 line act) ∧ ∀ p t,
      let r := t.onBar k fun b =>
        if b.awaiting = some (u p 0 1, u p 1 1) then
          { b with awaiting := none, attempts := 0, initAck := b.initAck || (decide (u p 0 1 = 1) && b.init) }
        else b
      act p t = if (u p 2 1).testBit 0 ∧ u p 0 1 = 3 ∧ (t.rectCh k).bar.landed then
        (r.onBar k fun b => { b with landed := false }).landedAck k else r) ∧
    (∀ line, ∃ act, Goes (.faultFrame k line) s (s.frame k 0x85 14 line act) ∧ ∀ p t,
      let r := t.onRectCh k fun c => { c with bulk := u p 2 4, rms := u p 6 4, iOut := Sys2Proof.i p 10 4 }
      act p t = if (t.rectCh k).bar.fltWait then (r.onBar k fun b => { b with fltWait := false }).raise (u p 0 2) k
        else if u p 0 2 ∈ tripCodes ∧ (t.rectCh k).starting then r.rectTrip k (u p 0 2) else r) ∧
    Fires (.barrierSilence k) s ((s.rectCh k).bar.link ≠ .down ∧ (s.rectCh k).bar.everUp)
      (((s.advanceTo ((s.rectCh k).bar.tGood + us 4)).channelGone k).onBar k fun b =>
        { b.drop_ with silences := satAdd 0xFFFF b.silences 1, hbBad := satAdd 0xFFFFFFFF b.hbBad (4 - b.badSince) }) ∧
    (∀ d, Fires (.barrierEstablished k d) s
      ((s.rectCh k).powered ∧ (s.rectCh k).bar.link = .establishing ∧ (s.rectCh k).bar.initAck) (s.establish k d)) ∧
    (let t := s.advanceTo ((s.rectCh k).bar.tSent + us 10)
     Fires (.barrierResend k) s (s.rectCh k).bar.awaiting.isSome
      (if 8 ≤ (s.rectCh k).bar.attempts then (t.channelGone k).onBar k Barrier.drop_
       else t.onBar k fun b =>
         { b with attempts := b.attempts + 1, resends := satAdd 0xFFFF b.resends 1, tSent := t.now }))

/-- O38. R13, R52, R182, R190–R194: the events of the bus and of the auxiliary inputs: the times, the measured values and the states
that the rules give; the fourth trip in ten minutes latches an input.
The model's choice: log entry 3 (an event out of place changes nothing); log entry 4 (the time that an expiry moves the timebase to).
Its own choices and readings of the rules: log entries 6, 86, 90, 151. -/
def Obligations.BusEventsRun : Prop :=
  ∀ (s : State) (k : Fin 2),
    (∀ v held, Fires (.busUndervoltage v held) s (v < s.fld Fld.Bus.BUS_UV_MV ∧ 100 ≤ held)
      (let t := (s.onBus fun b => { b with uv := true }).busEval
       if s.bus.st = .dead then t else t.raise 0x0802)) ∧
    (∀ v, Fires (.busWindowExit v) s ((v < 44000 ∨ 57600 < v) ∧ s.bus.outWin = false)
      ((s.onBus fun b => { b with outWin := true }).raiseWith { force := true } 0x0801 blockWide)) ∧
    (∀ v, Fires (.auxWindowEnter k v) s
      (s.fld Fld.Bus.UV_MV k + s.fld Fld.Bus.HYST_MV k ≤ v ∧ v + s.fld Fld.Bus.HYST_MV k ≤ s.fld Fld.Bus.OV_MV k)
      (let t := s.onAuxCh k fun c => { c with inWin := true }
       if (s.auxCh k).st = .absent ∧ s.ctrlDown = false ∧ s.sys.fwReady then t.auxTo k .delay else t)) ∧
    (let t := s.onAuxCh k fun c => { c with inWin := false }
     ∀ v held,
      let above : Prop := s.fld Fld.Bus.OV_MV k < v
      let under : Prop := v < s.fld Fld.Bus.UV_MV k ∧ s.fld Fld.Bus.UV_FILT_US k ≤ held
      (above → (s.auxCh k).running → Goes (.auxWindowExit k v held) s ((t.auxTo k .absent).raise 0x0811 k)) ∧
      (¬above → under → (s.auxCh k).running → Goes (.auxWindowExit k v held) s ((t.auxTo k .absent).raise 0x0810 k)) ∧
      ((above ∨ under) → (s.auxCh k).st ∈ [AState.delay, .qualified, .ready, .matching] →
        Goes (.auxWindowExit k v held) s (t.auxTo k .absent)) ∧
      ((above ∨ under) → (s.auxCh k).st ∈ [AState.off, .disabled, .absent, .fault, .latched] →
        Goes (.auxWindowExit k v held) s t) ∧
      (¬above → ¬under → Goes (.auxWindowExit k v held) s s)) ∧
    Fires (.auxInsertDone k) s ((s.auxCh k).st = .delay ∧ s.sys.fwReady)
      ((s.advanceTo ((s.auxCh k).tState + ms (s.fld Fld.Bus.INSERT_MS k))).auxTo k .qualified) ∧
    Fires (.auxMatchDone k) s ((s.auxCh k).st = .matching ∧ s.auxMatched k ∧ s.gapOk k ∧ s.rectComing = false)
      (s.auxTo k .walkIn) ∧
    (∀ i held, Fires (.auxWalkInDone k i held) s
      ((s.auxCh k).st = .walkIn ∧ i < (s.auxCh k).walk / (100 * max 1 (s.auxCh k).vin) ∧ 1000 ≤ held) (s.auxTo k .on).readyBack) ∧
    (∀ v, Fires (.coldConnectDone k v) s ((s.auxCh k).st = .coldConnect ∧ v < s.vBus + 300) (s.auxTo k .on).readyBack) ∧
    (let trips (t : State) : List Nat := recent t.now (sec 600) (t.auxCh k).trips
     let trip (code : Nat) (t : State) : State :=
       let r := t.onAuxCh k fun c => { c with trips := trips t }
       if (trips t).length < 4 then (r.auxTo k .fault).raise code k else ((r.auxTo k .latched).raise code k).raise 0x0815 k
     (∀ held, (s.auxCh k).st = .coldConnect →
      Goes (.auxSoaTrip k held) s (trip 0x0812 (s.advanceTo ((s.auxCh k).tState + ms (s.fld Fld.Bus.SOA_MS k))))) ∧
     (∀ held, (s.auxCh k).st ≠ .coldConnect →
      Fires (.auxSoaTrip k held) s ((s.auxCh k).st = .on ∧ s.fld Fld.Bus.SOA_MS k ≤ held) (trip 0x0812 s)) ∧
     (∀ i, Fires (.auxFastTrip k i) s ((s.auxCh k).running ∧ s.fld Fld.Bus.FAST_MA k ≤ i) (trip 0x0813 s)) ∧
     (∀ i held, Fires (.auxReverseTrip k i held) s ((s.auxCh k).running ∧ i < -2000 ∧ 10 ≤ held) (trip 0x0814 s))) ∧
    Fires (.auxRetry k) s ((s.auxCh k).st = .fault)
      ((s.advanceTo ((s.auxCh k).tState + sec (s.fld Fld.Bus.RETRY_S k))).auxTo k (if s.ctrlDown then .absent else .delay)) ∧
    (∀ t, (s.auxCh (1 - k.val)).tOff = some t → Fires (.bbmGapDone k) s ((s.auxCh (1 - k.val)).running = false)
      ((s.advanceTo (t + us (s.fld Fld.Bus.BBM_GAP_US))).onAuxCh k fun c => { c with gap := true })) ∧
    ((s.auxCh (1 - k.val)).tOff = none → Goes (.bbmGapDone k) s s)

/-! ## Strings, charger and gauge -/

/-- O39. R15, R211–R215, R217, R233, R234, R247: the events of a battery string: a match within MATCH_MV, its time limit, the
cold-connect ramp, the safety pins, an NTC's recovery, the trips of a running string, the fourth of which in ten minutes latches
it, the end of discharge once its conditions have held for 10 s, and the ends of a test, each by the cause that holds.
The model's choice: log entry 3 (an event out of place changes nothing); log entry 4 (the time that an expiry moves the timebase to).
Its own choices and readings of the rules: log entries 6, 92. -/
def Obligations.StringEventsRun : Prop :=
  ∀ (s : State) (k : Fin 2),
    (∀ v, Fires (.stringMatchDone k v) s
      ((s.strCh k).st = .matching ∧ s.strV k ≤ v + s.fld Fld.Chg.MATCH_MV k ∧ (v : Int) ≤ s.strV k + s.fld Fld.Chg.MATCH_MV k)
      ((s.advanceTo (s.now + ms 1)).strTo k (s.strCh k).aim false)) ∧
    Fires (.stringColdDone k) s ((s.strCh k).st = .cold)
      (let s := s.advanceTo ((s.strCh k).tState + ms 10)
       (s.onBus fun b => { b with ref := 1000 * s.vBus }).strTo k .connected false) ∧
    ((s.strCh k).st ≠ .absent → Goes (.chgOkDeassert k) s
      ((s.onStrCh k fun c => { c with chgPin := false, tChg := s.now, chgOk := false, iChg := 0 }).raise 0x090C k)) ∧
    ((s.strCh k).st = .absent → Goes (.chgOkDeassert k) s
      (s.onStrCh k fun c => { c with chgPin := false, tChg := s.now, chgOk := false, iChg := 0 })) ∧
    Goes (.chgOkAssert k) s (s.onStrCh k fun c => if c.chgPin then c else { c with chgPin := true, tChg := s.now }) ∧
    Goes (.dsgOkDeassert k) s (s.onStrCh k fun c => if c.dsgPin then { c with dsgPin := false, tDsg := s.now } else c) ∧
    Goes (.dsgOkAssert k) s (s.onStrCh k fun c => if c.dsgPin then c else { c with dsgPin := true, tDsg := s.now }) ∧
    (∀ (j : Fin 2) t, ((s.strCh k).ntc[j]).goodSince = some t → Goes (.ntcRecover k j) s
      ((s.advanceTo (t + sec 10)).onStrCh k fun c =>
        { c with ntc := upd c.ntc j fun _ => { faulted := false, goodSince := none } })) ∧
    (∀ j : Fin 2, ((s.strCh k).ntc[j]).goodSince = none → Goes (.ntcRecover k j) s s) ∧
    Fires (.stringRetry k) s ((s.strCh k).st = .fault)
      ((s.advanceTo ((s.strCh k).tState + sec (s.fld Fld.Chg.RETRY_S k))).strTo k .opened false) ∧
    (let trips (t : State) : List Nat := recent t.now (sec 600) (t.strCh k).trips
     let noted (t : State) : State := t.onStrCh k fun c => { c with trips := trips t }
     let trip (code : Nat) (t : State) : State :=
       let r := if (trips t).length < 4 then ((noted t).strTo k .fault true).raise code k
         else (((noted t).strTo k .latched true).raise code k).raise 0x090F k
       r.testLeave k (t.strCh k).st
     Fires (.stringMatchTimeout k) s ((s.strCh k).st = .matching)
       (trip 0x090E (s.advanceTo ((s.strCh k).tState + ms 100))) ∧
     (∀ i, Fires (.stringFastTrip k i) s ((s.strCh k).running ∧ s.fld Fld.Chg.FAST_MA k ≤ i.natAbs) (trip 0x0908 s)) ∧
     (∀ t, s.tBat k = some t → Fires (.stringOvertempTrip k) s
       ((s.strCh k).running ∧ s.fldI Fld.Chg.TMAX_BAT k < t) (trip 0x0909 s)) ∧
     (s.tBat k = none → Goes (.stringOvertempTrip k) s s)) ∧
    (∀ v held, Fires (.packOvervoltage k v held) s
      ((s.strCh k).running ∧ s.fld Fld.Chg.CELLS k * s.fld Fld.Chg.CELL_OV_MV k < v ∧ 100 ≤ held)
      ((s.onStrCh k fun c => { c.noCharge with chg := .latched, byCmd := false }).raise 0x0902 k)) ∧
    (let low (t : State) : State :=
       ((((t.onStrCh k fun c => { c with eod := true, iDsgMax := 0 }).strTo k .opened false).raise 0x090D k).testLeave k
         (t.strCh k).st).gaugeSnap k
     (∀ t, (s.strCh k).eodSince = some t → Fires (.endOfDischarge k) s ((s.strCh k).st = .connected ∨ (s.strCh k).st = .test)
       (low (s.advanceTo (t + sec 10)))) ∧
     ((s.strCh k).eodSince = none → Goes (.endOfDischarge k) s s)) ∧
    (∀ cause : Fin 4, (s.strCh k).st ≠ .test → Goes (.stringTestEnd k cause) s s) ∧
    ((s.strCh k).st = .test →
      let test := (s.strCh k).test
      let ends (cause : Nat) (t : State) : State :=
        let back := t.strTo k .connected false
        (back.onStrCh k fun c => { c with test :=
          { c.test with state := if cause = 0 then 2 else 3, cause := cause, tEnd := some back.now } }).raise
            (if cause = 0 then 0x0911 else 0x0912) k
      let empty : Prop := test.end_ = 0 ∧ s.strV k ≤ s.fld Fld.Chg.CELLS k * s.fld Fld.Chg.EOD_MV_CELL k
      let reached : Prop := (test.end_ = 1 ∧ ∃ r, (s.gaugeCh k).rep = some r ∧ r / 100 < test.value) ∨
        (test.end_ = 2 ∧ test.value ≤ test.mah)
      (empty → Goes (.stringTestEnd k 0) s ((ends 0 s).gaugeSnap k)) ∧
      (reached → Goes (.stringTestEnd k 0) s (ends 0 s)) ∧
      (¬empty → ¬reached → Goes (.stringTestEnd k 0) s s) ∧
      Goes (.stringTestEnd k 1) s (ends 1 (s.advanceTo (test.t0 + sec (60 * test.maxMin)))) ∧
      Fires (.stringTestEnd k 2) s (s.busMains = false) (ends 2 s) ∧
      Fires (.stringTestEnd k 3) s ((s.strCh (1 - k.val)).standby = false) (ends 3 s))

/-- O40. R66, R219, R227–R229, R242, R244, R258, R261, R266: the charger's tick, step by step, and its timers, which stand
still outside running; the gauge's update while running, its saves, and the deferred varnish values once the gate has been
open for 10 s.
The model's choice: log entry 3 (an event out of place changes nothing); log entry 4 (the time that an expiry moves the timebase to).
Its own choices and readings of the rules: log entries 12, 33. -/
def Obligations.ChargerAndGaugeRun : Prop :=
  ∀ (s : State) (k : Fin 2),
    (s.sys.mode ≠ .running ∨ s.sys.fwReady = false → Goes .chargerTick s s.chgJudge) ∧
    (s.sys.mode = .running → s.sys.fwReady → s.chgTick k =
      (let c0 := s.strCh k
       let s := ((s.boundary .chg0 k .main).palCharger k).adopt 1 k
       let s := s.onStrCh k fun c => { c with safe := s.sys.safe }
       let s := (s.chgEnable k).serve 0x0902 k fun own s => s.chgAct k own
       let s := (((s.bandStep k).count k).expire k).suspendTick k
       let c := s.strCh k
       let s := if c.chg = .run ∧ c0.chg = .run ∧ c.ps = c0.ps ∧ c.tPs = c0.tPs then s.exits k else s
       (s.target k).testTick k)) ∧
    Goes .chargerTick s ((s.chgTick 0).chgTick 1).chgJudge ∧
    (let live : Prop := s.sys.mode = .running ∧ (s.strCh k).chg = .run
     let main : Prop := s.kind k = 2 ∨ s.kind k = 3 ∨ s.kind k = 6
     let latch (code : Nat) (t : State) : State :=
       (t.onStrCh k fun c => { c.noCharge with chg := .latched, byCmd := false }).raise code k
     Fires (.prechargeTimerExpiry k) s (live ∧ s.kind k = 1)
       (latch 0x0903 (s.onStrCh k fun c => { c with tPre := max c.tPre (60 * s.fld Fld.Chg.PRE_TIMER_MIN k) })) ∧
     (let full := s.onStrCh k fun c => { c with tEq := max c.tEq (60000000 * s.fld Fld.Chg.CCCV_TIMER_MIN k) }
      Fires (.cccvTimerExpiry k) s (live ∧ main) (full.expire k) ∧
      (let c := full.strCh k
       c.chg = .run → c.tPre < 60 * s.fld Fld.Chg.PRE_TIMER_MIN k → c.tWall < 180 * s.fld Fld.Chg.CCCV_TIMER_MIN k →
        full.expire k =
          (if c.resumeUsed then latch 0x0906 full
           else if 1800 < (c.therm.filter id).length then
             (full.onStrCh k fun c => { c.noCharge with chg := .suspended, bandExp := c.band, resumeFor := 0 }).raise 0x0905 k
           else latch 0x0904 full))) ∧
     Fires (.wallTimerExpiry k) s (live ∧ main)
       (latch 0x0907 (s.onStrCh k fun c => { c with tWall := max c.tWall (180 * s.fld Fld.Chg.CCCV_TIMER_MIN k) }))) ∧
    Fires (.chargeResume k) s (s.sys.mode = .running ∧ (s.strCh k).chg = .suspended)
      (s.onStrCh k fun c => { c with chg := .run, tEq := 0, resumeUsed := true, resumeFor := 0, holds := [0, 0, 0] }) ∧
    Fires (.gaugeUpdate k) s (s.sys.mode = .running)
      (let s := s.advanceTo ((s.gaugeCh k).tUpd + sec (if s.atRest k then 10 else 1))
       let s := ((s.boundary .gauge0 k .main).boundary .gauge1 0 .main).adopt 7 0
       let s := if (s.strCh k).st = .absent then s else s.gaugeRun k
       let s := (s.serve 0x0A02 k fun own s => s.gaugeResetAct k own).serve 0x0A03 k fun own s => s.gaugeFccAct k own
       (s.onGauge fun g => { g with pBatt := s.pBattOf }).varnJudge) ∧
    Fires (.gaugeStateSave k) s (s.sys.mode = .running ∧ (s.strCh k).st ≠ .absent)
      (let s := s.advanceTo ((s.gaugeCh k).tSave + sec (60 * s.fld Fld.Gauge.STATE_SAVE_MIN k))
       (s.onGaugeCh k fun g => { g with tSave := s.now }).gaugeSave k) ∧
    (s.varn.openSince = none → Goes .varnishRetry s s) ∧
    (∀ t, s.varn.openSince = some t → Goes .varnishRetry s
      ((s.varn.items.filterMap fun x => x.deferred.map fun d => (x.id, d)).foldl (fun s x => s.vWrite x.1 x.2)
        (s.advanceTo (t + sec 10))))

/-- O41. R112, R122, R177, R206, R237–R239, R266: the commands of the supplies, strings, chargers and gauges: parameters out of
their ranges are refused; the channels that can take the action wait for their boundary and the others are refused; at the
boundary the action is done on the channel, in the order of the commands that wait.
Its own choice or reading of the rules: log entries 81, 89, 94. -/
def Obligations.SupplyCommandsRun : Prop :=
  ∀ (s : State) (o : Origin) (p : List Byte) (k : Fin 2),
    (let a := u p 2 1
     Selects (.rectControl o p) s o 0x0701 1 (p.length = 4 ∧ 1 ≤ a ∧ a ≤ 4 ∧ u p 3 1 = 0) (s.sel 0x07 (u p 0 2)) [byte a]
       (fun k => s.flag Fld.Rect.PRESENT k &&
         (if a = 1 then (s.rectCh k).st = .disabled
          else if a = 4 then ((s.rectCh k).st = .latched || (s.rectCh k).st = .lost) && !s.therm.mainsLatch
          else (s.rectCh k).st ≠ .off && (s.rectCh k).st ≠ .autonomous && (s.rectCh k).st ≠ .latched))
       (fun t => t.each ((List.range 2).filter fun k => !(t.rectCh k).llc) State.rectServe)) ∧
    (let a := u p 2 1
     Selects (.auxControl o p) s o 0x0802 1 (p.length = 4 ∧ 1 ≤ a ∧ a ≤ 3 ∧ u p 3 1 = 0) (s.sel 0x08 (u p 0 2)) [byte a]
       (fun k => s.flag Fld.Bus.PRESENT k &&
         (if a = 1 then (s.auxCh k).st = .disabled
          else a ≠ 3 || (s.auxCh k).st = .latched || (s.auxCh k).st = .fault))) ∧
    (let a := u p 2 1
     let force := u p 3 1
     Selects (.stringControl o p) s o 0x0901 1 (p.length = 4 ∧ 1 ≤ a ∧ a ≤ 3 ∧ (force = 0 ∨ force = 0x5A))
       (s.sel 0x09 (u p 0 2)) [byte a, byte force]
       (fun k => (s.strCh k).st ≠ .absent &&
         (if a = 1 then (s.strCh k).st = .disabled
          else if a = 3 then (s.strCh k).st = .fault || (s.strCh k).st = .latched
          else !((s.strCh k).standby && s.standbys = 1 && s.bus.st = .outage) || force = 0x5A))) ∧
    (let a := u p 2 1
     Selects (.chgControl o p) s o 0x0902 1 (p.length = 4 ∧ 1 ≤ a ∧ a ≤ 4 ∧ u p 3 1 = 0) (s.sel 0x09 (u p 0 2)) [byte a]
       (fun k => (a ≠ 1 || s.flag Fld.Chg.CHG_EN k) && (a ≠ 3 || s.hasEq k))) ∧
    (let a := u p 2 1
     Selects (.gaugeReset o p) s o 0x0A02 2 (p.length = 4 ∧ (a = 1 ∨ a = 2) ∧ u p 3 1 = 0) (s.sel 0x0A (u p 0 2)) [byte a]
       (fun k => (s.strCh k).st ≠ .absent)) ∧
    (s.admits o 0x0903 1 →
      ((testParams p = false ∨ s.single 0x09 (u p 0 2) = none) →
        Goes (.stringTest o p) s (s.answer o 0x0903 st.badParam [])) ∧
      (testParams p → s.single 0x09 (u p 0 2) = some k.val →
        let can := if u p 2 1 = 1 then s.testOk k = true else (s.strCh k).st = .test
        (can → Waits (.stringTest o p) s (s.accepted o 1) o 0x0903 (2 ^ k.val) 0 ([0, 0] ++ zeros 4 ++ p.drop 2)) ∧
        (¬can → Goes (.stringTest o p) s (s.answer o 0x0903 st.state [])))) ∧
    (s.admits o 0x0A03 2 →
      let rated := s.fld Fld.Chg.RATED_MAH k
      let fits : Prop := p.length = 6 ∧ rated ≤ 2 * u p 2 4 ∧ 100 * u p 2 4 ≤ 110 * rated
      (s.single 0x0A (u p 0 2) = none → Goes (.gaugeSetFcc o p) s (s.answer o 0x0A03 st.badParam [])) ∧
      (s.single 0x0A (u p 0 2) = some k.val →
        (¬fits → Goes (.gaugeSetFcc o p) s (s.answer o 0x0A03 st.badParam [])) ∧
        (fits → (s.strCh k).st = .absent → Goes (.gaugeSetFcc o p) s (s.answer o 0x0A03 st.state [])) ∧
        (fits → (s.strCh k).st ≠ .absent →
          Waits (.gaugeSetFcc o p) s (s.accepted o 2) o 0x0A03 (2 ^ k.val) 0 ([0, 0] ++ zeros 4 ++ toLE 4 (u p 2 4))))) ∧
    (∀ op ch act (w : Wait), s.hif.waits = [w] → w.op = op → w.left.testBit ch → w.started.testBit ch = false →
      ((act w.own s).1 = st.ok → s.serve op ch act = (act w.own s).2.onHif fun h =>
        { h with waits := h.waits.replace w { w with data := w.data.take 2 ++ toLE 4 (w.started ||| 2 ^ ch) ++ w.data.drop 6 } }) ∧
      ((act w.own s).1 ≠ st.ok → s.serve op ch act = s.onHif fun h => { h with waits := [w.mark ch (act w.own s).1] })) ∧
    (∀ own, s.flag Fld.Rect.PRESENT k →
      ((s.rectCh k).st = .disabled → u own 0 1 = 1 → s.rectAct k own =
        (st.ok, (s.onRectCh k fun c => { c with heldOff := false }).rectTo k
          (if (s.rectCh k).powered ∧ (s.rectCh k).bar.link = .up then .listen else .off))) ∧
      ((s.rectCh k).st = .run → (s.rectCh k).softOff = false → u own 0 1 = 2 → s.rectAct k own = (st.ok, s.onRectCh k fun c =>
        { c with softOff := true, walk := 100000 * s.pAvail k, tWalk := s.now })) ∧
      ((s.rectCh k).st = .run → u own 0 1 = 3 → s.rectAct k own = (st.ok, s.rectTo k .disabled)) ∧
      ((s.rectCh k).st = .latched → s.therm.mainsLatch = false → u own 0 1 = 4 → s.rectAct k own =
        (st.ok, ((((s.onRectCh k fun c => { c with srOff := false, trips := [] }).settleCh 0x07 k).onRectCh k fun c =>
          { c with heldOff := false }).rectTo k
            (if (s.rectCh k).powered ∧ (s.rectCh k).bar.link = .up then .listen else .off)))) ∧
      ((s.rectCh k).st = .lost → s.therm.mainsLatch = false → u own 0 1 = 4 → s.rectAct k own =
        (st.ok, s.onRectCh k fun c => { c with srOff := false }))) ∧
    (∀ own, s.flag Fld.Bus.PRESENT k →
      ((s.auxCh k).st = .disabled → u own 0 1 = 1 →
        s.auxAct k own = (st.ok, s.auxTo k (if (s.auxCh k).inWin ∧ !s.ctrlDown then .delay else .absent))) ∧
      (u own 0 1 = 2 → s.auxAct k own = (st.ok, s.auxOpen k .disabled)) ∧
      ((s.auxCh k).st = .latched ∨ (s.auxCh k).st = .fault → u own 0 1 = 3 → s.auxAct k own = (st.ok,
        ((s.auxTo k (if s.ctrlDown then .absent else .delay)).onAuxCh k fun c => { c with trips := [] }).settleCh 0x08 k))) ∧
    (∀ own, (s.strCh k).st = .disabled → u own 0 1 = 1 → s.strAct k own = (st.ok, s.strTo k .opened false)) ∧
    (∀ own, (s.strCh k).st = .fault →
      (u own 0 1 = 2 → s.strAct k own = (st.ok, s.strTo k .disabled false)) ∧
      (u own 0 1 = 3 → s.strAct k own =
        (st.ok, ((s.onStrCh k fun c => { c with trips := [] }).strTo k .opened false).settleCh 0x09 k))) ∧
    (∀ own, u own 0 1 = 2 → s.chgAct k own =
      (st.ok, s.onStrCh k fun c => { c.noCharge with chg := .disabled, byCmd := true })) ∧
    (∀ own, s.flag Fld.Chg.CHG_EN k → u own 0 1 = 1 → s.chgAct k own = (st.ok,
      let s := s.settleCh 0x09 k
      if (s.strCh k).chargeable then s.chgRun k
      else s.onStrCh k fun c => { (c.cycle.toInitial s.now (s.initialState k)).noCharge with chg := .idle, byCmd := false })) ∧
    (∀ own, s.hasEq k → u own 0 1 = 3 → s.chgAct k own = (st.ok, s.onStrCh k fun c => { c with eqReq := true })) ∧
    (∀ own, u own 0 1 = 4 → ¬((s.strCh k).chg = .run ∧ s.kind k = 6) →
      s.chgAct k own = (st.ok, s.onStrCh k fun c => { c with eqReq := false })) ∧
    ((s.strCh k).st = .test → ∀ own, u own 0 1 = 2 → s.testAct k own = (st.ok, s.testEnd k 1)) ∧
    ((s.strCh k).st ≠ .absent → (s.gaugeCh k).learnState ≠ 1 → (s.gaugeCh k).learnState ≠ 2 → ∀ own,
      s.gaugeResetAct k own = (st.ok, (s.onGaugeCh k fun g =>
        if u own 0 1 = 1 then
          { g.forget s.now with fcc := s.fld Fld.Chg.RATED_MAH k, fccOwn := false, learnCount := 0, learntDue := false }
        else g.forget s.now).gaugeSave k)) ∧
    (s.testOk k → ∀ own, u own 0 1 = 1 → s.testAct k own = (st.ok,
      (s.onStrCh k fun c => { c with test := { TestSt.none with
        state := 1, end_ := u own 1 1, pTest := u own 2 2, maxMin := u own 4 2, value := u own 6 4, t0 := s.now } }).strTo k
          .test false)) ∧
    ((s.strCh k).st ≠ .absent → ∀ own, s.gaugeFccAct k own = (st.ok,
      (s.onGaugeCh k fun g => { g with fcc := u own 0 4, fccOwn := true }).gaugeSave k))

/-! ## Domains and ports -/

/-- O42. R272–R274, R279, R281, R282, R284, R290, R291: a domain's states: each event moves a domain that is in its state, with the
measured values that the rule asks for, and changes nothing out of place; a trip counts, and past RETRIES it latches, but for D0.
The model's choice: log entry 3 (an event out of place changes nothing); log entry 4 (the time that an expiry moves the timebase to).
Its own choices and readings of the rules: log entries 6, 96. -/
def Obligations.DomainStatesRun : Prop :=
  ∀ (s : State) (k : Fin 16),
    let c := s.domCh k
    let counted (t : State) : State := t.onDomCh k fun c => { c with trips := c.trips + 1, cause := 0xFF }
    let trip (code : Nat) (latch : Bool) (t : State) : State :=
      if k.val = 0 then ((counted t).raise code k).domTo k .retryWait
      else if t.fld Fld.Dom.RETRIES k < (t.domCh k).trips + 1 then (((counted t).raise code k).domTo k .latched).raise 0x0B0A k
      else ((counted t).raise code k).domTo k (if latch then .latched else .retryWait)
    Fires (.domainInputReady k) s
      (c.st = .off ∧ c.enable ∧ s.fld Fld.Dom.PHASES k ≠ 0 ∧ s.inputPresent k ∧ (k = 0 ∨ !s.ctrlDown))
      ((s.advanceTo (c.inputSince.getD s.now + ms 10)).domTo k .check) ∧
    Fires (.domainInputLost k) s ((c.st = .check ∨ c.running) ∧ !s.inputPresent k)
      (((s.onDomCh k fun c => { c with inputSince := none, cause := 0xFF }).raise 0x0B07 k).domTo k .off) ∧
    (∀ sws, c.st ≠ .check → Goes (.domainCheckDone k sws) s s) ∧
    (∀ sws, c.st = .check →
      let t := s.advanceTo (c.tState + us 50)
      (∀ p, t.shortPhase k sws = some p → Goes (.domainCheckDone k sws) s
        (((t.onDomCh k fun c => { c with cause := p }).raise 0x0B04 k).domTo k (if k.val = 0 then .retryWait else .latched))) ∧
      (t.shortPhase k sws = none → t.healthyPh k ≠ [] → Goes (.domainCheckDone k sws) s (t.softStart k)) ∧
      (t.shortPhase k sws = none → t.healthyPh k = [] → Goes (.domainCheckDone k sws) s ((t.softStart k).domNoPhase k))) ∧
    (c.offDue = false → s.softStart k =
      (let target := 1000 * s.domTarget k
       let v := 1000 * (s.domV k).toNat
       let pre : Bool := 0 < v && v < target
       (s.onDomCh k fun c => { c with
         ref := { from_ := if pre then v else 0, goal := target, num := target, den := 10000 * s.fld Fld.Dom.SS_0P1MS k, t0 := s.now }
         preBias := pre, shed := 0 }).domTo k .softStart)) ∧
    Fires (.softStartDone k) s (c.st = .softStart)
      (let t := s.advanceTo (c.ref.t0 + c.ref.den * (c.ref.goal - c.ref.from_) / max 1 c.ref.num)
       let t := t.onDomCh k fun c => { c with ref := Ramp.rest c.ref.goal, tShed := t.now }
       (t.onDomCh k fun d => if 1000 * t.domTarget k = d.ref.goal then d else { d with ref := t.turned k d.slew }).domTo k .on) ∧
    Fires (.domainSsTimeout k) s (c.st = .softStart)
      (trip 0x0B06 false (s.advanceTo (c.ref.t0 + c.ref.den * (c.ref.goal - c.ref.from_) / max 1 c.ref.num +
        ms (s.fld Fld.Dom.SS_TIMEOUT_MS k)))) ∧
    (∀ v held, Fires (.domainOv k v held) s
      (s.ovLimit k < v ∧ s.fld Fld.Dom.OV_FILT k ≤ held ∧ (c.st = .softStart ∨ c.st = .on))
      (trip 0x0B02 (s.flag Fld.Dom.OV_LATCH k) s)) ∧
    Fires (.remoteSenseFault k) s (c.st = .softStart ∨ c.st = .on) (trip 0x0B0C false s) ∧
    (∀ v held, Fires (.domainUv k v held) s (v < s.uvLimit k ∧ s.fld Fld.Dom.UV_FILT k ≤ held ∧ c.st = .on ∧ c.uv = false)
      ((s.onDomCh k fun c => { c with uv := true, cause := 0xFF }).raise 0x0B01 k).d0Window.seqEval) ∧
    (∀ v held, Fires (.domainUvClear k v held) s (s.uvLimit k ≤ v ∧ s.fld Fld.Dom.UV_FILT k ≤ held)
      (s.onDomCh k fun c => { c with uv := false }).d0Window.seqEval) ∧
    (c.st = .on → s.domRef k = c.ref.goal → s.flag Fld.Dom.WIN_MODE k = false →
      s.ovLimit k = c.ref.goal * (100 + s.fld Fld.Dom.OV_PCT k) / 100 ∧
        s.uvLimit k = c.ref.goal * (100 - s.fld Fld.Dom.UV_PCT k) / 100) ∧
    (c.st = .softStart → s.domRef k ≤ c.ref.goal → s.flag Fld.Dom.WIN_MODE k = false →
      s.ovLimit k = c.ref.goal * (100 + s.fld Fld.Dom.OV_PCT k) / 100) ∧
    (c.limSince = none → Goes (.domainOcTrip k) s s) ∧
    (∀ t, c.limSince = some t →
      let due := s.advanceTo (t + ms (s.fld Fld.Dom.OC_TRIP_MS k))
      (c.st = .softStart ∨ c.st = .on → Goes (.domainOcTrip k) s (trip 0x0B03 false due)) ∧
      (c.st ≠ .softStart → c.st ≠ .on → Goes (.domainOcTrip k) s due)) ∧
    Fires (.domainRetry k) s (c.st = .retryWait ∧ c.enable ∧ (k = 0 ∨ !s.ctrlDown))
      ((s.advanceTo (c.tState + s.domRetryTime k)).domTo k .check) ∧
    (k ≠ 0 → s.domRetryTime k = ms (s.fld Fld.Dom.RETRY_MS k)) ∧
    s.domRetryTime 0 = (if (s.domCh 0).lastFault = 0x0B04 then sec 1 else ms 100) ∧
    Fires (.domainTripCountClear k) s (c.st = .on)
      ((s.advanceTo (c.tState + sec 60)).onDomCh k fun c => { c with trips := 0 }) ∧
    Fires (.softStopDone k) s (c.st = .softStop)
      ((s.advanceTo (c.ref.t0 + c.ref.den * c.ref.from_ / max 1 c.ref.num)).domTo k .off)

/-- O43. R275, R277, R280, R286, R287, R289, R291, R299, R300: the rest of a domain: its reference's arrival, load release, a phase's
failure, the switching reference, a phase's PWM period, DOM_CONTROL and DOM_VOUT.
The model's choice: log entry 3 (an event out of place changes nothing); log entry 4 (the time that an expiry moves the timebase to).
Its own choices and readings of the rules: log entries 16, 95, 96, 97, 98. -/
def Obligations.DomainRegulationRuns : Prop :=
  ∀ (s : State) (k : Fin 16) (o : Origin) (p : List Byte),
    Fires (.referenceArrived k) s ((s.domCh k).st = .on)
      (let c := s.domCh k
       let s := s.advanceTo (c.ref.t0 + c.ref.den * ((c.ref.goal - c.ref.from_) + (c.ref.from_ - c.ref.goal)) / max 1 c.ref.num)
       (s.onDomCh k fun c => { c with ref := Ramp.rest c.ref.goal }).domJudge) ∧
    Fires (.loadRelease k) s ((s.domCh k).st = .on ∧ s.fld Fld.Dom.LR_MODE k ≠ 0)
      ((s.onDomCh k fun c => { c with lr := some (c.lr.getD s.now) }).each (s.activePh k) fun p s => s.setPulse p 0) ∧
    (∀ m, (s.domCh k).lr = none → Goes (.loadReleaseEnd k m) s s) ∧
    (∀ t m, (s.domCh k).lr = some t → (m = false ∨ s.fld Fld.Dom.LR_MODE k ≠ 1) →
      Goes (.loadReleaseEnd k m) s (s.onDomCh k fun c => { c with lr := none })) ∧
    (∀ t, (s.domCh k).lr = some t → s.fld Fld.Dom.LR_MODE k = 1 → Goes (.loadReleaseEnd k true) s
      (((s.onDomCh k fun c => { c with lr := none }).advanceTo (t + us (s.fld Fld.Dom.LR_MAX_US k))).raise 0x0B0B k)) ∧
    (∀ ph : Fin 32,
      let t := (s.onDomCh k fun c => { c with failed := c.failed ||| 2 ^ ph.val, cause := ph.val }).raise 0x0B05 k
      ((s.domCh k).running = false ∨ ph.val ∉ s.activePh k → Goes (.phaseFail k ph) s s) ∧
      ((s.domCh k).running → ph.val ∈ s.activePh k → t.healthyPh k ≠ [] → Goes (.phaseFail k ph) s (t.shedFloor k)) ∧
      ((s.domCh k).running → ph.val ∈ s.activePh k → t.healthyPh k = [] → Goes (.phaseFail k ph) s (t.domNoPhase k))) ∧
    Fires .syncLost s (s.flag Fld.Dom.SYNC_SRC ∧ s.dom.syncLost = false ∧ s.dom.syncPeriod ≠ 0)
      ((s.syncStep.onDom fun d => { d with syncLost := true }).raise 0x0B08) ∧
    (s.dom.syncLost → s.syncStep = s) ∧
    (∀ period stable,
      (s.sys.vioPwm = false → Goes (.syncRelock period stable) s s) ∧
      (s.sys.vioPwm → stable → 50 ≤ period → period ≤ 500 → Goes (.syncRelock period stable) s
        (s.syncStep.onDom fun d =>
          { d with
            syncLost := false, syncGoal := 100 * period, tSync := s.now
            syncPeriod := if d.syncPeriod = 0 then 10000000 / max 1 (s.fld Fld.Dom.REF_KHZ) else d.syncPeriod })) ∧
      (s.sys.vioPwm → (stable = false ∨ period < 50 ∨ 500 < period) → Goes (.syncRelock period stable) s
        (s.onDom fun d => { d with syncLost := false, syncPeriod := 0, syncGoal := 0 }))) ∧
    (∀ (ph : Fin 32) e zero ocp,
      let e' := max (-256) (min 256 e)
      let on_ : Prop := (s.domCh k).running ∧ ph.val ∈ s.activePh k
      let pulse (s : State) : State :=
        if s.braking k then s.setPulse ph 0
        else
          let pre : Bool := (s.domCh k).preBias && s.domRef k ≤ 1000 * ((s.domV k).toNat + s.fld Fld.Dom.LR_THRESH_MV k)
          let de : Bool := zero && (s.domCh k).st ≠ .softStop && (s.flag Fld.Dom.DE_EN k || pre)
          let t := s.onDomCh k fun c => { s.compStep k e' c with preBias := pre, de := setBitTo c.de ph de }
          let t := if (s.domCh k).limSince.isSome then t.drew else t
          t.setPulse ph (if t.truncating k then 0 else t.onTime k ph ocp)
      (¬on_ → Goes (.domainPwmPeriod k ph e zero ocp) s s) ∧
      (on_ → (s.activePh k).head? ≠ some ph.val → Goes (.domainPwmPeriod k ph e zero ocp) s (pulse (s.adcTrigger ph))) ∧
      (on_ → (s.activePh k).head? = some ph.val → Goes (.domainPwmPeriod k ph e zero ocp) s
        ((pulse ((((s.adcTrigger ph).limStep k).fswStep k).onDomCh k
          (DomCh.space (s.activePh k).length))).domBoundary k))) ∧
    (s.admits o 0x0B01 1 → (p.length ≠ 4 ∨ s.sel 0x0B (u p 0 2) = none ∨ u p 2 1 = 0 ∨ 7 < u p 2 1 ∨ u p 3 1 ≠ 0) →
      Goes (.domControl o p) s (s.answer o 0x0B01 st.badParam [])) ∧
    (2 ≤ u p 2 1 → Selects (.domControl o p) s o 0x0B01 1 (p.length = 4 ∧ u p 2 1 ≤ 7 ∧ u p 3 1 = 0) (s.sel 0x0B (u p 0 2))
      [byte (u p 2 1), 0]
      (fun k => if u p 2 1 = 4 then (s.domCh k).st = .retryWait || (s.domCh k).st = .latched else k ≠ 0)
      (fun t => t.judge (fun w => w.op = 0x0B01 && u w.own 0 1 = 1) fun _ k => if k = 0 then some st.ok else none)) ∧
    (u p 2 1 = 1 → (∀ sel, s.sel 0x0B (u p 0 2) = some sel → ∃ k ∈ maskBits 16 sel.mask, k ≠ 0 ∧ (s.domCh k).st ≠ .on) →
      Selects (.domControl o p) s o 0x0B01 1 (p.length = 4 ∧ u p 3 1 = 0) (s.sel 0x0B (u p 0 2)) [1, 0]
        (fun k => k = 0 || (s.fld Fld.Dom.PHASES k ≠ 0 && (s.domCh k).st ≠ .latched && !s.ctrlDown))
        (fun t => t.judge (fun w => w.op = 0x0B01 && u w.own 0 1 = 1) fun _ k => if k = 0 then some st.ok else none)) ∧
    (∀ sel, s.sel 0x0B (u p 0 2) = some sel → s.admits o 0x0B01 1 → p.length = 4 → u p 2 1 = 1 → u p 3 1 = 0 →
      (∀ k ∈ maskBits 16 sel.mask, k = 0 ∨ (s.domCh k).st = .on) →
      Replies (.domControl o p) s (s.accepted o 1) o 0x0B01 st.ok []) ∧
    (∀ own,
      (k ≠ 0 → s.fld Fld.Dom.PHASES k ≠ 0 → (s.domCh k).st ≠ .latched → s.ctrlDown = false → u own 0 1 = 1 →
        s.domAct k own = (st.ok, s.onDomCh k fun c => { c with enable := true })) ∧
      (k ≠ 0 → u own 0 1 = 2 → s.domAct k own = (st.ok, (s.onDomCh k fun c => { c with enable := false }).softOff k)) ∧
      (k ≠ 0 → (s.domCh k).st = .on → u own 0 1 = 3 →
        s.domAct k own = (st.ok, (s.onDomCh k fun c => { c with enable := false }).domTo k .off)) ∧
      (k ≠ 0 → 5 ≤ u own 0 1 → u own 0 1 ≤ 7 →
        s.domAct k own = (st.ok, (s.onDomCh k fun c => { c with margin := u own 0 1 - 5 }).domRetarget k 0)) ∧
      ((s.domCh k).st = .latched → u own 0 1 = 4 → s.domAct k own = (st.ok,
        ((s.onDomCh k fun c => { c with enable := decide (k.val = 0), failed := 0, trips := 0 }).domTo k .off).settleCh 0x0B k))) ∧
    (s.admits o 0x0B02 1 →
      (s.sel 0x0B (u p 0 2) = none → Goes (.domVout o p) s (s.answer o 0x0B02 st.badParam [])) ∧
      ∀ sel, s.sel 0x0B (u p 0 2) = some sel →
        let fits : Prop := p.length = 12 ∧ u p 2 2 = 0 ∧ u p 10 2 = 0 ∧ (u p 8 2 = 0 ∨ (5 ≤ u p 8 2 ∧ u p 8 2 ≤ 2000)) ∧
          ∀ k ∈ maskBits 16 sel.mask,
            s.onRange k (u p 4 4) ∧ Fld.Dom.MARGIN_LOW_MV.getRaw (s.copy .dom0 k).easel ≤ u p 4 4 ∧
              u p 4 4 ≤ Fld.Dom.MARGIN_HIGH_MV.getRaw (s.copy .dom0 k).easel
        let t := (s.accepted o 1).writeVout (u p 4 4) (maskBits 16 sel.mask)
        (¬fits → Goes (.domVout o p) s (s.answer o 0x0B02 st.badParam [])) ∧
        (fits → maskBits 32 sel.mask ≠ [] → Waits (.domVout o p) s t o 0x0B02 (maskOf (maskBits 32 sel.mask)) 0
          ([byte sel.mode, 0] ++ zeros 4 ++ (toLE 4 (u p 4 4) ++ toLE 2 (u p 8 2) ++ [0]))) ∧
        (fits → maskBits 32 sel.mask = [] → Replies (.domVout o p) s t o 0x0B02 st.ok []))

/-- O44. R305–R313, R315, R316, R321: a port's states, its metering slot, which is the boundary of its fields and commands, and
PORT_CONTROL.
The model's choice: log entry 3 (an event out of place changes nothing); log entry 4 (the time that an expiry moves the timebase to).
Its own choices and readings of the rules: log entries 6, 98, 99. -/
def Obligations.PortEventsRun : Prop :=
  ∀ (s : State) (n : Fin 24) (o : Origin) (p : List Byte),
    (let dt := s.now - (s.portCh n).tSlot
     let t := (s.onPortCh n fun c => { c with tSlot := s.now }).adopt 2 n
     ((t.portCh n).st = .absent → Goes (.meteringSlot n) s
       (((t.portCurve n dt).boundary .feed0 n .main).serve 0x0C01 n fun own s => s.portAct n own).portJudge) ∧
     ((t.portCh n).st ≠ .absent → Goes (.meteringSlot n) s
       (let t := if (t.telOf n).invalid then t else (t.portMeter n dt).portCurve n dt
        let t := (((t.portWindow n).boundary .feed0 n .main).calLand (· = 536 + n)).serve 0x0C01 n fun own s => s.portAct n own
        (if (t.portCh n).st = .wait ∧ (t.portCh n).inWin ∧ !t.ctrlDown then t.portTo n .delay else t).portJudge.seqEval))) ∧
    (let t := s.onPortCh n fun c => { c with inWin := true, uvSince := none }
     ((s.portCh n).st = .wait → s.ctrlDown = false → Goes (.portWindowEnter n) s (t.portTo n .delay)) ∧
     ((s.portCh n).st ≠ .wait ∨ s.ctrlDown → Goes (.portWindowEnter n) s t)) ∧
    (let t := s.onPortCh n fun c => { c with inWin := false, uvSince := none }
     ((s.portCh n).running → Goes (.portWindowExit n) s ((t.raise 0x0C05 n).portTo n .wait)) ∧
     ((s.portCh n).st = .delay ∨ (s.portCh n).st = .check → Goes (.portWindowExit n) s (t.portTo n .wait)) ∧
     ((s.portCh n).st ∈ [PState.absent, .off, .wait, .shed, .retryWait, .latched] → Goes (.portWindowExit n) s t)) ∧
    Fires (.portInsertDone n) s ((s.portCh n).st = .delay)
      ((s.advanceTo ((s.portCh n).tState + ms (s.fld Fld.Feed.INSERT_MS n))).portTo n .check) ∧
    (∀ v, Fires (.portCheckPass n v) s ((s.portCh n).st = .check ∧ 2 * v < s.vBus)
      ((s.advanceTo ((s.portCh n).tState + ms 1)).portTo n .inrush)) ∧
    (∀ v, Fires (.portSwitchShort n v) s ((s.portCh n).st = .check ∧ s.vBus ≤ 2 * v)
      ((((s.advanceTo ((s.portCh n).tState + sec 1)).onPortCh n fun c => { c with vMv := v }).raise 0x0C04 n).portTo n
        .latched).portSave) ∧
    (∀ v, Fires (.portInrushDone n v) s ((s.portCh n).st = .inrush ∧ s.vBus ≤ v + 300) (s.portTo n .on)) ∧
    (let counted (t : State) : State := t.onPortCh n fun c => { c with trips := c.trips + 1 }
     let trip (code : Nat) (t : State) : State :=
       let r := (counted t).raise code n
       (if r.fld Fld.Feed.RETRIES n < (t.portCh n).trips + 1 then (r.portTo n .latched).raise 0x0C06 n
        else (r.onPortCh n fun c => { c with retryAt := r.now + sec (min 64 (2 ^ (t.portCh n).trips)) }).portTo n
          .retryWait).portSave
     Fires (.portSoaTrip n) s ((s.portCh n).st = .inrush)
       (trip 0x0C03 (s.advanceTo ((s.portCh n).tState + ms (s.fld Fld.Feed.SOA_MS n)))) ∧
     (∀ uv, Fires (.portFastTrip n uv) s
       ((s.portCh n).running ∧ s.fld Fld.Feed.FAST_MA n * s.fld Fld.Feed.SHUNT_UOHM n ≤ 1000 * uv) (trip 0x0C01 s))) ∧
    (∀ i held, Fires (.portReverseCurrent n i held) s ((s.portCh n).running ∧ i < -2000 ∧ 10 ≤ held)
      ((s.raise 0x0C07 n).portTo n .delay)) ∧
    Fires (.portRetry n) s ((s.portCh n).st = .retryWait ∧ (s.portCh n).enable)
      ((s.advanceTo (s.portCh n).retryAt).portTo n .wait) ∧
    Fires (.portTripCountClear n) s ((s.portCh n).st = .on)
      ((s.advanceTo ((s.portCh n).tState + sec (s.fld Fld.Feed.RESET_S n))).onPortCh n fun c => { c with trips := 0 }).portSave ∧
    (s.feed.unshed = [] → Goes .portUnshed s s) ∧
    (∀ m rest, s.feed.unshed = m :: rest → Goes .portUnshed s
      (let s := s.advanceTo (s.feed.tUnshed + ms 1)
       let s := s.onFeed fun f => { f with unshed := rest, tUnshed := s.now }
       if (s.portCh m).st = .shed then (s.raise 0x0C0A m).portTo m .wait else s)) ∧
    (let a := u p 2 1
     Selects (.portControl o p) s o 0x0C01 1 (p.length = 4 ∧ 1 ≤ a ∧ a ≤ 4 ∧ u p 3 1 = 0) (s.sel 0x0C (u p 0 2)) [byte a]
       (fun n => (s.portCh n).st ≠ .absent &&
         (if a = 1 then !((s.portCh n).st = .latched || (s.portCh n).st = .retryWait || s.portShed n || (s.portCh n).st = .shed || s.ctrlDown)
          else a ≠ 3 || (s.portCh n).st = .retryWait || (s.portCh n).st = .latched))) ∧
    (∀ own,
      ((s.portCh n).st = .off → s.portShed n = false → s.ctrlDown = false → u own 0 1 = 1 →
        s.portAct n own = (st.ok, (s.onPortCh n fun c => { c with enable := true }).portTo n .wait)) ∧
      ((s.portCh n).st = .on → u own 0 1 = 2 →
        s.portAct n own = (st.ok, (s.onPortCh n fun c => { c with enable := false }).portTo n .off)) ∧
      ((s.portCh n).st = .on → u own 0 1 = 4 → s.portAct n own = (st.ok, s.onPortCh n fun c => { c with energy := 0 })) ∧
      ((s.portCh n).st = .latched → u own 0 1 = 3 → s.portAct n own = (st.ok,
        (((s.onPortCh n fun c => { c with trips := 0, enable := false, restored := false }).portTo n .off).settleCh 0x0C
          n).portSave)))
/-! ## The link -/

/-- O45. R327–R332, R336, R347, R352: the events of the link's ports and periods: training, a port's coming up, which takes 1,024
valid symbols, and its going down, which takes 2 µs of silence or more than 16 errors; a missed period, the election and the ring's
restoration; each out of place changes nothing; and ENUMERATE, not from a group or a broadcast, not while an election is under
way, and not with the link off.
The model's choice: log entry 3 (an event out of place changes nothing); log entry 4 (the time that an expiry moves the timebase to);
log entry 18 (what enumeration finds at other nodes is free).
Its own choices and readings of the rules: log entries 100, 104, 105. -/
def Obligations.LinkEventsRun : Prop :=
  ∀ (s : State) (p : Fin 3),
    (∀ o q, s.admits o 0x0D03 2 →
      let good : Prop := q.length = 2 ∧ (u q 0 1 = 1 ∨ u q 0 1 = 2) ∧ u q 1 1 = 0 ∧ o.fanned = false
      let able : Prop := s.flag Fld.Link.LINK_EN ∧ s.link.claimed = false ∧ s.link.best = none
      (¬good → Goes (.enumerate o q) s (s.answer o 0x0D03 st.badParam [])) ∧
      (good → ¬able → Goes (.enumerate o q) s (s.answer o 0x0D03 st.state [])) ∧
      (good → able → Replies (.enumerate o q) s ((s.accepted o 2).enumerate (u q 0 1 = 1)) o 0x0D03 st.ok [])) ∧
    (s.link.usedPorts = [] → ∀ keep, s.enumerate keep =
      (let a := if s.fld Fld.Link.PIN_ADDR ≠ 0 then s.fld Fld.Link.PIN_ADDR else if keep ∧ s.link.nodeAddr ≠ 0 then s.link.nodeAddr else 1
       (s.onLink fun l =>
         { l with
           nodeAddr := a, ring := false
           table := [{ addr := a, depth := 0, parent := 0
                       flags := Sys2Proof.bitsOf [decide (a = s.link.rootAddr ∧ a ≠ 0), s.flag Fld.Link.ROOT_CAPABLE,
                         decide (s.fld Fld.Link.PIN_ADDR ≠ 0), decide (s.link.gen = 2), s.sys.root] }] }).drew)) ∧
    Fires (.linkTrainSwitch p) s ((s.linkPort p).line = .training)
      ((s.advanceTo ((s.linkPort p).tTrain + us 100)).onPort p fun c =>
        { c with
          gen1 := if s.flag Fld.Link.GEN2_EN ∧ s.link.gen ≠ 1 then !c.gen1 else true,
          tTrain := max s.now ((s.linkPort p).tTrain + us 100) }) ∧
    (∀ n, (n < 1024 ∨ (s.linkPort p).line ≠ .training ∨ (s.linkPort p).peer = none) → Goes (.linkPortUp p n) s s) ∧
    (∀ n x y, 1024 ≤ n → (s.linkPort p).line = .training → (s.linkPort p).peer = some (x, y) → Goes (.linkPortUp p n) s
      (let use_ := s.useOf p x
       let r := s.onPort p fun c => { c with line := if c.gen1 then .up1 else .up2, use := use_, tUp := s.now }
       let r := if use_ = .unused then r.raise 0x0D07 else r
       let r := if (s.linkPort p).gen1 ∧ r.link.gen ≠ 1 then ((r.flood 6 0 0).retrain (· = p.val)).raise 0x0D0A else r
       if r.link.role = 2 then r.flood 5 0 (claimValue r.ownClaim) else r)) ∧
    (∀ quiet errs, Fires (.linkPortDown p quiet errs) s
      (((s.linkPort p).line = .up1 ∨ (s.linkPort p).line = .up2) ∧ (2000 ≤ quiet ∨ 16 < errs))
      (let r := (s.onPort p fun _ => { LinkPort.reset with gen1 := !s.flag Fld.Link.GEN2_EN || s.link.gen = 1, tTrain := s.now }).raise 0x0D01
       let r := r.onLink fun l => { l with flight := l.flight.map fun f => (f.1, f.2.1, false) }
       if (s.linkPort p).used then (r.flood 4 0 p.val).wrap else r)) ∧
    (s.link.missNow = false → Goes .sharePeriodMissed s s) ∧
    (let r := s.onLink fun l =>
       { l with
         missNow := false, electDue := true, missed := satAdd 0xFFFFFFFF l.missed 1, missedRun := s.link.missedRun + 1 }
     s.link.missNow →
      (s.link.everSeen = false → Goes .sharePeriodMissed s r) ∧
      (s.link.everSeen → s.link.missedRun = 0 → Goes .sharePeriodMissed s
        ((r.onLink fun l => { l with capping := if l.capping = 0 then 3 else l.capping }).raise 0x0D03)) ∧
      (s.link.everSeen → s.link.missedRun = 2 → Goes .sharePeriodMissed s
        (((r.onLink fun l => { l with capping := 2, heldDec := [] }).toRole (if s.link.usedPorts.isEmpty then 0 else 1)).raise
          0x0D04)) ∧
      (s.link.everSeen → s.link.missedRun ≠ 0 → s.link.missedRun ≠ 2 → Goes .sharePeriodMissed s r)) ∧
    (s.link.electDue = false → Goes .rootElection s s) ∧
    (let r := s.onLink fun l => { l with electDue := false }
     s.link.electDue →
      (r.eligible = false → Goes .rootElection s r) ∧
      (r.eligible → r.link.claimed → Goes .rootElection s (if r.link.best = some r.ownClaim then r.becomeRoot else r)) ∧
      (r.eligible → r.link.claimed = false → Goes .rootElection s
        ((r.onLink fun l =>
          { l with
            claimed := true
            best := some (match r.link.best with
              | some b => if claimGe r.ownClaim b then r.ownClaim else b
              | none => r.ownClaim) }).flood 5 0 (claimValue r.ownClaim)))) ∧
    Fires .ringRestore s (s.link.role = 2 ∧ s.link.wrapped) (s.onLink fun l => { l with restoreDue := true })

/-- O46. R327, R329, R330, R332, R333, R335–R338, R340, R341, R343, R344, R347: a frame that arrives on a used port of a node with
LINK_EN set, and a valid event frame of its own TYPE, is counted, goes on to the node's other used ports and has its effect here;
on a port that is not used it changes nothing. A void share frame goes on void, and its return with it; a leaf returns it void; the
root decides from a frame whose branches have all returned whole.
Its own choices and readings of the rules: log entries 47, 101, 103. -/
def Obligations.LinkFramesRun : Prop :=
  ∀ (s : State) (p : Fin 3) (f : List Byte),
    let on_ : Prop := s.flag Fld.Link.LINK_EN
    let use_ := (s.linkPort p).use
    let body := (frameBody sofShare 32 f).map shareOf
    let events := s.onLink fun l => { l with eventsRx := satAdd 0xFFFFFFFF l.eventsRx 1 }
    (∀ t, (¬on_ ∨ (s.linkPort p).line = .down ∨ (s.linkPort p).line = .training ∨ use_ = .unused) →
      Goes (.shareFrame p t f) s s) ∧
    (∀ t, on_ → ((s.linkPort p).line = .up1 ∨ (s.linkPort p).line = .up2) → use_ ≠ .unused →
      let r := s.advanceTo t
      let root : Prop := s.link.role = 2 ∧ s.link.yielding = false
      let back : Prop := use_ = .away ∧ s.link.outSeq.isSome
      (root → use_ ≠ .away → Goes (.shareFrame p t f) s r) ∧
      (root → use_ = .away → Goes (.shareFrame p t f) s
        (r.rootBranch p (10 * (r.now - (s.link.flight.map (·.2.1)).getD r.now)) f)) ∧
      (¬root → body = none →
        let v := r.onLink fun l => { l with outSeq := some (u f 1 1), merge := [(p.val, none)] }
        (back → Goes (.shareFrame p t f) s (r.nodeBranch p (s.link.outSeq.getD 0) (u f 25 4) none)) ∧
        (use_ = .toRoot → s.link.awayPorts = [] →
          Goes (.shareFrame p t f) s (v.shareReturn (u f 1 1) (u f 25 4) [(p.val, none)])) ∧
        (use_ = .toRoot → s.link.awayPorts ≠ [] →
          Goes (.shareFrame p t f) s (v.sendOn (fun _ x => x.use = .away) (voidFrame f))) ∧
        (¬back → use_ ≠ .toRoot →
          Goes (.shareFrame p t f) s (r.sendOn (fun q x => q ≠ p.val && x.use = .away) (voidFrame f)))) ∧
      (∀ x, ¬root → body = some x →
        let again : Prop := use_ = .standby ∧ s.link.seen ∧ s.link.seq = x.1
        let out := r.sharePassed p x.1 x.2.2
        (back → s.link.outSeq = some x.1 → Goes (.shareFrame p t f) s (r.nodeBranch p x.1 x.2.2 (some x.2.1))) ∧
        (again → Goes (.shareFrame p t f) s r) ∧
        (¬(back ∧ s.link.outSeq = some x.1) → ¬again → out.link.awayPorts = [] →
          Goes (.shareFrame p t f) s (out.shareReturn x.1 x.2.2 [(p.val, some x.2.1)])) ∧
        (¬(back ∧ s.link.outSeq = some x.1) → ¬again → out.link.awayPorts ≠ [] → Goes (.shareFrame p t f) s
          (out.sendOn (fun q y => q ≠ p.val && y.use = .away) (frameOf sofShare (shareBytes x.1 x.2.1 x.2.2)))))) ∧
    (∀ seq time x,
      let t := s.onLink fun l => { l with outSeq := none, merge := [] }
      let frame (y : ShareFig) : List Byte := frameOf sofShare (shareBytes seq (y.add s.link.fig) time)
      s.shareReturn seq time [(p.val, some x)] = t.sendOn (fun _ y => y.use = .toRoot) (frame (ShareFig.zero.add x)) ∧
        s.shareReturn seq time [(p.val, none)] = t.sendOn (fun _ y => y.use = .toRoot) (voidFrame (frame ShareFig.zero))) ∧
    (∀ n, s.link.flight = none → Goes (.shareFrameReturn p n f) s s) ∧
    (∀ n seq t0 ok, s.link.flight = some (seq, t0, ok) →
      (s.link.role ≠ 2 ∨ (s.linkPort p).used = false → Goes (.shareFrameReturn p n f) s s) ∧
      (s.link.role = 2 → (s.linkPort p).used →
        let r := s.advanceTo (t0 + n / 10)
        let late (x : Nat × ShareFig × Nat) : Prop := x.2.2 = (t0 - s.sharePeriod) % 2 ^ 32
        let own (x : Nat × ShareFig × Nat) : Prop := x.1 = seq ∧ x.2.2 = t0 % 2 ^ 32
        let m := s.link.branch p (body.map fun x => x.2.1)
        let whole := r.onLink fun l => { l with tLoop := n, flight := none, merge := [] }
        let all : Prop := ∀ q ∈ s.link.awayPorts, q = p.val ∨ ∃ z ∈ s.link.merge, z.1 = q
        (∀ x, body = some x → late x → Goes (.shareFrameReturn p n f) s r) ∧
        (∀ x, body = some x → ¬late x → ¬own x → Goes (.shareFrameReturn p n f) s (r.flood 5 0 (claimValue r.ownClaim))) ∧
        ((∀ x, body = some x → ¬late x ∧ own x) →
          (¬all → Goes (.shareFrameReturn p n f) s (r.onLink fun l => { l with merge := m })) ∧
          (all → 10 * s.sharePeriod ≤ n → Goes (.shareFrameReturn p n f) s (whole.raise 0x0D09)) ∧
          (all → n < 10 * s.sharePeriod → (mergeFig m = none ∨ ok = false) → Goes (.shareFrameReturn p n f) s whole) ∧
          (∀ y, all → n < 10 * s.sharePeriod → mergeFig m = some y → ok →
            Goes (.shareFrameReturn p n f) s (whole.rootDecide (y.add s.link.fig) t0))))) ∧
    (∀ t, (¬on_ ∨ (s.linkPort p).used = false) → Goes (.decisionFrame p t f) s s) ∧
    (∀ t, on_ → (s.linkPort p).used →
      (frameBody sofDecision 32 f = none →
        Goes (.decisionFrame p t f) s ((s.advanceTo t).sendOn (fun q x => q ≠ p.val && x.use = .away) (voidFrame f))) ∧
      ∀ b, frameBody sofDecision 32 f = some b →
        let r := (s.advanceTo t).sendOn (fun q x => q ≠ p.val && x.use = .away) f
        let at_ := nearTime r.now (decisionOf b).apply
        let adopt : Bool := (decisionOf b).flags.testBit 1
        let held := r.onLink fun l =>
          { l with heldDec := l.heldDec ++ [decisionOf b], plantAt := if adopt then none else l.plantAt }
        let deaf : Prop := s.link.role = 2 ∨ s.flag Fld.Link.PLANT_CAP = false ∨ s.link.mismatch
        (deaf → Goes (.decisionFrame p t f) s r) ∧
        (¬deaf → at_ < r.now → Goes (.decisionFrame p t f) s
          ((r.onLink fun l => { l with late := satAdd 0xFFFFFFFF l.late 1 }).raise 0x0D0E)) ∧
        (¬deaf → r.now ≤ at_ → (adopt = false ∨ s.pal.plant = none) → Goes (.decisionFrame p t f) s held) ∧
        (¬deaf → r.now ≤ at_ → adopt → s.pal.plant.isSome →
          Goes (.decisionFrame p t f) s (held.onPal fun q => { q with plant := some at_ }))) ∧
    (∀ b, frameBody sofEvent 16 f = some b → on_ → (s.linkPort p).used →
      let r := events.sendOn (fun q _ => q ≠ p.val) f
      (u b 0 1 = 1 → Goes (.faultEvent p f) s (r.linkEntry 1 b)) ∧
      (u b 0 1 = 2 → Goes (.dropEvent p f) s ((r.linkEntry 2 b).onLink fun l =>
        { l with risk := (l.risk.filter fun r => r.1 ≠ u b 1 1 || r.2.2 ≠ 0) ++ [(u b 1 1, u b 4 4, 0)] })) ∧
      (u b 0 1 = 3 → Goes (.dropClearEvent p f) s (r.onLink fun l =>
        { l with
          risk := (l.risk.filter fun r => r.1 ≠ u b 1 1 || r.2.2 ≠ 0).map fun r =>
            if r.1 = u b 1 1 then (r.1, r.2.1, 2) else r })) ∧
      (u b 0 1 = 4 → Goes (.breakEvent p f) s (((r.linkEntry 3 b).onLink fun l =>
        { l with flight := l.flight.map fun x => (x.1, x.2.1, false) }).wrap)) ∧
      (u b 0 1 = 6 → r.link.gen ≠ 1 → Goes (.gen1Event p f) s ((r.retrain fun _ => false).raise 0x0D0A)) ∧
      (u b 0 1 = 6 → r.link.gen = 1 → Goes (.gen1Event p f) s r) ∧
      (u b 0 1 = 5 →
        let claim : Bool × Nat := (bitOf (u b 4 4) 0, u b 5 1)
        let j := if events.joins claim then events.onLink fun l => { l with joining := 1 } else events
        let on := j.sendOn (fun q _ => q ≠ p.val) f
        (s.link.role ≠ 2 → (∀ x, s.link.best = some x → claimGe claim x) →
          Goes (.rootClaim p f) s (on.onLink fun l => { l with best := some claim })) ∧
        (∀ x, s.link.role ≠ 2 → s.link.best = some x → claimGe claim x = false → Goes (.rootClaim p f) s j) ∧
        (s.link.role = 2 → claimGe claim s.ownClaim →
          Goes (.rootClaim p f) s (on.onLink fun l => { l with yielding := claim ≠ s.ownClaim })) ∧
        (s.link.role = 2 → claimGe claim s.ownClaim = false → s.link.yielding = false →
          Goes (.rootClaim p f) s (j.flood 5 0 (claimValue s.ownClaim))) ∧
        (s.link.role = 2 → claimGe claim s.ownClaim = false → s.link.yielding → Goes (.rootClaim p f) s j))) ∧
    (∀ b x y, frameBody sofEvent 16 f = some b → u b 0 1 = 7 → on_ → (s.linkPort p).line ≠ .down →
      let path := y + x / 2 + s.link.tHop
      let r := events.onPort p fun c => { c with peer := some (u b 4 1 % 4, u b 5 3), delay := x / 2, path := path }
      (use_ ≠ .toRoot → Goes (.ident p f x y) s r) ∧
      (use_ = .toRoot → Goes (.ident p f x y) s (r.onLink fun l => { l with pathDelay := path }))) ∧
    (let deaf (type : Nat) (i : Instr) : Prop :=
       ¬on_ ∨ (s.linkPort p).used = false ∨ (∀ b, frameBody sofEvent 16 f = some b → u b 0 1 ≠ type) → Goes i s s
     deaf 1 (.faultEvent p f) ∧ deaf 2 (.dropEvent p f) ∧ deaf 3 (.dropClearEvent p f) ∧ deaf 4 (.breakEvent p f) ∧
       deaf 5 (.rootClaim p f) ∧ deaf 6 (.gen1Event p f)) ∧
    (∀ x y, (¬on_ ∨ (s.linkPort p).line = .down ∨ ∀ b, frameBody sofEvent 16 f = some b → u b 0 1 ≠ 7) →
      Goes (.ident p f x y) s s)

/-! ## The PD ports -/

/-- O47. R358, R360–R363, R365–R367: the timers and events of a PD port that is present, with firmware ready; each ends with what
the port then sends, and one that is out of place has no other effect; a detach takes 250 µs of what the port's role takes for
one.
The model's choice: log entry 3 (an event out of place); log entry 4 (the time that an expiry moves the timebase to).
Its own choices and readings of the rules: log entries 107, 109. -/
def Obligations.PdTimersRun : Prop :=
  ∀ (s : State) (k : Fin 2), s.sys.fwReady → s.flag Fld.Pd.PRESENT k →
    let r := s.onPdCh k fun c => { c with out := [] }
    let c := r.pdCh k
    let ev (i : Instr) (g : Prop) (t : State) : Prop := (g → Goes i s (t.pdIdle k)) ∧ (¬g → Goes i s (r.pdIdle k))
    let role := r.fld Fld.Pd.ROLE k
    let gone : Prop := if c.source then c.cc1 = .open_ ∧ c.cc2 = .open_ else ∀ n, (if c.flip then c.cc2 else c.cc1) ≠ .rp n
    (let t := r.pdTime c.tState (r.fld Fld.Pd.T_CC_DEBOUNCE_MS k)
     (c.st = .attachWaitSnk → c.rpSeen = none → Goes (.ccDebounceDone k) s ((t.pdTo k (t.unattachedOf k)).pdIdle k)) ∧
     (c.st = .attachWaitSnk → c.rpSeen.isSome → (role ≠ 4 ∨ c.limited) → Goes (.ccDebounceDone k) s ((t.pdAttach k false).pdIdle k)) ∧
     (c.st = .attachWaitSnk → c.rpSeen.isSome → role = 4 → c.limited = false →
       Goes (.ccDebounceDone k) s ((t.pdTo k .trySrc).pdIdle k)) ∧
     (c.st = .attachWaitSrc → c.rdSeen = none → Goes (.ccDebounceDone k) s ((t.pdTo k (t.unattachedOf k)).pdIdle k)) ∧
     (c.st = .attachWaitSrc → c.rdSeen.isSome → role ≠ 3 → Goes (.ccDebounceDone k) s ((t.pdAttach k true).pdIdle k)) ∧
     (c.st = .attachWaitSrc → c.rdSeen.isSome → role = 3 → Goes (.ccDebounceDone k) s ((t.pdTo k .trySnk).pdIdle k)) ∧
     (c.st = .tryWaitSnk → c.rpSeen.isSome → Goes (.ccDebounceDone k) s ((t.pdAttach k false).pdIdle k)) ∧
     (c.st ∉ [TcState.attachWaitSnk, .attachWaitSrc, .tryWaitSnk] → Goes (.ccDebounceDone k) s (r.pdIdle k))) ∧
    (let t := r.pdTime (max c.tCc c.tState) (r.fld Fld.Pd.T_PD_DEBOUNCE_MS k)
     (c.st = .trySnk → Goes (.pdDebounceDone k) s ((if c.rpSeen.isSome then t.pdAttach k false else t.pdTo k .tryWaitSrc).pdIdle k)) ∧
     (c.st = .trySrc → Goes (.pdDebounceDone k) s ((if c.rdSeen.isSome then t.pdAttach k true else t.pdTo k .tryWaitSnk).pdIdle k)) ∧
     (c.st = .tryWaitSrc →
       Goes (.pdDebounceDone k) s ((if c.rdSeen.isSome then t.pdAttach k true else t.pdTo k .unattachedSnk).pdIdle k)) ∧
     (c.st = .tryWaitSnk → Goes (.pdDebounceDone k) s ((if c.rpSeen.isSome then t else t.pdTo k .unattachedSnk).pdIdle k)) ∧
     (c.st = .attachWaitSnk →
       Goes (.pdDebounceDone k) s ((if c.rpSeen.isSome then t else t.pdTo k (t.unattachedOf k)).pdIdle k)) ∧
     (c.st = .attachWaitSrc →
       Goes (.pdDebounceDone k) s ((if c.rdSeen.isSome then t else t.pdTo k (t.unattachedOf k)).pdIdle k)) ∧
     (c.attached → gone → c.swapping = false → c.frs = false → Goes (.pdDebounceDone k) s ((t.pdDetach k).pdIdle k)) ∧
     (c.attached → (¬gone ∨ c.swapping ∨ c.frs) → Goes (.pdDebounceDone k) s (t.pdIdle k)) ∧
     (c.st ∈ [TcState.disabled, .errorRecovery, .unattachedSnk, .unattachedSrc] → Goes (.pdDebounceDone k) s (t.pdIdle k))) ∧
    (let t := r.advanceTo (c.tState + us 37500)
     (2 ≤ role → c.st = .unattachedSrc → Goes (.drpToggle k) s ((t.pdTo k .unattachedSnk).pdIdle k)) ∧
     (2 ≤ role → c.st = .unattachedSnk → c.limited = false → Goes (.drpToggle k) s ((t.pdTo k .unattachedSrc).pdIdle k)) ∧
     (role < 2 ∨ c.st ∉ [TcState.unattachedSrc, .unattachedSnk] ∨ (c.st = .unattachedSnk ∧ c.limited) →
       Goes (.drpToggle k) s (r.pdIdle k))) ∧
    Goes (.errorRecoveryDone k) s (((r.pdTime c.tState 25).errRecDone k).pdIdle k) ∧
    (r.heldErr k = false → c.st = .errorRecovery → r.errRecDone k = (r.pdTo k (r.unattachedOf k)).pdCheck k) ∧
    (∀ held, ev (.pdDetach k none held) (c.attached ∧ 250 ≤ held ∧ gone) (r.pdDetach k)) ∧
    (∀ mv held, ev (.pdDetach k (some mv) held)
      (c.attached ∧ 250 ≤ held ∧ c.source = false ∧ mv < 3670 ∧ c.hr = .none ∧
        (c.swapping = false ∨ (c.phase ≠ 3 ∧ c.phase ≠ 5))) (r.pdDetach k)) ∧
    (∀ sop header data,
      (c.attached → c.typeC = false → r.sopHeard k sop.val → ctrlType header ≠ some 1 →
        Goes (.pdMessageReceived k sop header data) s ((r.pdReceive k sop.val header data).pdIdle k)) ∧
      (∀ x, c.attached → c.typeC = false → r.sopHeard k sop.val → ctrlType header = some 1 → c.tx = some x →
        ev (.pdMessageReceived k sop header data) (x.sent ∧ x.sop = sop.val ∧ header / 512 % 8 = x.header / 512 % 8)
          (r.pdDone k 1)) ∧
      ((c.attached = false ∨ c.typeC ∨ r.sopHeard k sop.val = false) →
        Goes (.pdMessageReceived k sop header data) s (r.pdIdle k))) ∧
    (∀ x, c.tx = some x → ev (.crcReceiveTimeout k) x.sent
      (let r := r.pdTime x.t 1
        let n := if x.header / 64 % 4 = 1 then r.fld Fld.Pd.N_RETRY_20 k else r.fld Fld.Pd.N_RETRY_3X k
        if x.tries < n then r.pdFire k { x with tries := x.tries + 1 } else r.pdDone k 2)) ∧
    (∀ x, c.tx = some x → ev (.sinkTxWaitDone k) (x.sent = false ∧ c.source) ((r.pdTime x.t 18).pdFire k x)) ∧
    (∀ t, c.ams = some t →
      let q := (r.pdTime t 500).amsOver k
      (c.tx = none → Goes (.amsTimeout k) s (q.pdIdle k)) ∧
      (∀ x, c.tx = some x → Goes (.amsTimeout k) s ((if x.sent = false ∧ c.source = false then q.pdDone k 4 else q).pdIdle k))) ∧
    (∀ x t, c.resp = some (x, t) → Goes (.senderResponseExpiry k) s
      ((((r.pdTime t (r.fld Fld.Pd.T_SENDER_RESP_MS k)).onPdCh k fun c => { c with resp := none, softOut := false }).pdNoAnswer k
        x c.softOut).pdIdle k)) ∧
    (∀ a, c.run = some a → ev (.psTransitionExpiry k) (a.kind = 1 ∧ c.phase = 3)
      (((r.pdTime c.tPhase (r.fld (if a.epr then Fld.Pd.T_PS_TRANS_EPR_MS else Fld.Pd.T_PS_TRANS_MS) k)).raise 0x0E0A
        k).pdPhaseOut k 0x0A)) ∧
    (∀ a, c.run = some a →
      (a.kind = 4 → c.phase = 3 → Goes (.psSourceTimeout k) s
        (((((r.pdTime c.tPhase 100).onPdCh k fun c => { c with run := none, phase := 0 }).pdNote k 9 []).pdReply a.owed 2).pdIdle
          k)) ∧
      (a.kind ≠ 4 → a.kind ≠ 1 → c.phase = 3 →
        Goes (.psSourceTimeout k) s (((r.pdTime c.tPhase 435).pdPhaseOut k 9).pdIdle k)) ∧
      (a.kind ≠ 1 → c.phase = 5 → Goes (.psSourceTimeout k) s (((r.pdTime c.tPhase 835).pdPhaseOut k 9).pdIdle k)) ∧
      (a.kind = 1 → Goes (.psSourceTimeout k) s (r.pdIdle k))) ∧
    (c.tx = none → Goes (.crcReceiveTimeout k) s (r.pdIdle k) ∧ Goes (.sinkTxWaitDone k) s (r.pdIdle k)) ∧
    (c.ams = none → Goes (.amsTimeout k) s (r.pdIdle k)) ∧
    (c.resp = none → Goes (.senderResponseExpiry k) s (r.pdIdle k)) ∧
    (c.run = none → Goes (.psSourceTimeout k) s (r.pdIdle k) ∧ Goes (.psTransitionExpiry k) s (r.pdIdle k))

/-- O48. R361, R368–R370, R372, R373, R376: resets, power transitions and protection of a PD port that is present, with firmware
ready: each acts in its state, with the measured values that the rule asks for, and has no other effect out of place.
The model's choice: log entry 3 (an event out of place); log entry 4 (the time that an expiry moves the timebase to).
Its own choices and readings of the rules: log entries 106, 109. -/
def Obligations.PdPowerEventsRun : Prop :=
  ∀ (s : State) (k : Fin 2), s.sys.fwReady → s.flag Fld.Pd.PRESENT k →
    let r := s.onPdCh k fun c => { c with out := [] }
    let c := r.pdCh k
    let ev (i : Instr) (g : Prop) (t : State) : Prop := (g → Goes i s (t.pdIdle k)) ∧ (¬g → Goes i s (r.pdIdle k))
    ev (.hardResetReceived k) (c.attached ∧ c.typeC = false) (r.pdHardReset k false 2) ∧
    ev (.psHardResetDone k) (c.hr = .psHardReset)
      (let t := r.pdTime c.tHr 30
       t.onPdCh k fun c =>
         { c with vFrom := t.pdRef k, tSlew := t.now, vTarget := 5000, hr := .rampDown, tHr := t.now, vconn := false }) ∧
    (let n := r.fld Fld.Pd.T_SAFE0V_MS k
     ((c.hr = .rampDown ∨ c.hr = .discharge) → Goes (.safe0vTimeout k) s (((r.pdTime c.tHr n).raise 0x0E05 k).pdIdle k)) ∧
     (c.hr ≠ .rampDown → c.hr ≠ .discharge → c.phase = 4 →
       Goes (.safe0vTimeout k) s (((r.pdTime c.tPhase n).raise 0x0E05 k).pdIdle k)) ∧
     (c.hr ≠ .rampDown → c.hr ≠ .discharge → c.phase ≠ 4 →
       ev (.safe0vTimeout k) c.dschg ((r.pdTime c.tDschg n).raise 0x0E05 k))) ∧
    ev (.srcRecoverDone k) (c.hr = .recover)
      (let t := r.pdTime c.tHr (r.fld Fld.Pd.T_SRC_RECOVER_MS k)
       t.onPdCh k fun c =>
         { c with vFrom := t.pdRef k, tSlew := t.now, vTarget := 5000, hr := .restore, conv := true, dschg := false }) ∧
    ev (.sinkHardResetWaitEnd k) (c.hr = .sinkWait) ((r.pdTime c.tHr 1925).pdDetach k) ∧
    (c.run = none → Goes (.srcTransitionDone k) s (r.pdIdle k)) ∧
    (∀ a, c.run = some a → ev (.srcTransitionDone k) (c.phase = 1)
      (let t := r.pdTime c.tPhase 30
       t.onPdCh k fun c =>
         { c with
           vFrom := t.pdRef k, tSlew := t.now, vTarget := if a.kind = 1 then a.v else 5000
           phase := if a.kind = 1 then 2 else 4, tPhase := t.now })) ∧
    (∀ v held, ev (.sourceChangeDone k v held)
      (c.run.map (·.kind) = some 1 ∧ c.phase = 2 ∧ 95 * c.vTarget ≤ 100 * v ∧ 100 * v ≤ 105 * c.vTarget ∧ 1000 ≤ held)
      ((r.pdOwn k (ownMsg 6 false r.now)).pdComplete k)) ∧
    ev (.srcSettleTimeout k) (c.phase = 2) ((((r.pdTime c.tPhase 275).raise 0x0E05 k).pdNote k 0x0A []).pdEscalate k 3) ∧
    (∀ low, ev (.frsSignalReceived k low)
      (c.st = .attachedSnk ∧ c.source = false ∧ r.flag Fld.Pd.FRS_RX_EN k ∧ 8 ≤ low ∧ low ≤ 120)
      ((r.onPdCh k fun c => { c with frs := true, frsUp := false }).raise 0x0E10 k)) ∧
    (∀ v, ev (.frsVbusDrop k v) (c.frs ∧ c.source = false ∧ v < 4750)
      ((r.onPdCh k fun c =>
        { c with
          source := true, conv := true, vTarget := 5000, vFrom := 5000, tSlew := r.now
          iLimit := min (rpMa (r.advert k)) (c.pLim / 5) }).pdNote k 8 [])) ∧
    (c.okSince = none → Goes (.sourceLimitRestored k) s (r.pdIdle k)) ∧
    (∀ t, c.okSince = some t → ev (.sourceLimitRestored k) c.limited
      (((r.pdTime t 1000).onPdCh k fun c => { c with limited := false }).errRecDone k)) ∧
    (let sourcing : Prop := c.attached ∧ c.source ∧ c.conv
     (∀ v, ev (.pdSrcOv k v) (sourcing ∧ 11 * c.vTarget + 5000 < 10 * v) ((r.pdErrRec k).raise 0x0E01 k)) ∧
     (∀ i held, ev (.pdSrcOc k i held) (sourcing ∧ ((5 * c.iLimit ≤ 4 * i ∧ 10 ≤ held) ∨ 7500 ≤ i))
       ((r.pdErrRec k).raise 0x0E02 k))) ∧
    (∀ v, ev (.pdSinkOv k v) (c.st = .attachedSnk ∧ c.source = false ∧ 115 * c.vTarget < 100 * v)
      ((r.onPdCh k fun c => { c with conv := false }).raise 0x0E03 k)) ∧
    (∀ v, ev (.ccOv k v) (c.attached ∧ 6000 < v) (((r.pdErrRec k).onPdCh k fun c => { c with ccOpen := true }).raise 0x0E0F k)) ∧
    (∀ i held, ev (.vconnOc k i held) (c.vconn ∧ 300 < i ∧ 1 ≤ held)
      ((r.onPdCh k fun c => { c with vconn := false, vconnTrip := true }).raise 0x0E04 k)) ∧
    (let level (l : Fin 3) (t : State) : Prop := Goes (.vbusLevelReached k l) s (t.pdIdle k)
     (c.hr = .rampDown → level 0 (r.onPdCh k fun c => { c with hr := .discharge, conv := false, dschg := true })) ∧
     (c.hr = .none → c.phase = 4 → c.conv → level 0 (r.onPdCh k fun c => { c with conv := false, dschg := true })) ∧
     (c.hr ≠ .rampDown → (c.phase ≠ 4 ∨ c.conv = false) → level 0 r) ∧
     ((c.hr = .discharge ∨ c.hr = .rampDown) →
       level 1 (r.onPdCh k fun c => { c with hr := .recover, tHr := r.now, conv := false, dschg := false })) ∧
     (c.hr = .none → c.phase = 4 → level 1
       ((r.onPdCh k fun c =>
         { c with phase := 3, tPhase := r.now, conv := false, dschg := false, rp := 0, vTarget := 0 }).pdOwn k
           (ownMsg 6 false r.now))) ∧
     (c.hr = .none → c.phase ≠ 4 →
       level 1 (r.onPdCh k fun c => { c with dschg := c.dschg && c.st = .errorRecovery && r.ctrlDown })) ∧
     (c.hr = .restore → level 2 (r.pdRestored k)) ∧
     (c.hr = .sinkWait → level 2 ((r.onPdCh k fun c => { c with hr := .none, hrSwap := false }).pdResetEvent k)) ∧
     (c.hr = .none → c.phase = 6 →
       level 2 (((r.pdOwn k (ownMsg 6 false r.now)).onPdCh k fun c => { c with frs := false, frsUp := false }).pdComplete k)) ∧
     (c.hr = .none → c.phase ≠ 6 → c.frs → c.source → level 2 (r.onPdCh k fun c => { c with frsUp := true })) ∧
     (c.hr = .none → c.phase ≠ 6 → (c.frs = false ∨ c.source = false) → level 2 r)) ∧
    (c.bist = none → Goes (.bistCarrierEnd k) s (r.pdIdle k)) ∧
    (∀ t, c.bist = some t → Goes (.bistCarrierEnd k) s (((r.pdTime t 45).onPdCh k fun c => { c with bist := none }).pdIdle k)) ∧
    (∀ a b : CcPin,
      let q := (s.onPdCh k fun c => { c with cc1 := a, cc2 := b, tCc := s.now, ccOpen := false }).onPdCh k fun c => { c with out := [] }
      (c.attached = false → Goes (.ccStateChange k a b) s ((q.pdCheck k).pdIdle k)) ∧
      (c.attached → (c.st ≠ .attachedSnk ∨ c.source) → Goes (.ccStateChange k a b) s ((q.vconnSet k).pdIdle k)) ∧
      (c.st = .attachedSnk → c.source = false →
        ((∀ n, (if c.flip then b else a) ≠ .rp n) → Goes (.ccStateChange k a b) s (q.pdIdle k)) ∧
        (∀ n, (if c.flip then b else a) = .rp n →
          let t := q.onPdCh k fun c =>
            { c with rp := n, sinkTxOk := n = 3, iLimit := if c.contract then c.iLimit else rpMa n }
          (c.tx = none → Goes (.ccStateChange k a b) s (t.pdIdle k)) ∧
          (∀ x, c.tx = some x → x.sent = false → n = 3 → Goes (.ccStateChange k a b) s ((t.pdFire k x).pdIdle k)) ∧
          (∀ x, c.tx = some x → (x.sent ∨ n ≠ 3) → Goes (.ccStateChange k a b) s (t.pdIdle k)))))

/-- O49. R358: nothing happens on a PD port that is not present, nor on any before firmware is ready: its timers and events change
nothing; what its CC pins show is recorded.
The model's choice: log entry 3 (an event out of place changes nothing). -/
def Obligations.AbsentPdPortsRest : Prop :=
  ∀ (s : State) (k : Fin 2) (a b : Nat) (m : Option Nat) (l : Fin 3) (d : List Byte) (x y : CcPin),
    (s.sys.fwReady = false ∨ s.flag Fld.Pd.PRESENT k = false) →
    Goes (.ccStateChange k x y) s (s.onPdCh k fun c => { c with cc1 := x, cc2 := y, tCc := s.now, ccOpen := false }) ∧
    ∀ c ∈ [Instr.ccDebounceDone k, .pdDebounceDone k, .drpToggle k, .errorRecoveryDone k, .pdDetach k m a, .crcReceiveTimeout k,
      .sinkTxWaitDone k, .amsTimeout k, .senderResponseExpiry k, .psTransitionExpiry k, .psSourceTimeout k, .hardResetReceived k,
      .psHardResetDone k, .safe0vTimeout k, .srcRecoverDone k, .sinkHardResetWaitEnd k, .srcTransitionDone k,
      .sourceChangeDone k a b, .srcSettleTimeout k, .frsSignalReceived k a, .frsVbusDrop k a, .sourceLimitRestored k,
      .pdSrcOv k a, .pdSrcOc k a b, .pdSinkOv k a, .ccOv k a, .vconnOc k a b, .bistCarrierEnd k, .pdMessageReceived k l a d,
      .vbusLevelReached k l], Goes c s s

/-- O50. R122, R376–R380: the PD commands on one port: parameters and states that are refused; a control and a message wait for
protocol idle, where they are done, one after another; PD_EVENT takes what is queued; PD_POWER is armed, or changes the limits at
the present voltage at once; PD_SWAP is armed.
Its own choice or reading of the rules: log entry 106. -/
def Obligations.PdCommandsRun : Prop :=
  ∀ (s : State) (o : Origin) (p : List Byte) (k : Fin 2),
    (s.single 0x0E (u p 0 2) = none →
      (s.admits o 0x0E01 1 → Goes (.pdControl o p) s (s.answer o 0x0E01 st.badParam [])) ∧
      (s.admits o 0x0E02 1 → Goes (.pdTx o p) s (s.answer o 0x0E02 st.badParam [])) ∧
      (s.admits o 0x0E03 1 → Goes (.pdEvent o p) s (s.answer o 0x0E03 st.badParam [])) ∧
      (s.admits o 0x0E04 1 → Goes (.pdPower o p) s (s.answer o 0x0E04 st.badParam [])) ∧
      (s.admits o 0x0E05 1 → Goes (.pdSwap o p) s (s.answer o 0x0E05 st.badParam []))) ∧
    (s.single 0x0E (u p 0 2) = some k.val →
      let c := s.pdCh k
      let a := s.accepted o 1
      (s.admits o 0x0E01 1 →
        let act := u p 2 1
        let good : Prop := p.length = 4 ∧ 1 ≤ act ∧ act ≤ 9 ∧ u p 3 1 = 0
        let can : Prop := s.flag Fld.Pd.PRESENT k ∧ (6 ≤ act → c.attached) ∧ (act = 7 → c.vconnSrc) ∧
          (act = 8 → s.flag Fld.Pd.FRS_TX_EN k ∧ c.source) ∧ (s.ctrlDown → act < 3 ∨ 5 < act)
        (¬good → Goes (.pdControl o p) s (s.answer o 0x0E01 st.badParam [])) ∧
        (good → ¬can → Goes (.pdControl o p) s (s.answer o 0x0E01 st.state [])) ∧
        (good → can → Goes (.pdControl o p) s
          (((a.onPdCh k fun c => { c with out := [] }).await o 0x0E01 (2 ^ k.val) 0 [byte act]).pdIdle k))) ∧
      (s.admits o 0x0E02 1 →
        let can : Prop := c.attached ∧ c.typeC = false ∧ (u p 2 1 = 0 ∨ c.vconnSrc)
        (txParams p = false → Goes (.pdTx o p) s (s.answer o 0x0E02 st.badParam [])) ∧
        (txParams p → ¬can → Goes (.pdTx o p) s (s.answer o 0x0E02 st.state [])) ∧
        (txParams p → can → Goes (.pdTx o p) s
          (((a.onPdCh k fun c => { c with out := [] }).await o 0x0E02 (2 ^ k.val) 0 (p.drop 2)).pdIdle k))) ∧
      (s.admits o 0x0E03 1 →
        let evs := fitEvents (maxData - 1) c.queue
        (p.length ≠ 2 → Goes (.pdEvent o p) s (s.answer o 0x0E03 st.badParam [])) ∧
        (p.length = 2 → Replies (.pdEvent o p) s
          ((a.onPdCh k fun c => { c with queue := c.queue.drop evs.length }).pdDrain k) o 0x0E03 st.ok
          (byte evs.length :: evs.flatten))) ∧
      (s.admits o 0x0E04 1 →
        let can : Prop := c.attached ∧ c.typeC = false ∧ (u p 8 4 ≤ 3000 ∨ s.vconnIn) ∧
          (u p 2 1 = 1 ∨ (u p 4 4 = c.vTarget ∧ c.run = none))
        let x : Armed :=
          { kind := 1, epr := bitOf (u p 3 1) 0, v := u p 4 4, i := u p 8 4, p := u p 12 4, owed := some ⟨o, 0x0E04, []⟩ }
        (powerParams p = false → Goes (.pdPower o p) s (s.answer o 0x0E04 st.badParam [])) ∧
        (powerParams p → ¬can → Goes (.pdPower o p) s (s.answer o 0x0E04 st.state [])) ∧
        (powerParams p → can → u p 2 1 = 1 → Goes (.pdPower o p) s (a.pdArm k x)) ∧
        (powerParams p → can → u p 2 1 = 0 → Goes (.pdPower o p) s
          (((a.pdArm k x).onPdCh k fun c => { c with armed := none, run := some x }).pdComplete k))) ∧
      (s.admits o 0x0E05 1 →
        let good : Prop := p.length = 4 ∧ 1 ≤ u p 2 1 ∧ u p 2 1 ≤ 4 ∧ u p 3 1 = 0
        let can : Prop := c.attached ∧ c.typeC = false
        (¬good → Goes (.pdSwap o p) s (s.answer o 0x0E05 st.badParam [])) ∧
        (good → ¬can → Goes (.pdSwap o p) s (s.answer o 0x0E05 st.state [])) ∧
        (good → can → Goes (.pdSwap o p) s
          (a.pdArm k { kind := u p 2 1 + 1, epr := false, v := 0, i := 0, p := 0, owed := some ⟨o, 0x0E05, []⟩ })))) ∧
    (∀ w n, s.hif.waits = [w] → w.left.testBit k → (s.pdCh k).idle →
      let t := s.onHif fun h => { h with waits := [] }
      (w.op = 0x0E01 → s.pdRefuse (u w.data 0 1) k = st.ok →
        s.pdServe (n + 1) k = ((t.pdControl k (u w.data 0 1)).finish w.o 0x0E01 st.ok []).pdServe n k) ∧
      (w.op = 0x0E02 → s.txRefuse (u w.data 0 1) k = false →
        s.pdServe (n + 1) k = t.pdBegin k (txOf w.data s.now ⟨w.o, 0x0E02, []⟩))) ∧
    (s.pdControl k 1 = (s.onPdCh k fun c => { c with typeC := false, hardResets := 0 }) ∧ s.pdControl k 2 = s.pdTypeC k ∧
      s.pdControl k 3 = (if (s.pdCh k).attached then s.pdDrop k else s).pdTo k .disabled ∧
      ((s.pdCh k).st = .disabled → s.pdControl k 4 = (s.pdTo k (s.unattachedOf k)).pdCheck k) ∧
      ((s.pdCh k).st ≠ .disabled → s.pdControl k 4 = s) ∧
      s.pdControl k 7 = ((s.pdOut k [0xF1]).onPdCh k fun c => (c.clearIds 1).clearIds 2) ∧
      s.pdControl k 5 = s.pdErrRec k ∧ s.pdControl k 6 = s.pdHardReset k true 2 ∧ s.pdControl k 8 = s.pdOut k [0xF2] ∧
      s.pdControl k 9 = ((s.pdOut k [0xF3]).onPdCh k fun c => { c with bist := some s.now })) ∧
    (∀ x : PdTx, x.ams = false → s.pdBegin k x = s.pdFire k x) ∧
    (∀ x : Armed, (s.pdCh k).armed = none → s.pdArm k x = s.onPdCh k fun c => { c with armed := some x })

/-! ## The sequencer, measurement and thermal -/

/-- O51. R44, R59, R385, R386, R388, R389, R392–R394, R396, R401, R402: the sequencer's events, the environment monitors, the
watchdog input and their commands; out of place, or short of the time that the rule asks for, nothing changes.
The model's choice: log entry 3 (an event out of place changes nothing); log entry 4 (the time that an expiry moves the timebase to).
Its own choices and readings of the rules: log entries 111, 112, 113, 152. -/
def Obligations.SequencerRuns : Prop :=
  ∀ (s : State) (m : Fin 16) (o : Origin) (p : List Byte),
    (let step := seqStepOf s.seq.table s.seq.step
     let waiting : Prop := s.seq.st = .running ∧ s.seq.phase = .wait
     (∀ t, s.seq.settleSince = some t → Fires .seqStepSettled s (waiting ∧ s.seq.cond)
       (s.advanceTo (tickUp (t + us (10 * u step 8 2)))).seqDelay) ∧
     (s.seq.settleSince = none → Goes .seqStepSettled s s) ∧
     Fires .seqStepTimeout s waiting ((s.advanceTo (tickUp (s.seq.tStep + ms (u step 10 2)))).seqFail 0x0F01) ∧
     Fires .seqDelayDone s (s.seq.st = .running ∧ s.seq.phase = .delay)
       (s.advanceTo (tickUp (s.seq.tPhase + ms (u step 12 2)))).seqNext ∧
     Fires .seqChatter s
       (waiting ∧ s.seq.trans.length = 9 ∧ s.seq.trans.head?.getD 0 ≤ s.seq.trans.getLast?.getD 0 + us (10 * u step 8 2))
       ((if seqKind s.seq.table = 1 then s else s.onSeq fun q => { q with bad := q.moved }).seqFail 0x0F02)) ∧
    (∀ j : Fin 32, let t := seqStepOf s.seq.table j.val
      Fires (.seqMemberLost j) s
        (s.seq.st = .running ∧ j.val < s.seq.step ∧ s.stepBad t ≠ (0, 0))
        (((s.onSeq fun q => { q with bad := s.stepBad t }).raise 0x0F04).onSeq fun q =>
          { q with
            bad := s.seq.bad
            lost := if seqKind s.seq.table ≠ 1 ∧ u t 14 1 ≠ 1 then q.lost ++ [j.val] else q.lost })) ∧
    (∀ level held,
      let r := s.pinEdge 5 level (us held)
      let heeded : Prop := s.sys.vioHost ∧ s.fld Fld.Seq.SEQ_IN_FILT_US ≤ held
      (heeded → Goes (.seqInChange level held) s (r.onSeq fun q => { q with seqIn := level }).seqEval) ∧
      (¬heeded → Goes (.seqInChange level held) s r)) ∧
    (∀ low,
      let r := if s.seq.fltPin then s.pinEdge 7 false (us low) else s
      let t := r.onSeq fun q => { q with fltPin := false }
      let heeded : Prop := s.sys.vioHost ∧ 2 ≤ low
      (¬heeded → Goes (.seqFltSensed low) s r) ∧
      (heeded → s.seq.fltPin → s.seq.fltOwn = false → Goes (.seqFltSensed low) s
        ((t.raise 0x0F05).onSeq fun q => { q with fltDue := true })) ∧
      (heeded → (s.seq.fltPin = false ∨ s.seq.fltOwn) → Goes (.seqFltSensed low) s t)) ∧
    Fires .seqFltReleased s s.sys.vioHost ((s.pinEdge 7 true 0).onSeq fun q => { q with fltPin := true }) ∧
    ((s.flag Fld.Seq.AUTO_SEQ = false → s.autoSeq = s) ∧
     (s.flag Fld.Seq.AUTO_SEQ → s.autoSeq = s.onSeq fun q => { q with deferred := true }) ∧
     (s.seq.lost = [] → s.seq.fltDue = false → s.seq.startDue = none →
      let r := s.onSeq fun q => { q with lost := [] }
      let go : Prop := s.seq.deferred ∧ s.seq.st = .idle ∧ s.sys.fwReady ∧ s.sys.mode ≠ .coldReset ∧ 44000 ≤ s.vBus ∧
        s.vBus ≤ 57600 ∧ s.fltLow = false ∧ s.ctrlDown = false
      (go → s.seqTick =
        ((r.onSeq fun q => { q with deferred := false }).seqBegin (s.fld Fld.Seq.PWRUP_INST)).seqEval.wdTick) ∧
      (¬go → s.seqTick = r.seqEval.wdTick))) ∧
    (let e := s.seq.em[m]
     let turns : Prop := s.flag Fld.Seq.EN m ∧ s.fld Fld.Seq.FILT m ≤ e.count
     let r := s.onSeq fun q =>
       { q with em := upd q.em m fun e => { e with out := true, count := 0 }, emFault := m.val, emValue := e.vRail }
     (¬turns ∨ e.out → Goes (.emWindowExit m) s s) ∧
     (turns → e.out = false → s.fld Fld.Seq.ACTION m = 0 → Goes (.emWindowExit m) s (r.raise 0x0F06 m).seqEval) ∧
     (turns → e.out = false → s.fld Fld.Seq.ACTION m = 2 → Goes (.emWindowExit m) s (r.raise 0x0F07 m).fltAssert.seqEval) ∧
     (turns → e.out = false → s.fld Fld.Seq.ACTION m ≠ 0 → s.fld Fld.Seq.ACTION m ≠ 2 →
       Goes (.emWindowExit m) s (r.raise 0x0F07 m).seqEval) ∧
     Fires (.emWindowEnter m) s (turns ∧ e.out)
       (s.onSeq fun q => { q with em := upd q.em m fun e => { e with out := false, count := 0 } }).seqEval) ∧
    (let expired (t : State) : State :=
       let r := (t.onSeq fun q =>
         { q with wdArm := none, wdEdge := none, pulse := some t.now, expiries := satAdd 0xFFFF q.expiries 1 }).raise 0x0F08
       let inst := r.fld Fld.Seq.WD_SEQ
       let kind := seqKind (r.seqTable inst)
       if inst = 0xFF ∨ r.hasTable 0x06 inst = false then r
       else if kind = 1 ∨ (r.seq.st = .idle ∧ ¬(kind = 0 ∧ r.fltLow)) then
         r.onSeq fun q => { q with startDue := some (inst, kind = 1) }
       else r
     (∀ t, let r := (s.advanceTo t).pinEdge 6 true (us 1)
       (s.seq.wdArm = none ∨ s.sys.vioHost = false → Goes (.wdiEdge t) s r) ∧
       (∀ a, s.seq.wdArm = some a → s.sys.vioHost →
         let noted := r.onSeq fun q => { q with wdEdge := some r.now }
         (s.seq.wdEdge = none → r.now ≤ a + ms (s.fld Fld.Seq.WD_START_MS) → Goes (.wdiEdge t) s noted) ∧
         (s.seq.wdEdge = none → a + ms (s.fld Fld.Seq.WD_START_MS) < r.now → Goes (.wdiEdge t) s (expired r)) ∧
         (∀ e, s.seq.wdEdge = some e →
           (e + ms (s.fld Fld.Seq.WD_MIN_MS) ≤ r.now → r.now ≤ e + ms (s.fld Fld.Seq.WD_MAX_MS) → Goes (.wdiEdge t) s noted) ∧
           (r.now < e + ms (s.fld Fld.Seq.WD_MIN_MS) ∨ e + ms (s.fld Fld.Seq.WD_MAX_MS) < r.now →
             Goes (.wdiEdge t) s (expired r))))) ∧
     (s.seq.wdArm = none → Goes .wdiExpiry s s) ∧
     (∀ a, s.seq.wdArm = some a →
       (s.seq.wdEdge = none → Goes .wdiExpiry s (expired (s.advanceTo (a + ms (s.fld Fld.Seq.WD_START_MS))))) ∧
       (∀ e, s.seq.wdEdge = some e → Goes .wdiExpiry s (expired (s.advanceTo (e + ms (s.fld Fld.Seq.WD_MAX_MS))))))) ∧
    (s.seq.pulse = none → Goes .rstPulseEnd s s) ∧
    (∀ t, s.seq.pulse = some t → Goes .rstPulseEnd s
      ((s.advanceTo (t + ms (s.fld Fld.Seq.RST_PULSE_MS))).onSeq fun q => { q with pulse := none }).wdTick) ∧
    (s.admits o 0x0F01 1 →
      let inst := u p 0 1
      let good : Prop := p.length = 2 ∧ inst ≤ 7 ∧ u p 1 1 ≤ 1 ∧ s.hasTable 0x06 inst
      let kind := seqKind (s.seqTable inst)
      let busy : Prop := s.ctrlDown ∨ (kind = 0 ∧ s.fltLow) ∨ (kind ≠ 1 ∧ s.seq.st ≠ .idle)
      (¬good → Goes (.seqStart o p) s (s.answer o 0x0F01 st.badParam [])) ∧
      (good → busy → Goes (.seqStart o p) s (s.answer o 0x0F01 st.state [])) ∧
      (good → ¬busy → Waits (.seqStart o p) s (s.accepted o 1) o 0x0F01 1 0 ([0, 0] ++ zeros 4 ++ p.take 2))) ∧
    (s.admits o 0x0F02 1 →
      let a := u p 0 1
      let good : Prop := p.length = 2 ∧ 1 ≤ a ∧ a ≤ 3 ∧ u p 1 1 = 0
      let idle : Prop := (a = 1 ∧ s.seq.st = .idle) ∨ (a = 2 ∧ s.seq.st ≠ .held)
      (¬good → Goes (.seqControl o p) s (s.answer o 0x0F02 st.badParam [])) ∧
      (good → idle → Goes (.seqControl o p) s (s.answer o 0x0F02 st.state [])) ∧
      (good → ¬idle → Waits (.seqControl o p) s (s.accepted o 1) o 0x0F02 1 0 ([0, 0] ++ zeros 4 ++ p.take 2))) ∧
    (∀ w, s.hif.waits = [w] → w.started = 0 →
      let t := s.onHif fun h => { h with waits := [] }
      (w.op = 0x0F02 → s.seqServe = (t.seqControl (u w.own 0 1)).2.finish w.o 0x0F02 (t.seqControl (u w.own 0 1)).1 []) ∧
      (w.op = 0x0F01 → s.startRefuse (u w.own 0 1) = false → u w.own 1 1 = 1 →
        s.seqServe = (t.seqBegin (u w.own 0 1)).finish w.o 0x0F01 st.ok [0, byte (t.seqBegin (u w.own 0 1)).seq.step]) ∧
      (w.op = 0x0F01 → s.startRefuse (u w.own 0 1) = false → u w.own 1 1 ≠ 1 → s.seqServe =
        (s.seqPreempt.onHif fun h => { h with waits := h.waits.replace w (w.start 0) }).seqBegin (u w.own 0 1)) ∧
      (w.op = 0x0F01 → s.startRefuse (u w.own 0 1) → s.seqServe = t.finish w.o 0x0F01 st.state [])) ∧
    (s.seq.st ≠ .idle → s.seqControl 1 = (st.ok, (s.seqStop .idle).seqReply 3)) ∧
    (s.seq.st = .held → s.seqControl 2 = (st.ok, (s.onSeq fun q => { q with st := .running }).seqFrom 33 s.seq.step)) ∧
    s.seqControl 3 = (st.ok, s.onSeq fun q => { q with fltOwn := false }) ∧
    (s.admits o 0x0F04 0 →
      (p ≠ [] → Goes (.emStatus o p) s (s.answer o 0x0F04 st.badParam [])) ∧
      (p = [] → Replies (.emStatus o p) s
        ((s.accepted o 0).onSeq fun q => { q with em := q.em.map fun e => { e with mn := e.vRail, mx := e.vRail, fresh := true } })
        o 0x0F04 st.ok
        (s.seq.em.toList.flatMap fun e => toLE 4 e.vRail ++ toLE 2 (min 0xFFFF (e.mn / 10)) ++ toLE 2 (min 0xFFFF (e.mx / 10)))))

/-- O52. R44, R408–R411, R415, R418–R420, R423–R427, R433–R435: conversions, the triad, the counters and tachometers, the
calibration pass and the commands of measurement.
The model's choice: log entry 3 (an event out of place changes nothing); log entry 4 (the time that an expiry moves the timebase to);
log entries 5, 17 (what a conversion carries; the statistics of no sample).
Its own choices and readings of the rules: log entries 114–119, 155. -/
def Obligations.MeasurementRuns : Prop :=
  ∀ (s : State) (o : Origin) (p : List Byte),
    (∀ (k : Fin 10) v spares d,
      let a := s.adc k
      let waits := s.waitsTrig k
      let untrig := s.entryTrig k a.pos && !waits
      let from_ (start : Nat) : State := (s.advanceTo (start + s.convTime k)).convert k v spares untrig untrig d
      (s.unitOn k = false ∨ (waits ∧ a.event = none) → Goes (.adcConversion k v spares d) s s) ∧
      (s.unitOn k → waits = false → Goes (.adcConversion k v spares d) s (from_ a.tPos)) ∧
      (∀ t, s.unitOn k → waits → a.event = some t →
        Goes (.adcConversion k v spares d) s (from_ (t + s.fld (Fld.Meas.DELAY a.pos) k + 3)))) ∧
    (∀ (k : Fin 8) v spares,
      let r := s.advanceTo ((s.adc k).tPos + us 20 + s.convTime k)
      let miss (note : State → State) (t : Option Nat) : State :=
        (note (r.onUnit k fun a => { a with trigMisses := satAdd 0xFFFF a.trigMisses 1, tMiss := t })).convert k v spares true
          false true
      let missed : Prop := s.waitsTrig k ∧ (s.adc k).event = none
      (¬missed → Goes (.triggerMiss k v spares) s s) ∧
      (missed → (s.adc k).tMiss = none → Goes (.triggerMiss k v spares) s (miss (fun x => x.raise 0x1007 k) (some r.now))) ∧
      (∀ t, missed → (s.adc k).tMiss = some t → t + sec 60 ≤ r.now → Goes (.triggerMiss k v spares) s
        (miss (fun x => x.raise 0x1007 k) (some r.now))) ∧
      (∀ t, missed → (s.adc k).tMiss = some t → r.now < t + sec 60 → Goes (.triggerMiss k v spares) s (miss id (some t)))) ∧
    (∀ t, let off := s.meas.triadOff
      let clear := s.onMeas fun m => { m with triadOff := Vector.replicate 3 0 }
      (off[0] < 256 → off[1] < 256 → off[2] < 256 → Goes (.triadDisagree t) s s) ∧
      (off[0] < 256 → (256 ≤ off[1] ∨ 256 ≤ off[2]) → Goes (.triadDisagree t) s (clear.raise 0x100A)) ∧
      (256 ≤ off[0] →
        let r := clear.raise 0x100A 6
        (r.unitIn 6 = false → Goes (.triadDisagree t) s r) ∧
        (r.unitIn 6 → Goes (.triadDisagree t) s (r.onUnit 6 fun a => { a with test := some t })))) ∧
    (∀ (k : Fin 8) rising held, Fires (.captureEdge k rising held) s
      (s.fld Fld.Meas.MODE k = 2 ∧ s.fld Fld.Meas.FILT_TICKS k ≤ held ∧
        (if s.fld Fld.Meas.INPUT k ≤ 4 then s.sys.vioPwm else s.sys.vioHost) = true)
      (let t := (s.now - held) % 2 ^ 32
       let diff (b : Nat) : Nat := (t + 2 ^ 32 - b % 2 ^ 32) % 2 ^ 32
       s.onCc k fun c =>
         if rising then
           if c.level ∧ 0 < c.rises ∧ c.rise = t then c
           else { c with prevRise := c.rise, rise := t, periodCap := diff c.rise, rises := min 2 (c.rises + 1), level := true }
         else { c with fall := t, width := diff c.rise, widthOk := c.widthOk || 0 < c.rises, level := false })) ∧
    (∀ (k : Fin 8), Fires (.ccCounterWrap k) s (s.ccCounts k)
      (let c := s.meas.cc[k]
       let s := s.advanceTo (c.tZero + c.period + 1)
       (s.onCc k fun c =>
         { c with
           tZero := s.now, period := s.fld Fld.Meas.PERIOD k, compare := s.fld Fld.Meas.COMPARE k,
           out := s.ccPin k (decide (0 < s.fld Fld.Meas.COMPARE k)) }).boundary .meas2 k .main)) ∧
    (∀ (k : Fin 8), let c := s.meas.cc[k]
      Fires (.ccCompareMatch k) s (s.ccCounts k ∧ 0 < c.compare ∧ c.compare ≤ c.period)
        (let s := s.advanceTo (c.tZero + c.compare)
         let s := if c.period < us 20 then s.adcTrigger (0x20 + k) else s
         s.onCc k fun c => { c with out := s.ccPin k false })) ∧
    (∀ src (k : Fin 8),
      let a := s.adc k
      let waits : Prop := a.event = none ∧ s.fld (Fld.Meas.TRIG_SRC a.pos) k = src ∧ s.flag (Fld.Meas.TRIG a.pos) k ∧
        s.now ≤ a.tPos + us 20
      (waits → ((s.adcTrigger src).adc k).event = some s.now) ∧ (¬waits → (s.adcTrigger src).adc k = a)) ∧
    (∀ (m : Fin 4),
      (s.sys.vioPwm = false → Goes (.tachEdge m) s s) ∧
      (s.sys.vioPwm →
        let t := s.pinEdge m false 0
        let rpm := match (s.meas.tach[m]).tLast with
          | some t => 6000000000 / max 1 ((s.now - t) * s.fld (Fld.Meas.TACH_PPR m))
          | none => (s.meas.tach[m]).rpm
        Goes (.tachEdge m) s
          ((t.onMeas fun x => { x with tach := upd x.tach m fun _ => { tLast := some s.now, rpm := rpm } }).measure (204 + m)
            (Int.ofNat rpm)))) ∧
    (∀ (m : Fin 4),
      let stop (r : State) : State :=
        (r.onMeas fun x => { x with tach := upd x.tach m fun t => { t with rpm := 0 } }).measure (204 + m) 0
      ((s.meas.tach[m]).tLast = none → Goes (.tachTimeout m) s (stop s)) ∧
      (∀ t, (s.meas.tach[m]).tLast = some t → Goes (.tachTimeout m) s (stop (s.advanceTo (t + sec 1))))) ∧
    (∀ tests,
      let free : Prop := s.sys.mode = .running ∧ s.meas.cal = .idle ∧ s.flag Fld.Meas.CAL_EN
      let moved : Prop := ∃ t, s.dieTemp = some t ∧ 10 * (s.fld Fld.Meas.CAL_DELTA_C : Int) < |t - s.meas.tPass|
      let asked : Prop := ∃ w ∈ s.hif.waits, w.op = 0x1004
      (¬free → Goes (.calPassStart tests) s s) ∧
      (free → (moved ∨ asked) → Goes (.calPassStart tests) s (s.calStart tests)) ∧
      (∀ t, free → ¬moved → ¬asked → s.meas.calDue = some t → Goes (.calPassStart tests) s ((s.advanceTo t).calStart tests)) ∧
      (free → ¬moved → ¬asked → s.meas.calDue = none → Goes (.calPassStart tests) s s)) ∧
    Fires .calPassComputed s (s.meas.cal = .computing ∧ s.now ≤ s.meas.tCal + ms 250)
      (let t := (s.each s.meas.gains State.gainJudge).each (List.range 153) State.zeroJudge
       (t.onMeas fun m => { m with cal := .applying }).calLand t.elemStopped) ∧
    (∀ unit gain (d : Int),
      let new := s.meas.corr unit (gain + 1) + d
      (|d| ≤ 10000 → |new| ≤ 30000 → s.gainJudge (unit, gain, d) =
        s.onMeas fun m => { m with landing := m.landing ++ [(unit, gain + 1, new)] }) ∧
      (10000 < |d| → s.gainJudge (unit, gain, d) = s.raise 0x1005 (elemUnit unit)) ∧
      (|d| ≤ 10000 → 30000 < |new| → unit < 10 → s.gainJudge (unit, gain, d) = s.unitFail unit)) ∧
    Fires .calPassTimeout s (s.meas.cal = .triad ∨ s.meas.cal = .shadow ∨ s.meas.cal = .computing)
      (let t := s.advanceTo (s.meas.tCal + ms 250)
       ((t.onMeas fun m =>
         { m with
           cal := .idle, mains := [], calDue := m.calDue.filter fun x => t.now < x, landing := []
           discarded := satAdd 0xFFFF m.discarded 1 }).raise 0x1004).calReply st.timeout) ∧
    Fires .calPassAccepted s (s.meas.cal = .applying ∧ s.meas.landing = [])
      (let r := s.onMeas fun m =>
        { m with
          cal := .idle, mains := [], calDue := m.calDue.filter fun x => s.now < x
          calCount := m.calCount + 1, tLast := s.now, tPass := m.calTemp }
       ((r.raise 0x1009).vWrite 0x20 r.meas.item).calReply st.ok) ∧
    (s.admits o 0x1004 1 →
      let able : Prop := s.meas.cal = .idle ∧ s.flag Fld.Meas.CAL_EN ∧ s.sys.mode = .running ∧ ∀ w ∈ s.hif.waits, w.op ≠ 0x1004
      (p ≠ [] → Goes (.calRun o p) s (s.answer o 0x1004 st.badParam [])) ∧
      (p = [] → ¬able → Goes (.calRun o p) s (s.answer o 0x1004 st.state [])) ∧
      (p = [] → able → Waits (.calRun o p) s (s.accepted o 1) o 0x1004 0 0 [])) ∧
    (s.admits o 0x1002 0 →
      let t := u p 0 1
      let good : Prop := p.length = 2 ∧ u p 1 1 = 0 ∧ (t < 8 ∨ t = 0x10 ∨ t = 0x11)
      let opened : Prop := s.flag Fld.Meas.DIAG_EN ∧ s.fld Fld.Meas.DIAG_UNIT = t
      (¬good → Goes (.measPeek o p) s (s.answer o 0x1002 st.badParam [])) ∧
      (good → t < 8 → ¬opened → Goes (.measPeek o p) s (s.answer o 0x1002 st.state [])) ∧
      (good → t < 8 → opened → Replies (.measPeek o p) s
        ((s.accepted o 0).onMeas fun m => { m with diag := { m.diag with overrun := false }, diagRead := true }) o 0x1002 st.ok
        (toLE 4 s.meas.diag.word)) ∧
      (good → 8 ≤ t → Replies (.measPeek o p) s (s.accepted o 0) o 0x1002 st.ok
        (toLE 4 (if t = 0x10 then s.now else s.now / 2 ^ 32)))) ∧
    (let good : Prop := p.length = 4 ∧ u p 2 1 < 2 ∧ u p 3 1 = 0 ∧ telNamed (u p 0 2)
     (u p 2 1 = 0 → s.admits o 0x1003 0 →
       (¬good → Goes (.telemRead o p) s (s.answer o 0x1003 st.badParam [])) ∧
       (good → Replies (.telemRead o p) s (s.accepted o 0).drew.drew.drew o 0x1003 st.ok (s.telReport (u p 0 2)))) ∧
     (u p 2 1 = 1 → s.admits o 0x1003 1 →
       (¬good → Goes (.telemRead o p) s (s.answer o 0x1003 st.badParam [])) ∧
       (good → Replies (.telemRead o p) s
         ((s.accepted o 1).drew.drew.drew.onMeas fun m =>
           { m with tel := upd m.tel (fin 256 (u p 0 2)) fun t =>
             { t with mn := 0, mx := 0, sum := 0, cnt := 0, tStart := s.now } })
         o 0x1003 st.ok (s.telReport (u p 0 2)))))

/-- O53. R44, R438–R443, R449, R450: the temperature windows, the shutdown of a zone and its end, and the fans.
The model's choice: log entry 3 (an event out of place changes nothing); log entry 4 (the time that an expiry moves the timebase to).
Its own choices and readings of the rules: log entries 122, 123, 124. -/
def Obligations.ThermalRuns : Prop :=
  ∀ s : State,
    (∀ temps : Vector Int 20, Goes (.thermalWindow temps) s
      (let s := s.each (List.range 20) fun j s => s.sensorWindow j temps[fin 20 j]
       let s := (s.onTherm fun h => { h with tHot := (s.hottest (List.range 20)).getD h.tHot }).ctrlBand
       s.onTherm fun h =>
         { h with zone := Vector.ofFn fun z =>
             let x := h.zone[z]
             { x with coolSince := if x.shut && !s.zoneAt 1250 z.val then some (x.coolSince.getD s.now) else none } })) ∧
    (∀ z : Fin 4,
      let r := s.onTherm fun h => { h with zone := upd h.zone (fin 5 z) fun _ => { shut := true, coolSince := none } }
      let entries := recent s.now (sec 3600) s.therm.ctrlIn
      let counted (latch : Bool) : State :=
        (r.onTherm fun h =>
          { h with
            ctrlIn := entries, ctrlLatch := latch
            life := (satAdd 0xFFFF h.life.1 1, satAdd 0xFFFF h.life.2.1 (if latch then 1 else 0), h.life.2.2) }).ctrlStop.raise 0x1102
      let hot : Prop := s.zoneAt 1500 z ∧ (s.therm.zone[fin 5 z.val]).shut = false
      (¬hot → Goes (.thermalShutdown z) s s) ∧ (hot → s.ctrlDown → Goes (.thermalShutdown z) s r) ∧
      (hot → s.ctrlDown = false → entries.length < 3 → Goes (.thermalShutdown z) s
        ((counted false).vWrite 4 (counted false).therm.item)) ∧
      (hot → s.ctrlDown = false → 3 ≤ entries.length → Goes (.thermalShutdown z) s
        (((counted true).raise 0x1104).vWrite 4 ((counted true).raise 0x1104).therm.item))) ∧
    (∀ z : Fin 5, ((s.therm.zone[z]).shut = false ∨ (s.therm.zone[z]).coolSince = none) → Goes (.thermalShutdownEnd z) s s) ∧
    (∀ (z : Fin 5) t, (s.therm.zone[z]).shut → (s.therm.zone[z]).coolSince = some t →
      let r := (s.advanceTo (t + ms 100)).onTherm fun h =>
        { h with zone := upd h.zone z fun _ => { shut := false, coolSince := none } }
      let latched : Bool := if z.val = 4 then s.therm.mainsLatch else s.therm.ctrlLatch
      (latched = true → Goes (.thermalShutdownEnd z) s r) ∧
      (latched = false → Goes (.thermalShutdownEnd z) s
        (if z.val = 4 ∨ (r.raise 0x1103).ctrlDown then r.raise 0x1103 else (r.raise 0x1103).ctrlRelease))) ∧
    Fires .fanUpdate s s.sys.fwReady (s.each (List.range 4) State.fanUpdate) ∧
    (∀ m : Fin 4,
      let fan (f : Fan → Fan) : State := s.onTherm fun h => { h with fan := upd h.fan m f }
      (s.flag Fld.Therm.FITTED m = false → s.fanUpdate m =
        (fan fun f => { f with duty := 0, forced := false, stalled := false }).fanDrive m 0 1) ∧
      (∀ t, s.flag Fld.Therm.FITTED m → s.fanSource m = some t → (1 ≤ s.therm.step ∨ (s.therm.fan[m]).stalled) →
        let used := max t (min (s.therm.fan[m]).tUsed (t + s.fldI Fld.Therm.HYST m))
        s.fanUpdate m = (fan fun f => { f with duty := 100, forced := true, tUsed := used, tSrc := t }).fanDrive m 100 1) ∧
      (∀ t, s.flag Fld.Therm.FITTED m → s.fanSource m = some t → s.therm.step = 0 → (s.therm.fan[m]).stalled = false →
        let used := max t (min (s.therm.fan[m]).tUsed (t + s.fldI Fld.Therm.HYST m))
        s.fanUpdate m = (fan fun f =>
          { f with
            duty := s.fanDuty m used / max 1 (s.fanSpan m), forced := false, tUsed := used, tSrc := t }).fanDrive m
          (s.fanDuty m used) (s.fanSpan m)) ∧
      (s.flag Fld.Therm.FITTED m → s.fanSource m = none → ∃ used,
        s.fanUpdate m = (fan fun f => { f with duty := 100, forced := true, tUsed := used }).fanDrive m 100 1)) ∧
    (∀ (m : Fin 4) held,
      Fires (.fanStall m held) s
        (s.sys.mode = .running ∧ s.flag Fld.Therm.FITTED m ∧ s.flag Fld.Therm.STALL_EN m ∧ (s.therm.fan[m]).stalled = false ∧
          0 < (s.therm.fan[m]).duty ∧ (s.meas.tach[m]).rpm < s.fld Fld.Therm.STALL_RPM m ∧
          sec (s.fld Fld.Therm.STALL_S m) ≤ held)
        (((s.onTherm fun h =>
          { h with fan := upd h.fan m fun f => { f with stalled := true, duty := 100, forced := true } }).fanDrive m 100 1).raise
            0x1106 m) ∧
      Fires (.fanStallClear m held) s
        (s.sys.mode = .running ∧ (s.therm.fan[m]).stalled ∧ s.fld Fld.Therm.STALL_RPM m ≤ (s.meas.tach[m]).rpm ∧
          sec (s.fld Fld.Therm.STALL_S m) ≤ held)
        (s.onTherm fun h => { h with fan := upd h.fan m fun f => { f with stalled := false } }))

/-! ## The recorder, faults and images -/

/-- O54. R125, R184, R459, R462, R466, R469, R471, R472, R474–R477, R479: the recorder's events and commands, and the periods of
the converters.
The model's choice: log entry 3 (an event out of place changes nothing); log entry 4 (the time that an expiry moves the timebase to);
log entry 65 (what a NAND operation's end brings).
Its own choices and readings of the rules: log entries 126, 127, 128, 145. -/
def Obligations.RecorderRuns : Prop :=
  ∀ (s : State) (o : Origin) (p : List Byte),
    (s.sys.por → Goes .historyRecord s s) ∧
    (s.sys.por = false →
      let r := s.advanceTo ((s.now + 99999999) / 100000000 * 100000000)
      let clear (t : State) : State :=
        (t.onMeas fun m => { m with tel := m.tel.map fun t =>
          { t with hMin := 0, hMax := 0, hSum := 0, hCnt := 0, hE := 0 } }).onSkb fun k => { k with hist := HistAcc.none, evSecond := 0 }
      (r.flag Fld.Skb.HIST_EN = false → Goes .historyRecord s (clear r).pump) ∧
      (r.flag Fld.Skb.HIST_EN → Goes .historyRecord s (clear (r.histPut r.histRecord)).pump)) ∧
    (∀ bs, s.skb.histQ.length < 1024 → s.histPut bs =
      (let t := s.onSkb fun k => { k with histSeq := k.histSeq + 1, histQ := k.histQ ++ [bs] }
       let queued (j : Job) : Bool := j.op = .history
       if s.skb.waiting.any queued ∨ s.skb.running.any queued then t else t.enqueue .history none)) ∧
    Fires .eventFlush s (s.skb.evBuf ≠ [] ∧ ∀ j, s.skb.running = some j → j.op ≠ .events)
      (let s := s.advanceTo (s.skb.evOldest + sec 1)
       (if s.skb.waiting.any fun j => j.op = .events then s else s.enqueue .events none).pump) ∧
    (∀ ok, s.skb.running = none → Goes (.nandOpDone ok) s s) ∧
    (∀ op, s.skb.running = some ⟨op, none⟩ → Goes (.nandOpDone true) s
      ((((s.onSkb fun k => { k with running := none }).onSkb fun k => { k with failRun := [] }).opDone op).levelWear).pump) ∧
    (∀ op w, s.skb.running = some ⟨op, some w⟩ → Goes (.nandOpDone true) s
      (((((s.onSkb fun k => { k with running := none }).onSkb fun k => { k with failRun := [] }).opDone op).finish w.o w.op st.ok
        w.params).levelWear).pump) ∧
    (∀ op x, s.skb.running = some ⟨op, x⟩ →
      let t := (s.onSkb fun k => { k with running := none }).onSkb (Skb.fail (s.skb.opBlock op))
      (3 ≤ t.skb.failRun.length → Goes (.nandOpDone false) s
        (t.onSkb fun k => { k with running := some ⟨op, x⟩ }).nandFail) ∧
      (t.skb.failRun.length < 3 → (∀ id d n, op ≠ .varnish id d n) → Goes (.nandOpDone false) s
        (((t.onSkb fun k => { k with waiting := ⟨op, x⟩ :: k.waiting }).retire (s.skb.opBlock op)).pump)) ∧
      (∀ id d, t.skb.failRun.length < 3 → op = .varnish id d 0 → Goes (.nandOpDone false) s
        (((t.onSkb (Skb.skip 4)).onSkb fun k => { k with waiting := ⟨.varnish id d 1, x⟩ :: k.waiting }).pump)) ∧
      (∀ id d n, t.skb.failRun.length < 3 → op = .varnish id d (n + 1) → Goes (.nandOpDone false) s
        ((((t.onSkb (Skb.skip 4)).raise 0x12C3).deferNewer id d).pump))) ∧
    Fires .nandTimeout s s.skb.running.isSome (s.advanceTo (s.skb.tRun + ms 10)).nandFail ∧
    (∀ n x, s.skb.running = some ⟨.capture n, x⟩ → Goes .captureCommit s (s.nandDone true)) ∧
    (s.skb.running = none → Goes .captureCommit s s) ∧
    ((∀ a ∈ s.skb.areas, a.phase = .triggered → a.samples.length < 8192) → Goes .captureFreeze s s) ∧
    (let j := s.skb.areas.findIdx fun a => a.phase = .triggered && 8192 ≤ a.samples.length
     j < s.skb.areas.length → Goes .captureFreeze s
       ((((s.onSkb fun k => { k with areas := k.areas.modify j fun a => { a with phase := .frozen } }).enqueue (.capture j)
         none).arm).pump)) ∧
    (s.skb.areas.find? Area.isRecording = none → Goes .captureSample s s) ∧
    (∀ a, s.skb.areas.find? Area.isRecording = some a →
      let r := if a.samples.isEmpty then s else s.advanceTo (a.tLast + a.interval)
      Goes .captureSample s
        (r.onSkb fun k => { k with areas := k.areas.map fun x => if x.isRecording then r.areaSample x else x })) ∧
    Fires .scrubStart s (s.sys.mode = .running ∧ s.skb.failed = false ∧ s.skb.scrub = false)
      (let t := s.advanceTo s.skb.scrubDue
       (t.onSkb fun k => { k with scrub := true, scrubPos := 0, eccRun := 0, tSlice := t.now }).scrubNext) ∧
    (∀ n bits worn lost last, (s.skb.scrub = false ∨ s.sys.mode ≠ .running ∨ 568 < n) →
      Goes (.scrubSlice n bits worn lost last) s s) ∧
    (∀ n bits worn lost last, s.skb.scrub → s.sys.mode = .running → n ≤ 568 →
      let t := s.advanceTo s.skb.tSlice
      let bad : List (Fin 16192) := if 24 < bits ∧ s.sys.nandBar = false then worn else []
      let r := t.onSkb fun k =>
        { k with
          scrubPos := k.scrubPos + n, eccRun := min 40 (max k.eccRun bits), tSlice := t.now + ms 100
          blk := bad.foldl (fun b l => b.relocate l.val) k.blk }
      let r := lost.foldl (fun s x => (s.onSkb (Skb.lose x)).raise 0x1204) r
      Goes (.scrubSlice n bits worn lost last) s
        (if last then r.onSkb fun k => { k with scrub := false, eccMax := k.eccRun, tScrub := r.now } else r)) ∧
    Fires .streamTimeout s s.skb.stream.isSome
      ((s.advanceTo (s.skb.tStream + sec 10)).onSkb fun k => { k with stream := none }) ∧
    (∀ k : Fin 2, (∀ cap, Goes (.converterPeriodEnd (.llc k cap)) s (s.llcEnd k cap)) ∧
      Goes (.converterPeriodEnd (.str k)) s
        ((((s.strEnd k).testPeriod k).calLand (· = 528 + k.val)).adcTrigger (0x28 + k)) ∧
      Goes (.converterPeriodEnd (.pd k)) s
        (((if (s.pdCh k).conv then (s.boundary .pd0 k .sw).pdApplyLim k else s).calLand (· = 530 + k.val)).adcTrigger
          (0x2A + k))) ∧
    (s.admits o 0x1201 0 →
      (p ≠ [] → Goes (.skbStatus o p) s (s.answer o 0x1201 st.badParam [])) ∧
      (p = [] → Replies (.skbStatus o p) s (s.accepted o 0) o 0x1201 st.ok s.skbStatus)) ∧
    (s.admits o 0x1203 0 →
      (p ≠ [] → Goes (.skbStreamStop o p) s (s.answer o 0x1203 st.badParam [])) ∧
      (p = [] → s.skb.stream = none → Goes (.skbStreamStop o p) s (s.answer o 0x1203 st.state [])) ∧
      (p = [] → s.skb.stream.isSome → Replies (.skbStreamStop o p) s
        ((s.accepted o 0).onSkb fun k => { k with stream := none }) o 0x1203 st.ok [])) ∧
    (s.admits o 0x1205 1 →
      (p ≠ [] → Goes (.skbTrigger o p) s (s.answer o 0x1205 st.badParam [])) ∧
      (p = [] → s.flag Fld.Skb.CAP_EN = false → Goes (.skbTrigger o p) s (s.answer o 0x1205 st.state [])) ∧
      (p = [] → s.flag Fld.Skb.CAP_EN → Waits (.skbTrigger o p) s (s.accepted o 1) o 0x1205 0 0 [])) ∧
    (∀ w, s.hif.waits = [w] → w.op = 0x1205 → s.skbTriggers =
      (let t := s.raiseWith { force := true } 0x1211 blockWide
       t.wake (fun w => w.op = 0x1205) fun _ => (st.ok, []))) ∧
    (s.admits o 0x1206 1 →
      (p.length ≠ 32 → Goes (.skbMark o p) s (s.answer o 0x1206 st.badParam [])) ∧
      (p.length = 32 → Replies (.skbMark o p) s ((s.accepted o 1).raiseWith { mark := some p } 0x1210 blockWide) o 0x1206 st.ok
        (toLE 4 s.skb.evSeq))) ∧
    (s.admits o 0x1207 2 →
      let good : Prop := p.length = 2 ∧ u p 0 1 < 16 ∧ u p 1 1 = 0x5A
      (¬good → Goes (.skbClear o p) s (s.answer o 0x1207 st.badParam [])) ∧
      (good → s.skb.failed → Replies (.skbClear o p) s (s.accepted o 2) o 0x1207 st.timeout []) ∧
      (good → s.skb.failed = false → Goes (.skbClear o p) s
        (((s.accepted o 2).enqueue (.erase (u p 0 1)) (some ⟨o, 0x1207, []⟩)).pump))) ∧
    (s.admits o 0x1202 0 →
      let good : Prop := p.length = 12 ∧ u p 1 1 ≤ 1 ∧ u p 3 1 = 0
      let data := s.skbData (u p 0 1) (u p 2 1) (u p 4 4) (u p 8 4)
      (¬good ∨ data = none → Goes (.skbRead o p) s (s.answer o 0x1202 st.badParam [])) ∧
      (∀ bs, good → data = some bs →
        (u p 1 1 = 0 → Replies (.skbRead o p) s (s.accepted o 0) o 0x1202 st.ok (toLE 4 bs.length ++ bs)) ∧
        (u p 1 1 = 1 → s.skb.stream.isSome → Goes (.skbRead o p) s (s.answer o 0x1202 st.state [])) ∧
        (u p 1 1 = 1 → s.skb.stream = none → Replies (.skbRead o p) s
          ((s.accepted o 0).onSkb fun k =>
            { k with
              stream := some
                { src := u p 0 1, first := u p 4 4, n := u p 8 4, data := if 2 ≤ u p 0 1 then bs else [], pos := 0
                  total := bs.length }
              tStream := s.now })
          o 0x1202 st.ok (toLE 4 bs.length))))

/-- O55. R483, R485, R486, R494–R497: raising a fault and a handler's end, and the commands of the firmware images, with what
refuses them.
Its own choices and readings of the rules: log entries 61, 62, 64. -/
def Obligations.FaultsAndImagesRun : Prop :=
  ∀ (s : State) (o : Origin) (p : List Byte),
    (∀ code ch, Goes (.faultRaise code ch) s (s.raise code ch)) ∧
    (s.handling → ∀ e, s.flt.running = some e →
      (let next (f : Flt → Flt) : Prop := Goes .handlerComplete s (s.onFlt fun x => f { x with lastDone := e.seq })
       (s.flt.susp = [] → s.flt.queue = [] → next fun f => { f with running := none }) ∧
       (∀ q qs, s.flt.susp = [] → s.flt.queue = q :: qs → next fun f => { f with running := some q, queue := qs }) ∧
       (∀ t ts, s.flt.susp = t :: ts → s.flt.queue = [] → next fun f => { f with running := some t, susp := ts }) ∧
       (∀ t ts q qs, s.flt.susp = t :: ts → s.flt.queue = q :: qs →
         (t.sev < q.sev → next fun f => { f with running := some q, queue := qs }) ∧
         (q.sev ≤ t.sev → next fun f => { f with running := some t, susp := ts })))) ∧
    ((s.handling = false ∨ s.flt.running = none) → Goes .handlerComplete s s) ∧
    (s.admits o 0x1401 2 →
      let k := fin 2 (u p 0 1)
      let good : Prop := p.length = 8 ∧ u p 0 1 ≤ 1 ∧ u p 1 3 = 0 ∧ 257 ≤ u p 4 4 ∧ u p 4 4 ≤ 16777472
      let able : Prop := s.sys.nandBar = false ∧ s.img.booted ≠ some k
      (¬good → Goes (.imgBegin o p) s (s.answer o 0x1401 st.badParam [])) ∧
      (good → ¬able → Goes (.imgBegin o p) s (s.answer o 0x1401 st.state [])) ∧
      (good → able → Replies (.imgBegin o p) s
        ((s.accepted o 2).onImg fun i =>
          { i with
            area := upd i.area k fun _ => { st := .invalid, bytes := [] }, download := 1, target := k, total := u p 4 4 })
        o 0x1401 st.ok [])) ∧
    (s.admits o 0x1402 2 →
      let n := u p 4 2
      let good : Prop := p.length = 6 + n ∧ 1 ≤ n ∧ n ≤ 4080
      let opened : Prop := s.img.download = 1 ∧ s.sys.nandBar = false
      let fits : Prop := u p 0 4 = s.img.received ∧ u p 0 4 + n ≤ s.img.total
      (¬good → Goes (.imgData o p) s (s.answer o 0x1402 st.badParam [])) ∧
      (good → ¬opened → Goes (.imgData o p) s (s.answer o 0x1402 st.state [])) ∧
      (good → opened → ¬fits → Goes (.imgData o p) s (s.answer o 0x1402 st.badParam [])) ∧
      (good → opened → fits → Replies (.imgData o p) s
        ((s.accepted o 2).onImg fun i => { i with area := upd i.area i.target fun a => { a with bytes := a.bytes ++ p.drop 6 } })
        o 0x1402 st.ok [])) ∧
    (s.admits o 0x1403 2 →
      let a := s.accepted o 2
      let k := a.img.target
      let e := imageCheck (a.img.area[k]).bytes a.sys.pubKey a.sys.serial a.img.rollback
      let r := a.onImg fun i => { i with lastError := e, download := 0 }
      let opened : Prop := s.img.download = 1 ∧ s.sys.nandBar = false
      (p ≠ [] → Goes (.imgEnd o p) s (s.answer o 0x1403 st.badParam [])) ∧
      (p = [] → ¬opened → Goes (.imgEnd o p) s (s.answer o 0x1403 st.state [])) ∧
      (p = [] → opened → e ≠ 0 → Goes (.imgEnd o p) s
        ((r.raiseWith { cause := e, image := k.val, value := u (a.img.area[k]).bytes 12 4 } 0x1403 blockWide).finish o 0x1403 st.badParam [])) ∧
      (p = [] → opened → e = 0 → r.skb.failed → Replies (.imgEnd o p) s r o 0x1403 st.timeout []) ∧
      (p = [] → opened → e = 0 → r.skb.failed = false → Goes (.imgEnd o p) s
        (r.enqueue (.store k.val (r.img.area[k]).bytes) (some ⟨o, 0x1403, []⟩)).pump)) ∧
    (s.admits o 0x1404 2 →
      let k := fin 2 (u p 0 1)
      let good : Prop := p.length = 2 ∧ u p 0 1 ≤ 1 ∧ u p 1 1 ≤ 1
      let done (t : State) : State := (t.finish o 0x1404 st.ok []).serveReset
      let marked := ((s.accepted o 2).onImg fun i => { i with active := some k }).raiseWith
        { image := k.val, value := u (s.img.area[k]).bytes 12 4 } 0x1404 blockWide
      (¬good → Goes (.imgActivate o p) s (s.answer o 0x1404 st.badParam []).serveReset) ∧
      (good → (s.img.area[k]).st ≠ .valid → Goes (.imgActivate o p) s (s.answer o 0x1404 st.state []).serveReset) ∧
      (good → (s.img.area[k]).st = .valid → u p 1 1 = 0 → Goes (.imgActivate o p) s (done marked)) ∧
      (good → (s.img.area[k]).st = .valid → u p 1 1 = 1 →
        Goes (.imgActivate o p) s (done (marked.onSys fun y => { y with resetDue := some (7, o.itf) })))) ∧
    (s.admits o 0x1405 2 → p ≠ [] → Goes (.imgConfirm o p) s (s.answer o 0x1405 st.badParam [])) ∧
    (s.admits o 0x1405 2 → p = [] → s.img.booted = none → Replies (.imgConfirm o p) s (s.accepted o 2) o 0x1405 st.ok []) ∧
    (∀ k, s.admits o 0x1405 2 → p = [] → s.img.booted = some k →
      let v := u (s.img.area[k]).bytes 12 4
      (v ≤ s.img.rollback → Replies (.imgConfirm o p) s (s.accepted o 2) o 0x1405 st.ok []) ∧
      (s.img.rollback < v → Goes (.imgConfirm o p) s
        (((((s.accepted o 2).onImg fun i => { i with rollback := v }).raiseWith { image := k.val, value := v } 0x1405 blockWide).await o 0x1405
          0 0 []).vWrite 2 (toLE 4 v))))

/-! ## Bytes and words -/

/-- O56. R106, R130: the two check sums: their starting values, their bit steps (CRC-16 takes each byte's bits from the highest
with polynomial 0x1021; CRC-32 takes them from the lowest with the reflected polynomial, and its result is inverted), their
values over "123456789", and the bytes of a packet that CRC-16 covers. -/
def Obligations.CheckSums : Prop :=
  let nine : List Byte := [0x31, 0x32, 0x33, 0x34, 0x35, 0x36, 0x37, 0x38, 0x39]
  crc16 nine = 0x29B1 ∧ crc32 nine = 0xCBF43926 ∧ crc16 [] = 0xFFFF ∧ crc32 [] = 0 ∧
    (∀ bs b, crc16 (bs ++ [b]) = crcByte 16 0x1021 (crc16 bs) b) ∧
    (∀ bs b, crc32 (bs ++ [b]) = crc32Byte (crc32 bs ^^^ 0xFFFFFFFF) b ^^^ 0xFFFFFFFF) ∧
    (∀ r b, crcBit 16 0x1021 r b = if (r.testBit 15) = b then r * 2 % 2 ^ 16 else (r * 2 % 2 ^ 16) ^^^ 0x1021) ∧
    (∀ r, crc32Bit r = if r % 2 = 1 then (r / 2) ^^^ 0xEDB88320 else r / 2) ∧
    (∀ bs, packetOk bs → bs.length = 10 + u bs 6 2 ∧ u bs (8 + u bs 6 2) 2 = crc16 (bs.take (8 + u bs 6 2))) ∧
    (∀ r b, crcByte 16 0x1021 r b = [7, 6, 5, 4, 3, 2, 1, 0].foldl (fun r k => crcBit 16 0x1021 r (b.toNat.testBit k)) r) ∧
    ∀ r b, crc32Byte r b = (List.range 8).foldl (fun r _ => crc32Bit r) (r ^^^ b.toNat)

/-- O57. R104–R107: reading a packet gives back what it was written from: the flags, the opcode, the tag, the destination and the
parameters, at every value that their fields hold; its bytes are 10 more than its parameters, and its check passes. -/
def Obligations.PacketsReadBack : Prop :=
  ∀ (flags op dest : Nat) (tag : Byte) (params : List Byte), flags < 2 ^ 8 → op < 2 ^ 16 → dest < 2 ^ 8 →
    params.length ≤ 4086 →
      packetOf (packet flags op tag dest params) = { flags := flags, op := op, tag := tag, dest := dest, params := params } ∧
      packetOk (packet flags op tag dest params) ∧ (packet flags op tag dest params).length = 10 + params.length

/-- O58. R167–R169, R335, R336, R338: reading a link frame gives back the body that it was written from, for each kind of frame's
SOF. On the isolation barrier, what a line sends is heard back symbol by symbol, at the running disparity that it starts with; a
heartbeat reads back as its SEQ and payload, and a frame as its TYPE and payload.
Its own reading of the rules: log entry 150 (the tables of the code are PRESUMED). -/
def Obligations.LinkFramesReadBack : Prop :=
  (∀ (sof : Byte) (body : List Byte), frameBody sof (body.length + 4) (frameOf sof body) = some body) ∧
    (∀ (rd : Bool) (ys : List Sym), (∀ y ∈ ys, (∃ b < 256, y = .d b) ∨ ∃ b ∈ specials, y = .k b) →
      (hear (some rd) (send rd ys)).1 = ys) ∧
    (∀ seq v : Nat, beatOf (beatSyms seq v) = some (seq, v)) ∧
    ∀ (type : Nat) (payload : List Byte), type < 256 → payload.length ≤ 240 →
      barFrame (frameSyms type payload) = some (type, payload)

/-- O59. R5, R6, R123: a field of a record reads back what was written to it, and a write leaves every other bit of the record:
the bytes outside the field's, and the bits of its own bytes that are not the field's. -/
def Obligations.FieldsReadBack : Prop :=
  ∀ (f : Field) (v : Nat) (bs : List Byte), f.off + f.nbytes ≤ bs.length →
    f.getRaw (f.set v bs) = v % 2 ^ f.width ∧ (f.set v bs).length = bs.length ∧
    (∀ j, j < f.off ∨ f.off + f.nbytes ≤ j → (f.set v bs)[j]? = bs[j]?) ∧
    (∀ j, j < f.lo ∨ f.lo + f.width ≤ j →
      (u (f.set v bs) f.off f.nbytes).testBit j = (u bs f.off f.nbytes).testBit j)

/-- O60. R311, R123, R488: reverse current on a port in INRUSH or ON, with no value of its record waiting to land and room in the
fault queue, takes it, after 10 µs below −2 A, to DELAY and is not counted as a trip; every other port stays as it was. -/
def Obligations.ReverseCurrentIsNoTrip : Prop :=
  ∀ (s : State) (n : Fin 24) (i : Int) (held : Nat), i < -2000 → 10 ≤ held → ((s.portCh n).st = .inrush ∨ (s.portCh n).st = .on) →
    (s.copy .feed0 n).pendL = [] → (s.copy .feed0 n).armed = [] → s.flt.held ≤ 30 →
    ∃ t, Goes (.portReverseCurrent n i held) s t ∧ (t.portCh n).st = .delay ∧ (t.portCh n).trips = (s.portCh n).trips ∧
      (t.portCh n).enable = (s.portCh n).enable ∧ ∀ m : Fin 24, m ≠ n → t.portCh m = s.portCh m
end

