-- ==== Sys2Proof/Laws/State.lean ====
section
/-! SUPPORT. One lemma per field per update of the state: an update changes its own part and leaves every other. -/

namespace Sys2Proof.Machine

@[simp] theorem State.onSys_pending (g : Sys → Sys) (s : State) : (s.onSys g).pending = s.pending := rfl
@[simp] theorem State.onSys_free (g : Sys → Sys) (s : State) : (s.onSys g).free = s.free := rfl
@[simp] theorem State.onSys_sys (g : Sys → Sys) (s : State) : (s.onSys g).sys = g s.sys := rfl
@[simp] theorem State.onSys_hif (g : Sys → Sys) (s : State) : (s.onSys g).hif = s.hif := rfl
@[simp] theorem State.onSys_cfg (g : Sys → Sys) (s : State) : (s.onSys g).cfg = s.cfg := rfl
@[simp] theorem State.onSys_pal (g : Sys → Sys) (s : State) : (s.onSys g).pal = s.pal := rfl
@[simp] theorem State.onSys_rect (g : Sys → Sys) (s : State) : (s.onSys g).rect = s.rect := rfl
@[simp] theorem State.onSys_bus (g : Sys → Sys) (s : State) : (s.onSys g).bus = s.bus := rfl
@[simp] theorem State.onSys_str (g : Sys → Sys) (s : State) : (s.onSys g).str = s.str := rfl
@[simp] theorem State.onSys_gauge (g : Sys → Sys) (s : State) : (s.onSys g).gauge = s.gauge := rfl
@[simp] theorem State.onSys_varn (g : Sys → Sys) (s : State) : (s.onSys g).varn = s.varn := rfl
@[simp] theorem State.onSys_dom (g : Sys → Sys) (s : State) : (s.onSys g).dom = s.dom := rfl
@[simp] theorem State.onSys_feed (g : Sys → Sys) (s : State) : (s.onSys g).feed = s.feed := rfl
@[simp] theorem State.onSys_link (g : Sys → Sys) (s : State) : (s.onSys g).link = s.link := rfl
@[simp] theorem State.onSys_pd (g : Sys → Sys) (s : State) : (s.onSys g).pd = s.pd := rfl
@[simp] theorem State.onSys_seq (g : Sys → Sys) (s : State) : (s.onSys g).seq = s.seq := rfl
@[simp] theorem State.onSys_meas (g : Sys → Sys) (s : State) : (s.onSys g).meas = s.meas := rfl
@[simp] theorem State.onSys_therm (g : Sys → Sys) (s : State) : (s.onSys g).therm = s.therm := rfl
@[simp] theorem State.onSys_skb (g : Sys → Sys) (s : State) : (s.onSys g).skb = s.skb := rfl
@[simp] theorem State.onSys_flt (g : Sys → Sys) (s : State) : (s.onSys g).flt = s.flt := rfl
@[simp] theorem State.onSys_img (g : Sys → Sys) (s : State) : (s.onSys g).img = s.img := rfl

@[simp] theorem State.onHif_pending (g : Hif → Hif) (s : State) : (s.onHif g).pending = s.pending := rfl
@[simp] theorem State.onHif_free (g : Hif → Hif) (s : State) : (s.onHif g).free = s.free := rfl
@[simp] theorem State.onHif_sys (g : Hif → Hif) (s : State) : (s.onHif g).sys = s.sys := rfl
@[simp] theorem State.onHif_hif (g : Hif → Hif) (s : State) : (s.onHif g).hif = g s.hif := rfl
@[simp] theorem State.onHif_cfg (g : Hif → Hif) (s : State) : (s.onHif g).cfg = s.cfg := rfl
@[simp] theorem State.onHif_pal (g : Hif → Hif) (s : State) : (s.onHif g).pal = s.pal := rfl
@[simp] theorem State.onHif_rect (g : Hif → Hif) (s : State) : (s.onHif g).rect = s.rect := rfl
@[simp] theorem State.onHif_bus (g : Hif → Hif) (s : State) : (s.onHif g).bus = s.bus := rfl
@[simp] theorem State.onHif_str (g : Hif → Hif) (s : State) : (s.onHif g).str = s.str := rfl
@[simp] theorem State.onHif_gauge (g : Hif → Hif) (s : State) : (s.onHif g).gauge = s.gauge := rfl
@[simp] theorem State.onHif_varn (g : Hif → Hif) (s : State) : (s.onHif g).varn = s.varn := rfl
@[simp] theorem State.onHif_dom (g : Hif → Hif) (s : State) : (s.onHif g).dom = s.dom := rfl
@[simp] theorem State.onHif_feed (g : Hif → Hif) (s : State) : (s.onHif g).feed = s.feed := rfl
@[simp] theorem State.onHif_link (g : Hif → Hif) (s : State) : (s.onHif g).link = s.link := rfl
@[simp] theorem State.onHif_pd (g : Hif → Hif) (s : State) : (s.onHif g).pd = s.pd := rfl
@[simp] theorem State.onHif_seq (g : Hif → Hif) (s : State) : (s.onHif g).seq = s.seq := rfl
@[simp] theorem State.onHif_meas (g : Hif → Hif) (s : State) : (s.onHif g).meas = s.meas := rfl
@[simp] theorem State.onHif_therm (g : Hif → Hif) (s : State) : (s.onHif g).therm = s.therm := rfl
@[simp] theorem State.onHif_skb (g : Hif → Hif) (s : State) : (s.onHif g).skb = s.skb := rfl
@[simp] theorem State.onHif_flt (g : Hif → Hif) (s : State) : (s.onHif g).flt = s.flt := rfl
@[simp] theorem State.onHif_img (g : Hif → Hif) (s : State) : (s.onHif g).img = s.img := rfl

@[simp] theorem State.onCfg_pending (g : Cfg → Cfg) (s : State) : (s.onCfg g).pending = s.pending := rfl
@[simp] theorem State.onCfg_free (g : Cfg → Cfg) (s : State) : (s.onCfg g).free = s.free := rfl
@[simp] theorem State.onCfg_sys (g : Cfg → Cfg) (s : State) : (s.onCfg g).sys = s.sys := rfl
@[simp] theorem State.onCfg_hif (g : Cfg → Cfg) (s : State) : (s.onCfg g).hif = s.hif := rfl
@[simp] theorem State.onCfg_cfg (g : Cfg → Cfg) (s : State) : (s.onCfg g).cfg = g s.cfg := rfl
@[simp] theorem State.onCfg_pal (g : Cfg → Cfg) (s : State) : (s.onCfg g).pal = s.pal := rfl
@[simp] theorem State.onCfg_rect (g : Cfg → Cfg) (s : State) : (s.onCfg g).rect = s.rect := rfl
@[simp] theorem State.onCfg_bus (g : Cfg → Cfg) (s : State) : (s.onCfg g).bus = s.bus := rfl
@[simp] theorem State.onCfg_str (g : Cfg → Cfg) (s : State) : (s.onCfg g).str = s.str := rfl
@[simp] theorem State.onCfg_gauge (g : Cfg → Cfg) (s : State) : (s.onCfg g).gauge = s.gauge := rfl
@[simp] theorem State.onCfg_varn (g : Cfg → Cfg) (s : State) : (s.onCfg g).varn = s.varn := rfl
@[simp] theorem State.onCfg_dom (g : Cfg → Cfg) (s : State) : (s.onCfg g).dom = s.dom := rfl
@[simp] theorem State.onCfg_feed (g : Cfg → Cfg) (s : State) : (s.onCfg g).feed = s.feed := rfl
@[simp] theorem State.onCfg_link (g : Cfg → Cfg) (s : State) : (s.onCfg g).link = s.link := rfl
@[simp] theorem State.onCfg_pd (g : Cfg → Cfg) (s : State) : (s.onCfg g).pd = s.pd := rfl
@[simp] theorem State.onCfg_seq (g : Cfg → Cfg) (s : State) : (s.onCfg g).seq = s.seq := rfl
@[simp] theorem State.onCfg_meas (g : Cfg → Cfg) (s : State) : (s.onCfg g).meas = s.meas := rfl
@[simp] theorem State.onCfg_therm (g : Cfg → Cfg) (s : State) : (s.onCfg g).therm = s.therm := rfl
@[simp] theorem State.onCfg_skb (g : Cfg → Cfg) (s : State) : (s.onCfg g).skb = s.skb := rfl
@[simp] theorem State.onCfg_flt (g : Cfg → Cfg) (s : State) : (s.onCfg g).flt = s.flt := rfl
@[simp] theorem State.onCfg_img (g : Cfg → Cfg) (s : State) : (s.onCfg g).img = s.img := rfl

@[simp] theorem State.onPal_pending (g : Pal → Pal) (s : State) : (s.onPal g).pending = s.pending := rfl
@[simp] theorem State.onPal_free (g : Pal → Pal) (s : State) : (s.onPal g).free = s.free := rfl
@[simp] theorem State.onPal_sys (g : Pal → Pal) (s : State) : (s.onPal g).sys = s.sys := rfl
@[simp] theorem State.onPal_hif (g : Pal → Pal) (s : State) : (s.onPal g).hif = s.hif := rfl
@[simp] theorem State.onPal_cfg (g : Pal → Pal) (s : State) : (s.onPal g).cfg = s.cfg := rfl
@[simp] theorem State.onPal_pal (g : Pal → Pal) (s : State) : (s.onPal g).pal = g s.pal := rfl
@[simp] theorem State.onPal_rect (g : Pal → Pal) (s : State) : (s.onPal g).rect = s.rect := rfl
@[simp] theorem State.onPal_bus (g : Pal → Pal) (s : State) : (s.onPal g).bus = s.bus := rfl
@[simp] theorem State.onPal_str (g : Pal → Pal) (s : State) : (s.onPal g).str = s.str := rfl
@[simp] theorem State.onPal_gauge (g : Pal → Pal) (s : State) : (s.onPal g).gauge = s.gauge := rfl
@[simp] theorem State.onPal_varn (g : Pal → Pal) (s : State) : (s.onPal g).varn = s.varn := rfl
@[simp] theorem State.onPal_dom (g : Pal → Pal) (s : State) : (s.onPal g).dom = s.dom := rfl
@[simp] theorem State.onPal_feed (g : Pal → Pal) (s : State) : (s.onPal g).feed = s.feed := rfl
@[simp] theorem State.onPal_link (g : Pal → Pal) (s : State) : (s.onPal g).link = s.link := rfl
@[simp] theorem State.onPal_pd (g : Pal → Pal) (s : State) : (s.onPal g).pd = s.pd := rfl
@[simp] theorem State.onPal_seq (g : Pal → Pal) (s : State) : (s.onPal g).seq = s.seq := rfl
@[simp] theorem State.onPal_meas (g : Pal → Pal) (s : State) : (s.onPal g).meas = s.meas := rfl
@[simp] theorem State.onPal_therm (g : Pal → Pal) (s : State) : (s.onPal g).therm = s.therm := rfl
@[simp] theorem State.onPal_skb (g : Pal → Pal) (s : State) : (s.onPal g).skb = s.skb := rfl
@[simp] theorem State.onPal_flt (g : Pal → Pal) (s : State) : (s.onPal g).flt = s.flt := rfl
@[simp] theorem State.onPal_img (g : Pal → Pal) (s : State) : (s.onPal g).img = s.img := rfl

@[simp] theorem State.onRect_pending (g : Rect → Rect) (s : State) : (s.onRect g).pending = s.pending := rfl
@[simp] theorem State.onRect_free (g : Rect → Rect) (s : State) : (s.onRect g).free = s.free := rfl
@[simp] theorem State.onRect_sys (g : Rect → Rect) (s : State) : (s.onRect g).sys = s.sys := rfl
@[simp] theorem State.onRect_hif (g : Rect → Rect) (s : State) : (s.onRect g).hif = s.hif := rfl
@[simp] theorem State.onRect_cfg (g : Rect → Rect) (s : State) : (s.onRect g).cfg = s.cfg := rfl
@[simp] theorem State.onRect_pal (g : Rect → Rect) (s : State) : (s.onRect g).pal = s.pal := rfl
@[simp] theorem State.onRect_rect (g : Rect → Rect) (s : State) : (s.onRect g).rect = g s.rect := rfl
@[simp] theorem State.onRect_bus (g : Rect → Rect) (s : State) : (s.onRect g).bus = s.bus := rfl
@[simp] theorem State.onRect_str (g : Rect → Rect) (s : State) : (s.onRect g).str = s.str := rfl
@[simp] theorem State.onRect_gauge (g : Rect → Rect) (s : State) : (s.onRect g).gauge = s.gauge := rfl
@[simp] theorem State.onRect_varn (g : Rect → Rect) (s : State) : (s.onRect g).varn = s.varn := rfl
@[simp] theorem State.onRect_dom (g : Rect → Rect) (s : State) : (s.onRect g).dom = s.dom := rfl
@[simp] theorem State.onRect_feed (g : Rect → Rect) (s : State) : (s.onRect g).feed = s.feed := rfl
@[simp] theorem State.onRect_link (g : Rect → Rect) (s : State) : (s.onRect g).link = s.link := rfl
@[simp] theorem State.onRect_pd (g : Rect → Rect) (s : State) : (s.onRect g).pd = s.pd := rfl
@[simp] theorem State.onRect_seq (g : Rect → Rect) (s : State) : (s.onRect g).seq = s.seq := rfl
@[simp] theorem State.onRect_meas (g : Rect → Rect) (s : State) : (s.onRect g).meas = s.meas := rfl
@[simp] theorem State.onRect_therm (g : Rect → Rect) (s : State) : (s.onRect g).therm = s.therm := rfl
@[simp] theorem State.onRect_skb (g : Rect → Rect) (s : State) : (s.onRect g).skb = s.skb := rfl
@[simp] theorem State.onRect_flt (g : Rect → Rect) (s : State) : (s.onRect g).flt = s.flt := rfl
@[simp] theorem State.onRect_img (g : Rect → Rect) (s : State) : (s.onRect g).img = s.img := rfl

@[simp] theorem State.onBus_pending (g : Bus → Bus) (s : State) : (s.onBus g).pending = s.pending := rfl
@[simp] theorem State.onBus_free (g : Bus → Bus) (s : State) : (s.onBus g).free = s.free := rfl
@[simp] theorem State.onBus_sys (g : Bus → Bus) (s : State) : (s.onBus g).sys = s.sys := rfl
@[simp] theorem State.onBus_hif (g : Bus → Bus) (s : State) : (s.onBus g).hif = s.hif := rfl
@[simp] theorem State.onBus_cfg (g : Bus → Bus) (s : State) : (s.onBus g).cfg = s.cfg := rfl
@[simp] theorem State.onBus_pal (g : Bus → Bus) (s : State) : (s.onBus g).pal = s.pal := rfl
@[simp] theorem State.onBus_rect (g : Bus → Bus) (s : State) : (s.onBus g).rect = s.rect := rfl
@[simp] theorem State.onBus_bus (g : Bus → Bus) (s : State) : (s.onBus g).bus = g s.bus := rfl
@[simp] theorem State.onBus_str (g : Bus → Bus) (s : State) : (s.onBus g).str = s.str := rfl
@[simp] theorem State.onBus_gauge (g : Bus → Bus) (s : State) : (s.onBus g).gauge = s.gauge := rfl
@[simp] theorem State.onBus_varn (g : Bus → Bus) (s : State) : (s.onBus g).varn = s.varn := rfl
@[simp] theorem State.onBus_dom (g : Bus → Bus) (s : State) : (s.onBus g).dom = s.dom := rfl
@[simp] theorem State.onBus_feed (g : Bus → Bus) (s : State) : (s.onBus g).feed = s.feed := rfl
@[simp] theorem State.onBus_link (g : Bus → Bus) (s : State) : (s.onBus g).link = s.link := rfl
@[simp] theorem State.onBus_pd (g : Bus → Bus) (s : State) : (s.onBus g).pd = s.pd := rfl
@[simp] theorem State.onBus_seq (g : Bus → Bus) (s : State) : (s.onBus g).seq = s.seq := rfl
@[simp] theorem State.onBus_meas (g : Bus → Bus) (s : State) : (s.onBus g).meas = s.meas := rfl
@[simp] theorem State.onBus_therm (g : Bus → Bus) (s : State) : (s.onBus g).therm = s.therm := rfl
@[simp] theorem State.onBus_skb (g : Bus → Bus) (s : State) : (s.onBus g).skb = s.skb := rfl
@[simp] theorem State.onBus_flt (g : Bus → Bus) (s : State) : (s.onBus g).flt = s.flt := rfl
@[simp] theorem State.onBus_img (g : Bus → Bus) (s : State) : (s.onBus g).img = s.img := rfl

@[simp] theorem State.onStr_pending (g : Str → Str) (s : State) : (s.onStr g).pending = s.pending := rfl
@[simp] theorem State.onStr_free (g : Str → Str) (s : State) : (s.onStr g).free = s.free := rfl
@[simp] theorem State.onStr_sys (g : Str → Str) (s : State) : (s.onStr g).sys = s.sys := rfl
@[simp] theorem State.onStr_hif (g : Str → Str) (s : State) : (s.onStr g).hif = s.hif := rfl
@[simp] theorem State.onStr_cfg (g : Str → Str) (s : State) : (s.onStr g).cfg = s.cfg := rfl
@[simp] theorem State.onStr_pal (g : Str → Str) (s : State) : (s.onStr g).pal = s.pal := rfl
@[simp] theorem State.onStr_rect (g : Str → Str) (s : State) : (s.onStr g).rect = s.rect := rfl
@[simp] theorem State.onStr_bus (g : Str → Str) (s : State) : (s.onStr g).bus = s.bus := rfl
@[simp] theorem State.onStr_str (g : Str → Str) (s : State) : (s.onStr g).str = g s.str := rfl
@[simp] theorem State.onStr_gauge (g : Str → Str) (s : State) : (s.onStr g).gauge = s.gauge := rfl
@[simp] theorem State.onStr_varn (g : Str → Str) (s : State) : (s.onStr g).varn = s.varn := rfl
@[simp] theorem State.onStr_dom (g : Str → Str) (s : State) : (s.onStr g).dom = s.dom := rfl
@[simp] theorem State.onStr_feed (g : Str → Str) (s : State) : (s.onStr g).feed = s.feed := rfl
@[simp] theorem State.onStr_link (g : Str → Str) (s : State) : (s.onStr g).link = s.link := rfl
@[simp] theorem State.onStr_pd (g : Str → Str) (s : State) : (s.onStr g).pd = s.pd := rfl
@[simp] theorem State.onStr_seq (g : Str → Str) (s : State) : (s.onStr g).seq = s.seq := rfl
@[simp] theorem State.onStr_meas (g : Str → Str) (s : State) : (s.onStr g).meas = s.meas := rfl
@[simp] theorem State.onStr_therm (g : Str → Str) (s : State) : (s.onStr g).therm = s.therm := rfl
@[simp] theorem State.onStr_skb (g : Str → Str) (s : State) : (s.onStr g).skb = s.skb := rfl
@[simp] theorem State.onStr_flt (g : Str → Str) (s : State) : (s.onStr g).flt = s.flt := rfl
@[simp] theorem State.onStr_img (g : Str → Str) (s : State) : (s.onStr g).img = s.img := rfl

@[simp] theorem State.onGauge_pending (g : Gauge → Gauge) (s : State) : (s.onGauge g).pending = s.pending := rfl
@[simp] theorem State.onGauge_free (g : Gauge → Gauge) (s : State) : (s.onGauge g).free = s.free := rfl
@[simp] theorem State.onGauge_sys (g : Gauge → Gauge) (s : State) : (s.onGauge g).sys = s.sys := rfl
@[simp] theorem State.onGauge_hif (g : Gauge → Gauge) (s : State) : (s.onGauge g).hif = s.hif := rfl
@[simp] theorem State.onGauge_cfg (g : Gauge → Gauge) (s : State) : (s.onGauge g).cfg = s.cfg := rfl
@[simp] theorem State.onGauge_pal (g : Gauge → Gauge) (s : State) : (s.onGauge g).pal = s.pal := rfl
@[simp] theorem State.onGauge_rect (g : Gauge → Gauge) (s : State) : (s.onGauge g).rect = s.rect := rfl
@[simp] theorem State.onGauge_bus (g : Gauge → Gauge) (s : State) : (s.onGauge g).bus = s.bus := rfl
@[simp] theorem State.onGauge_str (g : Gauge → Gauge) (s : State) : (s.onGauge g).str = s.str := rfl
@[simp] theorem State.onGauge_gauge (g : Gauge → Gauge) (s : State) : (s.onGauge g).gauge = g s.gauge := rfl
@[simp] theorem State.onGauge_varn (g : Gauge → Gauge) (s : State) : (s.onGauge g).varn = s.varn := rfl
@[simp] theorem State.onGauge_dom (g : Gauge → Gauge) (s : State) : (s.onGauge g).dom = s.dom := rfl
@[simp] theorem State.onGauge_feed (g : Gauge → Gauge) (s : State) : (s.onGauge g).feed = s.feed := rfl
@[simp] theorem State.onGauge_link (g : Gauge → Gauge) (s : State) : (s.onGauge g).link = s.link := rfl
@[simp] theorem State.onGauge_pd (g : Gauge → Gauge) (s : State) : (s.onGauge g).pd = s.pd := rfl
@[simp] theorem State.onGauge_seq (g : Gauge → Gauge) (s : State) : (s.onGauge g).seq = s.seq := rfl
@[simp] theorem State.onGauge_meas (g : Gauge → Gauge) (s : State) : (s.onGauge g).meas = s.meas := rfl
@[simp] theorem State.onGauge_therm (g : Gauge → Gauge) (s : State) : (s.onGauge g).therm = s.therm := rfl
@[simp] theorem State.onGauge_skb (g : Gauge → Gauge) (s : State) : (s.onGauge g).skb = s.skb := rfl
@[simp] theorem State.onGauge_flt (g : Gauge → Gauge) (s : State) : (s.onGauge g).flt = s.flt := rfl
@[simp] theorem State.onGauge_img (g : Gauge → Gauge) (s : State) : (s.onGauge g).img = s.img := rfl

@[simp] theorem State.onVarn_pending (g : Varn → Varn) (s : State) : (s.onVarn g).pending = s.pending := rfl
@[simp] theorem State.onVarn_free (g : Varn → Varn) (s : State) : (s.onVarn g).free = s.free := rfl
@[simp] theorem State.onVarn_sys (g : Varn → Varn) (s : State) : (s.onVarn g).sys = s.sys := rfl
@[simp] theorem State.onVarn_hif (g : Varn → Varn) (s : State) : (s.onVarn g).hif = s.hif := rfl
@[simp] theorem State.onVarn_cfg (g : Varn → Varn) (s : State) : (s.onVarn g).cfg = s.cfg := rfl
@[simp] theorem State.onVarn_pal (g : Varn → Varn) (s : State) : (s.onVarn g).pal = s.pal := rfl
@[simp] theorem State.onVarn_rect (g : Varn → Varn) (s : State) : (s.onVarn g).rect = s.rect := rfl
@[simp] theorem State.onVarn_bus (g : Varn → Varn) (s : State) : (s.onVarn g).bus = s.bus := rfl
@[simp] theorem State.onVarn_str (g : Varn → Varn) (s : State) : (s.onVarn g).str = s.str := rfl
@[simp] theorem State.onVarn_gauge (g : Varn → Varn) (s : State) : (s.onVarn g).gauge = s.gauge := rfl
@[simp] theorem State.onVarn_varn (g : Varn → Varn) (s : State) : (s.onVarn g).varn = g s.varn := rfl
@[simp] theorem State.onVarn_dom (g : Varn → Varn) (s : State) : (s.onVarn g).dom = s.dom := rfl
@[simp] theorem State.onVarn_feed (g : Varn → Varn) (s : State) : (s.onVarn g).feed = s.feed := rfl
@[simp] theorem State.onVarn_link (g : Varn → Varn) (s : State) : (s.onVarn g).link = s.link := rfl
@[simp] theorem State.onVarn_pd (g : Varn → Varn) (s : State) : (s.onVarn g).pd = s.pd := rfl
@[simp] theorem State.onVarn_seq (g : Varn → Varn) (s : State) : (s.onVarn g).seq = s.seq := rfl
@[simp] theorem State.onVarn_meas (g : Varn → Varn) (s : State) : (s.onVarn g).meas = s.meas := rfl
@[simp] theorem State.onVarn_therm (g : Varn → Varn) (s : State) : (s.onVarn g).therm = s.therm := rfl
@[simp] theorem State.onVarn_skb (g : Varn → Varn) (s : State) : (s.onVarn g).skb = s.skb := rfl
@[simp] theorem State.onVarn_flt (g : Varn → Varn) (s : State) : (s.onVarn g).flt = s.flt := rfl
@[simp] theorem State.onVarn_img (g : Varn → Varn) (s : State) : (s.onVarn g).img = s.img := rfl

@[simp] theorem State.onDom_pending (g : Dom → Dom) (s : State) : (s.onDom g).pending = s.pending := rfl
@[simp] theorem State.onDom_free (g : Dom → Dom) (s : State) : (s.onDom g).free = s.free := rfl
@[simp] theorem State.onDom_sys (g : Dom → Dom) (s : State) : (s.onDom g).sys = s.sys := rfl
@[simp] theorem State.onDom_hif (g : Dom → Dom) (s : State) : (s.onDom g).hif = s.hif := rfl
@[simp] theorem State.onDom_cfg (g : Dom → Dom) (s : State) : (s.onDom g).cfg = s.cfg := rfl
@[simp] theorem State.onDom_pal (g : Dom → Dom) (s : State) : (s.onDom g).pal = s.pal := rfl
@[simp] theorem State.onDom_rect (g : Dom → Dom) (s : State) : (s.onDom g).rect = s.rect := rfl
@[simp] theorem State.onDom_bus (g : Dom → Dom) (s : State) : (s.onDom g).bus = s.bus := rfl
@[simp] theorem State.onDom_str (g : Dom → Dom) (s : State) : (s.onDom g).str = s.str := rfl
@[simp] theorem State.onDom_gauge (g : Dom → Dom) (s : State) : (s.onDom g).gauge = s.gauge := rfl
@[simp] theorem State.onDom_varn (g : Dom → Dom) (s : State) : (s.onDom g).varn = s.varn := rfl
@[simp] theorem State.onDom_dom (g : Dom → Dom) (s : State) : (s.onDom g).dom = g s.dom := rfl
@[simp] theorem State.onDom_feed (g : Dom → Dom) (s : State) : (s.onDom g).feed = s.feed := rfl
@[simp] theorem State.onDom_link (g : Dom → Dom) (s : State) : (s.onDom g).link = s.link := rfl
@[simp] theorem State.onDom_pd (g : Dom → Dom) (s : State) : (s.onDom g).pd = s.pd := rfl
@[simp] theorem State.onDom_seq (g : Dom → Dom) (s : State) : (s.onDom g).seq = s.seq := rfl
@[simp] theorem State.onDom_meas (g : Dom → Dom) (s : State) : (s.onDom g).meas = s.meas := rfl
@[simp] theorem State.onDom_therm (g : Dom → Dom) (s : State) : (s.onDom g).therm = s.therm := rfl
@[simp] theorem State.onDom_skb (g : Dom → Dom) (s : State) : (s.onDom g).skb = s.skb := rfl
@[simp] theorem State.onDom_flt (g : Dom → Dom) (s : State) : (s.onDom g).flt = s.flt := rfl
@[simp] theorem State.onDom_img (g : Dom → Dom) (s : State) : (s.onDom g).img = s.img := rfl

@[simp] theorem State.onFeed_pending (g : Feed → Feed) (s : State) : (s.onFeed g).pending = s.pending := rfl
@[simp] theorem State.onFeed_free (g : Feed → Feed) (s : State) : (s.onFeed g).free = s.free := rfl
@[simp] theorem State.onFeed_sys (g : Feed → Feed) (s : State) : (s.onFeed g).sys = s.sys := rfl
@[simp] theorem State.onFeed_hif (g : Feed → Feed) (s : State) : (s.onFeed g).hif = s.hif := rfl
@[simp] theorem State.onFeed_cfg (g : Feed → Feed) (s : State) : (s.onFeed g).cfg = s.cfg := rfl
@[simp] theorem State.onFeed_pal (g : Feed → Feed) (s : State) : (s.onFeed g).pal = s.pal := rfl
@[simp] theorem State.onFeed_rect (g : Feed → Feed) (s : State) : (s.onFeed g).rect = s.rect := rfl
@[simp] theorem State.onFeed_bus (g : Feed → Feed) (s : State) : (s.onFeed g).bus = s.bus := rfl
@[simp] theorem State.onFeed_str (g : Feed → Feed) (s : State) : (s.onFeed g).str = s.str := rfl
@[simp] theorem State.onFeed_gauge (g : Feed → Feed) (s : State) : (s.onFeed g).gauge = s.gauge := rfl
@[simp] theorem State.onFeed_varn (g : Feed → Feed) (s : State) : (s.onFeed g).varn = s.varn := rfl
@[simp] theorem State.onFeed_dom (g : Feed → Feed) (s : State) : (s.onFeed g).dom = s.dom := rfl
@[simp] theorem State.onFeed_feed (g : Feed → Feed) (s : State) : (s.onFeed g).feed = g s.feed := rfl
@[simp] theorem State.onFeed_link (g : Feed → Feed) (s : State) : (s.onFeed g).link = s.link := rfl
@[simp] theorem State.onFeed_pd (g : Feed → Feed) (s : State) : (s.onFeed g).pd = s.pd := rfl
@[simp] theorem State.onFeed_seq (g : Feed → Feed) (s : State) : (s.onFeed g).seq = s.seq := rfl
@[simp] theorem State.onFeed_meas (g : Feed → Feed) (s : State) : (s.onFeed g).meas = s.meas := rfl
@[simp] theorem State.onFeed_therm (g : Feed → Feed) (s : State) : (s.onFeed g).therm = s.therm := rfl
@[simp] theorem State.onFeed_skb (g : Feed → Feed) (s : State) : (s.onFeed g).skb = s.skb := rfl
@[simp] theorem State.onFeed_flt (g : Feed → Feed) (s : State) : (s.onFeed g).flt = s.flt := rfl
@[simp] theorem State.onFeed_img (g : Feed → Feed) (s : State) : (s.onFeed g).img = s.img := rfl

@[simp] theorem State.onLink_pending (g : Link → Link) (s : State) : (s.onLink g).pending = s.pending := rfl
@[simp] theorem State.onLink_free (g : Link → Link) (s : State) : (s.onLink g).free = s.free := rfl
@[simp] theorem State.onLink_sys (g : Link → Link) (s : State) : (s.onLink g).sys = s.sys := rfl
@[simp] theorem State.onLink_hif (g : Link → Link) (s : State) : (s.onLink g).hif = s.hif := rfl
@[simp] theorem State.onLink_cfg (g : Link → Link) (s : State) : (s.onLink g).cfg = s.cfg := rfl
@[simp] theorem State.onLink_pal (g : Link → Link) (s : State) : (s.onLink g).pal = s.pal := rfl
@[simp] theorem State.onLink_rect (g : Link → Link) (s : State) : (s.onLink g).rect = s.rect := rfl
@[simp] theorem State.onLink_bus (g : Link → Link) (s : State) : (s.onLink g).bus = s.bus := rfl
@[simp] theorem State.onLink_str (g : Link → Link) (s : State) : (s.onLink g).str = s.str := rfl
@[simp] theorem State.onLink_gauge (g : Link → Link) (s : State) : (s.onLink g).gauge = s.gauge := rfl
@[simp] theorem State.onLink_varn (g : Link → Link) (s : State) : (s.onLink g).varn = s.varn := rfl
@[simp] theorem State.onLink_dom (g : Link → Link) (s : State) : (s.onLink g).dom = s.dom := rfl
@[simp] theorem State.onLink_feed (g : Link → Link) (s : State) : (s.onLink g).feed = s.feed := rfl
@[simp] theorem State.onLink_link (g : Link → Link) (s : State) : (s.onLink g).link = g s.link := rfl
@[simp] theorem State.onLink_pd (g : Link → Link) (s : State) : (s.onLink g).pd = s.pd := rfl
@[simp] theorem State.onLink_seq (g : Link → Link) (s : State) : (s.onLink g).seq = s.seq := rfl
@[simp] theorem State.onLink_meas (g : Link → Link) (s : State) : (s.onLink g).meas = s.meas := rfl
@[simp] theorem State.onLink_therm (g : Link → Link) (s : State) : (s.onLink g).therm = s.therm := rfl
@[simp] theorem State.onLink_skb (g : Link → Link) (s : State) : (s.onLink g).skb = s.skb := rfl
@[simp] theorem State.onLink_flt (g : Link → Link) (s : State) : (s.onLink g).flt = s.flt := rfl
@[simp] theorem State.onLink_img (g : Link → Link) (s : State) : (s.onLink g).img = s.img := rfl

@[simp] theorem State.onPd_pending (g : Pd → Pd) (s : State) : (s.onPd g).pending = s.pending := rfl
@[simp] theorem State.onPd_free (g : Pd → Pd) (s : State) : (s.onPd g).free = s.free := rfl
@[simp] theorem State.onPd_sys (g : Pd → Pd) (s : State) : (s.onPd g).sys = s.sys := rfl
@[simp] theorem State.onPd_hif (g : Pd → Pd) (s : State) : (s.onPd g).hif = s.hif := rfl
@[simp] theorem State.onPd_cfg (g : Pd → Pd) (s : State) : (s.onPd g).cfg = s.cfg := rfl
@[simp] theorem State.onPd_pal (g : Pd → Pd) (s : State) : (s.onPd g).pal = s.pal := rfl
@[simp] theorem State.onPd_rect (g : Pd → Pd) (s : State) : (s.onPd g).rect = s.rect := rfl
@[simp] theorem State.onPd_bus (g : Pd → Pd) (s : State) : (s.onPd g).bus = s.bus := rfl
@[simp] theorem State.onPd_str (g : Pd → Pd) (s : State) : (s.onPd g).str = s.str := rfl
@[simp] theorem State.onPd_gauge (g : Pd → Pd) (s : State) : (s.onPd g).gauge = s.gauge := rfl
@[simp] theorem State.onPd_varn (g : Pd → Pd) (s : State) : (s.onPd g).varn = s.varn := rfl
@[simp] theorem State.onPd_dom (g : Pd → Pd) (s : State) : (s.onPd g).dom = s.dom := rfl
@[simp] theorem State.onPd_feed (g : Pd → Pd) (s : State) : (s.onPd g).feed = s.feed := rfl
@[simp] theorem State.onPd_link (g : Pd → Pd) (s : State) : (s.onPd g).link = s.link := rfl
@[simp] theorem State.onPd_pd (g : Pd → Pd) (s : State) : (s.onPd g).pd = g s.pd := rfl
@[simp] theorem State.onPd_seq (g : Pd → Pd) (s : State) : (s.onPd g).seq = s.seq := rfl
@[simp] theorem State.onPd_meas (g : Pd → Pd) (s : State) : (s.onPd g).meas = s.meas := rfl
@[simp] theorem State.onPd_therm (g : Pd → Pd) (s : State) : (s.onPd g).therm = s.therm := rfl
@[simp] theorem State.onPd_skb (g : Pd → Pd) (s : State) : (s.onPd g).skb = s.skb := rfl
@[simp] theorem State.onPd_flt (g : Pd → Pd) (s : State) : (s.onPd g).flt = s.flt := rfl
@[simp] theorem State.onPd_img (g : Pd → Pd) (s : State) : (s.onPd g).img = s.img := rfl

@[simp] theorem State.onSeq_pending (g : Seq → Seq) (s : State) : (s.onSeq g).pending = s.pending := rfl
@[simp] theorem State.onSeq_free (g : Seq → Seq) (s : State) : (s.onSeq g).free = s.free := rfl
@[simp] theorem State.onSeq_sys (g : Seq → Seq) (s : State) : (s.onSeq g).sys = s.sys := rfl
@[simp] theorem State.onSeq_hif (g : Seq → Seq) (s : State) : (s.onSeq g).hif = s.hif := rfl
@[simp] theorem State.onSeq_cfg (g : Seq → Seq) (s : State) : (s.onSeq g).cfg = s.cfg := rfl
@[simp] theorem State.onSeq_pal (g : Seq → Seq) (s : State) : (s.onSeq g).pal = s.pal := rfl
@[simp] theorem State.onSeq_rect (g : Seq → Seq) (s : State) : (s.onSeq g).rect = s.rect := rfl
@[simp] theorem State.onSeq_bus (g : Seq → Seq) (s : State) : (s.onSeq g).bus = s.bus := rfl
@[simp] theorem State.onSeq_str (g : Seq → Seq) (s : State) : (s.onSeq g).str = s.str := rfl
@[simp] theorem State.onSeq_gauge (g : Seq → Seq) (s : State) : (s.onSeq g).gauge = s.gauge := rfl
@[simp] theorem State.onSeq_varn (g : Seq → Seq) (s : State) : (s.onSeq g).varn = s.varn := rfl
@[simp] theorem State.onSeq_dom (g : Seq → Seq) (s : State) : (s.onSeq g).dom = s.dom := rfl
@[simp] theorem State.onSeq_feed (g : Seq → Seq) (s : State) : (s.onSeq g).feed = s.feed := rfl
@[simp] theorem State.onSeq_link (g : Seq → Seq) (s : State) : (s.onSeq g).link = s.link := rfl
@[simp] theorem State.onSeq_pd (g : Seq → Seq) (s : State) : (s.onSeq g).pd = s.pd := rfl
@[simp] theorem State.onSeq_seq (g : Seq → Seq) (s : State) : (s.onSeq g).seq = g s.seq := rfl
@[simp] theorem State.onSeq_meas (g : Seq → Seq) (s : State) : (s.onSeq g).meas = s.meas := rfl
@[simp] theorem State.onSeq_therm (g : Seq → Seq) (s : State) : (s.onSeq g).therm = s.therm := rfl
@[simp] theorem State.onSeq_skb (g : Seq → Seq) (s : State) : (s.onSeq g).skb = s.skb := rfl
@[simp] theorem State.onSeq_flt (g : Seq → Seq) (s : State) : (s.onSeq g).flt = s.flt := rfl
@[simp] theorem State.onSeq_img (g : Seq → Seq) (s : State) : (s.onSeq g).img = s.img := rfl

@[simp] theorem State.onMeas_pending (g : Meas → Meas) (s : State) : (s.onMeas g).pending = s.pending := rfl
@[simp] theorem State.onMeas_free (g : Meas → Meas) (s : State) : (s.onMeas g).free = s.free := rfl
@[simp] theorem State.onMeas_sys (g : Meas → Meas) (s : State) : (s.onMeas g).sys = s.sys := rfl
@[simp] theorem State.onMeas_hif (g : Meas → Meas) (s : State) : (s.onMeas g).hif = s.hif := rfl
@[simp] theorem State.onMeas_cfg (g : Meas → Meas) (s : State) : (s.onMeas g).cfg = s.cfg := rfl
@[simp] theorem State.onMeas_pal (g : Meas → Meas) (s : State) : (s.onMeas g).pal = s.pal := rfl
@[simp] theorem State.onMeas_rect (g : Meas → Meas) (s : State) : (s.onMeas g).rect = s.rect := rfl
@[simp] theorem State.onMeas_bus (g : Meas → Meas) (s : State) : (s.onMeas g).bus = s.bus := rfl
@[simp] theorem State.onMeas_str (g : Meas → Meas) (s : State) : (s.onMeas g).str = s.str := rfl
@[simp] theorem State.onMeas_gauge (g : Meas → Meas) (s : State) : (s.onMeas g).gauge = s.gauge := rfl
@[simp] theorem State.onMeas_varn (g : Meas → Meas) (s : State) : (s.onMeas g).varn = s.varn := rfl
@[simp] theorem State.onMeas_dom (g : Meas → Meas) (s : State) : (s.onMeas g).dom = s.dom := rfl
@[simp] theorem State.onMeas_feed (g : Meas → Meas) (s : State) : (s.onMeas g).feed = s.feed := rfl
@[simp] theorem State.onMeas_link (g : Meas → Meas) (s : State) : (s.onMeas g).link = s.link := rfl
@[simp] theorem State.onMeas_pd (g : Meas → Meas) (s : State) : (s.onMeas g).pd = s.pd := rfl
@[simp] theorem State.onMeas_seq (g : Meas → Meas) (s : State) : (s.onMeas g).seq = s.seq := rfl
@[simp] theorem State.onMeas_meas (g : Meas → Meas) (s : State) : (s.onMeas g).meas = g s.meas := rfl
@[simp] theorem State.onMeas_therm (g : Meas → Meas) (s : State) : (s.onMeas g).therm = s.therm := rfl
@[simp] theorem State.onMeas_skb (g : Meas → Meas) (s : State) : (s.onMeas g).skb = s.skb := rfl
@[simp] theorem State.onMeas_flt (g : Meas → Meas) (s : State) : (s.onMeas g).flt = s.flt := rfl
@[simp] theorem State.onMeas_img (g : Meas → Meas) (s : State) : (s.onMeas g).img = s.img := rfl

@[simp] theorem State.onTherm_pending (g : Therm → Therm) (s : State) : (s.onTherm g).pending = s.pending := rfl
@[simp] theorem State.onTherm_free (g : Therm → Therm) (s : State) : (s.onTherm g).free = s.free := rfl
@[simp] theorem State.onTherm_sys (g : Therm → Therm) (s : State) : (s.onTherm g).sys = s.sys := rfl
@[simp] theorem State.onTherm_hif (g : Therm → Therm) (s : State) : (s.onTherm g).hif = s.hif := rfl
@[simp] theorem State.onTherm_cfg (g : Therm → Therm) (s : State) : (s.onTherm g).cfg = s.cfg := rfl
@[simp] theorem State.onTherm_pal (g : Therm → Therm) (s : State) : (s.onTherm g).pal = s.pal := rfl
@[simp] theorem State.onTherm_rect (g : Therm → Therm) (s : State) : (s.onTherm g).rect = s.rect := rfl
@[simp] theorem State.onTherm_bus (g : Therm → Therm) (s : State) : (s.onTherm g).bus = s.bus := rfl
@[simp] theorem State.onTherm_str (g : Therm → Therm) (s : State) : (s.onTherm g).str = s.str := rfl
@[simp] theorem State.onTherm_gauge (g : Therm → Therm) (s : State) : (s.onTherm g).gauge = s.gauge := rfl
@[simp] theorem State.onTherm_varn (g : Therm → Therm) (s : State) : (s.onTherm g).varn = s.varn := rfl
@[simp] theorem State.onTherm_dom (g : Therm → Therm) (s : State) : (s.onTherm g).dom = s.dom := rfl
@[simp] theorem State.onTherm_feed (g : Therm → Therm) (s : State) : (s.onTherm g).feed = s.feed := rfl
@[simp] theorem State.onTherm_link (g : Therm → Therm) (s : State) : (s.onTherm g).link = s.link := rfl
@[simp] theorem State.onTherm_pd (g : Therm → Therm) (s : State) : (s.onTherm g).pd = s.pd := rfl
@[simp] theorem State.onTherm_seq (g : Therm → Therm) (s : State) : (s.onTherm g).seq = s.seq := rfl
@[simp] theorem State.onTherm_meas (g : Therm → Therm) (s : State) : (s.onTherm g).meas = s.meas := rfl
@[simp] theorem State.onTherm_therm (g : Therm → Therm) (s : State) : (s.onTherm g).therm = g s.therm := rfl
@[simp] theorem State.onTherm_skb (g : Therm → Therm) (s : State) : (s.onTherm g).skb = s.skb := rfl
@[simp] theorem State.onTherm_flt (g : Therm → Therm) (s : State) : (s.onTherm g).flt = s.flt := rfl
@[simp] theorem State.onTherm_img (g : Therm → Therm) (s : State) : (s.onTherm g).img = s.img := rfl

@[simp] theorem State.onSkb_pending (g : Skb → Skb) (s : State) : (s.onSkb g).pending = s.pending := rfl
@[simp] theorem State.onSkb_free (g : Skb → Skb) (s : State) : (s.onSkb g).free = s.free := rfl
@[simp] theorem State.onSkb_sys (g : Skb → Skb) (s : State) : (s.onSkb g).sys = s.sys := rfl
@[simp] theorem State.onSkb_hif (g : Skb → Skb) (s : State) : (s.onSkb g).hif = s.hif := rfl
@[simp] theorem State.onSkb_cfg (g : Skb → Skb) (s : State) : (s.onSkb g).cfg = s.cfg := rfl
@[simp] theorem State.onSkb_pal (g : Skb → Skb) (s : State) : (s.onSkb g).pal = s.pal := rfl
@[simp] theorem State.onSkb_rect (g : Skb → Skb) (s : State) : (s.onSkb g).rect = s.rect := rfl
@[simp] theorem State.onSkb_bus (g : Skb → Skb) (s : State) : (s.onSkb g).bus = s.bus := rfl
@[simp] theorem State.onSkb_str (g : Skb → Skb) (s : State) : (s.onSkb g).str = s.str := rfl
@[simp] theorem State.onSkb_gauge (g : Skb → Skb) (s : State) : (s.onSkb g).gauge = s.gauge := rfl
@[simp] theorem State.onSkb_varn (g : Skb → Skb) (s : State) : (s.onSkb g).varn = s.varn := rfl
@[simp] theorem State.onSkb_dom (g : Skb → Skb) (s : State) : (s.onSkb g).dom = s.dom := rfl
@[simp] theorem State.onSkb_feed (g : Skb → Skb) (s : State) : (s.onSkb g).feed = s.feed := rfl
@[simp] theorem State.onSkb_link (g : Skb → Skb) (s : State) : (s.onSkb g).link = s.link := rfl
@[simp] theorem State.onSkb_pd (g : Skb → Skb) (s : State) : (s.onSkb g).pd = s.pd := rfl
@[simp] theorem State.onSkb_seq (g : Skb → Skb) (s : State) : (s.onSkb g).seq = s.seq := rfl
@[simp] theorem State.onSkb_meas (g : Skb → Skb) (s : State) : (s.onSkb g).meas = s.meas := rfl
@[simp] theorem State.onSkb_therm (g : Skb → Skb) (s : State) : (s.onSkb g).therm = s.therm := rfl
@[simp] theorem State.onSkb_skb (g : Skb → Skb) (s : State) : (s.onSkb g).skb = g s.skb := rfl
@[simp] theorem State.onSkb_flt (g : Skb → Skb) (s : State) : (s.onSkb g).flt = s.flt := rfl
@[simp] theorem State.onSkb_img (g : Skb → Skb) (s : State) : (s.onSkb g).img = s.img := rfl

@[simp] theorem State.onFlt_pending (g : Flt → Flt) (s : State) : (s.onFlt g).pending = s.pending := rfl
@[simp] theorem State.onFlt_free (g : Flt → Flt) (s : State) : (s.onFlt g).free = s.free := rfl
@[simp] theorem State.onFlt_sys (g : Flt → Flt) (s : State) : (s.onFlt g).sys = s.sys := rfl
@[simp] theorem State.onFlt_hif (g : Flt → Flt) (s : State) : (s.onFlt g).hif = s.hif := rfl
@[simp] theorem State.onFlt_cfg (g : Flt → Flt) (s : State) : (s.onFlt g).cfg = s.cfg := rfl
@[simp] theorem State.onFlt_pal (g : Flt → Flt) (s : State) : (s.onFlt g).pal = s.pal := rfl
@[simp] theorem State.onFlt_rect (g : Flt → Flt) (s : State) : (s.onFlt g).rect = s.rect := rfl
@[simp] theorem State.onFlt_bus (g : Flt → Flt) (s : State) : (s.onFlt g).bus = s.bus := rfl
@[simp] theorem State.onFlt_str (g : Flt → Flt) (s : State) : (s.onFlt g).str = s.str := rfl
@[simp] theorem State.onFlt_gauge (g : Flt → Flt) (s : State) : (s.onFlt g).gauge = s.gauge := rfl
@[simp] theorem State.onFlt_varn (g : Flt → Flt) (s : State) : (s.onFlt g).varn = s.varn := rfl
@[simp] theorem State.onFlt_dom (g : Flt → Flt) (s : State) : (s.onFlt g).dom = s.dom := rfl
@[simp] theorem State.onFlt_feed (g : Flt → Flt) (s : State) : (s.onFlt g).feed = s.feed := rfl
@[simp] theorem State.onFlt_link (g : Flt → Flt) (s : State) : (s.onFlt g).link = s.link := rfl
@[simp] theorem State.onFlt_pd (g : Flt → Flt) (s : State) : (s.onFlt g).pd = s.pd := rfl
@[simp] theorem State.onFlt_seq (g : Flt → Flt) (s : State) : (s.onFlt g).seq = s.seq := rfl
@[simp] theorem State.onFlt_meas (g : Flt → Flt) (s : State) : (s.onFlt g).meas = s.meas := rfl
@[simp] theorem State.onFlt_therm (g : Flt → Flt) (s : State) : (s.onFlt g).therm = s.therm := rfl
@[simp] theorem State.onFlt_skb (g : Flt → Flt) (s : State) : (s.onFlt g).skb = s.skb := rfl
@[simp] theorem State.onFlt_flt (g : Flt → Flt) (s : State) : (s.onFlt g).flt = g s.flt := rfl
@[simp] theorem State.onFlt_img (g : Flt → Flt) (s : State) : (s.onFlt g).img = s.img := rfl

@[simp] theorem State.onImg_pending (g : Img → Img) (s : State) : (s.onImg g).pending = s.pending := rfl
@[simp] theorem State.onImg_free (g : Img → Img) (s : State) : (s.onImg g).free = s.free := rfl
@[simp] theorem State.onImg_sys (g : Img → Img) (s : State) : (s.onImg g).sys = s.sys := rfl
@[simp] theorem State.onImg_hif (g : Img → Img) (s : State) : (s.onImg g).hif = s.hif := rfl
@[simp] theorem State.onImg_cfg (g : Img → Img) (s : State) : (s.onImg g).cfg = s.cfg := rfl
@[simp] theorem State.onImg_pal (g : Img → Img) (s : State) : (s.onImg g).pal = s.pal := rfl
@[simp] theorem State.onImg_rect (g : Img → Img) (s : State) : (s.onImg g).rect = s.rect := rfl
@[simp] theorem State.onImg_bus (g : Img → Img) (s : State) : (s.onImg g).bus = s.bus := rfl
@[simp] theorem State.onImg_str (g : Img → Img) (s : State) : (s.onImg g).str = s.str := rfl
@[simp] theorem State.onImg_gauge (g : Img → Img) (s : State) : (s.onImg g).gauge = s.gauge := rfl
@[simp] theorem State.onImg_varn (g : Img → Img) (s : State) : (s.onImg g).varn = s.varn := rfl
@[simp] theorem State.onImg_dom (g : Img → Img) (s : State) : (s.onImg g).dom = s.dom := rfl
@[simp] theorem State.onImg_feed (g : Img → Img) (s : State) : (s.onImg g).feed = s.feed := rfl
@[simp] theorem State.onImg_link (g : Img → Img) (s : State) : (s.onImg g).link = s.link := rfl
@[simp] theorem State.onImg_pd (g : Img → Img) (s : State) : (s.onImg g).pd = s.pd := rfl
@[simp] theorem State.onImg_seq (g : Img → Img) (s : State) : (s.onImg g).seq = s.seq := rfl
@[simp] theorem State.onImg_meas (g : Img → Img) (s : State) : (s.onImg g).meas = s.meas := rfl
@[simp] theorem State.onImg_therm (g : Img → Img) (s : State) : (s.onImg g).therm = s.therm := rfl
@[simp] theorem State.onImg_skb (g : Img → Img) (s : State) : (s.onImg g).skb = s.skb := rfl
@[simp] theorem State.onImg_flt (g : Img → Img) (s : State) : (s.onImg g).flt = s.flt := rfl
@[simp] theorem State.onImg_img (g : Img → Img) (s : State) : (s.onImg g).img = g s.img := rfl

@[simp] theorem State.drew_pending (s : State) : s.drew.pending = s.pending := rfl
@[simp] theorem State.drew_sys (s : State) : s.drew.sys = s.sys := rfl
@[simp] theorem State.drew_hif (s : State) : s.drew.hif = s.hif := rfl
@[simp] theorem State.drew_cfg (s : State) : s.drew.cfg = s.cfg := rfl
@[simp] theorem State.drew_pal (s : State) : s.drew.pal = s.pal := rfl
@[simp] theorem State.drew_rect (s : State) : s.drew.rect = s.rect := rfl
@[simp] theorem State.drew_bus (s : State) : s.drew.bus = s.bus := rfl
@[simp] theorem State.drew_str (s : State) : s.drew.str = s.str := rfl
@[simp] theorem State.drew_gauge (s : State) : s.drew.gauge = s.gauge := rfl
@[simp] theorem State.drew_varn (s : State) : s.drew.varn = s.varn := rfl
@[simp] theorem State.drew_dom (s : State) : s.drew.dom = s.dom := rfl
@[simp] theorem State.drew_feed (s : State) : s.drew.feed = s.feed := rfl
@[simp] theorem State.drew_link (s : State) : s.drew.link = s.link := rfl
@[simp] theorem State.drew_pd (s : State) : s.drew.pd = s.pd := rfl
@[simp] theorem State.drew_seq (s : State) : s.drew.seq = s.seq := rfl
@[simp] theorem State.drew_meas (s : State) : s.drew.meas = s.meas := rfl
@[simp] theorem State.drew_therm (s : State) : s.drew.therm = s.therm := rfl
@[simp] theorem State.drew_skb (s : State) : s.drew.skb = s.skb := rfl
@[simp] theorem State.drew_flt (s : State) : s.drew.flt = s.flt := rfl
@[simp] theorem State.drew_img (s : State) : s.drew.img = s.img := rfl
@[simp] theorem State.drew_free (s : State) : s.drew.free = s.free + 1 := rfl

end Sys2Proof.Machine
end

