-- ==== Sys2Proof/Laws/Channels.lean ====
section
/-! SUPPORT. A change of one channel's state: the channel shows it, every other channel and every other block stays. -/

namespace Sys2Proof.Machine

theorem fin_val {n : Nat} [NeZero n] {k : Nat} (h : k < n) : (fin n k).val = k := by simp [fin, h]

theorem fin_inj {n : Nat} [NeZero n] {j k : Nat} (hj : j < n) (hk : k < n) (h : fin n j = fin n k) : j = k := by
  simpa [fin_val hj, fin_val hk] using congrArg Fin.val h

@[simp] theorem State.onRectCh_rectCh (k : Nat) (f : RectCh → RectCh) (s : State) : (s.onRectCh k f).rectCh k = f (s.rectCh k) := by
  simp [State.onRectCh, State.rectCh]

theorem State.onRectCh_rectCh_ne {j k : Nat} (f : RectCh → RectCh) (s : State) (hj : j < 2) (hk : k < 2) (h : j ≠ k) :
    (s.onRectCh k f).rectCh j = s.rectCh j := by
  have e : ¬(fin 2 k).val = (fin 2 j).val := by rw [fin_val hj, fin_val hk]; omega
  simp [State.onRectCh, State.rectCh, upd, Vector.getElem_set_ne _ _ e]

@[simp] theorem State.onAuxCh_auxCh (k : Nat) (f : AuxCh → AuxCh) (s : State) : (s.onAuxCh k f).auxCh k = f (s.auxCh k) := by
  simp [State.onAuxCh, State.auxCh]

theorem State.onAuxCh_auxCh_ne {j k : Nat} (f : AuxCh → AuxCh) (s : State) (hj : j < 2) (hk : k < 2) (h : j ≠ k) :
    (s.onAuxCh k f).auxCh j = s.auxCh j := by
  have e : ¬(fin 2 k).val = (fin 2 j).val := by rw [fin_val hj, fin_val hk]; omega
  simp [State.onAuxCh, State.auxCh, upd, Vector.getElem_set_ne _ _ e]

@[simp] theorem State.onStrCh_strCh (k : Nat) (f : StrCh → StrCh) (s : State) : (s.onStrCh k f).strCh k = f (s.strCh k) := by
  simp [State.onStrCh, State.strCh]

theorem State.onStrCh_strCh_ne {j k : Nat} (f : StrCh → StrCh) (s : State) (hj : j < 2) (hk : k < 2) (h : j ≠ k) :
    (s.onStrCh k f).strCh j = s.strCh j := by
  have e : ¬(fin 2 k).val = (fin 2 j).val := by rw [fin_val hj, fin_val hk]; omega
  simp [State.onStrCh, State.strCh, upd, Vector.getElem_set_ne _ _ e]

@[simp] theorem State.onGaugeCh_gaugeCh (k : Nat) (f : GaugeCh → GaugeCh) (s : State) : (s.onGaugeCh k f).gaugeCh k = f (s.gaugeCh k) := by
  simp [State.onGaugeCh, State.gaugeCh]

theorem State.onGaugeCh_gaugeCh_ne {j k : Nat} (f : GaugeCh → GaugeCh) (s : State) (hj : j < 2) (hk : k < 2) (h : j ≠ k) :
    (s.onGaugeCh k f).gaugeCh j = s.gaugeCh j := by
  have e : ¬(fin 2 k).val = (fin 2 j).val := by rw [fin_val hj, fin_val hk]; omega
  simp [State.onGaugeCh, State.gaugeCh, upd, Vector.getElem_set_ne _ _ e]

@[simp] theorem State.onDomCh_domCh (k : Nat) (f : DomCh → DomCh) (s : State) : (s.onDomCh k f).domCh k = f (s.domCh k) := by
  simp [State.onDomCh, State.domCh]

theorem State.onDomCh_domCh_ne {j k : Nat} (f : DomCh → DomCh) (s : State) (hj : j < 16) (hk : k < 16) (h : j ≠ k) :
    (s.onDomCh k f).domCh j = s.domCh j := by
  have e : ¬(fin 16 k).val = (fin 16 j).val := by rw [fin_val hj, fin_val hk]; omega
  simp [State.onDomCh, State.domCh, upd, Vector.getElem_set_ne _ _ e]

@[simp] theorem State.onPortCh_portCh (k : Nat) (f : PortCh → PortCh) (s : State) : (s.onPortCh k f).portCh k = f (s.portCh k) := by
  simp [State.onPortCh, State.portCh]

theorem State.onPortCh_portCh_ne {j k : Nat} (f : PortCh → PortCh) (s : State) (hj : j < 24) (hk : k < 24) (h : j ≠ k) :
    (s.onPortCh k f).portCh j = s.portCh j := by
  have e : ¬(fin 24 k).val = (fin 24 j).val := by rw [fin_val hj, fin_val hk]; omega
  simp [State.onPortCh, State.portCh, upd, Vector.getElem_set_ne _ _ e]

@[simp] theorem State.onPdCh_pdCh (k : Nat) (f : PdCh → PdCh) (s : State) : (s.onPdCh k f).pdCh k = f (s.pdCh k) := by
  simp [State.onPdCh, State.pdCh]

theorem State.onPdCh_pdCh_ne {j k : Nat} (f : PdCh → PdCh) (s : State) (hj : j < 2) (hk : k < 2) (h : j ≠ k) :
    (s.onPdCh k f).pdCh j = s.pdCh j := by
  have e : ¬(fin 2 k).val = (fin 2 j).val := by rw [fin_val hj, fin_val hk]; omega
  simp [State.onPdCh, State.pdCh, upd, Vector.getElem_set_ne _ _ e]

end Sys2Proof.Machine
end

