-- ==== Sys2Proof/Laws/Keep.lean ====
section
/-! SUPPORT. What every operation of the model keeps: the queue of commands, what OTP holds, the order of the fault queue (R485)
and that of the boot records (R64). `Keep s t` says that a state `t` has come from `s` without breaking any of them; each
operation has a lemma that extends it. -/

namespace Sys2Proof.Machine

/-- `t` has the queue and the OTP identity of `s`, the bound of R64 and the queue's order of R485 if `s` has them. -/
structure Keep (s t : State) : Prop where
  fixed : t.fixed = s.fixed
  queue : s.flt.Ordered → t.flt.Ordered
  slots : s.sys.bootRecs.length ≤ 4 → t.sys.bootRecs.length ≤ 4

namespace Keep

theorem refl (s : State) : Keep s s := ⟨rfl, id, id⟩

theorem trans {s t r : State} (a : Keep s t) (b : Keep t r) : Keep s r :=
  ⟨b.fixed.trans a.fixed, fun h => b.queue (a.queue h), fun h => b.slots (a.slots h)⟩

theorem ite {s a b : State} {c : Prop} [Decidable c] (h : Keep s a) (k : Keep s b) : Keep s (if c then a else b) := by
  split <;> assumption

theorem cut {s v t : State} (h : Keep s v) (k : Keep s v → Keep s t) : Keep s t := k h

theorem cutP {p q : Prop} (h : p) (k : p → q) : q := k h

theorem ofPair {α : Type} {s t : State} {v : α × State} {a : α} (e : v = (a, t)) (h : Keep s v.2) : Keep s t := by
  subst e
  exact h

theorem ite2 {α : Type} {s : State} {a b : α × State} {c : Prop} [Decidable c] (h : Keep s a.2) (k : Keep s b.2) :
    Keep s (if c then a else b).2 := by
  split <;> assumption

/-- A fold of an operation over a list. -/
theorem foldl {α : Type} {s t : State} {f : State → α → State} (xs : List α) (k : ∀ t x, Keep s t → Keep s (f t x))
    (h : Keep s t) : Keep s (xs.foldl f t) := by
  induction xs generalizing t with
  | nil => exact h
  | cons x xs ih => exact ih (k t x h)

end Keep

/-- Every next state that an outcome holds keeps what `Keep` says. -/
def Keeps (s : State) (r : Host.Outcome State Fault Refusal) : Prop := ∀ t, r = .next t → Keep s t

namespace Keeps

theorem next {s t : State} (h : Keep s t) : Keeps s (.next t) := by
  intro r e
  cases e
  exact h

theorem let_ {α : Type} {s : State} {v : α} {b : α → Host.Outcome State Fault Refusal} (k : ∀ x, Keeps s (b x)) :
    Keeps s (let x := v; b x) := k v

end Keeps

variable {s t : State}

theorem State.onSys_keep {g : Sys → Sys} (hg : ∀ y, (g y).otp = y.otp ∧ (y.bootRecs.length ≤ 4 → (g y).bootRecs.length ≤ 4))
    (h : Keep s t) : Keep s (t.onSys g) :=
  h.trans ⟨by simp [State.fixed, hg], id, (hg t.sys).2⟩

theorem State.onSys_keep_at {g : Sys → Sys}
    (hg : (g t.sys).otp = t.sys.otp ∧ (t.sys.bootRecs.length ≤ 4 → (g t.sys).bootRecs.length ≤ 4)) (h : Keep s t) :
    Keep s (t.onSys g) :=
  h.trans ⟨by simp [State.fixed, hg], id, hg.2⟩

theorem State.onFlt_keep {g : Flt → Flt} (hg : t.flt.Ordered → (g t.flt).Ordered) (h : Keep s t) : Keep s (t.onFlt g) :=
  h.trans ⟨rfl, hg, id⟩

theorem State.onHif_keep {g : Hif → Hif} (h : Keep s t) : Keep s (t.onHif g) := h.trans ⟨rfl, id, id⟩

theorem State.onCfg_keep {g : Cfg → Cfg} (h : Keep s t) : Keep s (t.onCfg g) := h.trans ⟨rfl, id, id⟩

theorem State.onPal_keep {g : Pal → Pal} (h : Keep s t) : Keep s (t.onPal g) := h.trans ⟨rfl, id, id⟩

theorem State.onRect_keep {g : Rect → Rect} (h : Keep s t) : Keep s (t.onRect g) := h.trans ⟨rfl, id, id⟩

theorem State.onBus_keep {g : Bus → Bus} (h : Keep s t) : Keep s (t.onBus g) := h.trans ⟨rfl, id, id⟩

theorem State.onStr_keep {g : Str → Str} (h : Keep s t) : Keep s (t.onStr g) := h.trans ⟨rfl, id, id⟩

theorem State.onGauge_keep {g : Gauge → Gauge} (h : Keep s t) : Keep s (t.onGauge g) := h.trans ⟨rfl, id, id⟩

theorem State.onVarn_keep {g : Varn → Varn} (h : Keep s t) : Keep s (t.onVarn g) := h.trans ⟨rfl, id, id⟩

theorem State.onDom_keep {g : Dom → Dom} (h : Keep s t) : Keep s (t.onDom g) := h.trans ⟨rfl, id, id⟩

theorem State.onFeed_keep {g : Feed → Feed} (h : Keep s t) : Keep s (t.onFeed g) := h.trans ⟨rfl, id, id⟩

theorem State.onLink_keep {g : Link → Link} (h : Keep s t) : Keep s (t.onLink g) := h.trans ⟨rfl, id, id⟩

theorem State.onPd_keep {g : Pd → Pd} (h : Keep s t) : Keep s (t.onPd g) := h.trans ⟨rfl, id, id⟩

theorem State.onSeq_keep {g : Seq → Seq} (h : Keep s t) : Keep s (t.onSeq g) := h.trans ⟨rfl, id, id⟩

theorem State.onMeas_keep {g : Meas → Meas} (h : Keep s t) : Keep s (t.onMeas g) := h.trans ⟨rfl, id, id⟩

theorem State.onTherm_keep {g : Therm → Therm} (h : Keep s t) : Keep s (t.onTherm g) := h.trans ⟨rfl, id, id⟩

theorem State.onSkb_keep {g : Skb → Skb} (h : Keep s t) : Keep s (t.onSkb g) := h.trans ⟨rfl, id, id⟩

theorem State.onImg_keep {g : Img → Img} (h : Keep s t) : Keep s (t.onImg g) := h.trans ⟨rfl, id, id⟩

/-- An entry put into the queue makes it one longer. -/
theorem insertEntry_length (e : QEntry) (qs : List QEntry) : (insertEntry e qs).length = qs.length + 1 := by
  induction qs with
  | nil => rfl
  | cons q qs ih =>
    simp only [insertEntry]
    split <;> simp [ih]

/-- What an entry put into the queue leaves there. -/
theorem mem_insertEntry {x e : QEntry} {qs : List QEntry} : x ∈ insertEntry e qs ↔ x = e ∨ x ∈ qs := by
  induction qs with
  | nil => simp [insertEntry]
  | cons q qs ih =>
    simp only [insertEntry]
    split
    · simp
    · simp [ih]
      tauto

/-- Rank is transitive: what does not outrank the first of two in order does not outrank the second's rank above it. -/
theorem QEntry.ahead_trans {a b c : QEntry} (h : b.ahead a = false) (k : c.ahead b = false) : c.ahead a = false := by
  simp only [QEntry.ahead, Bool.or_eq_false_iff, Bool.and_eq_false_iff, decide_eq_false_iff_not] at h k ⊢
  omega

theorem QEntry.ahead_asymm {a b : QEntry} (h : a.ahead b = true) : b.ahead a = false := by
  simp only [QEntry.ahead, Bool.or_eq_true, Bool.and_eq_true, decide_eq_true_eq, Bool.or_eq_false_iff, Bool.and_eq_false_iff,
    decide_eq_false_iff_not] at h ⊢
  omega

/-- R485: an entry put into a queue in order leaves it in order. -/
theorem insertEntry_sorted {e : QEntry} {qs : List QEntry} (h : qs.Pairwise fun a b => b.ahead a = false) :
    (insertEntry e qs).Pairwise fun a b => b.ahead a = false := by
  induction qs with
  | nil => simp [insertEntry]
  | cons q qs ih =>
    obtain ⟨hq, hs⟩ := List.pairwise_cons.1 h
    simp only [insertEntry]
    split
    · rename_i c
      refine List.pairwise_cons.2 ⟨fun x hx => ?_, h⟩
      rcases List.mem_cons.1 hx with rfl | hx
      · exact QEntry.ahead_asymm c
      · exact QEntry.ahead_trans (QEntry.ahead_asymm c) (hq x hx)
    · rename_i c
      refine List.pairwise_cons.2 ⟨fun x hx => ?_, ih hs⟩
      rcases mem_insertEntry.1 hx with rfl | hx
      · simpa using c
      · exact hq x hx

/-- R485, R486: a placed entry leaves the queue in order. -/
theorem Flt.place_ordered {f g : Flt} {e : QEntry} {idle : Bool} (h : f.place e idle = some g) (he : 1 ≤ e.sev ∧ e.sev ≤ 4)
    (k : f.Ordered) : g.Ordered := by
  have waits : ¬32 ≤ f.held → Flt.Ordered { f with queue := insertEntry e f.queue } := fun n =>
    { held := by
        have := insertEntry_length e f.queue
        simp only [Flt.held] at n ⊢
        omega
      sorted := insertEntry_sorted k.sorted
      ranks := fun x hx => by
        rcases List.mem_append.1 hx with hx | hx
        · rcases mem_insertEntry.1 hx with rfl | hx
          · exact he
          · exact k.ranks x (List.mem_append.2 (.inl hx))
        · exact k.ranks x (List.mem_append.2 (.inr hx))
      nested := k.nested
      idle := k.idle }
  unfold Flt.place at h
  split at h
  · cases h
    refine { held := by simpa [Flt.held] using k.held, sorted := ?_, ranks := ?_, nested := k.nested, idle := k.idle }
    · refine List.pairwise_map.2 (k.sorted.imp fun {a b} w => ?_)
      split <;> split <;> exact w
    · intro x hx
      rcases List.mem_append.1 hx with hx | hx
      · obtain ⟨y, hy, rfl⟩ := List.mem_map.1 hx
        have := k.ranks y (List.mem_append.2 (.inl hy))
        split <;> exact this
      · exact k.ranks x (List.mem_append.2 (.inr hx))
  · split at h
    · cases h
    · rename_i n
      split at h
      · cases h
        exact waits n
      · split at h
        · rename_i r
          cases h
          have z := k.idle r
          refine { held := ?_, sorted := k.sorted, ranks := ?_, nested := by simp [z], idle := by simp }
          · simp only [Flt.held, r, z] at n ⊢
            simp at n ⊢
            omega
          · intro x hx
            simp [z] at hx
            rcases hx with hx | rfl
            · exact k.ranks x (List.mem_append.2 (.inl hx))
            · exact he
        · rename_i r r'
          split at h
          · rename_i c
            cases h
            have kn := k.nested
            refine { held := ?_, sorted := k.sorted, ranks := ?_, nested := ?_, idle := by simp }
            · simp only [Flt.held, r'] at n ⊢
              simp at n ⊢
              omega
            · intro x hx
              simp at hx
              rcases hx with hx | rfl | hx
              · exact k.ranks x (List.mem_append.2 (.inl hx))
              · exact he
              · exact k.ranks x (by simp [r']; tauto)
            · simp [r'] at kn ⊢
              refine ⟨⟨c, fun x hx => ?_⟩, kn⟩
              have := kn.1 x hx
              omega
          · cases h
            exact waits n

/-- R485, R486: what runs next leaves the queue in order. -/
theorem Flt.nextHandler_ordered {f g : Flt} (k : f.Ordered) (hq : g.queue = f.queue) (hs : g.susp = f.susp) :
    g.nextHandler.Ordered := by
  have rk : ∀ x, x ∈ f.queue ∨ x ∈ f.susp → 1 ≤ x.sev ∧ x.sev ≤ 4 := fun x hx => k.ranks x (by simp; tauto)
  have kh := k.held
  have ks := k.sorted
  have kn : f.susp.Pairwise fun a b => b.sev < a.sev := (List.pairwise_append.1 k.nested).2.1
  unfold Flt.nextHandler
  split
  · rename_i t ts q qs h1 h2
    rw [hs] at h1
    rw [hq] at h2
    rw [h1, h2] at rk
    rw [h1] at kn
    rw [h2] at ks
    have hz : g.susp = t :: ts := hs.trans h1
    have hy : g.queue = q :: qs := hq.trans h2
    split
    · rename_i c
      refine { held := ?_, sorted := (List.pairwise_cons.1 ks).2, ranks := ?_, nested := ?_, idle := by simp }
      · simp [h1, h2, hz] at kh ⊢
        omega
      · intro x hx
        simp [hz] at hx
        exact rk x (by simp; tauto)
      · simp [hz] at kn ⊢
        refine ⟨⟨c, fun x hx => ?_⟩, kn⟩
        have := kn.1 x hx
        omega
    · refine { held := ?_, sorted := by rw [hy]; exact ks, ranks := ?_, nested := by simpa using kn, idle := by simp }
      · simp [h1, h2, hy] at kh ⊢
        split at kh <;> omega
      · intro x hx
        simp [hy] at hx
        exact rk x (by simp; tauto)
  · rename_i t ts h1 h2
    rw [hs] at h1
    rw [hq] at h2
    rw [h1, h2] at rk
    rw [h1] at kn
    have hy : g.queue = [] := hq.trans h2
    refine { held := ?_, sorted := by simp [hy], ranks := ?_, nested := by simpa using kn, idle := by simp }
    · simp [h1, h2, hy] at kh ⊢
      split at kh <;> omega
    · intro x hx
      simp [hy] at hx
      exact rk x (by simp; tauto)
  · rename_i q qs h1 h2
    rw [hs] at h1
    rw [hq] at h2
    rw [h1, h2] at rk
    rw [h2] at ks
    have hz : g.susp = [] := hs.trans h1
    refine { held := ?_, sorted := (List.pairwise_cons.1 ks).2, ranks := ?_, nested := by simp [hz], idle := by simp }
    · simp [h1, h2, hz] at kh ⊢
      split at kh <;> omega
    · intro x hx
      simp [hz] at hx
      exact rk x (by simp; tauto)
  · rename_i h1 h2
    exact { held := by simp [h1, h2], sorted := by simp [h2], ranks := by simp [h1, h2],
            nested := by simp [h1], idle := fun _ => h1 }

/-- R488: at hold entry the running and the suspended handlers go back to the queue. -/
theorem Flt.requeue_ordered {f : Flt} (k : f.Ordered) :
    Flt.Ordered { f with
      queue := (f.running.toList ++ f.susp).foldl (fun q e => insertEntry e q) f.queue, running := none, susp := [] } := by
  have len : ∀ xs qs : List QEntry, (xs.foldl (fun q e => insertEntry e q) qs).length = qs.length + xs.length := by
    intro xs
    induction xs with
    | nil => intro qs; rfl
    | cons x xs ih =>
      intro qs
      simp only [List.foldl_cons, ih, insertEntry_length, List.length_cons]
      omega
  have mem : ∀ (xs qs : List QEntry) x, x ∈ xs.foldl (fun q e => insertEntry e q) qs → x ∈ qs ++ xs := by
    intro xs
    induction xs with
    | nil => intro qs x hx; simpa using hx
    | cons y ys ih =>
      intro qs x hx
      have := ih _ x hx
      simp only [List.mem_append, mem_insertEntry, List.mem_cons] at this ⊢
      tauto
  have srt : ∀ xs qs : List QEntry, qs.Pairwise (fun a b => b.ahead a = false) →
      (xs.foldl (fun q e => insertEntry e q) qs).Pairwise fun a b => b.ahead a = false := by
    intro xs
    induction xs with
    | nil => exact fun _ h => h
    | cons y ys ih => exact fun qs h => ih _ (insertEntry_sorted h)
  refine { held := ?_, sorted := srt _ _ k.sorted, ranks := ?_, nested := by simp, idle := fun _ => rfl }
  · have := k.held
    simp only [len, List.length_append] at this ⊢
    cases e : f.running <;> simp [e] at this ⊢ <;> omega
  · intro x hx
    simp only [Option.toList_none, List.append_nil] at hx
    exact k.ranks x (mem _ _ x hx)

theorem Flt.empty_ordered {f : Flt} (hq : f.queue = []) (hr : f.running = none) (hs : f.susp = []) : f.Ordered :=
  { held := by simp [hq, hr, hs], sorted := by simp [hq], ranks := by simp [hq, hr, hs], nested := by simp [hr, hs],
    idle := fun _ => hs }

/-- R482: a severity is at most 4. -/
theorem severity_le {code sev : Nat} (h : severity code = some sev) : sev ≤ 4 := by
  have all : ∀ p ∈ faultTable, p.1 ≤ 4 := by decide
  unfold severity at h
  obtain ⟨p, hp, rfl⟩ := Option.map_eq_some_iff.1 h
  exact all p (List.mem_of_find?_eq_some hp)

theorem State.drew_keep (h : Keep s t) : Keep s t.drew := h.trans ⟨rfl, id, id⟩

end Sys2Proof.Machine
end

