-- ==== Sys2Proof/Laws/KeepOps.lean ====
section
/-! SUPPORT. What each shared operation of the model keeps: one lemma each, to cite in place of unfolding it. -/

namespace Sys2Proof.Machine

theorem State.wdWrite_keep {s t : State} {v : Nat} (h : Keep s t) : Keep s (State.wdWrite v t) := by
  unfold State.wdWrite
  repeat' first
    | with_reducible assumption
    | with_reducible exact fun _ => ⟨rfl, id⟩
    | with_reducible apply State.onSys_keep

theorem RegWalk.commit_keep {s t : State} {w : RegWalk} (h : Keep s t) : Keep s (RegWalk.commit w t) := by
  unfold RegWalk.commit
  repeat' first
    | with_reducible assumption
    | with_reducible apply State.onHif_keep
    | with_reducible apply State.wdWrite_keep
    | split

theorem State.each_keep {s t : State} {α : Type} {xs : List α} {f : α → State → State} (hf : ∀ a0 r, Keep s r → Keep s
    (f a0 r)) (h : Keep s t) : Keep s (State.each xs f t) := by
  unfold State.each
  repeat' first
    | with_reducible assumption
    | with_reducible apply hf
    | with_reducible apply Keep.foldl
    | with_reducible (intro _ _)

theorem State.sendOn_keep {s t : State} {on : Nat → LinkPort → Bool} {frame : List Byte} (h : Keep s t) :
    Keep s (State.sendOn on frame t) := by
  unfold State.sendOn
  repeat' first
    | with_reducible assumption
    | with_reducible apply State.onLink_keep
    | split

theorem State.sendPackets_keep {s t : State} (h : Keep s t) : Keep s (State.sendPackets t) := by
  unfold State.sendPackets
  dsimp only
  repeat' first
    | with_reducible assumption
    | with_reducible apply State.each_keep
    | with_reducible apply State.sendOn_keep
    | with_reducible apply State.onHif_keep
    | with_reducible apply Keep.foldl
    | with_reducible (intro _ _)

theorem State.onRectCh_keep {s t : State} {k : Nat} {f : RectCh → RectCh} (h : Keep s t) :
    Keep s (State.onRectCh k f t) := by
  unfold State.onRectCh
  repeat' first
    | with_reducible assumption
    | with_reducible apply State.onRect_keep

theorem State.onStrCh_keep {s t : State} {k : Nat} {f : StrCh → StrCh} (h : Keep s t) : Keep s (State.onStrCh k f t) := by
  unfold State.onStrCh
  repeat' first
    | with_reducible assumption
    | with_reducible apply State.onStr_keep

theorem State.onDomCh_keep {s t : State} {k : Nat} {f : DomCh → DomCh} (h : Keep s t) : Keep s (State.onDomCh k f t) := by
  unfold State.onDomCh
  repeat' first
    | with_reducible assumption
    | with_reducible apply State.onDom_keep

theorem State.onPortCh_keep {s t : State} {k : Nat} {f : PortCh → PortCh} (h : Keep s t) :
    Keep s (State.onPortCh k f t) := by
  unfold State.onPortCh
  repeat' first
    | with_reducible assumption
    | with_reducible apply State.onFeed_keep

theorem State.onPdCh_keep {s t : State} {k : Nat} {f : PdCh → PdCh} (h : Keep s t) : Keep s (State.onPdCh k f t) := by
  unfold State.onPdCh
  repeat' first
    | with_reducible assumption
    | with_reducible apply State.onPd_keep

theorem State.setLast_keep {s t : State} {code : Nat} {ch : Nat} {sev : Nat} (h : Keep s t) :
    Keep s (State.setLast code ch sev t) := by
  unfold State.setLast
  repeat' first
    | with_reducible assumption
    | with_reducible apply State.onRectCh_keep
    | with_reducible apply State.onStrCh_keep
    | with_reducible apply State.onHif_keep
    | with_reducible apply State.onDomCh_keep
    | with_reducible apply State.onPortCh_keep
    | with_reducible apply State.onPdCh_keep
    | split

theorem State.trigger_keep {s t : State} {code : Nat} {chan : Nat} {evSeq : Nat} (h : Keep s t) :
    Keep s (State.trigger code chan evSeq t).2 := by
  unfold State.trigger
  dsimp only
  repeat' first
    | with_reducible assumption
    | with_reducible apply State.onSkb_keep
    | split

theorem State.log_keep {s t : State} {e : Entry} (h : Keep s t) : Keep s (State.log e t) := by
  unfold State.log
  repeat' first
    | with_reducible assumption
    | with_reducible apply State.onSkb_keep

theorem State.enqueue_keep {s t : State} {op : NandOp} {owed : Option Owed} (h : Keep s t) :
    Keep s (State.enqueue op owed t) := by
  unfold State.enqueue
  repeat' first
    | with_reducible assumption
    | with_reducible apply State.onSkb_keep

theorem State.card_keep {s t : State} {code : Nat} {ch : Nat} {sev : Nat} {evSeq : Nat} {payload : List Byte} (h : Keep s t) :
    Keep s (State.card code ch sev evSeq payload t) := by
  unfold State.card
  repeat' first
    | with_reducible assumption
    | with_reducible apply State.onSkb_keep
    | with_reducible apply State.enqueue_keep

theorem State.irq_keep {s t : State} {blk : Nat} (h : Keep s t) : Keep s (State.irq blk t) := by
  unfold State.irq
  repeat' first
    | with_reducible assumption
    | with_reducible apply State.onHif_keep

theorem State.flood_keep {s t : State} {type : Nat} {code : Nat} {value : Nat} (h : Keep s t) :
    Keep s (State.flood type code value t) := by
  unfold State.flood
  repeat' first
    | with_reducible assumption
    | with_reducible apply State.sendOn_keep

theorem State.record_keep {s t : State} {code : Nat} {ch : Nat} {sev : Nat} {p : FaultParam} {cap : Bool} (h : Keep s t) :
    Keep s (State.record code ch sev p cap t).2 := by
  unfold State.record
  repeat' first
    | with_reducible assumption
    | with_reducible exact Keep.refl _
    | with_reducible refine Keep.ofPair ‹_ = (_, _)› ?_
    | with_reducible apply Keeps.next
    | with_reducible refine Keep.ite ?_ ?_
    | with_reducible refine Keep.ite2 ?_ ?_
    | exact fun h => h
    | (extract_lets +onlyGivenNames x; refine Keep.cutP (p := Keep s x) ?_ (fun _ => ?_); (on_goal 2 => clear_value x); (on_goal 1 => subst x))
    | (extract_lets +onlyGivenNames x; clear_value x)
    | with_reducible apply State.setLast_keep
    | with_reducible apply State.trigger_keep
    | with_reducible apply State.log_keep
    | with_reducible apply State.card_keep
    | with_reducible apply State.irq_keep
    | with_reducible apply State.flood_keep
    | with_reducible apply State.onFlt_keep

theorem State.placeHeld_keep {s t : State} {e : QEntry} (he : 1 ≤ e.sev ∧ e.sev ≤ 4) (h : Keep s t) :
    Keep s (State.placeHeld e t) := by
  unfold State.placeHeld
  split
  · exact State.onFlt_keep (fun k => Flt.place_ordered ‹_› he k) h
  · exact State.record_keep (State.onFlt_keep (fun k => ⟨k.held, k.sorted, k.ranks, k.nested, k.idle⟩) h)

theorem State.raiseHeld_keep {s t : State} {code : Nat} {ch : Nat} {sev : Nat} {p : FaultParam} (hv : sev ≤ 4) (h : Keep s t) :
    Keep s (State.raiseHeld code ch sev p t) := by
  unfold State.raiseHeld
  dsimp only
  have r : Keep s (t.record code ch sev p true).2 := State.record_keep h
  have k : Keep s (if 1 ≤ sev then (t.record code ch sev p true).2.placeHeld ⟨code, ch, sev, t.skb.evSeq, t.now, 1⟩
      else (t.record code ch sev p true).2) := by
    split
    · exact State.placeHeld_keep ⟨‹_›, hv⟩ r
    · exact r
  split
  · exact State.placeHeld_keep ⟨Nat.le_refl 1, by show 1 ≤ 4; decide⟩ (State.record_keep k)
  · exact k

theorem State.dropPass_keep {s t : State} (h : Keep s t) : Keep s (State.dropPass t) := by
  unfold State.dropPass
  repeat' first
    | with_reducible assumption
    | with_reducible apply State.onMeas_keep

theorem State.dropOwed_keep {s t : State} (h : Keep s t) : Keep s (State.dropOwed t) := by
  unfold State.dropOwed
  repeat' first
    | with_reducible assumption
    | with_reducible apply State.onSkb_keep
    | with_reducible apply State.onPd_keep

theorem State.holdCore_keep {s t : State} {cause : Nat} {counted : Bool} (h : Keep s t) :
    Keep s (State.holdCore cause counted t) := by
  unfold State.holdCore
  dsimp only
  refine State.onSys_keep (fun _ => ⟨rfl, id⟩) (State.dropOwed_keep (State.onFlt_keep Flt.requeue_ordered (State.dropPass_keep
    (State.onCfg_keep (State.onHif_keep (State.onSys_keep (fun _ => ⟨rfl, id⟩) h))))))

theorem State.holdLimit_keep {s t : State} (h : Keep s t) : Keep s (State.holdLimit t) := by
  unfold State.holdLimit
  dsimp only
  split
  · exact h
  · split
    · exact State.onImg_keep (State.onSys_keep (fun _ => ⟨rfl, id⟩) h)
    · exact State.raiseHeld_keep (by decide) (State.onSys_keep (fun _ => ⟨rfl, id⟩) h)

theorem State.enterHold_keep {s t : State} {cause : Nat} {counted : Bool} (h : Keep s t) :
    Keep s (State.enterHold cause counted t) := by
  unfold State.enterHold
  dsimp only
  have k : Keep s ((t.holdCore cause counted).raiseHeld 0x0102 blockWide 2 { cause := cause }) :=
    State.raiseHeld_keep (by decide) (State.holdCore_keep h)
  split
  · refine State.holdLimit_keep ?_
    split
    · exact State.raiseHeld_keep (by decide) k
    · exact k
  · split
    · exact State.raiseHeld_keep (by decide) k
    · exact k

theorem State.dropQueue_keep {s t : State} (h : Keep s t) : Keep s (State.dropQueue t) := by
  unfold State.dropQueue
  exact State.onFlt_keep (fun _ => Flt.empty_ordered rfl rfl rfl) h

theorem State.bootAgain_keep {s t : State} {cause : Nat} (h : Keep s t) : Keep s (State.bootAgain cause t) := by
  unfold State.bootAgain
  repeat' first
    | with_reducible assumption
    | with_reducible exact fun _ => ⟨rfl, id⟩
    | with_reducible apply State.onImg_keep
    | with_reducible apply State.onSys_keep

theorem State.imageRestart_keep {s t : State} (h : Keep s t) : Keep s (State.imageRestart t) := by
  unfold State.imageRestart
  repeat' first
    | with_reducible assumption
    | with_reducible apply State.enterHold_keep
    | with_reducible apply State.onImg_keep
    | with_reducible apply State.dropQueue_keep
    | with_reducible apply State.onHif_keep
    | with_reducible apply State.bootAgain_keep
    | with_reducible apply State.dropOwed_keep
    | split

theorem State.adopt_keep {s t : State} {c : Nat} {ch : Nat} (h : Keep s t) : Keep s (State.adopt c ch t) := by
  unfold State.adopt
  repeat' first
    | with_reducible assumption
    | with_reducible exact Keep.refl _
    | with_reducible refine Keep.ofPair ‹_ = (_, _)› ?_
    | with_reducible apply Keeps.next
    | with_reducible refine Keep.ite ?_ ?_
    | with_reducible refine Keep.ite2 ?_ ?_
    | (extract_lets +onlyGivenNames x; clear_value x)
    | with_reducible apply State.onPal_keep

theorem State.noReply_keep {s t : State} {o : Origin} (h : Keep s t) : Keep s (State.noReply o t) := by
  unfold State.noReply
  repeat' first
    | with_reducible assumption
    | with_reducible apply State.onHif_keep
    | split

theorem State.deliver_keep {s t : State} {o : Origin} {bytes : List Byte} (h : Keep s t) :
    Keep s (State.deliver o bytes t) := by
  unfold State.deliver
  repeat' first
    | with_reducible assumption
    | with_reducible apply State.onHif_keep
    | split

theorem State.collect_keep {s t : State} {o : Origin} {op : Nat} {status : Nat} (h : Keep s t) :
    Keep s (State.collect o op status t) := by
  unfold State.collect
  dsimp only
  repeat' first
    | with_reducible assumption
    | with_reducible apply State.deliver_keep
    | with_reducible apply State.onHif_keep
    | split

theorem State.answer_keep {s t : State} {o : Origin} {op : Nat} {status : Nat} {data : List Byte} (h : Keep s t) :
    Keep s (State.answer o op status data t) := by
  unfold State.answer
  dsimp only
  repeat' first
    | with_reducible assumption
    | with_reducible apply State.collect_keep
    | with_reducible apply State.deliver_keep
    | with_reducible apply State.onHif_keep
    | split

theorem State.finish_keep {s t : State} {o : Origin} {op : Nat} {status : Nat} {data : List Byte} (h : Keep s t) :
    Keep s (State.finish o op status data t) := by
  unfold State.finish
  repeat' first
    | with_reducible assumption
    | with_reducible apply State.noReply_keep
    | with_reducible apply State.answer_keep
    | split

theorem State.wake_keep {s t : State} {p : Wait → Bool} {r : Wait → Nat × List Byte} (h : Keep s t) :
    Keep s (State.wake p r t) := by
  unfold State.wake
  dsimp only
  repeat' first
    | with_reducible assumption
    | with_reducible apply State.finish_keep
    | with_reducible apply State.onHif_keep
    | with_reducible apply Keep.foldl
    | with_reducible (intro _ _)
    | with_reducible intro _
    | split

theorem State.seqReply_keep {s t : State} {result : Nat} (h : Keep s t) : Keep s (State.seqReply result t) := by
  unfold State.seqReply
  repeat' first
    | with_reducible assumption
    | with_reducible apply State.wake_keep

theorem State.place_keep {s t : State} {e : QEntry} (he : 1 ≤ e.sev ∧ e.sev ≤ 4) (h : Keep s t) :
    Keep s (State.place e t) := by
  unfold State.place
  split
  · exact State.placeHeld_keep he h
  · split
    · exact State.onFlt_keep (fun k => Flt.place_ordered ‹_› he k) h
    · exact State.enterHold_keep
        (State.record_keep (State.onFlt_keep (fun k => ⟨k.held, k.sorted, k.ranks, k.nested, k.idle⟩) h))

theorem State.raiseWith_keep {s t : State} {p : FaultParam} {code : Nat} {ch : Nat} (h : Keep s t) :
    Keep s (State.raiseWith p code ch t) := by
  unfold State.raiseWith
  split
  · exact h
  · rename_i sev e
    have hv := severity_le e
    dsimp only
    have r : Keep s (t.record code ch sev p true).2 := State.record_keep h
    have k : Keep s (if 1 ≤ sev then (t.record code ch sev p true).2.place ⟨code, ch, sev, t.skb.evSeq, t.now, 1⟩
        else (t.record code ch sev p true).2) := by
      split
      · exact State.place_keep ⟨‹_›, hv⟩ r
      · exact r
    split
    · exact State.place_keep ⟨Nat.le_refl 1, by show 1 ≤ 4; decide⟩ (State.record_keep k)
    · exact k

theorem State.raise_keep {s t : State} {code : Nat} {ch : Nat} (h : Keep s t) : Keep s (State.raise code ch t) := by
  unfold State.raise
  repeat' first
    | with_reducible assumption
    | with_reducible apply State.raiseWith_keep

theorem State.judgeMark_keep {s t : State} {p : Wait → Bool} {j : Wait → Nat → Option Nat} (h : Keep s t) :
    Keep s (State.judgeMark p j t) := by
  unfold State.judgeMark
  repeat' first
    | with_reducible assumption
    | with_reducible apply State.onHif_keep

theorem State.judge_keep {s t : State} {p : Wait → Bool} {j : Wait → Nat → Option Nat} (h : Keep s t) :
    Keep s (State.judge p j t) := by
  unfold State.judge
  repeat' first
    | with_reducible assumption
    | with_reducible apply State.wake_keep
    | with_reducible apply State.judgeMark_keep

theorem State.wakeCommits_keep {s t : State} (h : Keep s t) : Keep s (State.wakeCommits t) := by
  unfold State.wakeCommits
  repeat' first
    | with_reducible assumption
    | with_reducible apply State.judge_keep
    | with_reducible apply State.onHif_keep
    | with_reducible apply State.wake_keep

theorem State.onCopy_keep {s t : State} {r : RecId} {ch : Nat} {f : RecCopy → RecCopy} (h : Keep s t) :
    Keep s (State.onCopy r ch f t) := by
  unfold State.onCopy
  repeat' first
    | with_reducible assumption
    | with_reducible apply State.onCfg_keep

theorem State.onAuxCh_keep {s t : State} {k : Nat} {f : AuxCh → AuxCh} (h : Keep s t) : Keep s (State.onAuxCh k f t) := by
  unfold State.onAuxCh
  repeat' first
    | with_reducible assumption
    | with_reducible apply State.onBus_keep

theorem State.onGaugeCh_keep {s t : State} {k : Nat} {f : GaugeCh → GaugeCh} (h : Keep s t) :
    Keep s (State.onGaugeCh k f t) := by
  unfold State.onGaugeCh
  repeat' first
    | with_reducible assumption
    | with_reducible apply State.onGauge_keep

theorem State.plainStopped_keep {s t : State} {r : RecId} {ch : Nat} (h : Keep s t) :
    Keep s (State.plainStopped r ch t) := by
  unfold State.plainStopped
  repeat' first
    | with_reducible assumption
    | with_reducible exact Keep.refl _
    | with_reducible refine Keep.ofPair ‹_ = (_, _)› ?_
    | with_reducible apply Keeps.next
    | with_reducible refine Keep.ite ?_ ?_
    | with_reducible refine Keep.ite2 ?_ ?_
    | (extract_lets +onlyGivenNames x; clear_value x)
    | with_reducible apply State.wakeCommits_keep
    | with_reducible apply State.onCopy_keep

theorem State.domAnswer_keep {s t : State} (h : Keep s t) : Keep s (State.domAnswer t) := by
  unfold State.domAnswer
  repeat' first
    | with_reducible assumption
    | with_reducible exact Keep.refl _
    | with_reducible refine Keep.ofPair ‹_ = (_, _)› ?_
    | with_reducible apply Keeps.next
    | with_reducible refine Keep.ite ?_ ?_
    | with_reducible refine Keep.ite2 ?_ ?_
    | with_reducible apply State.wake_keep

theorem State.supersede_keep {s t : State} {k : Nat} (h : Keep s t) : Keep s (State.supersede k t) := by
  unfold State.supersede
  repeat' first
    | with_reducible assumption
    | with_reducible apply State.onHif_keep

theorem State.domRetarget_keep {s t : State} {k : Nat} {slew : Nat} (h : Keep s t) :
    Keep s (State.domRetarget k slew t) := by
  unfold State.domRetarget
  dsimp only
  repeat' first
    | with_reducible assumption
    | with_reducible apply State.domAnswer_keep
    | with_reducible apply State.supersede_keep
    | with_reducible apply State.onDomCh_keep
    | split

theorem State.arm_keep {s t : State} (h : Keep s t) : Keep s (State.arm t) := by
  unfold State.arm
  dsimp only
  repeat' first
    | with_reducible assumption
    | with_reducible apply State.adopt_keep
    | with_reducible apply State.onSkb_keep
    | split

theorem State.landed_keep {s t : State} {r : RecId} {ch : Nat} {old : List Byte} (h : Keep s t) :
    Keep s (State.landed r ch old t) := by
  unfold State.landed
  dsimp only
  repeat' first
    | with_reducible assumption
    | with_reducible apply State.onRectCh_keep
    | with_reducible apply State.raise_keep
    | with_reducible apply State.onAuxCh_keep
    | with_reducible apply State.onStrCh_keep
    | with_reducible apply State.onGaugeCh_keep
    | with_reducible apply State.plainStopped_keep
    | with_reducible apply State.domRetarget_keep
    | with_reducible apply State.onPortCh_keep
    | with_reducible apply State.onLink_keep
    | with_reducible apply State.onPdCh_keep
    | with_reducible apply State.onSeq_keep
    | with_reducible apply State.onMeas_keep
    | with_reducible apply State.arm_keep
    | with_reducible apply State.onSkb_keep
    | split

theorem State.setCopy_keep {s t : State} {r : RecId} {ch : Nat} {c : RecCopy} (h : Keep s t) :
    Keep s (State.setCopy r ch c t) := by
  unfold State.setCopy
  dsimp only
  repeat' first
    | with_reducible assumption
    | with_reducible apply State.onCopy_keep
    | with_reducible apply State.landed_keep
    | split

theorem State.landStopped_keep {s t : State} {r : RecId} {ch : Nat} (h : Keep s t) : Keep s (State.landStopped r ch t) := by
  unfold State.landStopped
  dsimp only
  repeat' first
    | with_reducible assumption
    | with_reducible apply State.wakeCommits_keep
    | with_reducible apply State.setCopy_keep
    | split

theorem State.seqStop_keep {s t : State} {st : QState} (h : Keep s t) : Keep s (State.seqStop st t) := by
  unfold State.seqStop
  repeat' first
    | with_reducible assumption
    | with_reducible exact Keep.refl _
    | with_reducible refine Keep.ofPair ‹_ = (_, _)› ?_
    | with_reducible apply Keeps.next
    | with_reducible refine Keep.ite ?_ ?_
    | with_reducible refine Keep.ite2 ?_ ?_
    | (extract_lets +onlyGivenNames x; clear_value x)
    | with_reducible apply State.landStopped_keep
    | with_reducible apply State.onSeq_keep

theorem State.seqPreempt_keep {s t : State} (h : Keep s t) : Keep s (State.seqPreempt t) := by
  unfold State.seqPreempt
  repeat' first
    | with_reducible assumption
    | with_reducible apply State.seqReply_keep
    | with_reducible apply State.raise_keep
    | with_reducible apply State.seqStop_keep
    | split

theorem State.seqDone_keep {s t : State} (h : Keep s t) : Keep s (State.seqDone t) := by
  unfold State.seqDone
  repeat' first
    | with_reducible assumption
    | with_reducible apply State.seqReply_keep
    | with_reducible apply State.raise_keep
    | with_reducible apply State.seqStop_keep

theorem State.settle_keep {s t : State} {p : ActiveFault → Bool} (h : Keep s t) : Keep s (State.settle p t) := by
  unfold State.settle
  repeat' first
    | with_reducible assumption
    | exact fun k => k
    | with_reducible apply State.onFlt_keep

theorem State.settleCh_keep {s t : State} {blk : Nat} {ch : Nat} (h : Keep s t) : Keep s (State.settleCh blk ch t) := by
  unfold State.settleCh
  repeat' first
    | with_reducible assumption
    | with_reducible apply State.settle_keep

theorem State.settleStop_keep {s t : State} {r : RecId} {ch : Nat} (h : Keep s t) : Keep s (State.settleStop r ch t) := by
  unfold State.settleStop
  repeat' first
    | with_reducible assumption
    | with_reducible apply State.each_keep
    | with_reducible apply State.landStopped_keep
    | with_reducible apply Keep.foldl
    | with_reducible (intro _ _)

theorem State.seqEval_keep {s t : State} (h : Keep s t) : Keep s (State.seqEval t) := by
  unfold State.seqEval
  dsimp only
  repeat' first
    | with_reducible assumption
    | with_reducible apply State.onSeq_keep
    | split

theorem State.portJudge_keep {s t : State} (h : Keep s t) : Keep s (State.portJudge t) := by
  unfold State.portJudge
  repeat' first
    | with_reducible assumption
    | with_reducible apply State.judge_keep

theorem State.portTo_keep {s t : State} {n : Nat} {st : PState} (h : Keep s t) : Keep s (State.portTo n st t) := by
  unfold State.portTo
  repeat' first
    | with_reducible assumption
    | with_reducible apply State.onPortCh_keep
    | with_reducible apply State.settleCh_keep
    | with_reducible apply State.settleStop_keep
    | with_reducible apply State.seqEval_keep
    | with_reducible apply State.portJudge_keep
    | split

theorem State.portOn_keep {s t : State} {n : Nat} (h : Keep s t) : Keep s (State.portOn n t) := by
  unfold State.portOn
  dsimp only
  repeat' first
    | with_reducible assumption
    | with_reducible apply State.onPortCh_keep
    | with_reducible apply State.portTo_keep
    | split

theorem State.portOff_keep {s t : State} {n : Nat} (h : Keep s t) : Keep s (State.portOff n t) := by
  unfold State.portOff
  dsimp only
  repeat' first
    | with_reducible assumption
    | with_reducible apply State.onPortCh_keep
    | with_reducible apply State.portTo_keep
    | split

theorem State.portSeq_keep {s t : State} {n : Nat} {on : Bool} (h : Keep s t) : Keep s (State.portSeq n on t) := by
  unfold State.portSeq
  repeat' first
    | with_reducible assumption
    | with_reducible apply State.portOn_keep
    | with_reducible apply State.portOff_keep
    | split

theorem State.voutDrop_keep {s t : State} {k : Nat} (h : Keep s t) : Keep s (State.voutDrop k t) := by
  unfold State.voutDrop
  repeat' first
    | with_reducible assumption
    | with_reducible exact Keep.refl _
    | with_reducible refine Keep.ofPair ‹_ = (_, _)› ?_
    | with_reducible apply Keeps.next
    | with_reducible refine Keep.ite ?_ ?_
    | with_reducible refine Keep.ite2 ?_ ?_
    | (extract_lets +onlyGivenNames x; clear_value x)
    | with_reducible apply State.onCopy_keep

theorem State.domJudge_keep {s t : State} (h : Keep s t) : Keep s (State.domJudge t) := by
  unfold State.domJudge
  repeat' first
    | with_reducible assumption
    | with_reducible apply State.domAnswer_keep
    | with_reducible apply State.judgeMark_keep

theorem State.d0Window_keep {s t : State} (h : Keep s t) : Keep s (State.d0Window t) := by
  unfold State.d0Window
  repeat' first
    | with_reducible assumption
    | with_reducible exact fun _ => ⟨rfl, id⟩
    | with_reducible apply State.onSys_keep

theorem State.domTo_keep {s t : State} {k : Nat} {st : DState} (h : Keep s t) : Keep s (State.domTo k st t) := by
  unfold State.domTo
  repeat' first
    | with_reducible assumption
    | with_reducible apply State.onDomCh_keep
    | with_reducible apply State.settleCh_keep
    | with_reducible apply State.settleStop_keep
    | with_reducible apply State.seqEval_keep
    | with_reducible apply State.domJudge_keep
    | with_reducible apply State.d0Window_keep
    | split

theorem State.softOff_keep {s t : State} {k : Nat} (h : Keep s t) : Keep s (State.softOff k t) := by
  unfold State.softOff
  dsimp only
  repeat' first
    | with_reducible assumption
    | with_reducible apply State.domTo_keep
    | with_reducible apply State.onDomCh_keep
    | split

theorem State.domOff_keep {s t : State} {k : Nat} {soft : Bool} (h : Keep s t) : Keep s (State.domOff k soft t) := by
  unfold State.domOff
  dsimp only
  repeat' first
    | with_reducible assumption
    | with_reducible apply State.onDomCh_keep
    | with_reducible apply State.softOff_keep
    | with_reducible apply State.domTo_keep
    | split

theorem State.domSeq_keep {s t : State} {k : Nat} {on : Bool} (h : Keep s t) : Keep s (State.domSeq k on t) := by
  unfold State.domSeq
  dsimp only
  repeat' first
    | with_reducible assumption
    | with_reducible apply State.voutDrop_keep
    | with_reducible apply State.judge_keep
    | with_reducible apply State.onDomCh_keep
    | with_reducible apply State.domOff_keep
    | split

theorem State.seqActs_keep {s t : State} {t' : List Byte} {on : Bool} (h : Keep s t) : Keep s (State.seqActs t' on t) := by
  unfold State.seqActs
  repeat' first
    | with_reducible assumption
    | with_reducible apply State.each_keep
    | with_reducible apply State.portSeq_keep
    | with_reducible apply State.domSeq_keep
    | with_reducible apply Keep.foldl
    | with_reducible (intro _ _)

theorem State.seqFrom_keep {s t : State} {n0 : Nat} {n1 : Nat} (h : Keep s t) : Keep s (State.seqFrom n0 n1 t) := by
  induction n0 generalizing t n1 with
  | zero => exact h
  | succ n ih =>
    unfold State.seqFrom
    dsimp only
    repeat' first
      | with_reducible assumption
      | with_reducible apply State.seqDone_keep
      | with_reducible apply State.seqEval_keep
      | with_reducible apply State.seqActs_keep
      | with_reducible apply State.onSeq_keep
      | with_reducible apply ih
      | split

theorem State.seqBegin_keep {s t : State} {inst : Nat} (h : Keep s t) : Keep s (State.seqBegin inst t) := by
  unfold State.seqBegin
  repeat' first
    | with_reducible assumption
    | with_reducible apply State.adopt_keep
    | with_reducible apply State.seqPreempt_keep
    | with_reducible apply State.seqFrom_keep
    | with_reducible apply State.onSeq_keep

theorem State.powerDown_keep {s t : State} (h : Keep s t) : Keep s (State.powerDown t) := by
  unfold State.powerDown
  repeat' first
    | with_reducible assumption
    | with_reducible apply State.seqBegin_keep
    | split

theorem State.coldReset_keep {s t : State} (h : Keep s t) : Keep s (State.coldReset t) := by
  unfold State.coldReset
  repeat' first
    | with_reducible assumption
    | with_reducible exact fun _ => ⟨rfl, id⟩
    | with_reducible apply State.onSys_keep
    | with_reducible apply State.dropOwed_keep
    | with_reducible apply State.dropPass_keep
    | with_reducible apply State.onHif_keep
    | with_reducible apply State.powerDown_keep
    | with_reducible apply State.onSeq_keep

theorem State.serveReset_keep {s t : State} (h : Keep s t) : Keep s (State.serveReset t) := by
  unfold State.serveReset
  dsimp only
  repeat' first
    | with_reducible assumption
    | with_reducible exact fun _ => ⟨rfl, id⟩
    | with_reducible apply State.onSys_keep
    | with_reducible apply State.imageRestart_keep
    | with_reducible apply State.enterHold_keep
    | with_reducible apply State.coldReset_keep
    | split

theorem State.hifServe_keep {s t : State} (h : Keep s t) : Keep s (State.hifServe t) := by
  unfold State.hifServe
  repeat' first
    | with_reducible assumption
    | with_reducible apply State.serveReset_keep
    | with_reducible apply State.onHif_keep
    | split

theorem State.packetEnd_keep {s t : State} (h : Keep s t) : Keep s (State.packetEnd t) := by
  unfold State.packetEnd
  repeat' first
    | with_reducible assumption
    | with_reducible apply State.sendPackets_keep
    | with_reducible apply State.hifServe_keep

theorem State.disown_keep {s t : State} (h : Keep s t) : Keep s (State.disown t) := by
  unfold State.disown
  repeat' first
    | with_reducible assumption
    | with_reducible apply State.onHif_keep
    | with_reducible apply State.onSkb_keep
    | with_reducible apply State.onPd_keep

theorem State.onMbx_keep {s t : State} {f : Mbx → Mbx} (h : Keep s t) : Keep s (State.onMbx f t) := by
  unfold State.onMbx
  repeat' first
    | with_reducible assumption
    | with_reducible apply State.onHif_keep

theorem State.abort_keep {s t : State} (h : Keep s t) : Keep s (State.abort t) := by
  unfold State.abort
  repeat' first
    | with_reducible assumption
    | with_reducible apply State.packetEnd_keep
    | with_reducible apply State.disown_keep
    | with_reducible apply State.onMbx_keep
    | split

theorem State.accepted_keep {s t : State} {o : Origin} {priv : Nat} (h : Keep s t) : Keep s (State.accepted o priv t) := by
  unfold State.accepted
  repeat' first
    | with_reducible assumption
    | with_reducible exact fun _ => ⟨rfl, id⟩
    | with_reducible apply State.onSys_keep
    | with_reducible apply State.onHif_keep
    | split

theorem State.adcTrigger_keep {s t : State} {src : Nat} (h : Keep s t) : Keep s (State.adcTrigger src t) := by
  unfold State.adcTrigger
  repeat' first
    | with_reducible assumption
    | with_reducible exact Keep.refl _
    | with_reducible refine Keep.ofPair ‹_ = (_, _)› ?_
    | with_reducible apply Keeps.next
    | with_reducible refine Keep.ite ?_ ?_
    | with_reducible refine Keep.ite2 ?_ ?_
    | with_reducible apply State.onMeas_keep

theorem State.adoptSources_keep {s t : State} (h : Keep s t) : Keep s (State.adoptSources t) := by
  unfold State.adoptSources
  repeat' first
    | with_reducible assumption
    | with_reducible exact Keep.refl _
    | with_reducible refine Keep.ofPair ‹_ = (_, _)› ?_
    | with_reducible apply Keeps.next
    | with_reducible refine Keep.ite ?_ ?_
    | with_reducible refine Keep.ite2 ?_ ?_
    | (extract_lets +onlyGivenNames x; clear_value x)
    | with_reducible apply State.adopt_keep

theorem State.advanceTo_keep {s t : State} {t' : Nat} (h : Keep s t) : Keep s (State.advanceTo t' t) := by
  unfold State.advanceTo
  repeat' first
    | with_reducible assumption
    | with_reducible exact fun _ => ⟨rfl, id⟩
    | with_reducible apply State.onSys_keep

theorem State.amsOver_keep {s t : State} {k : Nat} (h : Keep s t) : Keep s (State.amsOver k t) := by
  unfold State.amsOver
  repeat' first
    | with_reducible assumption
    | with_reducible apply State.onPdCh_keep

theorem State.armFields_keep {s t : State} {r : RecId} {ch : Nat} {id : Nat} {idx : List Nat} (h : Keep s t) :
    Keep s (State.armFields r ch id idx t) := by
  unfold State.armFields
  dsimp only
  repeat' first
    | with_reducible assumption
    | with_reducible apply State.onCopy_keep
    | with_reducible apply State.setCopy_keep
    | split

theorem State.autoSeq_keep {s t : State} (h : Keep s t) : Keep s (State.autoSeq t) := by
  unfold State.autoSeq
  repeat' first
    | with_reducible assumption
    | with_reducible apply State.onSeq_keep
    | split

theorem State.fltGone_keep {s t : State} {k : Nat} (h : Keep s t) : Keep s (State.fltGone k t) := by
  unfold State.fltGone
  repeat' first
    | with_reducible assumption
    | with_reducible exact Keep.refl _
    | with_reducible refine Keep.ofPair ‹_ = (_, _)› ?_
    | with_reducible apply Keeps.next
    | with_reducible refine Keep.ite ?_ ?_
    | with_reducible refine Keep.ite2 ?_ ?_
    | (extract_lets +onlyGivenNames x; clear_value x)
    | with_reducible apply State.raise_keep
    | with_reducible apply State.onRectCh_keep

theorem State.ffRelease_keep {s t : State} (h : Keep s t) : Keep s (State.ffRelease t) := by
  unfold State.ffRelease
  repeat' first
    | with_reducible assumption
    | with_reducible apply State.onBus_keep

theorem State.dropCleared_keep {s t : State} {k : Nat} {was : Bool} (h : Keep s t) : Keep s (State.dropCleared k was t) := by
  unfold State.dropCleared
  repeat' first
    | with_reducible assumption
    | with_reducible exact Keep.refl _
    | with_reducible refine Keep.ofPair ‹_ = (_, _)› ?_
    | with_reducible apply Keeps.next
    | with_reducible refine Keep.ite ?_ ?_
    | with_reducible refine Keep.ite2 ?_ ?_
    | (extract_lets +onlyGivenNames x; clear_value x)
    | with_reducible apply State.flood_keep

theorem State.rectJudge_keep {s t : State} (h : Keep s t) : Keep s (State.rectJudge t) := by
  unfold State.rectJudge
  repeat' first
    | with_reducible assumption
    | with_reducible apply State.judge_keep

theorem State.busEval_keep {s t : State} (h : Keep s t) : Keep s (State.busEval t) := by
  unfold State.busEval
  dsimp only
  repeat' first
    | with_reducible assumption
    | with_reducible apply State.onBus_keep
    | with_reducible apply State.settle_keep
    | with_reducible apply State.raise_keep
    | split

theorem State.rectTo_keep {s t : State} {k : Nat} {st : RState} (h : Keep s t) : Keep s (State.rectTo k st t) := by
  unfold State.rectTo
  repeat' first
    | with_reducible assumption
    | with_reducible apply State.fltGone_keep
    | with_reducible apply State.onRectCh_keep
    | with_reducible apply State.ffRelease_keep
    | with_reducible apply State.dropCleared_keep
    | with_reducible apply State.onBus_keep
    | with_reducible apply State.settle_keep
    | with_reducible apply State.settleCh_keep
    | with_reducible apply State.rectJudge_keep
    | with_reducible apply State.busEval_keep
    | with_reducible apply State.settleStop_keep
    | split

theorem State.autoStart_keep {s t : State} {k : Nat} (h : Keep s t) : Keep s (State.autoStart k t) := by
  unfold State.autoStart
  dsimp only
  repeat' first
    | with_reducible assumption
    | with_reducible apply State.rectTo_keep
    | with_reducible apply State.onRectCh_keep
    | split

theorem State.autoTry_keep {s t : State} {k : Nat} (h : Keep s t) : Keep s (State.autoTry k t) := by
  unfold State.autoTry
  dsimp only
  repeat' first
    | with_reducible assumption
    | with_reducible apply State.rectTo_keep
    | split

theorem State.ffLost_keep {s t : State} {other : Bool} (h : Keep s t) : Keep s (State.ffLost other t) := by
  unfold State.ffLost
  repeat' first
    | with_reducible assumption
    | with_reducible apply State.onBus_keep

theorem State.auxTo_keep {s t : State} {k : Nat} {st : AState} (h : Keep s t) : Keep s (State.auxTo k st t) := by
  unfold State.auxTo
  repeat' first
    | with_reducible assumption
    | with_reducible apply State.onAuxCh_keep
    | with_reducible apply State.ffLost_keep
    | with_reducible apply State.settleCh_keep
    | with_reducible apply State.busEval_keep
    | with_reducible apply State.settleStop_keep
    | split

theorem State.ffStart_keep {s t : State} {sum : Nat} (h : Keep s t) : Keep s (State.ffStart sum t) := by
  unfold State.ffStart
  repeat' first
    | with_reducible assumption
    | with_reducible apply State.onBus_keep

theorem State.auxOpen_keep {s t : State} {k : Nat} {to_ : AState} (h : Keep s t) : Keep s (State.auxOpen k to_ t) := by
  unfold State.auxOpen
  dsimp only
  repeat' first
    | with_reducible assumption
    | with_reducible apply State.auxTo_keep
    | with_reducible apply State.onAuxCh_keep
    | with_reducible apply State.ffStart_keep
    | split

theorem State.auxAct_keep {s t : State} {k : Nat} {own : List Byte} (h : Keep s t) : Keep s (State.auxAct k own t).2 := by
  unfold State.auxAct
  dsimp only
  repeat' first
    | with_reducible assumption
    | with_reducible apply State.auxTo_keep
    | with_reducible apply State.auxOpen_keep
    | with_reducible apply State.settleCh_keep
    | with_reducible apply State.onAuxCh_keep
    | split

theorem State.auxDelays_keep {s t : State} (h : Keep s t) : Keep s (State.auxDelays t) := by
  unfold State.auxDelays
  repeat' first
    | with_reducible assumption
    | with_reducible apply State.each_keep
    | with_reducible apply State.auxTo_keep
    | with_reducible apply Keep.foldl
    | with_reducible (intro _ _)
    | with_reducible intro _
    | with_reducible refine Keep.ofPair ‹_ = (_, _)› ?_
    | split

theorem State.auxEnter_keep {s t : State} {k : Nat} (h : Keep s t) : Keep s (State.auxEnter k t) := by
  unfold State.auxEnter
  dsimp only
  repeat' first
    | with_reducible assumption
    | with_reducible apply State.onAuxCh_keep
    | with_reducible apply State.auxTo_keep
    | split

theorem State.auxExit_keep {s t : State} {k : Nat} {ov : Bool} (h : Keep s t) : Keep s (State.auxExit k ov t) := by
  unfold State.auxExit
  dsimp only
  repeat' first
    | with_reducible assumption
    | with_reducible apply State.onAuxCh_keep
    | with_reducible apply State.raise_keep
    | with_reducible apply State.auxTo_keep
    | split

theorem State.auxHeat_keep {s t : State} {k : Nat} (h : Keep s t) : Keep s (State.auxHeat k t) := by
  unfold State.auxHeat
  repeat' first
    | with_reducible assumption
    | with_reducible apply State.auxTo_keep
    | split

theorem State.auxJudge_keep {s t : State} (h : Keep s t) : Keep s (State.auxJudge t) := by
  unfold State.auxJudge
  repeat' first
    | with_reducible assumption
    | with_reducible apply State.judge_keep

theorem State.auxOpenDue_keep {s t : State} {k : Nat} (h : Keep s t) : Keep s (State.auxOpenDue k t) := by
  unfold State.auxOpenDue
  repeat' first
    | with_reducible assumption
    | with_reducible apply State.auxTo_keep
    | split

theorem State.auxReady_keep {s t : State} {k : Nat} (h : Keep s t) : Keep s (State.auxReady k t) := by
  unfold State.auxReady
  dsimp only
  repeat' first
    | with_reducible assumption
    | with_reducible apply State.auxTo_keep
    | split

theorem State.trimLoad_keep {s t : State} {e : Nat} {kind : Nat} (h : Keep s t) : Keep s (State.trimLoad e kind t) := by
  unfold State.trimLoad
  repeat' first
    | with_reducible assumption
    | with_reducible exact Keep.refl _
    | with_reducible refine Keep.ofPair ‹_ = (_, _)› ?_
    | with_reducible apply Keeps.next
    | with_reducible refine Keep.ite ?_ ?_
    | with_reducible refine Keep.ite2 ?_ ?_
    | (extract_lets +onlyGivenNames x; clear_value x)
    | with_reducible apply State.onMeas_keep
    | with_reducible apply Keep.foldl
    | split

theorem State.trimLoads_keep {s t : State} {p : Nat → Bool} (h : Keep s t) : Keep s (State.trimLoads p t) := by
  unfold State.trimLoads
  repeat' first
    | with_reducible assumption
    | with_reducible exact Keep.refl _
    | with_reducible refine Keep.ofPair ‹_ = (_, _)› ?_
    | with_reducible apply Keeps.next
    | with_reducible refine Keep.ite ?_ ?_
    | with_reducible refine Keep.ite2 ?_ ?_
    | (with_reducible refine fun _ => ?_; try beta_reduce)
    | with_reducible apply State.each_keep
    | with_reducible apply State.trimLoad_keep

theorem State.fieldLand_keep {s t : State} {p : Nat → Bool} (h : Keep s t) : Keep s (State.fieldLand p t) := by
  unfold State.fieldLand
  repeat' first
    | with_reducible assumption
    | with_reducible exact Keep.refl _
    | with_reducible refine Keep.ofPair ‹_ = (_, _)› ?_
    | with_reducible apply Keeps.next
    | with_reducible refine Keep.ite ?_ ?_
    | with_reducible refine Keep.ite2 ?_ ?_
    | (extract_lets +onlyGivenNames x; clear_value x)
    | with_reducible apply State.onMeas_keep

theorem State.calLand_keep {s t : State} {p : Nat → Bool} (h : Keep s t) : Keep s (State.calLand p t) := by
  unfold State.calLand
  repeat' first
    | with_reducible assumption
    | with_reducible apply State.trimLoads_keep
    | with_reducible apply State.fieldLand_keep

theorem State.boundary_keep {s t : State} {r : RecId} {ch : Nat} {b : Bnd} (h : Keep s t) :
    Keep s (State.boundary r ch b t) := by
  unfold State.boundary
  dsimp only
  repeat' first
    | with_reducible assumption
    | with_reducible apply State.wakeCommits_keep
    | with_reducible apply State.landStopped_keep
    | with_reducible apply State.setCopy_keep
    | split

theorem State.serveAll_keep {s t : State} {p : Wait → Bool} {k : Nat} {act : Wait → State → Nat × State}
    (hact : ∀ a0 r, Keep s r → Keep s (act a0 r).2) (h : Keep s t) : Keep s (State.serveAll p k act t) := by
  unfold State.serveAll
  repeat' first
    | with_reducible assumption
    | with_reducible exact Keep.refl _
    | with_reducible refine Keep.ofPair ‹_ = (_, _)› ?_
    | with_reducible apply Keeps.next
    | with_reducible refine Keep.ite ?_ ?_
    | with_reducible refine Keep.ite2 ?_ ?_
    | (with_reducible refine fun _ => ?_; try beta_reduce)
    | (extract_lets +onlyGivenNames x; clear_value x)
    | with_reducible apply State.onHif_keep
    | with_reducible apply Keep.foldl
    | split
    | with_reducible apply_assumption (transparency := .reducible) (exfalso := false) (symm := false)

theorem State.serve_keep {s t : State} {op : Nat} {k : Nat} {act : List Byte → State → Nat × State}
    (hact : ∀ a0 r, Keep s r → Keep s (act a0 r).2) (h : Keep s t) : Keep s (State.serve op k act t) := by
  unfold State.serve
  refine Keep.foldl _ (fun r w k => ?_) h
  dsimp only
  split
  · split
    · exact State.onHif_keep (hact _ _ k)
    · exact State.onHif_keep k
  · exact k

theorem State.auxSlot_keep {s t : State} {k : Nat} (h : Keep s t) : Keep s (State.auxSlot k t) := by
  unfold State.auxSlot
  repeat' first
    | with_reducible assumption
    | with_reducible apply State.calLand_keep
    | with_reducible apply State.boundary_keep
    | with_reducible apply State.auxJudge_keep
    | with_reducible apply State.serve_keep
    | with_reducible apply State.auxAct_keep
    | with_reducible apply Keep.foldl
    | with_reducible (intro _ _)

theorem State.auxStop_keep {s t : State} {k : Nat} (h : Keep s t) : Keep s (State.auxStop k t) := by
  unfold State.auxStop
  dsimp only
  repeat' first
    | with_reducible assumption
    | with_reducible apply State.auxTo_keep
    | split

theorem State.auxTrip_keep {s t : State} {k : Nat} {code : Nat} (h : Keep s t) : Keep s (State.auxTrip k code t) := by
  unfold State.auxTrip
  dsimp only
  repeat' first
    | with_reducible assumption
    | with_reducible apply State.onAuxCh_keep
    | with_reducible apply State.raise_keep
    | with_reducible apply State.auxTo_keep
    | split

theorem State.await_keep {s t : State} {o : Origin} {op : Nat} {left : Nat} {failed : Nat} {data : List Byte} (h : Keep s t) :
    Keep s (State.await o op left failed data t) := by
  unfold State.await
  repeat' first
    | with_reducible assumption
    | with_reducible apply State.onHif_keep

theorem State.awaitSel_keep {s t : State} {o : Origin} {op : Nat} {sel : Sel} {left : Nat} {failed : Nat}
    {cause : Nat} {own : List Byte} (h : Keep s t) : Keep s (State.awaitSel o op sel left failed cause own t) := by
  unfold State.awaitSel
  repeat' first
    | with_reducible assumption
    | with_reducible apply State.await_keep

theorem State.bandStep_keep {s t : State} {k : Nat} (h : Keep s t) : Keep s (State.bandStep k t) := by
  unfold State.bandStep
  repeat' first
    | with_reducible assumption
    | with_reducible apply State.onStrCh_keep
    | split

theorem State.barCheck_keep {s t : State} (h : Keep s t) : Keep s (State.barCheck t) := by
  unfold State.barCheck
  repeat' first
    | with_reducible assumption
    | with_reducible apply State.raise_keep
    | with_reducible apply State.onSkb_keep
    | split

theorem State.rectBoundary_keep {s t : State} {k : Nat} (h : Keep s t) : Keep s (State.rectBoundary k t) := by
  unfold State.rectBoundary
  repeat' first
    | with_reducible assumption
    | with_reducible exact Keep.refl _
    | with_reducible refine Keep.ofPair ‹_ = (_, _)› ?_
    | with_reducible apply Keeps.next
    | with_reducible refine Keep.ite ?_ ?_
    | with_reducible refine Keep.ite2 ?_ ?_
    | (extract_lets +onlyGivenNames x; clear_value x)
    | with_reducible apply State.wakeCommits_keep
    | with_reducible apply State.landStopped_keep
    | with_reducible apply State.setCopy_keep

theorem State.beatMains_keep {s t : State} {k : Nat} {ok : Bool} {seq : Nat} {v : Nat} (h : Keep s t) :
    Keep s (State.beatMains k ok seq v t) := by
  unfold State.beatMains
  dsimp only
  repeat' first
    | with_reducible assumption
    | with_reducible apply State.onRectCh_keep
    | with_reducible apply State.calLand_keep
    | with_reducible apply State.boundary_keep
    | with_reducible apply State.rectBoundary_keep
    | split

theorem State.onBar_keep {s t : State} {k : Nat} {f : Barrier → Barrier} (h : Keep s t) : Keep s (State.onBar k f t) := by
  unfold State.onBar
  repeat' first
    | with_reducible assumption
    | with_reducible apply State.onRectCh_keep

theorem State.beatControl_keep {s t : State} {k : Nat} {ok : Bool} {seq : Nat} {v : Nat} (h : Keep s t) :
    Keep s (State.beatControl k ok seq v t) := by
  unfold State.beatControl
  repeat' first
    | with_reducible assumption
    | with_reducible apply State.onBar_keep

theorem State.beat_keep {s t : State} {k : Nat} {toMains : Bool} {ys : List Sym} (h : Keep s t) :
    Keep s (State.beat k toMains ys t) := by
  unfold State.beat
  repeat' first
    | with_reducible assumption
    | with_reducible exact Keep.refl _
    | with_reducible refine Keep.ofPair ‹_ = (_, _)› ?_
    | with_reducible apply Keeps.next
    | with_reducible refine Keep.ite ?_ ?_
    | with_reducible refine Keep.ite2 ?_ ?_
    | (extract_lets +onlyGivenNames x; clear_value x)
    | with_reducible apply State.beatMains_keep
    | with_reducible apply State.beatControl_keep

theorem State.toRole_keep {s t : State} {role : Nat} (h : Keep s t) : Keep s (State.toRole role t) := by
  unfold State.toRole
  repeat' first
    | with_reducible assumption
    | with_reducible apply State.onLink_keep
    | split

theorem State.originate_keep {s t : State} (h : Keep s t) : Keep s (State.originate t) := by
  unfold State.originate
  repeat' first
    | with_reducible assumption
    | with_reducible apply State.onLink_keep
    | with_reducible apply State.sendOn_keep

theorem State.rootDecide_keep {s t : State} {t' : ShareFig} {time : Nat} (h : Keep s t) :
    Keep s (State.rootDecide t' time t) := by
  unfold State.rootDecide
  repeat' first
    | with_reducible assumption
    | with_reducible apply State.onLink_keep
    | with_reducible apply State.onPal_keep
    | with_reducible apply State.sendOn_keep
    | split

theorem State.becomeRoot_keep {s t : State} (h : Keep s t) : Keep s (State.becomeRoot t) := by
  unfold State.becomeRoot
  dsimp only
  repeat' first
    | with_reducible assumption
    | with_reducible apply State.toRole_keep
    | with_reducible apply State.onLink_keep
    | with_reducible apply State.originate_keep
    | with_reducible apply State.raise_keep
    | with_reducible apply State.rootDecide_keep
    | split

theorem State.bootAccept_keep {s t : State} {k : Fin 2} (h : Keep s t) : Keep s (State.bootAccept k t) := by
  unfold State.bootAccept
  repeat' first
    | with_reducible assumption
    | with_reducible apply State.settle_keep
    | with_reducible apply State.onImg_keep

theorem State.bootLoader_keep {s t : State} (h : Keep s t) : Keep s (State.bootLoader t) := by
  unfold State.bootLoader
  repeat' first
    | with_reducible assumption
    | with_reducible exact fun _ => ⟨rfl, id⟩
    | with_reducible apply State.raise_keep
    | with_reducible apply State.onSys_keep
    | with_reducible apply State.onHif_keep

theorem State.drainQueue_keep {s t : State} (h : Keep s t) : Keep s (State.drainQueue t) := by
  unfold State.drainQueue
  refine State.onFlt_keep (fun k => ?_) h
  split
  · exact Flt.nextHandler_ordered k rfl rfl
  · exact k

theorem State.setFw_keep {s t : State} {sramOk : Bool} (h : Keep s t) : Keep s (State.setFw sramOk t) := by
  unfold State.setFw
  repeat' first
    | with_reducible assumption
    | with_reducible exact fun _ => ⟨rfl, id⟩
    | with_reducible apply State.onSys_keep
    | with_reducible apply State.onImg_keep
    | split

theorem State.readItem_keep {s t : State} {x : VItem} (h : Keep s t) : Keep s (State.readItem x t) := by
  unfold State.readItem
  dsimp only
  repeat' first
    | with_reducible assumption
    | with_reducible apply State.raise_keep
    | with_reducible apply State.each_keep
    | with_reducible apply Keep.foldl
    | with_reducible (intro _ _)
    | with_reducible intro _
    | split

theorem State.gaugeRestore_keep {s t : State} {k : Nat} (h : Keep s t) : Keep s (State.gaugeRestore k t) := by
  unfold State.gaugeRestore
  dsimp only
  repeat' first
    | with_reducible assumption
    | with_reducible apply State.onGaugeCh_keep
    | with_reducible apply State.raise_keep
    | split

theorem State.restoreItems_keep {s t : State} (h : Keep s t) : Keep s (State.restoreItems t) := by
  unfold State.restoreItems
  dsimp only
  repeat' first
    | with_reducible assumption
    | with_reducible exact fun _ => ⟨rfl, id⟩
    | with_reducible apply State.each_keep
    | with_reducible apply State.readItem_keep
    | with_reducible apply State.onSys_keep
    | with_reducible apply State.onImg_keep
    | with_reducible apply State.onTherm_keep
    | with_reducible apply State.gaugeRestore_keep
    | with_reducible apply State.onMeas_keep
    | with_reducible apply Keep.foldl
    | with_reducible (intro _ _)
    | with_reducible intro _
    | split

theorem State.putRecs_keep {s t : State} {recs : List (List (List Byte))} (h : Keep s t) :
    Keep s (State.putRecs recs t) := by
  unfold State.putRecs
  repeat' first
    | with_reducible assumption
    | with_reducible apply State.each_keep
    | with_reducible apply State.setCopy_keep
    | with_reducible apply Keep.foldl
    | with_reducible (intro _ _)

theorem State.putReset_keep {s t : State} (h : Keep s t) : Keep s (State.putReset t) := by
  unfold State.putReset
  repeat' first
    | with_reducible assumption
    | with_reducible exact fun _ => ⟨rfl, id⟩
    | with_reducible apply State.onHif_keep
    | with_reducible apply State.onSys_keep
    | with_reducible apply State.putRecs_keep

theorem State.varnJudge_keep {s t : State} (h : Keep s t) : Keep s (State.varnJudge t) := by
  unfold State.varnJudge
  repeat' first
    | with_reducible assumption
    | with_reducible apply State.judge_keep
    | with_reducible apply State.wake_keep

theorem State.onItem_keep {s t : State} {id : Nat} {f : VItem → VItem} (h : Keep s t) : Keep s (State.onItem id f t) := by
  unfold State.onItem
  repeat' first
    | with_reducible assumption
    | with_reducible apply State.onVarn_keep

theorem State.deferItem_keep {s t : State} {id : Nat} {data : List Byte} (h : Keep s t) :
    Keep s (State.deferItem id data t) := by
  unfold State.deferItem
  dsimp only
  repeat' first
    | with_reducible assumption
    | with_reducible apply State.onItem_keep
    | with_reducible apply State.raise_keep
    | with_reducible apply State.onGaugeCh_keep
    | split

theorem State.deferNewer_keep {s t : State} {id : Nat} {data : List Byte} (h : Keep s t) :
    Keep s (State.deferNewer id data t) := by
  unfold State.deferNewer
  repeat' first
    | with_reducible assumption
    | with_reducible exact Keep.refl _
    | with_reducible refine Keep.ofPair ‹_ = (_, _)› ?_
    | with_reducible apply Keeps.next
    | with_reducible refine Keep.ite ?_ ?_
    | with_reducible refine Keep.ite2 ?_ ?_
    | (extract_lets +onlyGivenNames x; clear_value x)
    | with_reducible apply State.deferItem_keep
    | with_reducible apply State.onSkb_keep

theorem State.startJobs_keep {s t : State} {n0 : Nat} (h : Keep s t) : Keep s (State.startJobs n0 t) := by
  induction n0 generalizing t with
  | zero => exact h
  | succ n ih =>
    unfold State.startJobs
    dsimp only
    repeat' first
      | with_reducible assumption
      | with_reducible apply State.onSkb_keep
      | with_reducible apply State.drew_keep
      | with_reducible apply State.deferNewer_keep
      | with_reducible apply State.onVarn_keep
      | with_reducible apply ih
      | split

theorem State.pump_keep {s t : State} (h : Keep s t) : Keep s (State.pump t) := by
  unfold State.pump
  repeat' first
    | with_reducible assumption
    | with_reducible apply State.enqueue_keep
    | with_reducible apply State.varnJudge_keep
    | with_reducible apply State.barCheck_keep
    | with_reducible apply State.startJobs_keep
    | split

theorem State.vWrite_keep {s t : State} {id : Nat} {data : List Byte} (h : Keep s t) : Keep s (State.vWrite id data t) := by
  unfold State.vWrite
  dsimp only
  repeat' first
    | with_reducible assumption
    | with_reducible apply State.onSkb_keep
    | with_reducible apply State.varnJudge_keep
    | with_reducible apply State.deferItem_keep
    | with_reducible apply State.pump_keep
    | with_reducible apply State.enqueue_keep
    | with_reducible apply State.onItem_keep
    | split

theorem State.palLoad_keep {s t : State} (h : Keep s t) : Keep s (State.palLoad t) := by
  unfold State.palLoad
  dsimp only
  repeat' first
    | with_reducible assumption
    | with_reducible apply State.raiseWith_keep
    | with_reducible apply State.onPal_keep
    | with_reducible apply State.vWrite_keep
    | split

theorem State.restoreConfig_keep {s t : State} (h : Keep s t) : Keep s (State.restoreConfig t) := by
  unfold State.restoreConfig
  repeat' first
    | with_reducible assumption
    | with_reducible exact fun _ => ⟨rfl, id⟩
    | with_reducible apply State.onCfg_keep
    | with_reducible apply State.onHif_keep
    | with_reducible apply State.onSys_keep
    | with_reducible apply State.putRecs_keep
    | with_reducible apply State.raise_keep
    | with_reducible apply State.putReset_keep
    | with_reducible apply State.palLoad_keep
    | split

theorem State.measReady_keep {s t : State} {tests : SelfTests} (h : Keep s t) : Keep s (State.measReady tests t) := by
  unfold State.measReady
  dsimp only
  repeat' first
    | with_reducible assumption
    | with_reducible apply State.onMeas_keep

theorem State.gateWatch_keep {s t : State} (h : Keep s t) : Keep s (State.gateWatch t) := by
  unfold State.gateWatch
  repeat' first
    | with_reducible assumption
    | with_reducible apply State.drew_keep
    | with_reducible apply State.onVarn_keep

theorem State.chgRun_keep {s t : State} {k : Nat} (h : Keep s t) : Keep s (State.chgRun k t) := by
  unfold State.chgRun
  repeat' first
    | with_reducible assumption
    | with_reducible apply State.onStrCh_keep

theorem State.chgFollow_keep {s t : State} {k : Nat} {was : Bool} (h : Keep s t) : Keep s (State.chgFollow k was t) := by
  unfold State.chgFollow
  dsimp only
  repeat' first
    | with_reducible assumption
    | with_reducible apply State.chgRun_keep
    | with_reducible apply State.onStrCh_keep
    | split

theorem State.ffJoin_keep {s t : State} (h : Keep s t) : Keep s (State.ffJoin t) := by
  unfold State.ffJoin
  repeat' first
    | with_reducible assumption
    | with_reducible apply State.ffStart_keep
    | with_reducible apply State.onBus_keep
    | split

theorem State.strTo_keep {s t : State} {k : Nat} {st : SState} {trip : Bool} (h : Keep s t) :
    Keep s (State.strTo k st trip t) := by
  unfold State.strTo
  repeat' first
    | with_reducible assumption
    | with_reducible apply State.onStrCh_keep
    | with_reducible apply State.chgFollow_keep
    | with_reducible apply State.settleCh_keep
    | with_reducible apply State.ffJoin_keep
    | with_reducible apply State.busEval_keep
    | with_reducible apply State.settleStop_keep
    | split

theorem State.strReady_keep {s t : State} {k : Nat} (h : Keep s t) : Keep s (State.strReady k t) := by
  unfold State.strReady
  repeat' first
    | with_reducible assumption
    | with_reducible apply State.onStrCh_keep
    | with_reducible apply State.strTo_keep

theorem State.linkReady_keep {s t : State} (h : Keep s t) : Keep s (State.linkReady t) := by
  unfold State.linkReady
  repeat' first
    | with_reducible assumption
    | with_reducible apply State.onLink_keep

theorem State.portReady_keep {s t : State} {d : Option (List Byte)} {n : Nat} (h : Keep s t) :
    Keep s (State.portReady d n t) := by
  unfold State.portReady
  dsimp only
  repeat' first
    | with_reducible assumption
    | with_reducible apply State.onPortCh_keep
    | with_reducible apply State.raise_keep
    | with_reducible apply State.portTo_keep
    | with_reducible apply State.portOn_keep
    | split

theorem State.portBoot_keep {s t : State} {d : Option (List Byte)} {n : Nat} (h : Keep s t) :
    Keep s (State.portBoot d n t) := by
  unfold State.portBoot
  repeat' first
    | with_reducible assumption
    | with_reducible apply State.portReady_keep
    | with_reducible apply State.portTo_keep

theorem State.pdTo_keep {s t : State} {k : Nat} {st : TcState} (h : Keep s t) : Keep s (State.pdTo k st t) := by
  unfold State.pdTo
  repeat' first
    | with_reducible assumption
    | with_reducible apply State.settleStop_keep
    | with_reducible apply State.onPdCh_keep

theorem State.pdCheck_keep {s t : State} {k : Nat} (h : Keep s t) : Keep s (State.pdCheck k t) := by
  unfold State.pdCheck
  dsimp only
  repeat' first
    | with_reducible assumption
    | with_reducible apply State.pdTo_keep
    | split

theorem State.pdReady_keep {s t : State} {k : Nat} (h : Keep s t) : Keep s (State.pdReady k t) := by
  unfold State.pdReady
  dsimp only
  repeat' first
    | with_reducible assumption
    | with_reducible apply State.pdTo_keep
    | with_reducible apply State.pdCheck_keep
    | split

theorem State.rectReady_keep {s t : State} {full : Bool} {k : Nat} (h : Keep s t) : Keep s (State.rectReady full k t) := by
  unfold State.rectReady
  dsimp only
  repeat' first
    | with_reducible assumption
    | with_reducible apply State.rectTo_keep
    | with_reducible apply State.autoTry_keep
    | with_reducible apply State.onRectCh_keep
    | split

theorem State.ctrlBand_keep {s t : State} (h : Keep s t) : Keep s (State.ctrlBand t) := by
  unfold State.ctrlBand
  repeat' first
    | with_reducible assumption
    | with_reducible apply State.onTherm_keep
    | split

theorem State.scrubAdopt_keep {s t : State} (h : Keep s t) : Keep s (State.scrubAdopt t) := by
  unfold State.scrubAdopt
  repeat' first
    | with_reducible assumption
    | with_reducible exact Keep.refl _
    | with_reducible refine Keep.ofPair ‹_ = (_, _)› ?_
    | with_reducible apply Keeps.next
    | with_reducible refine Keep.ite ?_ ?_
    | with_reducible refine Keep.ite2 ?_ ?_
    | (extract_lets +onlyGivenNames x; clear_value x)
    | with_reducible apply State.ctrlBand_keep
    | with_reducible apply State.adopt_keep

theorem State.scrubNext_keep {s t : State} (h : Keep s t) : Keep s (State.scrubNext t) := by
  unfold State.scrubNext
  repeat' first
    | with_reducible assumption
    | with_reducible apply State.scrubAdopt_keep
    | with_reducible apply State.onSkb_keep

theorem State.nandFail_keep {s t : State} (h : Keep s t) : Keep s (State.nandFail t) := by
  unfold State.nandFail
  dsimp only
  repeat' first
    | with_reducible assumption
    | with_reducible apply State.onSkb_keep
    | with_reducible apply State.each_keep
    | with_reducible apply State.deferItem_keep
    | with_reducible apply State.finish_keep
    | with_reducible apply State.varnJudge_keep
    | with_reducible apply State.raise_keep
    | with_reducible apply Keep.foldl
    | with_reducible (intro _ _)
    | with_reducible intro _
    | split

theorem State.skbReady_keep {s t : State} {meta_ : Nat} (h : Keep s t) : Keep s (State.skbReady meta_ t) := by
  unfold State.skbReady
  repeat' first
    | with_reducible assumption
    | with_reducible apply State.scrubNext_keep
    | with_reducible apply State.nandFail_keep
    | with_reducible apply State.raise_keep
    | with_reducible apply State.pump_keep
    | with_reducible apply State.arm_keep
    | split

theorem State.countPor_keep {s t : State} (h : Keep s t) : Keep s (State.countPor t) := by
  unfold State.countPor
  repeat' first
    | with_reducible assumption
    | with_reducible exact fun _ => ⟨rfl, id⟩
    | with_reducible apply State.onSys_keep
    | with_reducible apply State.raise_keep
    | with_reducible apply State.vWrite_keep
    | split

theorem State.bootReady_keep {s t : State} {tests : SelfTests} {meta_ : Nat} (h : Keep s t) :
    Keep s (State.bootReady tests meta_ t) := by
  unfold State.bootReady
  dsimp only
  repeat' first
    | with_reducible assumption
    | with_reducible exact fun _ => ⟨rfl, id⟩
    | with_reducible apply State.drainQueue_keep
    | with_reducible apply State.setFw_keep
    | with_reducible apply State.onSys_keep
    | with_reducible apply State.settle_keep
    | with_reducible apply State.restoreItems_keep
    | with_reducible apply State.restoreConfig_keep
    | with_reducible apply State.domRetarget_keep
    | with_reducible apply State.measReady_keep
    | with_reducible apply State.gateWatch_keep
    | with_reducible apply State.each_keep
    | with_reducible apply State.strReady_keep
    | with_reducible apply State.auxReady_keep
    | with_reducible apply State.linkReady_keep
    | with_reducible apply State.portBoot_keep
    | with_reducible apply State.pdReady_keep
    | with_reducible apply State.rectReady_keep
    | with_reducible apply State.autoSeq_keep
    | with_reducible apply State.skbReady_keep
    | with_reducible apply State.countPor_keep
    | with_reducible apply State.onHif_keep
    | with_reducible apply Keep.foldl
    | with_reducible (intro _ _)

theorem State.bootTry_keep {s t : State} {k : Fin 2} {next : State → State} (hnext : ∀  r, Keep s r → Keep s (next r))
    (h : Keep s t) : Keep s (State.bootTry k next t) := by
  unfold State.bootTry
  repeat' first
    | with_reducible assumption
    | with_reducible apply State.bootAccept_keep
    | with_reducible apply State.raiseWith_keep
    | with_reducible apply hnext
    | split

theorem State.bootSelect_keep {s t : State} (h : Keep s t) : Keep s (State.bootSelect t) := by
  unfold State.bootSelect
  dsimp only
  repeat' first
    | with_reducible assumption
    | with_reducible apply State.bootTry_keep
    | with_reducible apply State.bootLoader_keep
    | with_reducible apply Keep.foldl
    | with_reducible (intro _ _)

theorem State.domLand_keep {s t : State} {k : Nat} (h : Keep s t) : Keep s (State.domLand k t) := by
  unfold State.domLand
  repeat' first
    | with_reducible assumption
    | with_reducible exact Keep.refl _
    | with_reducible refine Keep.ofPair ‹_ = (_, _)› ?_
    | with_reducible apply Keeps.next
    | with_reducible refine Keep.ite ?_ ?_
    | with_reducible refine Keep.ite2 ?_ ?_
    | (extract_lets +onlyGivenNames x; refine Keep.cutP (p := Keep s x) ?_ (fun _ => ?_); (on_goal 2 => clear_value x); (on_goal 1 => subst x))
    | (extract_lets +onlyGivenNames x; clear_value x)
    | with_reducible apply State.setCopy_keep
    | with_reducible apply State.wakeCommits_keep
    | with_reducible apply State.calLand_keep
    | with_reducible apply State.landStopped_keep

theorem State.boundaryOf_keep {s t : State} {r : RecId} {ch : Nat} {b : Bnd} (h : Keep s t) :
    Keep s (State.boundaryOf r ch b t) := by
  unfold State.boundaryOf
  repeat' first
    | with_reducible assumption
    | with_reducible apply State.domLand_keep
    | with_reducible apply State.boundary_keep
    | split

theorem State.bumpGen_keep {s t : State} {blk : Nat} (h : Keep s t) : Keep s (State.bumpGen blk t) := by
  unfold State.bumpGen
  repeat' first
    | with_reducible assumption
    | with_reducible apply State.onCfg_keep

theorem State.busLeave_keep {s t : State} (h : Keep s t) : Keep s (State.busLeave t) := by
  unfold State.busLeave
  repeat' first
    | with_reducible assumption
    | with_reducible apply State.raiseWith_keep
    | with_reducible apply State.onBus_keep
    | split

theorem State.busRefs_keep {s t : State} (h : Keep s t) : Keep s (State.busRefs t) := by
  unfold State.busRefs
  dsimp only
  repeat' first
    | with_reducible assumption
    | with_reducible apply State.onBus_keep
    | with_reducible apply State.each_keep
    | with_reducible apply State.onAuxCh_keep
    | with_reducible apply Keep.foldl
    | with_reducible (intro _ _)

theorem State.busStart_keep {s t : State} (h : Keep s t) : Keep s (State.busStart t) := by
  unfold State.busStart
  repeat' first
    | with_reducible assumption
    | with_reducible exact Keep.refl _
    | with_reducible refine Keep.ofPair ‹_ = (_, _)› ?_
    | with_reducible apply Keeps.next
    | with_reducible refine Keep.ite ?_ ?_
    | with_reducible refine Keep.ite2 ?_ ?_
    | with_reducible apply State.onHif_keep

theorem State.handDone_keep {s t : State} (h : Keep s t) : Keep s (State.handDone t) := by
  unfold State.handDone
  repeat' first
    | with_reducible assumption
    | with_reducible exact Keep.refl _
    | with_reducible refine Keep.ofPair ‹_ = (_, _)› ?_
    | with_reducible apply Keeps.next
    | with_reducible refine Keep.ite ?_ ?_
    | with_reducible refine Keep.ite2 ?_ ?_
    | (extract_lets +onlyGivenNames x; clear_value x)
    | with_reducible apply State.onBus_keep

theorem State.ffJudge_keep {s t : State} (h : Keep s t) : Keep s (State.ffJudge t) := by
  unfold State.ffJudge
  dsimp only
  repeat' first
    | with_reducible assumption
    | with_reducible apply State.onBus_keep
    | with_reducible apply State.onStr_keep
    | split

theorem State.deferBack_keep {s t : State} {want : Bool} (h : Keep s t) : Keep s (State.deferBack want t) := by
  unfold State.deferBack
  repeat' first
    | with_reducible assumption
    | with_reducible apply State.raise_keep
    | with_reducible apply State.onBus_keep
    | split

theorem State.select_keep {s t : State} (h : Keep s t) : Keep s (State.select t) := by
  unfold State.select
  repeat' first
    | with_reducible assumption
    | with_reducible apply State.auxOpen_keep
    | with_reducible apply State.auxTo_keep
    | split

theorem State.llcRelease_keep {s t : State} (h : Keep s t) : Keep s (State.llcRelease t) := by
  unfold State.llcRelease
  dsimp only
  repeat' first
    | with_reducible assumption
    | with_reducible apply State.each_keep
    | with_reducible apply State.rectTo_keep
    | with_reducible apply State.onRectCh_keep
    | with_reducible apply Keep.foldl
    | with_reducible (intro _ _)
    | with_reducible intro _
    | split

theorem State.rectDisable_keep {s t : State} {soft : Bool} {k : Nat} (h : Keep s t) :
    Keep s (State.rectDisable soft k t) := by
  unfold State.rectDisable
  dsimp only
  repeat' first
    | with_reducible assumption
    | with_reducible apply State.onRectCh_keep
    | with_reducible apply State.rectTo_keep
    | split

theorem State.rectFree_keep {s t : State} {k : Nat} (h : Keep s t) : Keep s (State.rectFree k t) := by
  unfold State.rectFree
  repeat' first
    | with_reducible assumption
    | with_reducible apply State.onRectCh_keep
    | with_reducible apply State.rectTo_keep

theorem State.rectHolds_keep {s t : State} {want : Bool} (h : Keep s t) : Keep s (State.rectHolds want t) := by
  unfold State.rectHolds
  dsimp only
  repeat' first
    | with_reducible assumption
    | with_reducible apply State.onBus_keep
    | with_reducible apply State.each_keep
    | with_reducible apply State.rectDisable_keep
    | with_reducible apply State.onRectCh_keep
    | with_reducible apply State.rectFree_keep
    | with_reducible apply Keep.foldl
    | with_reducible (intro _ _)
    | with_reducible intro _
    | split

theorem State.rectHoldStep_keep {s t : State} (h : Keep s t) : Keep s (State.rectHoldStep t) := by
  unfold State.rectHoldStep
  dsimp only
  repeat' first
    | with_reducible assumption
    | with_reducible apply State.rectHolds_keep
    | split

theorem State.busTick_keep {s t : State} (h : Keep s t) : Keep s (State.busTick t) := by
  unfold State.busTick
  repeat' first
    | with_reducible assumption
    | with_reducible apply State.busRefs_keep
    | with_reducible apply State.adoptSources_keep
    | with_reducible apply State.handDone_keep
    | with_reducible apply State.ffJudge_keep
    | with_reducible apply State.auxOpenDue_keep
    | with_reducible apply State.deferBack_keep
    | with_reducible apply State.auxDelays_keep
    | with_reducible apply State.busEval_keep
    | with_reducible apply State.select_keep
    | with_reducible apply State.llcRelease_keep
    | with_reducible apply State.rectHoldStep_keep

theorem State.busUnder_keep {s t : State} (h : Keep s t) : Keep s (State.busUnder t) := by
  unfold State.busUnder
  dsimp only
  repeat' first
    | with_reducible assumption
    | with_reducible apply State.busEval_keep
    | with_reducible apply State.onBus_keep
    | with_reducible apply State.raise_keep
    | split

theorem State.onUnit_keep {s t : State} {k : Nat} {f : AdcUnit → AdcUnit} (h : Keep s t) : Keep s (State.onUnit k f t) := by
  unfold State.onUnit
  repeat' first
    | with_reducible assumption
    | with_reducible apply State.onMeas_keep

theorem State.invalidate_keep {s t : State} {k : Nat} (h : Keep s t) : Keep s (State.invalidate k t) := by
  unfold State.invalidate
  repeat' first
    | with_reducible assumption
    | with_reducible apply State.onMeas_keep

theorem State.unitFail_keep {s t : State} {k : Nat} (h : Keep s t) : Keep s (State.unitFail k t) := by
  unfold State.unitFail
  repeat' first
    | with_reducible assumption
    | with_reducible apply State.raise_keep
    | with_reducible apply State.onUnit_keep
    | with_reducible apply State.onMeas_keep
    | with_reducible apply State.invalidate_keep
    | split

theorem State.selfJudge_keep {s t : State} {k : Nat} {t' : SelfTest} (h : Keep s t) : Keep s (State.selfJudge k t' t) := by
  unfold State.selfJudge
  repeat' first
    | with_reducible assumption
    | with_reducible apply State.onUnit_keep
    | with_reducible apply State.unitFail_keep
    | split

theorem State.checkUnit_keep {s t : State} {k : Nat} (h : Keep s t) : Keep s (State.checkUnit k t) := by
  unfold State.checkUnit
  repeat' first
    | with_reducible assumption
    | with_reducible exact Keep.refl _
    | with_reducible refine Keep.ofPair ‹_ = (_, _)› ?_
    | with_reducible apply Keeps.next
    | with_reducible refine Keep.ite ?_ ?_
    | with_reducible refine Keep.ite2 ?_ ?_
    | (extract_lets +onlyGivenNames x; clear_value x)
    | with_reducible apply State.onUnit_keep

theorem State.calUnits_keep {s t : State} {n0 : Nat} {n1 : Nat} (h : Keep s t) : Keep s (State.calUnits n0 n1 t) := by
  induction n0 generalizing t n1 with
  | zero => exact h
  | succ n ih =>
    unfold State.calUnits
    repeat' first
      | with_reducible assumption
      | with_reducible apply State.onMeas_keep
      | with_reducible apply State.onUnit_keep
      | with_reducible apply State.checkUnit_keep
      | with_reducible apply ih
      | split

theorem State.calLeave_keep {s t : State} {k : Nat} (h : Keep s t) : Keep s (State.calLeave k t) := by
  unfold State.calLeave
  repeat' first
    | with_reducible assumption
    | with_reducible exact Keep.refl _
    | with_reducible refine Keep.ofPair ‹_ = (_, _)› ?_
    | with_reducible apply Keeps.next
    | with_reducible refine Keep.ite ?_ ?_
    | with_reducible refine Keep.ite2 ?_ ?_
    | (extract_lets +onlyGivenNames x; clear_value x)
    | with_reducible apply State.calUnits_keep
    | with_reducible apply State.onMeas_keep

theorem State.calReply_keep {s t : State} {status : Nat} (h : Keep s t) : Keep s (State.calReply status t) := by
  unfold State.calReply
  repeat' first
    | with_reducible assumption
    | with_reducible apply State.wake_keep

theorem State.calShadow_keep {s t : State} (h : Keep s t) : Keep s (State.calShadow t) := by
  unfold State.calShadow
  repeat' first
    | with_reducible assumption
    | with_reducible exact Keep.refl _
    | with_reducible refine Keep.ofPair ‹_ = (_, _)› ?_
    | with_reducible apply Keeps.next
    | with_reducible refine Keep.ite ?_ ?_
    | with_reducible refine Keep.ite2 ?_ ?_
    | (with_reducible refine fun _ => ?_; try beta_reduce)
    | (extract_lets +onlyGivenNames x; clear_value x)
    | with_reducible apply State.calUnits_keep
    | with_reducible apply State.each_keep
    | with_reducible apply State.checkUnit_keep
    | with_reducible apply State.onMeas_keep

theorem State.calStart_keep {s t : State} {tests : SelfTests} (h : Keep s t) : Keep s (State.calStart tests t) := by
  unfold State.calStart
  dsimp only
  repeat' first
    | with_reducible assumption
    | with_reducible apply State.onMeas_keep
    | with_reducible apply State.calShadow_keep
    | split

theorem State.calThrough_keep {s t : State} (h : Keep s t) : Keep s (State.calThrough t) := by
  unfold State.calThrough
  repeat' first
    | with_reducible assumption
    | with_reducible exact Keep.refl _
    | with_reducible refine Keep.ofPair ‹_ = (_, _)› ?_
    | with_reducible apply Keeps.next
    | with_reducible refine Keep.ite ?_ ?_
    | with_reducible refine Keep.ite2 ?_ ?_
    | (extract_lets +onlyGivenNames x; clear_value x)
    | with_reducible apply State.onMeas_keep

theorem State.calWrap_keep {s t : State} {k : Nat} (h : Keep s t) : Keep s (State.calWrap k t) := by
  have hj : ∀ r : State, Keep s r → Keep s (if r.calAt k && (t.adc k).shadowN = 256 then r.calLeave k else r) := by
    intro r hr
    split
    · exact State.calLeave_keep hr
    · exact hr
  unfold State.calWrap
  refine State.calThrough_keep ?_
  dsimp only
  split
  · refine hj _ (State.onUnit_keep ?_)
    split
    · exact State.selfJudge_keep h
    · exact State.onUnit_keep h
  all_goals
    repeat' first
      | with_reducible assumption
      | with_reducible apply State.onMeas_keep
      | with_reducible apply State.onUnit_keep
      | with_reducible apply State.selfJudge_keep
      | with_reducible apply State.checkUnit_keep
      | split

theorem State.shedPort_keep {s t : State} {n : Nat} (h : Keep s t) : Keep s (State.shedPort n t) := by
  unfold State.shedPort
  repeat' first
    | with_reducible assumption
    | with_reducible apply State.raise_keep
    | with_reducible apply State.portTo_keep
    | with_reducible apply State.onPortCh_keep

theorem State.shedTick_keep {s t : State} (h : Keep s t) : Keep s (State.shedTick t) := by
  unfold State.shedTick
  dsimp only
  repeat' first
    | with_reducible assumption
    | with_reducible apply State.onFeed_keep
    | with_reducible apply State.each_keep
    | with_reducible apply State.onPortCh_keep
    | with_reducible apply State.shedPort_keep
    | with_reducible apply Keep.foldl
    | with_reducible (intro _ _)
    | with_reducible intro _
    | split

theorem State.chargeGrant_keep {s t : State} {head : Nat} (h : Keep s t) : Keep s (State.chargeGrant head t) := by
  unfold State.chargeGrant
  dsimp only
  repeat' first
    | with_reducible assumption
    | with_reducible apply State.each_keep
    | with_reducible apply State.onStrCh_keep
    | with_reducible apply Keep.foldl
    | with_reducible (intro _ _)

theorem State.capAct_keep {s t : State} {head : Nat} (h : Keep s t) : Keep s (State.capAct head t) := by
  unfold State.capAct
  repeat' first
    | with_reducible assumption
    | with_reducible apply State.shedTick_keep
    | with_reducible apply State.chargeGrant_keep
    | with_reducible apply State.onLink_keep

theorem State.onPort_keep {s t : State} {p : Nat} {f : LinkPort → LinkPort} (h : Keep s t) :
    Keep s (State.onPort p f t) := by
  unfold State.onPort
  repeat' first
    | with_reducible assumption
    | with_reducible apply State.onLink_keep

theorem State.followWrap_keep {s t : State} {was : Bool} {is : Bool} (h : Keep s t) :
    Keep s (State.followWrap was is t) := by
  unfold State.followWrap
  repeat' first
    | with_reducible assumption
    | with_reducible exact Keep.refl _
    | with_reducible refine Keep.ofPair ‹_ = (_, _)› ?_
    | with_reducible apply Keeps.next
    | with_reducible refine Keep.ite ?_ ?_
    | with_reducible refine Keep.ite2 ?_ ?_
    | (with_reducible refine fun _ => ?_; try beta_reduce)
    | (extract_lets +onlyGivenNames x; clear_value x)
    | with_reducible apply State.onLink_keep
    | with_reducible apply State.each_keep
    | with_reducible apply State.onPort_keep

theorem State.capApply_keep {s t : State} {d : Decision} (h : Keep s t) : Keep s (State.capApply d t) := by
  unfold State.capApply
  repeat' first
    | with_reducible assumption
    | with_reducible apply State.onLink_keep
    | with_reducible apply State.capAct_keep
    | with_reducible apply State.followWrap_keep

theorem State.capHold_keep {s t : State} (h : Keep s t) : Keep s (State.capHold t) := by
  unfold State.capHold
  repeat' first
    | with_reducible assumption
    | with_reducible apply State.capAct_keep

theorem State.capLocal_keep {s t : State} (h : Keep s t) : Keep s (State.capLocal t) := by
  unfold State.capLocal
  repeat' first
    | with_reducible assumption
    | with_reducible apply State.onLink_keep
    | with_reducible apply State.capAct_keep
    | with_reducible apply State.onPal_keep

theorem State.capTick_keep {s t : State} (h : Keep s t) : Keep s (State.capTick t) := by
  unfold State.capTick
  dsimp only
  repeat' first
    | with_reducible assumption
    | with_reducible apply State.adopt_keep
    | with_reducible apply State.onLink_keep
    | with_reducible apply State.capApply_keep
    | with_reducible apply State.capLocal_keep
    | with_reducible apply State.capHold_keep
    | split

theorem State.capture_keep {s t : State} {k : Nat} {rising : Bool} {held : Nat} (h : Keep s t) :
    Keep s (State.capture k rising held t) := by
  unfold State.capture
  repeat' first
    | with_reducible assumption
    | with_reducible exact Keep.refl _
    | with_reducible refine Keep.ofPair ‹_ = (_, _)› ?_
    | with_reducible apply Keeps.next
    | with_reducible refine Keep.ite ?_ ?_
    | with_reducible refine Keep.ite2 ?_ ?_
    | (extract_lets +onlyGivenNames x; clear_value x)
    | with_reducible apply State.onMeas_keep

theorem State.captureDone_keep {s t : State} {a : Nat} (h : Keep s t) : Keep s (State.captureDone a t) := by
  unfold State.captureDone
  repeat' first
    | with_reducible assumption
    | with_reducible apply State.arm_keep
    | with_reducible apply State.onSkb_keep

theorem State.rectLost_keep {s t : State} {k : Nat} {confirmed : Bool} {to_ : RState} (h : Keep s t) :
    Keep s (State.rectLost k confirmed t to_) := by
  unfold State.rectLost
  repeat' first
    | with_reducible assumption
    | with_reducible apply State.ffLost_keep
    | with_reducible apply State.onRectCh_keep
    | with_reducible apply State.rectTo_keep
    | with_reducible apply State.dropCleared_keep
    | split

theorem State.llcStop_keep {s t : State} {k : Nat} (h : Keep s t) : Keep s (State.llcStop k t) := by
  unfold State.llcStop
  repeat' first
    | with_reducible assumption
    | with_reducible apply State.dropCleared_keep
    | with_reducible apply State.onRectCh_keep

theorem State.rectNote_keep {s t : State} {k : Nat} (h : Keep s t) : Keep s (State.rectNote k t) := by
  unfold State.rectNote
  repeat' first
    | with_reducible assumption
    | with_reducible apply State.raise_keep
    | split

theorem State.channelGone_keep {s t : State} {k : Nat} (h : Keep s t) : Keep s (State.channelGone k t) := by
  unfold State.channelGone
  dsimp only
  repeat' first
    | with_reducible assumption
    | with_reducible apply State.raise_keep
    | with_reducible apply State.rectLost_keep
    | with_reducible apply State.llcStop_keep
    | with_reducible apply State.rectTo_keep
    | with_reducible apply State.onRectCh_keep
    | with_reducible apply State.rectNote_keep
    | split

theorem State.enterState_keep {s t : State} {k : Nat} {next : Nat} (h : Keep s t) : Keep s (State.enterState k next t) := by
  unfold State.enterState
  repeat' first
    | with_reducible assumption
    | with_reducible apply State.onStrCh_keep

theorem State.chgAct_keep {s t : State} {k : Nat} {own : List Byte} (h : Keep s t) : Keep s (State.chgAct k own t).2 := by
  unfold State.chgAct
  dsimp only
  repeat' first
    | with_reducible assumption
    | with_reducible apply State.settleCh_keep
    | with_reducible apply State.chgRun_keep
    | with_reducible apply State.onStrCh_keep
    | with_reducible apply State.enterState_keep
    | split

theorem State.chgEnable_keep {s t : State} {k : Nat} (h : Keep s t) : Keep s (State.chgEnable k t) := by
  unfold State.chgEnable
  dsimp only
  repeat' first
    | with_reducible assumption
    | with_reducible apply State.onStrCh_keep
    | with_reducible apply State.chgRun_keep
    | split

theorem State.chgJudge_keep {s t : State} (h : Keep s t) : Keep s (State.chgJudge t) := by
  unfold State.chgJudge
  repeat' first
    | with_reducible assumption
    | with_reducible apply State.judge_keep

theorem State.chgLatch_keep {s t : State} {k : Nat} {code : Nat} (h : Keep s t) : Keep s (State.chgLatch k code t) := by
  unfold State.chgLatch
  repeat' first
    | with_reducible assumption
    | with_reducible apply State.raise_keep
    | with_reducible apply State.onStrCh_keep

theorem State.palCharger_keep {s t : State} {k : Nat} (h : Keep s t) : Keep s (State.palCharger k t) := by
  unfold State.palCharger
  dsimp only
  repeat' first
    | with_reducible assumption
    | with_reducible apply State.adopt_keep
    | with_reducible apply State.onStrCh_keep
    | with_reducible apply State.chgLatch_keep
    | split

theorem State.eqExpire_keep {s t : State} {k : Nat} (h : Keep s t) : Keep s (State.eqExpire k t) := by
  unfold State.eqExpire
  dsimp only
  repeat' first
    | with_reducible assumption
    | with_reducible apply State.chgLatch_keep
    | with_reducible apply State.raise_keep
    | with_reducible apply State.onStrCh_keep
    | split

theorem State.expire_keep {s t : State} {k : Nat} (h : Keep s t) : Keep s (State.expire k t) := by
  unfold State.expire
  dsimp only
  repeat' first
    | with_reducible assumption
    | with_reducible apply State.chgLatch_keep
    | with_reducible apply State.eqExpire_keep
    | split

theorem State.count_keep {s t : State} {k : Nat} (h : Keep s t) : Keep s (State.count k t) := by
  unfold State.count
  repeat' first
    | with_reducible assumption
    | with_reducible apply State.onStrCh_keep

theorem State.suspendTick_keep {s t : State} {k : Nat} (h : Keep s t) : Keep s (State.suspendTick k t) := by
  unfold State.suspendTick
  repeat' first
    | with_reducible assumption
    | with_reducible apply State.onStrCh_keep

theorem State.exits_keep {s t : State} {k : Nat} (h : Keep s t) : Keep s (State.exits k t) := by
  unfold State.exits
  dsimp only
  repeat' first
    | with_reducible assumption
    | with_reducible apply State.onStrCh_keep
    | with_reducible apply State.enterState_keep
    | with_reducible apply State.onGaugeCh_keep
    | split

theorem State.testOver_keep {s t : State} {k : Nat} {cause : Nat} (h : Keep s t) : Keep s (State.testOver k cause t) := by
  unfold State.testOver
  repeat' first
    | with_reducible assumption
    | with_reducible apply State.raise_keep
    | with_reducible apply State.onStrCh_keep

theorem State.testEnd_keep {s t : State} {k : Nat} {cause : Nat} (h : Keep s t) : Keep s (State.testEnd k cause t) := by
  unfold State.testEnd
  repeat' first
    | with_reducible assumption
    | with_reducible apply State.testOver_keep
    | with_reducible apply State.strTo_keep
    | split

theorem State.testTick_keep {s t : State} {k : Nat} (h : Keep s t) : Keep s (State.testTick k t) := by
  unfold State.testTick
  dsimp only
  repeat' first
    | with_reducible assumption
    | with_reducible apply State.testEnd_keep
    | split

theorem State.target_keep {s t : State} {k : Nat} (h : Keep s t) : Keep s (State.target k t) := by
  unfold State.target
  repeat' first
    | with_reducible assumption
    | with_reducible apply State.onStrCh_keep

theorem State.chgTick_keep {s t : State} {k : Nat} (h : Keep s t) : Keep s (State.chgTick k t) := by
  unfold State.chgTick
  dsimp only
  repeat' first
    | with_reducible assumption
    | with_reducible apply State.adopt_keep
    | with_reducible apply State.palCharger_keep
    | with_reducible apply State.boundary_keep
    | with_reducible apply State.onStrCh_keep
    | with_reducible apply State.serve_keep
    | with_reducible apply State.chgAct_keep
    | with_reducible apply State.chgEnable_keep
    | with_reducible apply State.expire_keep
    | with_reducible apply State.count_keep
    | with_reducible apply State.bandStep_keep
    | with_reducible apply State.suspendTick_keep
    | with_reducible apply State.exits_keep
    | with_reducible apply State.testTick_keep
    | with_reducible apply State.target_keep
    | with_reducible apply Keep.foldl
    | with_reducible (intro _ _)
    | with_reducible intro _
    | split

theorem State.closePeriod_keep {s t : State} (h : Keep s t) : Keep s (State.closePeriod t) := by
  unfold State.closePeriod
  repeat' first
    | with_reducible assumption
    | with_reducible apply State.onLink_keep

theorem State.coldBoot_keep {s t : State} (h : Keep s t) : Keep s (State.coldBoot t) := by
  unfold State.coldBoot
  repeat' first
    | with_reducible assumption
    | with_reducible exact fun _ => ⟨rfl, id⟩
    | with_reducible apply State.onSeq_keep
    | with_reducible apply State.onSys_keep
    | with_reducible apply State.bootAgain_keep

theorem State.collected_keep {s t : State} {f : Fwd} (h : Keep s t) : Keep s (State.collected f t) := by
  unfold State.collected
  repeat' first
    | with_reducible assumption
    | with_reducible apply State.deliver_keep

theorem State.qualTry_keep {s t : State} {k : Nat} (h : Keep s t) : Keep s (State.qualTry k t) := by
  unfold State.qualTry
  dsimp only
  repeat' first
    | with_reducible assumption
    | with_reducible apply State.rectTo_keep
    | split

theorem State.command_keep {s t : State} {k : Nat} {c : Nat} (h : Keep s t) : Keep s (State.command k c t) := by
  unfold State.command
  dsimp only
  repeat' first
    | with_reducible assumption
    | with_reducible apply State.onBar_keep
    | with_reducible apply State.qualTry_keep
    | with_reducible apply State.onRectCh_keep
    | with_reducible apply State.autoTry_keep
    | with_reducible apply State.fltGone_keep
    | split

theorem State.commitSel_keep {s t : State} {blk : Nat} {sel : Sel} {id : Nat} (h : Keep s t) :
    Keep s (State.commitSel blk sel id t) := by
  unfold State.commitSel
  repeat' first
    | with_reducible assumption
    | with_reducible apply State.each_keep
    | with_reducible apply State.armFields_keep
    | with_reducible apply Keep.foldl
    | with_reducible (intro _ _)

theorem State.gaugeVolt_keep {s t : State} {k : Nat} {v : Int} (h : Keep s t) : Keep s (State.gaugeVolt k v t) := by
  unfold State.gaugeVolt
  repeat' first
    | with_reducible assumption
    | with_reducible exact Keep.refl _
    | with_reducible refine Keep.ofPair ‹_ = (_, _)› ?_
    | with_reducible apply Keeps.next
    | with_reducible refine Keep.ite ?_ ?_
    | with_reducible refine Keep.ite2 ?_ ?_
    | (extract_lets +onlyGivenNames x; clear_value x)
    | with_reducible apply State.onGaugeCh_keep

theorem State.gaugeSample_keep {s t : State} {k : Nat} (h : Keep s t) : Keep s (State.gaugeSample k t) := by
  unfold State.gaugeSample
  repeat' first
    | with_reducible assumption
    | with_reducible apply State.onGaugeCh_keep
    | split

theorem State.ntcRead_keep {s t : State} {k : Nat} {j : Nat} {t' : Int} (h : Keep s t) :
    Keep s (State.ntcRead k j t' t) := by
  unfold State.ntcRead
  dsimp only
  repeat' first
    | with_reducible assumption
    | with_reducible apply State.onStrCh_keep
    | with_reducible apply State.raise_keep
    | split

theorem State.emSample_keep {s t : State} {m : Nat} {v : Nat} (h : Keep s t) : Keep s (State.emSample m v t) := by
  unfold State.emSample
  repeat' first
    | with_reducible assumption
    | with_reducible apply State.onSeq_keep

theorem State.lineSample_keep {s t : State} {k : Nat} {v : Nat} (h : Keep s t) : Keep s (State.lineSample k v t) := by
  unfold State.lineSample
  repeat' first
    | with_reducible assumption
    | with_reducible apply State.onRectCh_keep

theorem State.consume_keep {s t : State} {c : Nat} {v : Int} (h : Keep s t) : Keep s (State.consume c v t) := by
  unfold State.consume
  repeat' first
    | with_reducible assumption
    | with_reducible exact Keep.refl _
    | with_reducible refine Keep.ofPair ‹_ = (_, _)› ?_
    | with_reducible apply Keeps.next
    | with_reducible refine Keep.ite ?_ ?_
    | with_reducible refine Keep.ite2 ?_ ?_
    | with_reducible exact fun _ => ⟨rfl, id⟩
    | (extract_lets +onlyGivenNames x; clear_value x)
    | with_reducible apply State.onBus_keep
    | with_reducible apply State.gaugeVolt_keep
    | with_reducible apply State.gaugeSample_keep
    | with_reducible apply State.auxSlot_keep
    | with_reducible apply State.ntcRead_keep
    | with_reducible apply State.onSys_keep
    | with_reducible apply State.emSample_keep
    | with_reducible apply State.lineSample_keep

theorem State.triadSample_keep {s t : State} {x : Int} {a : Int} {b : Int} (h : Keep s t) :
    Keep s (State.triadSample x a b t) := by
  unfold State.triadSample
  repeat' first
    | with_reducible assumption
    | with_reducible exact Keep.refl _
    | with_reducible refine Keep.ofPair ‹_ = (_, _)› ?_
    | with_reducible apply Keeps.next
    | with_reducible refine Keep.ite ?_ ?_
    | with_reducible refine Keep.ite2 ?_ ?_
    | (extract_lets +onlyGivenNames x; clear_value x)
    | with_reducible apply State.onMeas_keep
    | with_reducible apply State.calShadow_keep

theorem State.spareSample_keep {s t : State} {k : Nat} {c : Nat} {raw : Nat} {spares : List Int} (h : Keep s t) :
    Keep s (State.spareSample k c raw spares t) := by
  unfold State.spareSample
  repeat' first
    | with_reducible assumption
    | with_reducible exact Keep.refl _
    | with_reducible refine Keep.ofPair ‹_ = (_, _)› ?_
    | with_reducible apply Keeps.next
    | with_reducible refine Keep.ite ?_ ?_
    | with_reducible refine Keep.ite2 ?_ ?_
    | (extract_lets +onlyGivenNames x; clear_value x)
    | with_reducible apply State.onMeas_keep
    | with_reducible apply State.triadSample_keep
    | with_reducible apply Keep.foldl
    | split

theorem State.zeroSample_keep {s t : State} {c : Nat} {raw : Nat} {idle : Bool} (h : Keep s t) :
    Keep s (State.zeroSample c raw idle t) := by
  unfold State.zeroSample
  repeat' first
    | with_reducible assumption
    | with_reducible exact Keep.refl _
    | with_reducible refine Keep.ofPair ‹_ = (_, _)› ?_
    | with_reducible apply Keeps.next
    | with_reducible refine Keep.ite ?_ ?_
    | with_reducible refine Keep.ite2 ?_ ?_
    | (extract_lets +onlyGivenNames x; clear_value x)
    | with_reducible apply State.onMeas_keep
    | with_reducible apply Keep.foldl
    | split

theorem State.writeReg_keep {s t : State} {k : Nat} {raw : Nat} {c : Nat} {untrig : Bool} {drained : Bool} (h : Keep s t) :
    Keep s (State.writeReg k raw c untrig drained t) := by
  unfold State.writeReg
  dsimp only
  repeat' first
    | with_reducible assumption
    | with_reducible apply State.onUnit_keep
    | with_reducible apply State.raise_keep
    | with_reducible apply State.onMeas_keep
    | split

theorem State.gaugeCharge_keep {s t : State} {k : Nat} (h : Keep s t) : Keep s (State.gaugeCharge k t) := by
  unfold State.gaugeCharge
  repeat' first
    | with_reducible assumption
    | with_reducible exact Keep.refl _
    | with_reducible refine Keep.ofPair ‹_ = (_, _)› ?_
    | with_reducible apply Keeps.next
    | with_reducible refine Keep.ite ?_ ?_
    | with_reducible refine Keep.ite2 ?_ ?_
    | (extract_lets +onlyGivenNames x; clear_value x)
    | with_reducible apply State.onGaugeCh_keep
    | with_reducible apply State.onStrCh_keep

theorem State.measure_keep {s t : State} {c : Nat} {v : Int} (h : Keep s t) : Keep s (State.measure c v t) := by
  unfold State.measure
  repeat' first
    | with_reducible assumption
    | with_reducible apply State.onMeas_keep

theorem State.derive_keep {s t : State} {c : Nat} (h : Keep s t) : Keep s (State.derive c t) := by
  unfold State.derive
  repeat' first
    | with_reducible assumption
    | with_reducible apply State.measure_keep
    | split

theorem State.drain_keep {s t : State} {c : Nat} {v : Int} {subst : Bool} {lp : Bool} (h : Keep s t) :
    Keep s (State.drain c v subst lp t) := by
  unfold State.drain
  dsimp only
  repeat' first
    | with_reducible assumption
    | with_reducible apply State.gaugeCharge_keep
    | with_reducible apply State.measure_keep
    | with_reducible apply State.onMeas_keep
    | with_reducible apply State.seqEval_keep
    | with_reducible apply State.consume_keep
    | with_reducible apply State.derive_keep
    | with_reducible apply Keep.foldl
    | with_reducible (intro _ _)
    | with_reducible intro _
    | split

theorem State.unitWrap_keep {s t : State} {k : Nat} (h : Keep s t) : Keep s (State.unitWrap k t) := by
  unfold State.unitWrap
  repeat' first
    | with_reducible assumption
    | with_reducible apply State.onUnit_keep
    | with_reducible apply State.boundary_keep
    | with_reducible apply State.calLand_keep
    | with_reducible apply State.calWrap_keep
    | split

theorem State.convert_keep {s t : State} {k : Nat} {v : Int} {spares : List Int} {untrig : Bool} {idle : Bool}
    {drained : Bool} (h : Keep s t) : Keep s (State.convert k v spares untrig idle drained t) := by
  unfold State.convert
  dsimp only
  repeat' first
    | with_reducible assumption
    | with_reducible apply State.spareSample_keep
    | with_reducible apply State.zeroSample_keep
    | with_reducible apply State.writeReg_keep
    | with_reducible apply State.drain_keep
    | with_reducible apply State.onUnit_keep
    | with_reducible apply State.unitWrap_keep
    | split

theorem State.portHeat_keep {s t : State} {n : Nat} (h : Keep s t) : Keep s (State.portHeat n t) := by
  unfold State.portHeat
  dsimp only
  repeat' first
    | with_reducible assumption
    | with_reducible apply State.onPortCh_keep
    | with_reducible apply State.portTo_keep
    | split

theorem State.testLeave_keep {s t : State} {k : Nat} {was : SState} (h : Keep s t) : Keep s (State.testLeave k was t) := by
  unfold State.testLeave
  repeat' first
    | with_reducible assumption
    | with_reducible apply State.testOver_keep
    | split

theorem State.strHeat_keep {s t : State} {k : Nat} (h : Keep s t) : Keep s (State.strHeat k t) := by
  unfold State.strHeat
  dsimp only
  repeat' first
    | with_reducible assumption
    | with_reducible apply State.testLeave_keep
    | with_reducible apply State.strTo_keep
    | split

theorem State.pdPut_keep {s t : State} {k : Nat} {ev : List Byte} {keep : Bool} (h : Keep s t) :
    Keep s (State.pdPut k ev keep t) := by
  unfold State.pdPut
  repeat' first
    | with_reducible assumption
    | with_reducible apply State.irq_keep
    | with_reducible apply State.onPdCh_keep

theorem State.pdResetEvent_keep {s t : State} {k : Nat} (h : Keep s t) : Keep s (State.pdResetEvent k t) := by
  unfold State.pdResetEvent
  repeat' first
    | with_reducible assumption
    | with_reducible apply State.pdPut_keep

theorem State.pdReply_keep {s t : State} {w : Option Owed} {result : Nat} (h : Keep s t) :
    Keep s (State.pdReply w result t) := by
  unfold State.pdReply
  repeat' first
    | with_reducible assumption
    | with_reducible apply State.finish_keep
    | split

theorem State.pdAbort_keep {s t : State} {k : Nat} {result : Nat} (h : Keep s t) : Keep s (State.pdAbort k result t) := by
  unfold State.pdAbort
  repeat' first
    | with_reducible assumption
    | with_reducible apply State.onPdCh_keep
    | with_reducible apply State.pdReply_keep

theorem State.pdDrop_keep {s t : State} {k : Nat} (h : Keep s t) : Keep s (State.pdDrop k t) := by
  unfold State.pdDrop
  dsimp only
  repeat' first
    | with_reducible assumption
    | with_reducible apply State.pdResetEvent_keep
    | with_reducible apply State.pdAbort_keep
    | with_reducible apply State.onPdCh_keep
    | with_reducible apply State.pdPut_keep
    | with_reducible apply State.raise_keep
    | split

theorem State.pdErrRec_keep {s t : State} {k : Nat} (h : Keep s t) : Keep s (State.pdErrRec k t) := by
  unfold State.pdErrRec
  repeat' first
    | with_reducible assumption
    | with_reducible apply State.pdDrop_keep
    | with_reducible apply State.pdTo_keep
    | split

theorem State.pdShutdown_keep {s t : State} {k : Nat} (h : Keep s t) : Keep s (State.pdShutdown k t) := by
  unfold State.pdShutdown
  repeat' first
    | with_reducible assumption
    | with_reducible apply State.onPdCh_keep
    | with_reducible apply State.pdErrRec_keep
    | split

theorem State.stopAssert_keep {s t : State} {k : Nat} (h : Keep s t) : Keep s (State.stopAssert k t) := by
  unfold State.stopAssert
  dsimp only
  repeat' first
    | with_reducible assumption
    | with_reducible apply State.onRectCh_keep
    | with_reducible apply State.rectNote_keep
    | with_reducible apply State.rectLost_keep
    | with_reducible apply State.llcStop_keep
    | split

theorem State.ctrlStop_keep {s t : State} (h : Keep s t) : Keep s (State.ctrlStop t) := by
  unfold State.ctrlStop
  dsimp only
  repeat' first
    | with_reducible assumption
    | with_reducible apply State.each_keep
    | with_reducible apply State.domOff_keep
    | with_reducible apply State.portHeat_keep
    | with_reducible apply State.strHeat_keep
    | with_reducible apply State.auxHeat_keep
    | with_reducible apply State.pdShutdown_keep
    | with_reducible apply State.onRectCh_keep
    | with_reducible apply State.stopAssert_keep
    | with_reducible apply State.onSeq_keep
    | with_reducible apply State.seqPreempt_keep
    | with_reducible apply Keep.foldl
    | with_reducible (intro _ _)
    | with_reducible intro _

theorem State.ctrlHeat_keep {s t : State} {z : Nat} (h : Keep s t) : Keep s (State.ctrlHeat z t) := by
  unfold State.ctrlHeat
  dsimp only
  repeat' first
    | with_reducible assumption
    | with_reducible apply State.onTherm_keep
    | with_reducible apply State.raise_keep
    | with_reducible apply State.ctrlStop_keep
    | with_reducible apply State.vWrite_keep
    | split

theorem State.stopRelease_keep {s t : State} {k : Nat} (h : Keep s t) : Keep s (State.stopRelease k t) := by
  unfold State.stopRelease
  repeat' first
    | with_reducible assumption
    | with_reducible apply State.onRectCh_keep
    | split

theorem State.ctrlRelease_keep {s t : State} (h : Keep s t) : Keep s (State.ctrlRelease t) := by
  unfold State.ctrlRelease
  dsimp only
  repeat' first
    | with_reducible assumption
    | with_reducible apply State.settle_keep
    | with_reducible apply State.each_keep
    | with_reducible apply State.stopRelease_keep
    | with_reducible apply State.auxTo_keep
    | with_reducible apply State.onPdCh_keep
    | with_reducible apply State.autoSeq_keep
    | with_reducible apply Keep.foldl
    | with_reducible (intro _ _)
    | with_reducible intro _
    | split

theorem State.cure_keep {s t : State} (h : Keep s t) : Keep s (State.cure t) := by
  unfold State.cure
  repeat' first
    | with_reducible assumption
    | with_reducible exact Keep.refl _
    | with_reducible refine Keep.ofPair ‹_ = (_, _)› ?_
    | with_reducible apply Keeps.next
    | with_reducible refine Keep.ite ?_ ?_
    | with_reducible refine Keep.ite2 ?_ ?_
    | with_reducible apply State.onHif_keep

theorem State.drive_keep {s t : State} {bs : List Byte} (h : Keep s t) : Keep s (State.drive bs t) := by
  unfold State.drive
  repeat' first
    | with_reducible assumption
    | with_reducible apply State.onHif_keep

theorem State.cureAbandoned_keep {s t : State} (h : Keep s t) : Keep s (State.cureAbandoned t) := by
  unfold State.cureAbandoned
  repeat' first
    | with_reducible assumption
    | with_reducible exact Keep.refl _
    | with_reducible refine Keep.ofPair ‹_ = (_, _)› ?_
    | with_reducible apply Keeps.next
    | with_reducible refine Keep.ite ?_ ?_
    | with_reducible refine Keep.ite2 ?_ ?_
    | (extract_lets +onlyGivenNames x; clear_value x)
    | with_reducible apply State.irq_keep
    | with_reducible apply State.raise_keep
    | with_reducible apply State.onHif_keep
    | with_reducible apply State.drive_keep

theorem State.discardCopies_keep {s t : State} {blk : Nat} {sel : Sel} (h : Keep s t) :
    Keep s (State.discardCopies blk sel t) := by
  unfold State.discardCopies
  dsimp only
  repeat' first
    | with_reducible assumption
    | with_reducible apply State.each_keep
    | with_reducible apply State.onCopy_keep
    | with_reducible apply Keep.foldl
    | with_reducible (intro _ _)
    | with_reducible intro _
    | split

theorem State.domClear_keep {s t : State} {k : Nat} (h : Keep s t) : Keep s (State.domClear k t) := by
  unfold State.domClear
  repeat' first
    | with_reducible assumption
    | with_reducible apply State.settleCh_keep
    | with_reducible apply State.domTo_keep
    | with_reducible apply State.onDomCh_keep

theorem State.domAct_keep {s t : State} {k : Nat} {own : List Byte} (h : Keep s t) : Keep s (State.domAct k own t).2 := by
  unfold State.domAct
  dsimp only
  repeat' first
    | with_reducible assumption
    | with_reducible apply State.onDomCh_keep
    | with_reducible apply State.domOff_keep
    | with_reducible apply State.domClear_keep
    | with_reducible apply State.domRetarget_keep
    | split

theorem State.domAdopt_keep {s t : State} {k : Nat} (h : Keep s t) : Keep s (State.domAdopt k t) := by
  unfold State.domAdopt
  repeat' first
    | with_reducible assumption
    | with_reducible exact Keep.refl _
    | with_reducible refine Keep.ofPair ‹_ = (_, _)› ?_
    | with_reducible apply Keeps.next
    | with_reducible refine Keep.ite ?_ ?_
    | with_reducible refine Keep.ite2 ?_ ?_
    | (extract_lets +onlyGivenNames x; clear_value x)
    | with_reducible apply State.onDomCh_keep
    | with_reducible apply State.adopt_keep

theorem State.voutAct_keep {s t : State} {k : Nat} {own : List Byte} (h : Keep s t) : Keep s (State.voutAct k own t).2 := by
  unfold State.voutAct
  repeat' first
    | with_reducible assumption
    | with_reducible apply State.domRetarget_keep
    | with_reducible apply State.onDomCh_keep

theorem State.voutStale_keep {s t : State} {k : Nat} (h : Keep s t) : Keep s (State.voutStale k t) := by
  unfold State.voutStale
  repeat' first
    | with_reducible assumption
    | with_reducible apply State.onHif_keep

theorem State.domBoundary_keep {s t : State} {k : Nat} (h : Keep s t) : Keep s (State.domBoundary k t) := by
  unfold State.domBoundary
  dsimp only
  repeat' first
    | with_reducible assumption
    | with_reducible apply State.domAdopt_keep
    | with_reducible apply State.domLand_keep
    | with_reducible apply State.serveAll_keep
    | with_reducible apply State.domAct_keep
    | with_reducible apply State.voutAct_keep
    | with_reducible apply State.domJudge_keep
    | with_reducible apply State.voutStale_keep
    | with_reducible apply Keep.foldl
    | with_reducible (intro _ _)
    | with_reducible intro _
    | split

theorem State.domCount_keep {s t : State} {k : Nat} (h : Keep s t) : Keep s (State.domCount k t) := by
  unfold State.domCount
  repeat' first
    | with_reducible assumption
    | with_reducible exact Keep.refl _
    | with_reducible refine Keep.ofPair ‹_ = (_, _)› ?_
    | with_reducible apply Keeps.next
    | with_reducible refine Keep.ite ?_ ?_
    | with_reducible refine Keep.ite2 ?_ ?_
    | with_reducible apply State.onDomCh_keep

theorem State.when_keep {s t : State} {b : Bool} {f : State → State} (hf : ∀  r, Keep s r → Keep s (f r)) (h : Keep s t) :
    Keep s (State.when b f t) := by
  unfold State.when
  repeat' first
    | with_reducible assumption
    | with_reducible apply hf
    | split

theorem State.domNoPhase_keep {s t : State} {k : Nat} (h : Keep s t) : Keep s (State.domNoPhase k t) := by
  unfold State.domNoPhase
  repeat' first
    | with_reducible assumption
    | with_reducible exact Keep.refl _
    | with_reducible refine Keep.ofPair ‹_ = (_, _)› ?_
    | with_reducible apply Keeps.next
    | with_reducible refine Keep.ite ?_ ?_
    | with_reducible refine Keep.ite2 ?_ ?_
    | (extract_lets +onlyGivenNames x; clear_value x)
    | with_reducible apply State.domCount_keep
    | with_reducible apply State.domTo_keep
    | with_reducible apply State.onDomCh_keep
    | with_reducible apply State.when_keep
    | with_reducible apply State.raise_keep

theorem State.shedFloor_keep {s t : State} {k : Nat} (h : Keep s t) : Keep s (State.shedFloor k t) := by
  unfold State.shedFloor
  repeat' first
    | with_reducible assumption
    | with_reducible exact Keep.refl _
    | with_reducible refine Keep.ofPair ‹_ = (_, _)› ?_
    | with_reducible apply Keeps.next
    | with_reducible refine Keep.ite ?_ ?_
    | with_reducible refine Keep.ite2 ?_ ?_
    | (extract_lets +onlyGivenNames x; clear_value x)
    | with_reducible apply State.onDomCh_keep

theorem State.shedStep_keep {s t : State} {k : Nat} (h : Keep s t) : Keep s (State.shedStep k t) := by
  unfold State.shedStep
  dsimp only
  repeat' first
    | with_reducible assumption
    | with_reducible apply State.onDomCh_keep
    | with_reducible apply State.shedFloor_keep
    | split

theorem State.domTick_keep {s t : State} {k : Nat} (h : Keep s t) : Keep s (State.domTick k t) := by
  unfold State.domTick
  dsimp only
  repeat' first
    | with_reducible assumption
    | with_reducible apply State.onDomCh_keep
    | with_reducible apply State.shedStep_keep
    | with_reducible apply State.domBoundary_keep
    | split

theorem State.domTrip_keep {s t : State} {k : Nat} {code : Nat} {latch : Bool} (h : Keep s t) :
    Keep s (State.domTrip k code latch t) := by
  unfold State.domTrip
  dsimp only
  repeat' first
    | with_reducible assumption
    | with_reducible apply State.onDomCh_keep
    | with_reducible apply State.raise_keep
    | with_reducible apply State.domTo_keep
    | split

theorem State.domTripIf_keep {s t : State} {k : Nat} {code : Nat} {latch : Bool} (h : Keep s t) :
    Keep s (State.domTripIf k code latch t) := by
  unfold State.domTripIf
  repeat' first
    | with_reducible assumption
    | with_reducible apply State.domTrip_keep
    | split

theorem State.syncStep_keep {s t : State} (h : Keep s t) : Keep s (State.syncStep t) := by
  unfold State.syncStep
  repeat' first
    | with_reducible assumption
    | with_reducible exact Keep.refl _
    | with_reducible refine Keep.ofPair ‹_ = (_, _)› ?_
    | with_reducible apply Keeps.next
    | with_reducible refine Keep.ite ?_ ?_
    | with_reducible refine Keep.ite2 ?_ ?_
    | (extract_lets +onlyGivenNames x; clear_value x)
    | with_reducible apply State.onDom_keep

theorem State.domsTick_keep {s t : State} (h : Keep s t) : Keep s (State.domsTick t) := by
  unfold State.domsTick
  repeat' first
    | with_reducible assumption
    | with_reducible apply State.domJudge_keep
    | with_reducible apply State.each_keep
    | with_reducible apply State.domTick_keep
    | with_reducible apply State.syncStep_keep
    | with_reducible apply State.boundary_keep
    | with_reducible apply Keep.foldl
    | with_reducible (intro _ _)

theorem State.dropLine_keep {s t : State} {k : Nat} (h : Keep s t) : Keep s (State.dropLine k t) := by
  unfold State.dropLine
  repeat' first
    | with_reducible assumption
    | with_reducible apply State.onRectCh_keep
    | with_reducible apply State.flood_keep
    | with_reducible apply State.ffStart_keep
    | split

theorem State.dropRaise_keep {s t : State} (h : Keep s t) : Keep s (State.dropRaise t) := by
  unfold State.dropRaise
  repeat' first
    | with_reducible assumption
    | with_reducible exact Keep.refl _
    | with_reducible refine Keep.ofPair ‹_ = (_, _)› ?_
    | with_reducible apply Keeps.next
    | with_reducible refine Keep.ite ?_ ?_
    | with_reducible refine Keep.ite2 ?_ ?_
    | (with_reducible refine fun _ => ?_; try beta_reduce)
    | (extract_lets +onlyGivenNames x; clear_value x)
    | with_reducible apply State.each_keep
    | with_reducible apply State.raise_keep
    | with_reducible apply State.onRectCh_keep

theorem State.dropSeg_keep {s t : State} {o : Origin} {keep : Bool} {op : Nat} (h : Keep s t) :
    Keep s (State.dropSeg o keep op t) := by
  unfold State.dropSeg
  repeat' first
    | with_reducible assumption
    | with_reducible apply State.onHif_keep
    | split

theorem State.dsgStep_keep {s t : State} {k : Nat} (h : Keep s t) : Keep s (State.dsgStep k t) := by
  unfold State.dsgStep
  dsimp only
  repeat' first
    | with_reducible assumption
    | with_reducible apply State.onStrCh_keep
    | with_reducible apply State.drew_keep
    | split

theorem State.easelApply_keep {s t : State} {r : RecId} {ch : Nat} {vals : List (Field × Nat × Nat)} (h : Keep s t) :
    Keep s (State.easelApply r ch vals t) := by
  unfold State.easelApply
  repeat' first
    | with_reducible assumption
    | with_reducible apply State.setCopy_keep

theorem State.enumerate_keep {s t : State} {keep : Bool} (h : Keep s t) : Keep s (State.enumerate keep t) := by
  unfold State.enumerate
  dsimp only
  repeat' first
    | with_reducible assumption
    | with_reducible apply State.drew_keep
    | with_reducible apply State.onLink_keep
    | with_reducible apply State.raise_keep
    | split

theorem State.errRecDone_keep {s t : State} {k : Nat} (h : Keep s t) : Keep s (State.errRecDone k t) := by
  unfold State.errRecDone
  repeat' first
    | with_reducible assumption
    | with_reducible apply State.pdCheck_keep
    | with_reducible apply State.pdTo_keep
    | split

theorem State.establish_keep {s t : State} {k : Nat} {delay : Nat} (h : Keep s t) : Keep s (State.establish k delay t) := by
  unfold State.establish
  dsimp only
  repeat' first
    | with_reducible assumption
    | with_reducible apply State.onRectCh_keep
    | with_reducible apply State.rectTo_keep
    | with_reducible apply State.autoTry_keep
    | split

theorem State.eventIn_keep {s t : State} {type : Nat} {p : Nat} {f : List Byte} {act : List Byte → State → State}
    (hact : ∀ a0 r, Keep s r → Keep s (act a0 r)) (h : Keep s t) : Keep s (State.eventIn type p f act t) := by
  unfold State.eventIn
  repeat' first
    | with_reducible assumption
    | with_reducible apply State.onLink_keep
    | with_reducible apply State.sendOn_keep
    | with_reducible apply hact
    | split

theorem State.fanDrive_keep {s t : State} {m : Nat} {num : Nat} {den : Nat} (h : Keep s t) :
    Keep s (State.fanDrive m num den t) := by
  unfold State.fanDrive
  repeat' first
    | with_reducible assumption
    | with_reducible apply State.onCopy_keep

theorem State.forward_keep {s t : State} {o : Origin} {k : Packet} {left : List Nat} {send : Bool} {bs : List Byte}
    (h : Keep s t) : Keep s (State.forward o k left send bs t) := by
  unfold State.forward
  repeat' first
    | with_reducible assumption
    | with_reducible apply State.onHif_keep

theorem State.segment_keep {s t : State} {o : Origin} {op : Nat} (h : Keep s t) : Keep s (State.segment o op t) := by
  unfold State.segment
  repeat' first
    | with_reducible assumption
    | with_reducible apply State.answer_keep
    | with_reducible apply State.onHif_keep
    | with_reducible apply State.noReply_keep
    | with_reducible apply State.deliver_keep
    | split

theorem State.fanUpdate_keep {s t : State} {m : Nat} (h : Keep s t) : Keep s (State.fanUpdate m t) := by
  unfold State.fanUpdate
  repeat' first
    | with_reducible assumption
    | with_reducible apply State.fanDrive_keep
    | with_reducible apply State.onTherm_keep
    | split

theorem State.farAccepted_keep {s t : State} {f : Fwd} (h : Keep s t) : Keep s (State.farAccepted f t) := by
  unfold State.farAccepted
  repeat' first
    | with_reducible assumption
    | with_reducible exact Keep.refl _
    | with_reducible refine Keep.ofPair ‹_ = (_, _)› ?_
    | with_reducible apply Keeps.next
    | with_reducible refine Keep.ite ?_ ?_
    | with_reducible refine Keep.ite2 ?_ ?_
    | (extract_lets +onlyGivenNames x; clear_value x)
    | with_reducible apply State.onHif_keep

theorem State.fltAssert_keep {s t : State} (h : Keep s t) : Keep s (State.fltAssert t) := by
  unfold State.fltAssert
  repeat' first
    | with_reducible assumption
    | with_reducible apply State.onSeq_keep
    | split

theorem State.fltLine_keep {s t : State} {k : Nat} (h : Keep s t) : Keep s (State.fltLine k t) := by
  unfold State.fltLine
  dsimp only
  repeat' first
    | with_reducible assumption
    | with_reducible apply State.onBar_keep
    | with_reducible apply State.rectLost_keep
    | with_reducible apply State.onRectCh_keep
    | with_reducible apply State.raise_keep
    | split

theorem State.followTime_keep {s t : State} {time : Nat} (h : Keep s t) : Keep s (State.followTime time t) := by
  unfold State.followTime
  dsimp only
  repeat' first
    | with_reducible assumption
    | with_reducible exact fun _ => ⟨rfl, id⟩
    | with_reducible apply State.raise_keep
    | with_reducible apply State.onSkb_keep
    | with_reducible apply State.onSys_keep
    | with_reducible apply State.drew_keep
    | with_reducible apply State.onLink_keep
    | split

theorem State.hears_keep {s t : State} {k : Nat} {toMains : Bool} {line : List Nat} (h : Keep s t) :
    Keep s (State.hears k toMains line t).2 := by
  unfold State.hears
  repeat' first
    | with_reducible assumption
    | with_reducible exact Keep.refl _
    | with_reducible refine Keep.ofPair ‹_ = (_, _)› ?_
    | with_reducible apply Keeps.next
    | with_reducible refine Keep.ite ?_ ?_
    | with_reducible refine Keep.ite2 ?_ ?_
    | (extract_lets +onlyGivenNames x; clear_value x)
    | with_reducible apply State.onBar_keep

theorem State.frame_keep {s t : State} {k : Nat} {type : Nat} {len : Nat} {line : List Nat}
    {act : List Byte → State → State} (hact : ∀ a0 r, Keep s r → Keep s (act a0 r)) (h : Keep s t) :
    Keep s (State.frame k type len line act t) := by
  unfold State.frame
  dsimp only
  repeat' first
    | with_reducible assumption
    | with_reducible apply State.hears_keep
    | with_reducible apply State.each_keep
    | with_reducible apply State.beat_keep
    | with_reducible apply State.onBar_keep
    | with_reducible apply hact
    | with_reducible apply Keep.foldl
    | with_reducible (intro _ _)
    | with_reducible intro _
    | split

theorem State.fswStep_keep {s t : State} {k : Nat} (h : Keep s t) : Keep s (State.fswStep k t) := by
  unfold State.fswStep
  dsimp only
  repeat' first
    | with_reducible assumption
    | with_reducible apply State.onDomCh_keep
    | with_reducible apply State.raise_keep
    | split

theorem State.gaugeSave_keep {s t : State} {k : Nat} (h : Keep s t) : Keep s (State.gaugeSave k t) := by
  unfold State.gaugeSave
  repeat' first
    | with_reducible assumption
    | with_reducible apply State.vWrite_keep

theorem State.fullPoint_keep {s t : State} {k : Nat} (h : Keep s t) : Keep s (State.fullPoint k t) := by
  unfold State.fullPoint
  repeat' first
    | with_reducible assumption
    | with_reducible apply State.raise_keep
    | with_reducible apply State.gaugeSave_keep
    | with_reducible apply State.onGaugeCh_keep
    | split

theorem State.gainJudge_keep {s t : State} {x : Nat × Nat × Int} (h : Keep s t) : Keep s (State.gainJudge x t) := by
  unfold State.gainJudge
  dsimp only
  repeat' first
    | with_reducible assumption
    | with_reducible apply State.raise_keep
    | with_reducible apply State.unitFail_keep
    | with_reducible apply State.onMeas_keep
    | split

theorem State.gaugeFccAct_keep {s t : State} {k : Nat} {own : List Byte} (h : Keep s t) :
    Keep s (State.gaugeFccAct k own t).2 := by
  unfold State.gaugeFccAct
  repeat' first
    | with_reducible assumption
    | with_reducible apply State.gaugeSave_keep
    | with_reducible apply State.onGaugeCh_keep
    | split

theorem State.gaugeFilter_keep {s t : State} {k : Nat} {q : Int} {dt : Nat} {dev : Nat} (h : Keep s t) :
    Keep s (State.gaugeFilter k q dt dev t) := by
  unfold State.gaugeFilter
  repeat' first
    | with_reducible assumption
    | with_reducible apply State.onGaugeCh_keep

theorem State.gaugeResetAct_keep {s t : State} {k : Nat} {own : List Byte} (h : Keep s t) :
    Keep s (State.gaugeResetAct k own t).2 := by
  unfold State.gaugeResetAct
  repeat' first
    | with_reducible assumption
    | with_reducible apply State.raise_keep
    | with_reducible apply State.gaugeSave_keep
    | with_reducible apply State.onGaugeCh_keep
    | split

theorem State.gaugeSee_keep {s t : State} {k : Nat} {bad : Bool} (h : Keep s t) : Keep s (State.gaugeSee k bad t) := by
  unfold State.gaugeSee
  repeat' first
    | with_reducible assumption
    | with_reducible apply State.onGaugeCh_keep

theorem State.learnStop_keep {s t : State} {k : Nat} {state : Nat} {code : Nat} (h : Keep s t) :
    Keep s (State.learnStop k state code t) := by
  unfold State.learnStop
  repeat' first
    | with_reducible assumption
    | with_reducible apply State.gaugeSave_keep
    | with_reducible apply State.raise_keep
    | with_reducible apply State.onGaugeCh_keep

theorem State.learnJudge_keep {s t : State} {k : Nat} {tEnd : Nat} (h : Keep s t) : Keep s (State.learnJudge k tEnd t) := by
  unfold State.learnJudge
  dsimp only
  repeat' first
    | with_reducible assumption
    | with_reducible apply State.onGaugeCh_keep
    | with_reducible apply State.learnStop_keep
    | with_reducible apply State.gaugeSave_keep
    | with_reducible apply State.raise_keep
    | split

theorem State.learnStep_keep {s t : State} {k : Nat} {q : Int} {dt : Nat} {began : Bool} (h : Keep s t) :
    Keep s (State.learnStep k q dt began t) := by
  unfold State.learnStep
  repeat' first
    | with_reducible assumption
    | with_reducible exact Keep.refl _
    | with_reducible refine Keep.ofPair ‹_ = (_, _)› ?_
    | with_reducible apply Keeps.next
    | with_reducible refine Keep.ite ?_ ?_
    | with_reducible refine Keep.ite2 ?_ ?_
    | (extract_lets +onlyGivenNames x; refine Keep.cutP (p := Keep s x) ?_ (fun _ => ?_); (on_goal 2 => clear_value x); (on_goal 1 => subst x))
    | (extract_lets +onlyGivenNames x; clear_value x)
    | with_reducible apply State.onGaugeCh_keep
    | with_reducible apply State.learnJudge_keep
    | with_reducible apply State.learnStop_keep
    | with_reducible apply State.gaugeSave_keep
    | with_reducible apply Keep.foldl
    | split

theorem State.reportStep_keep {s t : State} {k : Nat} {dt : Nat} (h : Keep s t) : Keep s (State.reportStep k dt t) := by
  unfold State.reportStep
  dsimp only
  repeat' first
    | with_reducible assumption
    | with_reducible apply State.onGaugeCh_keep
    | with_reducible apply State.raise_keep
    | split

theorem State.insertion_keep {s t : State} {k : Nat} (h : Keep s t) : Keep s (State.insertion k t) := by
  unfold State.insertion
  dsimp only
  repeat' first
    | with_reducible assumption
    | with_reducible apply State.onGaugeCh_keep
    | split

theorem State.gaugeRun_keep {s t : State} {k : Nat} (h : Keep s t) : Keep s (State.gaugeRun k t) := by
  unfold State.gaugeRun
  dsimp only
  repeat' first
    | with_reducible assumption
    | with_reducible apply State.gaugeCharge_keep
    | with_reducible apply State.onGaugeCh_keep
    | with_reducible apply State.raise_keep
    | with_reducible apply State.gaugeSee_keep
    | with_reducible apply State.gaugeFilter_keep
    | with_reducible apply State.fullPoint_keep
    | with_reducible apply State.learnStep_keep
    | with_reducible apply State.reportStep_keep
    | with_reducible apply State.insertion_keep
    | with_reducible apply Keep.foldl
    | with_reducible (intro _ _)
    | with_reducible intro _
    | with_reducible refine Keep.ofPair ‹_ = (_, _)› ?_
    | split

theorem State.gaugeSnap_keep {s t : State} {k : Nat} (h : Keep s t) : Keep s (State.gaugeSnap k t) := by
  unfold State.gaugeSnap
  dsimp only
  repeat' first
    | with_reducible assumption
    | with_reducible apply State.onGaugeCh_keep
    | with_reducible apply State.raise_keep
    | split

theorem State.gaugeUpdate_keep {s t : State} {k : Nat} (h : Keep s t) : Keep s (State.gaugeUpdate k t) := by
  unfold State.gaugeUpdate
  dsimp only
  repeat' first
    | with_reducible assumption
    | with_reducible apply State.advanceTo_keep
    | with_reducible apply State.adopt_keep
    | with_reducible apply State.boundary_keep
    | with_reducible apply State.gaugeRun_keep
    | with_reducible apply State.serve_keep
    | with_reducible apply State.gaugeFccAct_keep
    | with_reducible apply State.gaugeResetAct_keep
    | with_reducible apply State.varnJudge_keep
    | with_reducible apply State.onGauge_keep
    | with_reducible apply Keep.foldl
    | with_reducible (intro _ _)
    | with_reducible intro _
    | split

theorem State.secBand_keep {s t : State} {k : Nat} (h : Keep s t) : Keep s (State.secBand k t) := by
  unfold State.secBand
  repeat' first
    | with_reducible assumption
    | with_reducible apply State.onRectCh_keep
    | with_reducible apply State.onTherm_keep
    | split

theorem State.lineLost_keep {s t : State} {k : Nat} {code : Nat} (h : Keep s t) : Keep s (State.lineLost k code t) := by
  unfold State.lineLost
  repeat' first
    | with_reducible assumption
    | with_reducible apply State.raise_keep
    | with_reducible apply State.rectLost_keep

theorem State.qualOwn_keep {s t : State} {k : Nat} {inWin : Bool} (h : Keep s t) : Keep s (State.qualOwn k inWin t) := by
  unfold State.qualOwn
  repeat' first
    | with_reducible assumption
    | with_reducible exact Keep.refl _
    | with_reducible refine Keep.ofPair ‹_ = (_, _)› ?_
    | with_reducible apply Keeps.next
    | with_reducible refine Keep.ite ?_ ?_
    | with_reducible refine Keep.ite2 ?_ ?_
    | (extract_lets +onlyGivenNames x; clear_value x)
    | with_reducible apply State.onRectCh_keep

theorem State.shedB_keep {s t : State} {k : Nat} (h : Keep s t) : Keep s (State.shedB k t) := by
  unfold State.shedB
  repeat' first
    | with_reducible assumption
    | with_reducible apply State.onRectCh_keep

theorem State.halfCycle_keep {s t : State} {k : Nat} {rms : Nat} {peak : Nat} {half : Nat} (h : Keep s t) :
    Keep s (State.halfCycle k rms peak half t) := by
  unfold State.halfCycle
  repeat' first
    | with_reducible assumption
    | with_reducible exact Keep.refl _
    | with_reducible refine Keep.ofPair ‹_ = (_, _)› ?_
    | with_reducible apply Keeps.next
    | with_reducible refine Keep.ite ?_ ?_
    | with_reducible refine Keep.ite2 ?_ ?_
    | (extract_lets +onlyGivenNames x; refine Keep.cutP (p := Keep s x) ?_ (fun _ => ?_); (on_goal 2 => clear_value x); (on_goal 1 => subst x))
    | (extract_lets +onlyGivenNames x; clear_value x)
    | with_reducible apply State.secBand_keep
    | with_reducible apply State.adopt_keep
    | with_reducible apply State.onRectCh_keep
    | with_reducible apply State.lineLost_keep
    | with_reducible apply State.ffRelease_keep
    | with_reducible apply State.raise_keep
    | with_reducible apply State.dropCleared_keep
    | with_reducible apply State.rectNote_keep
    | with_reducible apply State.rectLost_keep
    | with_reducible apply State.qualTry_keep
    | with_reducible apply State.rectTo_keep
    | with_reducible apply State.qualOwn_keep
    | with_reducible apply State.autoTry_keep
    | with_reducible apply State.shedB_keep
    | with_reducible apply Keep.foldl
    | split

theorem State.histClear_keep {s t : State} (h : Keep s t) : Keep s (State.histClear t) := by
  unfold State.histClear
  repeat' first
    | with_reducible assumption
    | with_reducible apply State.onMeas_keep
    | with_reducible apply State.onSkb_keep

theorem State.histPut_keep {s t : State} {r : List Byte} (h : Keep s t) : Keep s (State.histPut r t) := by
  unfold State.histPut
  dsimp only
  repeat' first
    | with_reducible assumption
    | with_reducible apply State.onSkb_keep
    | with_reducible apply State.raise_keep
    | with_reducible apply State.enqueue_keep
    | split

theorem State.histShare_keep {s t : State} (h : Keep s t) : Keep s (State.histShare t) := by
  unfold State.histShare
  repeat' first
    | with_reducible assumption
    | with_reducible apply State.onSkb_keep

theorem State.histTick_keep {s t : State} (h : Keep s t) : Keep s (State.histTick t) := by
  unfold State.histTick
  repeat' first
    | with_reducible assumption
    | with_reducible apply State.onSkb_keep

theorem State.pdIrq_keep {s t : State} (h : Keep s t) : Keep s (State.pdIrq t) := by
  unfold State.pdIrq
  repeat' first
    | with_reducible assumption
    | with_reducible apply State.irq_keep
    | split

theorem State.holdReady_keep {s t : State} {tests : SelfTests} {meta_ : Nat} {sramOk : Bool} (h : Keep s t) :
    Keep s (State.holdReady tests meta_ sramOk t) := by
  unfold State.holdReady
  have key : ∀ r : State, Keep s r → Keep s ((if t.flt.lostHold ≠ 0 then r.raiseWith { count := t.flt.lostHold } 0x1302 blockWide else r).skbReady meta_).pdIrq :=
    fun r k => State.pdIrq_keep (State.skbReady_keep (Keep.ite (State.raiseWith_keep k) k))
  refine key _ ?_
  have key2 : ∀ r : State, Keep s r → Keep s (if r.sys.flagFallback then
      r.raiseWith { cause := r.sys.cause, image := ((r.img.booted.map fun k => k.val).getD 0xFF) } 0x0103 blockWide
    else r) := fun r k => Keep.ite (State.raiseWith_keep k) k
  refine key2 _ (State.onHif_keep (State.each_keep (fun _ _ k => State.rectReady_keep k) (State.measReady_keep
    (State.each_keep (fun _ _ k => State.testTick_keep (State.onStrCh_keep (State.onGaugeCh_keep k))) (State.onSys_keep ?_ ?_)))))
  · intro y
    dsimp only
    split <;> exact ⟨rfl, id⟩
  · exact State.onFlt_keep id (State.settle_keep (State.drainQueue_keep (State.setFw_keep (State.onSys_keep (fun _ => ⟨rfl, id⟩) h))))

theorem State.i2cStart_keep {s t : State} (h : Keep s t) : Keep s (State.i2cStart t) := by
  unfold State.i2cStart
  repeat' first
    | with_reducible assumption
    | with_reducible apply State.onHif_keep

theorem State.snapTime_keep {s t : State} (h : Keep s t) : Keep s (State.snapTime t) := by
  unfold State.snapTime
  repeat' first
    | with_reducible assumption
    | with_reducible apply State.onHif_keep

theorem State.i2cRead_keep {s t : State} {ptr : Option Byte} {n : Nat} (h : Keep s t) : Keep s (State.i2cRead ptr n t) := by
  unfold State.i2cRead
  repeat' first
    | with_reducible assumption
    | with_reducible exact Keep.refl _
    | with_reducible refine Keep.ofPair ‹_ = (_, _)› ?_
    | with_reducible apply Keeps.next
    | with_reducible refine Keep.ite ?_ ?_
    | with_reducible refine Keep.ite2 ?_ ?_
    | (extract_lets +onlyGivenNames x; refine Keep.cutP (p := Keep s x) ?_ (fun _ => ?_); (on_goal 2 => clear_value x); (on_goal 1 => subst x))
    | (extract_lets +onlyGivenNames x; clear_value x)
    | with_reducible apply State.i2cStart_keep
    | with_reducible apply State.snapTime_keep
    | with_reducible apply State.onHif_keep
    | with_reducible apply State.drive_keep

theorem State.pecBad_keep {s t : State} (h : Keep s t) : Keep s (State.pecBad t) := by
  unfold State.pecBad
  repeat' first
    | with_reducible assumption
    | with_reducible apply State.irq_keep
    | with_reducible apply State.raise_keep
    | with_reducible apply State.onHif_keep

theorem State.pecReject_keep {s t : State} (h : Keep s t) : Keep s (State.pecReject t) := by
  unfold State.pecReject
  repeat' first
    | with_reducible assumption
    | with_reducible apply State.irq_keep
    | with_reducible apply State.onHif_keep

theorem State.i2cWrite_keep {s t : State} {hw : Nat} {bytes : List Byte} (h : Keep s t) :
    Keep s (State.i2cWrite hw bytes t).1 := by
  unfold State.i2cWrite
  dsimp only
  repeat' first
    | with_reducible assumption
    | with_reducible apply State.drive_keep
    | with_reducible apply State.i2cStart_keep
    | with_reducible apply State.pecBad_keep
    | with_reducible apply State.onHif_keep
    | with_reducible apply RegWalk.commit_keep
    | with_reducible apply State.pecReject_keep
    | split

theorem State.identTick_keep {s t : State} (h : Keep s t) : Keep s (State.identTick t) := by
  unfold State.identTick
  repeat' first
    | with_reducible assumption
    | with_reducible exact Keep.refl _
    | with_reducible refine Keep.ofPair ‹_ = (_, _)› ?_
    | with_reducible apply Keeps.next
    | with_reducible refine Keep.ite ?_ ?_
    | with_reducible refine Keep.ite2 ?_ ?_
    | (extract_lets +onlyGivenNames x; clear_value x)
    | with_reducible apply State.onLink_keep

theorem State.idle_keep {s t : State} (h : Keep s t) : Keep s (State.idle t) := by
  unfold State.idle
  repeat' first
    | with_reducible assumption
    | with_reducible exact fun _ => ⟨rfl, id⟩
    | with_reducible apply State.onSys_keep
    | split

theorem State.landedAck_keep {s t : State} {k : Nat} (h : Keep s t) : Keep s (State.landedAck k t) := by
  unfold State.landedAck
  repeat' first
    | with_reducible assumption
    | with_reducible exact Keep.refl _
    | with_reducible refine Keep.ofPair ‹_ = (_, _)› ?_
    | with_reducible apply Keeps.next
    | with_reducible refine Keep.ite ?_ ?_
    | with_reducible refine Keep.ite2 ?_ ?_
    | (extract_lets +onlyGivenNames x; clear_value x)
    | with_reducible apply State.wakeCommits_keep
    | with_reducible apply State.landStopped_keep
    | with_reducible apply State.setCopy_keep

theorem State.latch_keep {s t : State} (h : Keep s t) : Keep s (State.latch t) := by
  unfold State.latch
  repeat' first
    | with_reducible assumption
    | with_reducible apply State.onFeed_keep
    | with_reducible apply State.onMeas_keep

theorem State.levelWear_keep {s t : State} (h : Keep s t) : Keep s (State.levelWear t) := by
  unfold State.levelWear
  repeat' first
    | with_reducible assumption
    | with_reducible exact Keep.refl _
    | with_reducible refine Keep.ofPair ‹_ = (_, _)› ?_
    | with_reducible apply Keeps.next
    | with_reducible refine Keep.ite ?_ ?_
    | with_reducible refine Keep.ite2 ?_ ?_
    | (extract_lets +onlyGivenNames x; clear_value x)
    | with_reducible apply State.enqueue_keep
    | with_reducible apply Keep.foldl
    | split

theorem State.limStep_keep {s t : State} {k : Nat} (h : Keep s t) : Keep s (State.limStep k t) := by
  unfold State.limStep
  repeat' first
    | with_reducible assumption
    | with_reducible apply State.onDomCh_keep

theorem State.linkEntry_keep {s t : State} {kind : Nat} {b : List Byte} (h : Keep s t) :
    Keep s (State.linkEntry kind b t) := by
  unfold State.linkEntry
  repeat' first
    | with_reducible assumption
    | with_reducible apply State.log_keep

theorem State.linkLand_keep {s t : State} (h : Keep s t) : Keep s (State.linkLand t) := by
  unfold State.linkLand
  repeat' first
    | with_reducible assumption
    | with_reducible exact Keep.refl _
    | with_reducible refine Keep.ofPair ‹_ = (_, _)› ?_
    | with_reducible apply Keeps.next
    | with_reducible refine Keep.ite ?_ ?_
    | with_reducible refine Keep.ite2 ?_ ?_
    | (extract_lets +onlyGivenNames x; clear_value x)
    | with_reducible apply State.boundary_keep
    | with_reducible apply State.onLink_keep

theorem State.rectAct_keep {s t : State} {k : Nat} {own : List Byte} (h : Keep s t) : Keep s (State.rectAct k own t).2 := by
  unfold State.rectAct
  dsimp only
  repeat' first
    | with_reducible assumption
    | with_reducible apply State.rectFree_keep
    | with_reducible apply State.onRectCh_keep
    | with_reducible apply State.settleCh_keep
    | with_reducible apply State.rectDisable_keep
    | split

theorem State.rectServe_keep {s t : State} {k : Nat} (h : Keep s t) : Keep s (State.rectServe k t) := by
  unfold State.rectServe
  repeat' first
    | with_reducible assumption
    | with_reducible apply State.rectJudge_keep
    | with_reducible apply State.serve_keep
    | with_reducible apply State.rectAct_keep
    | with_reducible apply Keep.foldl
    | with_reducible (intro _ _)

theorem State.softDone_keep {s t : State} {k : Nat} (h : Keep s t) : Keep s (State.softDone k t) := by
  unfold State.softDone
  dsimp only
  repeat' first
    | with_reducible assumption
    | with_reducible apply State.rectTo_keep
    | split

theorem State.readyBack_keep {s t : State} (h : Keep s t) : Keep s (State.readyBack t) := by
  unfold State.readyBack
  repeat' first
    | with_reducible assumption
    | with_reducible apply State.each_keep
    | with_reducible apply State.auxTo_keep
    | with_reducible apply Keep.foldl
    | with_reducible (intro _ _)
    | with_reducible intro _
    | with_reducible refine Keep.ofPair ‹_ = (_, _)› ?_
    | split

theorem State.walkJudge_keep {s t : State} {k : Nat} (h : Keep s t) : Keep s (State.walkJudge k t) := by
  unfold State.walkJudge
  repeat' first
    | with_reducible assumption
    | with_reducible exact Keep.refl _
    | with_reducible refine Keep.ofPair ‹_ = (_, _)› ?_
    | with_reducible apply Keeps.next
    | with_reducible refine Keep.ite ?_ ?_
    | with_reducible refine Keep.ite2 ?_ ?_
    | (extract_lets +onlyGivenNames x; clear_value x)
    | with_reducible apply State.readyBack_keep
    | with_reducible apply State.rectTo_keep

theorem State.rectTrip_keep {s t : State} {k : Nat} {code : Nat} (h : Keep s t) : Keep s (State.rectTrip k code t) := by
  unfold State.rectTrip
  dsimp only
  repeat' first
    | with_reducible assumption
    | with_reducible apply State.rectLost_keep
    | with_reducible apply State.onRectCh_keep
    | with_reducible apply State.raise_keep
    | split

theorem State.rectTripIf_keep {s t : State} {k : Nat} {code : Nat} (h : Keep s t) : Keep s (State.rectTripIf k code t) := by
  unfold State.rectTripIf
  repeat' first
    | with_reducible assumption
    | with_reducible apply State.rectTrip_keep
    | split

theorem State.llcEnd_keep {s t : State} {k : Nat} {cap : Bool} (h : Keep s t) : Keep s (State.llcEnd k cap t) := by
  unfold State.llcEnd
  dsimp only
  repeat' first
    | with_reducible assumption
    | with_reducible apply State.onRectCh_keep
    | with_reducible apply State.rectServe_keep
    | with_reducible apply State.softDone_keep
    | with_reducible apply State.walkJudge_keep
    | with_reducible apply State.calLand_keep
    | with_reducible apply State.boundary_keep
    | with_reducible apply State.rectBoundary_keep
    | with_reducible apply State.rectTripIf_keep
    | split

theorem State.seqHold_keep {s t : State} (h : Keep s t) : Keep s (State.seqHold t) := by
  unfold State.seqHold
  repeat' first
    | with_reducible assumption
    | with_reducible apply State.seqReply_keep
    | with_reducible apply State.seqStop_keep

theorem State.seqNext_keep {s t : State} (h : Keep s t) : Keep s (State.seqNext t) := by
  unfold State.seqNext
  repeat' first
    | with_reducible assumption
    | with_reducible apply State.seqFrom_keep
    | with_reducible apply State.onSeq_keep

theorem State.seqDelay_keep {s t : State} (h : Keep s t) : Keep s (State.seqDelay t) := by
  unfold State.seqDelay
  repeat' first
    | with_reducible assumption
    | with_reducible apply State.seqNext_keep
    | with_reducible apply State.onSeq_keep
    | split

theorem State.onFail_keep {s t : State} {j : Nat} {own : Bool} (h : Keep s t) : Keep s (State.onFail j own t) := by
  unfold State.onFail
  dsimp only
  repeat' first
    | with_reducible assumption
    | with_reducible apply State.seqHold_keep
    | with_reducible apply State.fltAssert_keep
    | with_reducible apply State.seqDelay_keep
    | with_reducible apply State.powerDown_keep
    | with_reducible apply State.seqActs_keep
    | split

theorem State.lostAct_keep {s t : State} {n0 : List Nat} (h : Keep s t) : Keep s (State.lostAct n0 t) := by
  induction n0 generalizing t with
  | nil => exact h
  | cons j js ih =>
    unfold State.lostAct
    split
    · exact State.onFail_keep h
    · exact ih (State.onFail_keep h)

theorem State.mainsHeat_keep {s t : State} (h : Keep s t) : Keep s (State.mainsHeat t) := by
  unfold State.mainsHeat
  dsimp only
  repeat' first
    | with_reducible assumption
    | with_reducible apply State.onTherm_keep
    | with_reducible apply State.each_keep
    | with_reducible apply State.rectTrip_keep
    | with_reducible apply State.rectTo_keep
    | with_reducible apply State.raise_keep
    | with_reducible apply State.vWrite_keep
    | with_reducible apply Keep.foldl
    | with_reducible (intro _ _)
    | with_reducible intro _
    | split

theorem State.release_keep {s t : State} (h : Keep s t) : Keep s (State.release t) := by
  unfold State.release
  dsimp only
  repeat' first
    | with_reducible assumption
    | with_reducible apply State.onMbx_keep
    | with_reducible apply State.onHif_keep
    | with_reducible apply State.packetEnd_keep
    | split

theorem State.storeDone_keep {s t : State} {area : Nat} {bytes : List Byte} (h : Keep s t) :
    Keep s (State.storeDone area bytes t) := by
  unfold State.storeDone
  repeat' first
    | with_reducible assumption
    | with_reducible apply State.onImg_keep
    | with_reducible apply State.onPal_keep
    | with_reducible apply State.onCfg_keep
    | split

theorem State.opDone_keep {s t : State} {op : NandOp} (h : Keep s t) : Keep s (State.opDone op t) := by
  unfold State.opDone
  dsimp only
  repeat' first
    | with_reducible assumption
    | with_reducible apply State.onSkb_keep
    | with_reducible apply State.onItem_keep
    | with_reducible apply State.onGaugeCh_keep
    | with_reducible apply State.raise_keep
    | with_reducible apply State.captureDone_keep
    | with_reducible apply State.enqueue_keep
    | with_reducible apply State.storeDone_keep
    | split

theorem State.retire_keep {s t : State} {l : Nat} (h : Keep s t) : Keep s (State.retire l t) := by
  unfold State.retire
  repeat' first
    | with_reducible assumption
    | with_reducible apply State.raise_keep
    | with_reducible apply State.onSkb_keep
    | split

theorem State.nandDone_keep {s t : State} {ok : Bool} (h : Keep s t) : Keep s (State.nandDone ok t) := by
  unfold State.nandDone
  dsimp only
  repeat' first
    | with_reducible assumption
    | with_reducible apply State.onSkb_keep
    | with_reducible apply State.opDone_keep
    | with_reducible apply State.finish_keep
    | with_reducible apply State.pump_keep
    | with_reducible apply State.levelWear_keep
    | with_reducible apply State.nandFail_keep
    | with_reducible apply State.deferNewer_keep
    | with_reducible apply State.raise_keep
    | with_reducible apply State.retire_keep
    | split

theorem State.shareReturn_keep {s t : State} {seq : Nat} {time : Nat} {m : List (Nat × Option ShareFig)} (h : Keep s t) :
    Keep s (State.shareReturn seq time m t) := by
  unfold State.shareReturn
  repeat' first
    | with_reducible assumption
    | with_reducible apply State.sendOn_keep
    | with_reducible apply State.onLink_keep

theorem State.nodeBranch_keep {s t : State} {p : Nat} {seq : Nat} {time : Nat} {f : Option ShareFig} (h : Keep s t) :
    Keep s (State.nodeBranch p seq time f t) := by
  unfold State.nodeBranch
  repeat' first
    | with_reducible assumption
    | with_reducible exact Keep.refl _
    | with_reducible refine Keep.ofPair ‹_ = (_, _)› ?_
    | with_reducible apply Keeps.next
    | with_reducible refine Keep.ite ?_ ?_
    | with_reducible refine Keep.ite2 ?_ ?_
    | (extract_lets +onlyGivenNames x; clear_value x)
    | with_reducible apply State.shareReturn_keep
    | with_reducible apply State.onLink_keep

theorem State.notifySent_keep {s t : State} (h : Keep s t) : Keep s (State.notifySent t) := by
  unfold State.notifySent
  repeat' first
    | with_reducible assumption
    | with_reducible exact Keep.refl _
    | with_reducible refine Keep.ofPair ‹_ = (_, _)› ?_
    | with_reducible apply Keeps.next
    | with_reducible refine Keep.ite ?_ ?_
    | with_reducible refine Keep.ite2 ?_ ?_
    | (extract_lets +onlyGivenNames x; clear_value x)
    | with_reducible apply State.onHif_keep
    | with_reducible apply State.drive_keep

theorem State.notifyNacked_keep {s t : State} (h : Keep s t) : Keep s (State.notifyNacked t) := by
  unfold State.notifyNacked
  repeat' first
    | with_reducible assumption
    | with_reducible exact Keep.refl _
    | with_reducible refine Keep.ofPair ‹_ = (_, _)› ?_
    | with_reducible apply Keeps.next
    | with_reducible refine Keep.ite ?_ ?_
    | with_reducible refine Keep.ite2 ?_ ?_
    | (extract_lets +onlyGivenNames x; clear_value x)
    | with_reducible apply State.onHif_keep
    | with_reducible apply State.drive_keep
    | with_reducible apply State.raise_keep

theorem State.notify_keep {s t : State} {r : NotifyRes} (h : Keep s t) : Keep s (State.notify r t) := by
  unfold State.notify
  repeat' first
    | with_reducible assumption
    | with_reducible apply State.notifySent_keep
    | with_reducible apply State.busStart_keep
    | with_reducible apply State.drive_keep
    | with_reducible apply State.notifyNacked_keep
    | with_reducible apply State.cure_keep
    | with_reducible apply State.cureAbandoned_keep
    | with_reducible apply Keep.foldl
    | with_reducible (intro _ _)
    | with_reducible intro _
    | with_reducible refine Keep.ofPair ‹_ = (_, _)› ?_
    | split

theorem State.onCc_keep {s t : State} {k : Nat} {f : Cc → Cc} (h : Keep s t) : Keep s (State.onCc k f t) := by
  unfold State.onCc
  repeat' first
    | with_reducible assumption
    | with_reducible apply State.onMeas_keep

theorem State.onPages_keep {s t : State} {f : PmPage → PmPage} (h : Keep s t) : Keep s (State.onPages f t) := by
  unfold State.onPages
  repeat' first
    | with_reducible assumption
    | with_reducible apply State.onHif_keep

theorem State.palDone_keep {s t : State} (h : Keep s t) : Keep s (State.palDone t) := by
  unfold State.palDone
  repeat' first
    | with_reducible assumption
    | with_reducible apply State.vWrite_keep
    | with_reducible apply State.onPal_keep
    | with_reducible apply State.wake_keep
    | split

theorem State.throttleTick_keep {s t : State} (h : Keep s t) : Keep s (State.throttleTick t) := by
  unfold State.throttleTick
  dsimp only
  repeat' first
    | with_reducible assumption
    | with_reducible apply State.adopt_keep
    | with_reducible apply State.onTherm_keep
    | with_reducible apply State.raise_keep
    | split

theorem State.palAdopt_keep {s t : State} {c : Nat} {ch : Nat} (h : Keep s t) : Keep s (State.palAdopt c ch t) := by
  unfold State.palAdopt
  repeat' first
    | with_reducible assumption
    | with_reducible apply State.palDone_keep
    | with_reducible apply State.palCharger_keep
    | with_reducible apply State.bandStep_keep
    | with_reducible apply State.adopt_keep
    | with_reducible apply State.domAdopt_keep
    | with_reducible apply State.capTick_keep
    | with_reducible apply State.throttleTick_keep
    | with_reducible apply State.adoptSources_keep
    | with_reducible apply State.secBand_keep
    | with_reducible apply State.scrubAdopt_keep
    | with_reducible apply Keep.foldl
    | with_reducible (intro _ _)
    | with_reducible intro _
    | with_reducible refine Keep.ofPair ‹_ = (_, _)› ?_
    | split

theorem State.pdNote_keep {s t : State} {k : Nat} {type : Nat} {data : List Byte} (h : Keep s t) :
    Keep s (State.pdNote k type data t) := by
  unfold State.pdNote
  repeat' first
    | with_reducible assumption
    | with_reducible apply State.pdPut_keep

theorem State.vconnSet_keep {s t : State} {k : Nat} (h : Keep s t) : Keep s (State.vconnSet k t) := by
  unfold State.vconnSet
  repeat' first
    | with_reducible assumption
    | with_reducible apply State.onPdCh_keep

theorem State.pdOut_keep {s t : State} {k : Nat} {bs : List Byte} (h : Keep s t) : Keep s (State.pdOut k bs t) := by
  unfold State.pdOut
  repeat' first
    | with_reducible assumption
    | with_reducible apply State.onPdCh_keep

theorem State.pdFire_keep {s t : State} {k : Nat} {x : PdTx} (h : Keep s t) : Keep s (State.pdFire k x t) := by
  unfold State.pdFire
  repeat' first
    | with_reducible assumption
    | with_reducible apply State.onPdCh_keep
    | with_reducible apply State.pdOut_keep
    | split

theorem State.pdOwn_keep {s t : State} {k : Nat} {x : PdTx} (h : Keep s t) : Keep s (State.pdOwn k x t) := by
  unfold State.pdOwn
  repeat' first
    | with_reducible assumption
    | with_reducible apply State.pdFire_keep
    | with_reducible apply State.onPdCh_keep
    | split

theorem State.pdTrigger_keep {s t : State} {k : Nat} (h : Keep s t) : Keep s (State.pdTrigger k t) := by
  unfold State.pdTrigger
  dsimp only
  repeat' first
    | with_reducible assumption
    | with_reducible apply State.onPdCh_keep
    | with_reducible apply State.pdReply_keep
    | with_reducible apply State.pdNote_keep
    | with_reducible apply State.vconnSet_keep
    | with_reducible apply State.pdOwn_keep
    | split

theorem State.pdTypeC_keep {s t : State} {k : Nat} (h : Keep s t) : Keep s (State.pdTypeC k t) := by
  unfold State.pdTypeC
  repeat' first
    | with_reducible assumption
    | with_reducible apply State.onPdCh_keep
    | with_reducible apply State.pdAbort_keep
    | with_reducible apply State.pdNote_keep

theorem State.pdHardReset_keep {s t : State} {k : Nat} {sent : Bool} {result : Nat} (h : Keep s t) :
    Keep s (State.pdHardReset k sent result t) := by
  unfold State.pdHardReset
  dsimp only
  repeat' first
    | with_reducible assumption
    | with_reducible apply State.pdResetEvent_keep
    | with_reducible apply State.pdOut_keep
    | with_reducible apply State.pdAbort_keep
    | with_reducible apply State.onPdCh_keep
    | with_reducible apply State.raise_keep
    | with_reducible apply State.pdNote_keep
    | split

theorem State.pdEscalate_keep {s t : State} {k : Nat} {result : Nat} (h : Keep s t) :
    Keep s (State.pdEscalate k result t) := by
  unfold State.pdEscalate
  repeat' first
    | with_reducible assumption
    | with_reducible apply State.onPdCh_keep
    | with_reducible apply State.raise_keep
    | with_reducible apply State.pdTypeC_keep
    | with_reducible apply State.pdReply_keep
    | with_reducible apply State.pdHardReset_keep
    | split

theorem State.pdSoft_keep {s t : State} {k : Nat} (h : Keep s t) : Keep s (State.pdSoft k t) := by
  unfold State.pdSoft
  repeat' first
    | with_reducible assumption
    | with_reducible apply State.pdOwn_keep

theorem State.pdNoAnswer_keep {s t : State} {k : Nat} {r : Nat} {soft : Bool} (h : Keep s t) :
    Keep s (State.pdNoAnswer k r soft t) := by
  unfold State.pdNoAnswer
  dsimp only
  repeat' first
    | with_reducible assumption
    | with_reducible apply State.pdNote_keep
    | with_reducible apply State.pdEscalate_keep
    | with_reducible apply State.raise_keep
    | with_reducible apply State.pdSoft_keep
    | split

theorem State.pdDone_keep {s t : State} {k : Nat} {result : Nat} (h : Keep s t) : Keep s (State.pdDone k result t) := by
  unfold State.pdDone
  repeat' first
    | with_reducible assumption
    | with_reducible apply State.onPdCh_keep
    | with_reducible apply State.amsOver_keep
    | with_reducible apply State.pdReply_keep
    | with_reducible apply State.pdTrigger_keep
    | with_reducible apply State.pdNoAnswer_keep
    | split

theorem State.pdAck_keep {s t : State} {k : Nat} {sop : Nat} {header : Nat} (h : Keep s t) :
    Keep s (State.pdAck k sop header t) := by
  unfold State.pdAck
  repeat' first
    | with_reducible assumption
    | with_reducible apply State.pdDone_keep
    | split

theorem State.pdApplyLim_keep {s t : State} {k : Nat} (h : Keep s t) : Keep s (State.pdApplyLim k t) := by
  unfold State.pdApplyLim
  dsimp only
  repeat' first
    | with_reducible assumption
    | with_reducible apply State.onPdCh_keep
    | with_reducible apply State.pdNote_keep
    | with_reducible apply State.raise_keep
    | with_reducible apply State.pdOut_keep
    | with_reducible apply State.pdErrRec_keep
    | split

theorem State.pdArm_keep {s t : State} {k : Nat} {a : Armed} (h : Keep s t) : Keep s (State.pdArm k a t) := by
  unfold State.pdArm
  repeat' first
    | with_reducible assumption
    | with_reducible apply State.pdReply_keep
    | with_reducible apply State.onPdCh_keep

theorem State.pdAttach_keep {s t : State} {k : Nat} {src : Bool} (h : Keep s t) : Keep s (State.pdAttach k src t) := by
  unfold State.pdAttach
  repeat' first
    | with_reducible assumption
    | with_reducible apply State.onPdCh_keep
    | with_reducible apply State.pdTo_keep
    | with_reducible apply State.settleCh_keep
    | with_reducible apply State.vconnSet_keep
    | with_reducible apply State.pdNote_keep

theorem State.pdBegin_keep {s t : State} {k : Nat} {x : PdTx} (h : Keep s t) : Keep s (State.pdBegin k x t) := by
  unfold State.pdBegin
  dsimp only
  repeat' first
    | with_reducible assumption
    | with_reducible apply State.onPdCh_keep
    | with_reducible apply State.pdFire_keep
    | split

theorem State.pdComplete_keep {s t : State} {k : Nat} (h : Keep s t) : Keep s (State.pdComplete k t) := by
  unfold State.pdComplete
  repeat' first
    | with_reducible assumption
    | with_reducible apply State.onPdCh_keep
    | with_reducible apply State.pdReply_keep
    | with_reducible apply State.pdNote_keep
    | split

theorem State.pdControl_keep {s t : State} {k : Nat} {action : Nat} (h : Keep s t) :
    Keep s (State.pdControl k action t) := by
  unfold State.pdControl
  repeat' first
    | with_reducible assumption
    | with_reducible apply State.onPdCh_keep
    | with_reducible apply State.pdTypeC_keep
    | with_reducible apply State.pdTo_keep
    | with_reducible apply State.pdDrop_keep
    | with_reducible apply State.pdCheck_keep
    | with_reducible apply State.pdErrRec_keep
    | with_reducible apply State.pdHardReset_keep
    | with_reducible apply State.pdOut_keep
    | split

theorem State.pdDetach_keep {s t : State} {k : Nat} (h : Keep s t) : Keep s (State.pdDetach k t) := by
  unfold State.pdDetach
  repeat' first
    | with_reducible assumption
    | with_reducible apply State.pdDrop_keep
    | with_reducible apply State.pdCheck_keep
    | with_reducible apply State.pdTo_keep

theorem State.pdDrain_keep {s t : State} {k : Nat} (h : Keep s t) : Keep s (State.pdDrain k t) := by
  unfold State.pdDrain
  dsimp only
  repeat' first
    | with_reducible assumption
    | with_reducible apply State.irq_keep
    | with_reducible apply State.onPdCh_keep
    | split

theorem State.pdOwnNext_keep {s t : State} {k : Nat} (h : Keep s t) : Keep s (State.pdOwnNext k t) := by
  unfold State.pdOwnNext
  repeat' first
    | with_reducible assumption
    | with_reducible apply State.pdFire_keep
    | with_reducible apply State.onPdCh_keep
    | split

theorem State.pdServe_keep {s t : State} {n0 : Nat} {n1 : Nat} (h : Keep s t) : Keep s (State.pdServe n0 n1 t) := by
  induction n0 generalizing t with
  | zero => exact h
  | succ n ih =>
    unfold State.pdServe
    dsimp only
    repeat' first
      | with_reducible assumption
      | with_reducible apply State.onHif_keep
      | with_reducible apply State.finish_keep
      | with_reducible apply State.pdControl_keep
      | with_reducible apply State.pdBegin_keep
      | with_reducible apply ih
      | split

theorem State.pdIdle_keep {s t : State} {k : Nat} (h : Keep s t) : Keep s (State.pdIdle k t) := by
  unfold State.pdIdle
  dsimp only
  repeat' first
    | with_reducible assumption
    | with_reducible apply State.pdOwnNext_keep
    | with_reducible apply State.pdServe_keep
    | with_reducible apply State.boundary_keep
    | with_reducible apply State.pdCheck_keep
    | split

theorem State.pdEv_keep {s t : State} {k : Nat} {act : State → State} (hact : ∀  r, Keep s r → Keep s (act r)) (h : Keep s t) :
    Keep s (State.pdEv k act t) := by
  unfold State.pdEv
  repeat' first
    | with_reducible assumption
    | with_reducible apply State.pdIdle_keep
    | with_reducible apply State.onPdCh_keep
    | with_reducible apply hact
    | split

theorem State.pdSlew_keep {s t : State} {k : Nat} {v : Nat} (h : Keep s t) : Keep s (State.pdSlew k v t) := by
  unfold State.pdSlew
  repeat' first
    | with_reducible assumption
    | with_reducible exact Keep.refl _
    | with_reducible refine Keep.ofPair ‹_ = (_, _)› ?_
    | with_reducible apply Keeps.next
    | with_reducible refine Keep.ite ?_ ?_
    | with_reducible refine Keep.ite2 ?_ ?_
    | (extract_lets +onlyGivenNames x; clear_value x)
    | with_reducible apply State.onPdCh_keep

theorem State.pdSwapUp_keep {s t : State} {k : Nat} (h : Keep s t) : Keep s (State.pdSwapUp k t) := by
  unfold State.pdSwapUp
  repeat' first
    | with_reducible assumption
    | with_reducible exact Keep.refl _
    | with_reducible refine Keep.ofPair ‹_ = (_, _)› ?_
    | with_reducible apply Keeps.next
    | with_reducible refine Keep.ite ?_ ?_
    | with_reducible refine Keep.ite2 ?_ ?_
    | (extract_lets +onlyGivenNames x; clear_value x)
    | with_reducible apply State.pdComplete_keep
    | with_reducible apply State.onPdCh_keep
    | with_reducible apply State.pdOwn_keep

theorem State.pdPsRdy_keep {s t : State} {k : Nat} (h : Keep s t) : Keep s (State.pdPsRdy k t) := by
  unfold State.pdPsRdy
  dsimp only
  repeat' first
    | with_reducible assumption
    | with_reducible apply State.pdComplete_keep
    | with_reducible apply State.onPdCh_keep
    | with_reducible apply State.pdSlew_keep
    | with_reducible apply State.pdSwapUp_keep
    | split

theorem State.pdMeaning_keep {s t : State} {k : Nat} {header : Nat} (h : Keep s t) :
    Keep s (State.pdMeaning k header t) := by
  unfold State.pdMeaning
  dsimp only
  repeat' first
    | with_reducible assumption
    | with_reducible apply State.onPdCh_keep
    | with_reducible apply State.pdNote_keep
    | with_reducible apply State.pdTrigger_keep
    | with_reducible apply State.pdPsRdy_keep
    | split

theorem State.pdPeriodEnd_keep {s t : State} {k : Nat} (h : Keep s t) : Keep s (State.pdPeriodEnd k t) := by
  unfold State.pdPeriodEnd
  repeat' first
    | with_reducible assumption
    | with_reducible apply State.pdApplyLim_keep
    | with_reducible apply State.boundary_keep
    | split

theorem State.pdPhaseOut_keep {s t : State} {k : Nat} {type : Nat} (h : Keep s t) : Keep s (State.pdPhaseOut k type t) := by
  unfold State.pdPhaseOut
  repeat' first
    | with_reducible assumption
    | with_reducible apply State.pdEscalate_keep
    | with_reducible apply State.pdNote_keep
    | with_reducible apply State.pdReply_keep
    | with_reducible apply State.onPdCh_keep
    | split

theorem State.pdReceive_keep {s t : State} {k : Nat} {sop : Nat} {header : Nat} {data : List Byte} (h : Keep s t) :
    Keep s (State.pdReceive k sop header data t) := by
  unfold State.pdReceive
  dsimp only
  repeat' first
    | with_reducible assumption
    | with_reducible apply State.pdDrain_keep
    | with_reducible apply State.raise_keep
    | with_reducible apply State.onPdCh_keep
    | with_reducible apply State.pdOut_keep
    | with_reducible apply State.pdDone_keep
    | with_reducible apply State.pdMeaning_keep
    | split

theorem State.pdRestored_keep {s t : State} {k : Nat} (h : Keep s t) : Keep s (State.pdRestored k t) := by
  unfold State.pdRestored
  repeat' first
    | with_reducible assumption
    | with_reducible apply State.onPdCh_keep
    | with_reducible apply State.pdResetEvent_keep
    | with_reducible apply State.vconnSet_keep

theorem State.pdSafe_keep {s t : State} {k : Nat} (h : Keep s t) : Keep s (State.pdSafe k t) := by
  unfold State.pdSafe
  dsimp only
  repeat' first
    | with_reducible assumption
    | with_reducible apply State.onPdCh_keep
    | with_reducible apply State.pdHardReset_keep
    | with_reducible apply State.pdTypeC_keep
    | split

theorem State.pdShareTick_keep {s t : State} (h : Keep s t) : Keep s (State.pdShareTick t) := by
  unfold State.pdShareTick
  refine State.each_keep (fun x r k => ?_) h
  have q := State.onPdCh_keep (k := x) (f := fun c =>
      { c with limNext := r.pdLimit x, okSince := if 2500 ≤ r.pdLimit x then c.okSince.orElse fun _ => some r.now else none }) k
  refine Keep.ite (c := ((r.onPdCh x _).pdCh x).conv = true) q (State.pdApplyLim_keep q)

theorem State.pdStop_keep {s t : State} {k : Nat} (h : Keep s t) : Keep s (State.pdStop k t) := by
  unfold State.pdStop
  dsimp only
  repeat' first
    | with_reducible assumption
    | with_reducible apply State.pdDrop_keep
    | with_reducible apply State.pdTo_keep
    | split

theorem State.pdTick_keep {s t : State} (h : Keep s t) : Keep s (State.pdTick t) := by
  unfold State.pdTick
  repeat' first
    | with_reducible assumption
    | with_reducible apply State.pdIrq_keep
    | with_reducible apply State.each_keep
    | with_reducible apply State.pdIdle_keep
    | with_reducible apply State.pdDrain_keep
    | with_reducible apply State.vconnSet_keep
    | with_reducible apply Keep.foldl
    | with_reducible (intro _ _)
    | with_reducible intro _

theorem State.pdTime_keep {s t : State} {t' : Nat} {n : Nat} (h : Keep s t) : Keep s (State.pdTime t' n t) := by
  unfold State.pdTime
  repeat' first
    | with_reducible assumption
    | with_reducible apply State.advanceTo_keep

theorem State.perChannel_keep {s t : State} {sel : Sel} {act : Nat → State → Nat × State}
    (hact : ∀ a0 r, Keep s r → Keep s (act a0 r).2) (h : Keep s t) : Keep s (State.perChannel t sel act).1 := by
  unfold State.perChannel
  have key : ∀ (xs : List Nat) (a : State × Nat × Nat), Keep s a.1 → Keep s (xs.foldl (fun (a : State × Nat × Nat) k =>
      let r := act k a.1
      if r.1 = st.ok then (r.2, a.2) else (a.1, a.2.1 ||| 2 ^ k, if a.2.1 = 0 then r.1 else a.2.2)) a).1 := by
    intro xs
    induction xs with
    | nil => exact fun _ k => k
    | cons x xs ih =>
      intro a k
      refine ih _ ?_
      dsimp only
      split
      · exact hact _ _ k
      · exact k
  exact key _ _ h

theorem State.pinEdge_keep {s t : State} {input : Nat} {rising : Bool} {held : Nat} (h : Keep s t) :
    Keep s (State.pinEdge input rising held t) := by
  unfold State.pinEdge
  repeat' first
    | with_reducible assumption
    | with_reducible exact Keep.refl _
    | with_reducible refine Keep.ofPair ‹_ = (_, _)› ?_
    | with_reducible apply Keeps.next
    | with_reducible refine Keep.ite ?_ ?_
    | with_reducible refine Keep.ite2 ?_ ?_
    | (with_reducible refine fun _ => ?_; try beta_reduce)
    | with_reducible apply State.each_keep
    | with_reducible apply State.capture_keep

theorem State.pinRelease_keep {s t : State} (h : Keep s t) : Keep s (State.pinRelease t) := by
  unfold State.pinRelease
  repeat' first
    | with_reducible assumption
    | with_reducible exact Keep.refl _
    | with_reducible refine Keep.ofPair ‹_ = (_, _)› ?_
    | with_reducible apply Keeps.next
    | with_reducible refine Keep.ite ?_ ?_
    | with_reducible refine Keep.ite2 ?_ ?_
    | with_reducible exact fun _ => ⟨rfl, id⟩
    | (extract_lets +onlyGivenNames x; refine Keep.cutP (p := Keep s x) ?_ (fun _ => ?_); (on_goal 2 => clear_value x); (on_goal 1 => subst x))
    | (extract_lets +onlyGivenNames x; clear_value x)
    | with_reducible apply State.onSys_keep
    | with_reducible apply State.dropQueue_keep
    | with_reducible apply State.onSkb_keep
    | with_reducible apply State.onHif_keep
    | with_reducible apply State.settle_keep
    | with_reducible apply State.bootAgain_keep
    | with_reducible apply State.coldBoot_keep
    | with_reducible apply Keep.foldl
    | split

theorem State.selWait_keep {s t : State} {o : Origin} {op : Nat} {sel : Sel} {own : List Byte} {chk : Nat → Nat}
    (h : Keep s t) : Keep s (State.selWait t o op sel own chk).2 := by
  unfold State.selWait
  dsimp only
  repeat' first
    | with_reducible assumption
    | with_reducible apply State.awaitSel_keep
    | split

theorem State.pmCommand_keep {s t : State} {op : Nat} {own : List Byte} {chk : Nat → Nat} (h : Keep s t) :
    Keep s (State.pmCommand op own chk t) := by
  unfold State.pmCommand
  repeat' first
    | with_reducible assumption
    | with_reducible apply State.selWait_keep

theorem State.pmDrive_keep {s t : State} {c : Byte} {data : List Byte} (h : Keep s t) : Keep s (State.pmDrive c data t) := by
  unfold State.pmDrive
  repeat' first
    | with_reducible assumption
    | with_reducible apply State.drive_keep

theorem State.pmField_keep {s t : State} {f : Field} {v : Nat → Nat} (h : Keep s t) : Keep s (State.pmField f v t) := by
  unfold State.pmField
  dsimp only
  repeat' first
    | with_reducible assumption
    | with_reducible apply State.bumpGen_keep
    | with_reducible apply State.each_keep
    | with_reducible apply State.easelApply_keep
    | with_reducible apply Keep.foldl
    | with_reducible (intro _ _)

theorem State.pmbus_keep {s t : State} {w : Option (List Byte)} {rd : State → State} {wr : List Byte → State → State}
    (hrd : ∀  r, Keep s r → Keep s (rd r)) (hwr : ∀ a0 r, Keep s r → Keep s (wr a0 r)) (h : Keep s t) :
    Keep s (State.pmbus w rd wr t) := by
  unfold State.pmbus
  repeat' first
    | with_reducible assumption
    | with_reducible apply State.busStart_keep
    | with_reducible apply State.drive_keep
    | with_reducible apply State.i2cStart_keep
    | with_reducible apply hrd
    | with_reducible apply hwr
    | split

theorem State.pmRefuse_keep {s t : State} {b : Nat} {write : Bool} (h : Keep s t) : Keep s (State.pmRefuse b write t) := by
  unfold State.pmRefuse
  dsimp only
  repeat' first
    | with_reducible assumption
    | with_reducible apply State.onPages_keep
    | with_reducible apply State.pecReject_keep
    | with_reducible apply State.onHif_keep
    | split

theorem State.pmRead_keep {s t : State} {c : Byte} {wide : Bool} {data : State → List Byte} (h : Keep s t) :
    Keep s (State.pmRead c wide data t) := by
  unfold State.pmRead
  repeat' first
    | with_reducible assumption
    | with_reducible apply State.pmRefuse_keep
    | with_reducible apply State.pmDrive_keep
    | split

theorem State.pmWrite_keep {s t : State} {c : Byte} {n : Nat} {w : List Byte} {ok : Nat → State → Bool}
    {act : Nat → State → State} (hact : ∀ a0 r, Keep s r → Keep s (act a0 r)) (h : Keep s t) :
    Keep s (State.pmWrite c n w ok act t) := by
  unfold State.pmWrite
  dsimp only
  repeat' first
    | with_reducible assumption
    | with_reducible exact fun _ => ⟨rfl, id⟩
    | with_reducible apply State.pecBad_keep
    | with_reducible apply State.pmRefuse_keep
    | with_reducible apply State.onSys_keep
    | with_reducible apply hact
    | split

theorem State.pmMargin_keep {s t : State} {c : Byte} {f : Field} {w : Option (List Byte)} (h : Keep s t) :
    Keep s (State.pmMargin c f w t) := by
  unfold State.pmMargin
  repeat' first
    | with_reducible assumption
    | with_reducible apply State.pmbus_keep
    | with_reducible apply State.pmRead_keep
    | with_reducible apply State.pmWrite_keep
    | with_reducible apply State.pmField_keep
    | with_reducible apply Keep.foldl
    | with_reducible (intro _ _)

theorem State.pmReadOnly_keep {s t : State} {c : Byte} {wide : Bool} {w : Option (List Byte)}
    {data : State → List Byte} (h : Keep s t) : Keep s (State.pmReadOnly c wide w data t) := by
  unfold State.pmReadOnly
  repeat' first
    | with_reducible assumption
    | with_reducible apply State.pmbus_keep
    | with_reducible apply State.pmRead_keep
    | with_reducible apply State.pecBad_keep
    | with_reducible apply State.pmRefuse_keep
    | with_reducible apply Keep.foldl
    | with_reducible (intro _ _)
    | with_reducible intro _
    | with_reducible refine Keep.ofPair ‹_ = (_, _)› ?_
    | split

theorem State.portSave_keep {s t : State} (h : Keep s t) : Keep s (State.portSave t) := by
  unfold State.portSave
  repeat' first
    | with_reducible assumption
    | with_reducible apply State.vWrite_keep

theorem State.portClear_keep {s t : State} {n : Nat} (h : Keep s t) : Keep s (State.portClear n t) := by
  unfold State.portClear
  repeat' first
    | with_reducible assumption
    | with_reducible apply State.onPortCh_keep
    | with_reducible apply State.portSave_keep
    | with_reducible apply State.settleCh_keep
    | with_reducible apply State.portTo_keep

theorem State.portAct_keep {s t : State} {n : Nat} {own : List Byte} (h : Keep s t) : Keep s (State.portAct n own t).2 := by
  unfold State.portAct
  dsimp only
  repeat' first
    | with_reducible assumption
    | with_reducible apply State.portOn_keep
    | with_reducible apply State.portOff_keep
    | with_reducible apply State.portClear_keep
    | with_reducible apply State.onPortCh_keep
    | split

theorem State.portTrip_keep {s t : State} {n : Nat} {code : Nat} (h : Keep s t) : Keep s (State.portTrip n code t) := by
  unfold State.portTrip
  repeat' first
    | with_reducible assumption
    | with_reducible apply State.onPortCh_keep
    | with_reducible apply State.raise_keep
    | with_reducible apply State.portTo_keep
    | with_reducible apply State.portSave_keep
    | split

theorem State.portCurve_keep {s t : State} {n : Nat} {dt : Nat} (h : Keep s t) : Keep s (State.portCurve n dt t) := by
  unfold State.portCurve
  dsimp only
  repeat' first
    | with_reducible assumption
    | with_reducible apply State.onPortCh_keep
    | with_reducible apply State.portTrip_keep
    | split

theorem State.portEnter_keep {s t : State} {n : Nat} (h : Keep s t) : Keep s (State.portEnter n t) := by
  unfold State.portEnter
  dsimp only
  repeat' first
    | with_reducible assumption
    | with_reducible apply State.onPortCh_keep
    | with_reducible apply State.portTo_keep
    | split

theorem State.portExit_keep {s t : State} {n : Nat} (h : Keep s t) : Keep s (State.portExit n t) := by
  unfold State.portExit
  dsimp only
  repeat' first
    | with_reducible assumption
    | with_reducible apply State.onPortCh_keep
    | with_reducible apply State.portTo_keep
    | with_reducible apply State.raise_keep
    | split

theorem State.portMeter_keep {s t : State} {n : Nat} {dt : Nat} (h : Keep s t) : Keep s (State.portMeter n dt t) := by
  unfold State.portMeter
  repeat' first
    | with_reducible assumption
    | with_reducible apply State.measure_keep
    | with_reducible apply State.onPortCh_keep

theorem State.portWindow_keep {s t : State} {n : Nat} (h : Keep s t) : Keep s (State.portWindow n t) := by
  unfold State.portWindow
  dsimp only
  repeat' first
    | with_reducible assumption
    | with_reducible apply State.portExit_keep
    | with_reducible apply State.onPortCh_keep
    | with_reducible apply State.portEnter_keep
    | split

theorem State.portSlot_keep {s t : State} {n : Nat} (h : Keep s t) : Keep s (State.portSlot n t) := by
  unfold State.portSlot
  dsimp only
  repeat' first
    | with_reducible assumption
    | with_reducible apply State.adopt_keep
    | with_reducible apply State.onPortCh_keep
    | with_reducible apply State.portJudge_keep
    | with_reducible apply State.serve_keep
    | with_reducible apply State.portAct_keep
    | with_reducible apply State.boundary_keep
    | with_reducible apply State.portCurve_keep
    | with_reducible apply State.portMeter_keep
    | with_reducible apply State.portWindow_keep
    | with_reducible apply State.calLand_keep
    | with_reducible apply State.portTo_keep
    | with_reducible apply State.seqEval_keep
    | with_reducible apply Keep.foldl
    | with_reducible (intro _ _)
    | with_reducible intro _
    | split

theorem State.portStop_keep {s t : State} {n : Nat} (h : Keep s t) : Keep s (State.portStop n t) := by
  unfold State.portStop
  repeat' first
    | with_reducible assumption
    | with_reducible exact Keep.refl _
    | with_reducible refine Keep.ofPair ‹_ = (_, _)› ?_
    | with_reducible apply Keeps.next
    | with_reducible refine Keep.ite ?_ ?_
    | with_reducible refine Keep.ite2 ?_ ?_
    | (extract_lets +onlyGivenNames x; clear_value x)
    | with_reducible apply State.onPortCh_keep
    | with_reducible apply State.portTo_keep

theorem State.portsTick_keep {s t : State} (h : Keep s t) : Keep s (State.portsTick t) := by
  unfold State.portsTick
  repeat' first
    | with_reducible assumption
    | with_reducible apply State.portJudge_keep
    | with_reducible apply State.boundary_keep

theorem State.tear_keep {s t : State} (h : Keep s t) : Keep s (State.tear t) := by
  unfold State.tear
  repeat' first
    | with_reducible assumption
    | with_reducible apply State.onSkb_keep
    | with_reducible apply State.onItem_keep
    | with_reducible apply State.onPal_keep
    | split

theorem State.powerOn_keep {s t : State} {keep : Nat} (h : Keep s t) : Keep s (State.powerOn keep t) := by
  unfold State.powerOn
  have k := State.tear_keep h
  exact ⟨k.fixed, fun _ => Flt.empty_ordered rfl rfl rfl, fun e => k.slots e⟩

theorem State.predict_keep {s t : State} {k : Nat} (h : Keep s t) : Keep s (State.predict k t) := by
  unfold State.predict
  dsimp only
  repeat' first
    | with_reducible assumption
    | with_reducible apply State.onRectCh_keep
    | split

theorem State.predictTimeout_keep {s t : State} {k : Nat} (h : Keep s t) : Keep s (State.predictTimeout k t) := by
  unfold State.predictTimeout
  repeat' first
    | with_reducible assumption
    | with_reducible apply State.advanceTo_keep
    | with_reducible apply State.onRectCh_keep
    | with_reducible apply State.ffRelease_keep
    | with_reducible apply State.raise_keep
    | with_reducible apply State.dropCleared_keep
    | split

theorem State.privFail_keep {s t : State} (h : Keep s t) : Keep s (State.privFail t) := by
  unfold State.privFail
  dsimp only
  repeat' first
    | with_reducible assumption
    | with_reducible apply State.raiseWith_keep
    | with_reducible apply State.onHif_keep
    | split

theorem State.privGrant_keep {s t : State} {i : Itf} (h : Keep s t) : Keep s (State.privGrant i t) := by
  unfold State.privGrant
  repeat' first
    | with_reducible assumption
    | with_reducible apply State.raise_keep
    | with_reducible apply State.onHif_keep

theorem State.setPulse_keep {s t : State} {ph : Nat} {on : Nat} (h : Keep s t) : Keep s (State.setPulse ph on t) := by
  unfold State.setPulse
  repeat' first
    | with_reducible assumption
    | with_reducible exact Keep.refl _
    | with_reducible refine Keep.ofPair ‹_ = (_, _)› ?_
    | with_reducible apply Keeps.next
    | with_reducible refine Keep.ite ?_ ?_
    | with_reducible refine Keep.ite2 ?_ ?_
    | with_reducible apply State.onDom_keep

theorem State.pwmPeriod_keep {s t : State} {k : Nat} {ph : Nat} {e : Int} {zero : Bool} {ocp : Option Nat} (h : Keep s t) :
    Keep s (State.pwmPeriod k ph e zero ocp t) := by
  unfold State.pwmPeriod
  dsimp only
  repeat' first
    | with_reducible assumption
    | with_reducible apply State.adcTrigger_keep
    | with_reducible apply State.onDomCh_keep
    | with_reducible apply State.fswStep_keep
    | with_reducible apply State.limStep_keep
    | with_reducible apply State.setPulse_keep
    | with_reducible apply State.when_keep
    | with_reducible apply State.drew_keep
    | with_reducible apply State.domBoundary_keep
    | with_reducible apply Keep.foldl
    | with_reducible (intro _ _)
    | with_reducible intro _
    | with_reducible refine Keep.ofPair ‹_ = (_, _)› ?_
    | split

theorem State.rectStop_keep {s t : State} {k : Nat} (h : Keep s t) : Keep s (State.rectStop k t) := by
  unfold State.rectStop
  dsimp only
  repeat' first
    | with_reducible assumption
    | with_reducible apply State.rectTo_keep
    | split

theorem State.remoteReply_keep {s t : State} {node : Nat} {bs : List Byte} (h : Keep s t) :
    Keep s (State.remoteReply node bs t) := by
  unfold State.remoteReply
  dsimp only
  repeat' first
    | with_reducible assumption
    | with_reducible apply State.onHif_keep
    | with_reducible apply State.farAccepted_keep
    | with_reducible apply State.collected_keep
    | with_reducible apply State.deliver_keep
    | split

theorem State.run_keep {s t : State} {o : Origin} {op : Nat} {priv : Nat} {chk : Nat} {act : State → Res × State}
    (hact : ∀  r, Keep s r → Keep s (act r).2) (h : Keep s t) : Keep s (State.run o op priv chk act t) := by
  unfold State.run
  repeat' first
    | with_reducible assumption
    | with_reducible apply State.answer_keep
    | with_reducible apply State.accepted_keep
    | with_reducible apply State.finish_keep
    | with_reducible apply hact
    | with_reducible apply Keep.foldl
    | with_reducible (intro _ _)
    | with_reducible intro _
    | with_reducible refine Keep.ofPair ‹_ = (_, _)› ?_
    | split

theorem State.report_keep {s t : State} {o : Origin} {op : Nat} {chk : Nat} {data : State → List Byte} (h : Keep s t) :
    Keep s (State.report o op chk data t) := by
  unfold State.report
  repeat' first
    | with_reducible assumption
    | with_reducible apply State.run_keep
    | with_reducible apply Keep.foldl
    | with_reducible (intro _ _)

theorem State.restart_keep {s t : State} {cause : Nat} {counted : Bool} (h : Keep s t) :
    Keep s (State.restart cause counted t) := by
  unfold State.restart
  repeat' first
    | with_reducible assumption
    | with_reducible apply State.enterHold_keep
    | split

theorem State.restoreRing_keep {s t : State} (h : Keep s t) : Keep s (State.restoreRing t) := by
  unfold State.restoreRing
  repeat' first
    | with_reducible assumption
    | with_reducible exact Keep.refl _
    | with_reducible refine Keep.ofPair ‹_ = (_, _)› ?_
    | with_reducible apply Keeps.next
    | with_reducible refine Keep.ite ?_ ?_
    | with_reducible refine Keep.ite2 ?_ ?_
    | (with_reducible refine fun _ => ?_; try beta_reduce)
    | (extract_lets +onlyGivenNames x; clear_value x)
    | with_reducible apply State.onLink_keep
    | with_reducible apply State.each_keep
    | with_reducible apply State.onPort_keep

theorem State.retrain_keep {s t : State} {keep : Nat → Bool} (h : Keep s t) : Keep s (State.retrain keep t) := by
  unfold State.retrain
  repeat' first
    | with_reducible assumption
    | with_reducible apply State.onLink_keep

theorem State.rootBranch_keep {s t : State} {p : Nat} {loopNs : Nat} {f : List Byte} (h : Keep s t) :
    Keep s (State.rootBranch p loopNs f t) := by
  unfold State.rootBranch
  repeat' first
    | with_reducible assumption
    | with_reducible exact Keep.refl _
    | with_reducible refine Keep.ofPair ‹_ = (_, _)› ?_
    | with_reducible apply Keeps.next
    | with_reducible refine Keep.ite ?_ ?_
    | with_reducible refine Keep.ite2 ?_ ?_
    | (extract_lets +onlyGivenNames x; refine Keep.cutP (p := Keep s x) ?_ (fun _ => ?_); (on_goal 2 => clear_value x); (on_goal 1 => subst x))
    | (extract_lets +onlyGivenNames x; clear_value x)
    | with_reducible apply State.flood_keep
    | with_reducible apply State.onLink_keep
    | with_reducible apply State.raise_keep
    | with_reducible apply State.rootDecide_keep
    | with_reducible apply Keep.foldl
    | split

theorem State.rootTick_keep {s t : State} (h : Keep s t) : Keep s (State.rootTick t) := by
  unfold State.rootTick
  dsimp only
  repeat' first
    | with_reducible assumption
    | with_reducible apply State.restoreRing_keep
    | with_reducible apply State.onLink_keep
    | with_reducible apply State.raise_keep
    | with_reducible apply State.toRole_keep
    | with_reducible apply State.originate_keep
    | with_reducible apply State.rootDecide_keep
    | split

theorem State.sectionDown_keep {s t : State} {k : Nat} (h : Keep s t) : Keep s (State.sectionDown k t) := by
  unfold State.sectionDown
  dsimp only
  repeat' first
    | with_reducible assumption
    | with_reducible apply State.ffLost_keep
    | with_reducible apply State.onRectCh_keep
    | with_reducible apply State.dropCleared_keep
    | with_reducible apply State.rectTo_keep
    | with_reducible apply State.raise_keep
    | with_reducible apply State.rectNote_keep
    | split

theorem State.sectionUp_keep {s t : State} {k : Nat} (h : Keep s t) : Keep s (State.sectionUp k t) := by
  unfold State.sectionUp
  repeat' first
    | with_reducible assumption
    | with_reducible apply State.onTherm_keep
    | with_reducible apply State.onRectCh_keep

theorem State.selDo_keep {s t : State} {sel : Sel} {act : Nat → State → Nat × State} (hact : ∀ a0 r, Keep s r → Keep s
    (act a0 r).2) (h : Keep s t) : Keep s (State.selDo t sel act).2 := by
  unfold State.selDo
  exact State.perChannel_keep hact h

theorem State.sensorTel_keep {s t : State} {j : Nat} (h : Keep s t) : Keep s (State.sensorTel j t) := by
  unfold State.sensorTel
  dsimp only
  repeat' first
    | with_reducible assumption
    | with_reducible apply State.measure_keep
    | with_reducible apply State.onMeas_keep
    | split

theorem State.sensorWindow_keep {s t : State} {j : Nat} {t' : Int} (h : Keep s t) : Keep s (State.sensorWindow j t' t) := by
  unfold State.sensorWindow
  dsimp only
  repeat' first
    | with_reducible assumption
    | with_reducible apply State.onTherm_keep
    | with_reducible apply State.sensorTel_keep
    | with_reducible apply State.raise_keep
    | split

theorem State.seqControl_keep {s t : State} {a : Nat} (h : Keep s t) : Keep s (State.seqControl a t).2 := by
  unfold State.seqControl
  dsimp only
  repeat' first
    | with_reducible assumption
    | with_reducible apply State.seqReply_keep
    | with_reducible apply State.seqStop_keep
    | with_reducible apply State.seqFrom_keep
    | with_reducible apply State.onSeq_keep
    | split

theorem State.seqFail_keep {s t : State} {code : Nat} (h : Keep s t) : Keep s (State.seqFail code t) := by
  unfold State.seqFail
  dsimp only
  repeat' first
    | with_reducible assumption
    | with_reducible apply State.onSeq_keep
    | with_reducible apply State.seqDelay_keep
    | with_reducible apply State.raise_keep
    | with_reducible apply State.onFail_keep
    | split

theorem State.seqServe_keep {s t : State} (h : Keep s t) : Keep s (State.seqServe t) := by
  unfold State.seqServe
  refine Keep.foldl _ (fun r w k => ?_) h
  have q : Keep s (r.onHif fun h => { h with waits := h.waits.erase w }) := State.onHif_keep k
  split
  · exact k
  · split
    · exact State.finish_keep (State.seqControl_keep q)
    · dsimp only
      split
      · exact State.finish_keep q
      · split
        · exact State.finish_keep (State.seqBegin_keep q)
        · exact State.seqBegin_keep (State.onHif_keep (State.seqPreempt_keep k))

theorem State.seqLand_keep {s t : State} (h : Keep s t) : Keep s (State.seqLand t) := by
  unfold State.seqLand
  repeat' first
    | with_reducible assumption
    | with_reducible apply State.seqServe_keep
    | with_reducible apply State.each_keep
    | with_reducible apply State.boundary_keep
    | with_reducible apply Keep.foldl
    | with_reducible (intro _ _)

theorem State.wdTick_keep {s t : State} (h : Keep s t) : Keep s (State.wdTick t) := by
  unfold State.wdTick
  repeat' first
    | with_reducible assumption
    | with_reducible apply State.onSeq_keep
    | split

theorem State.seqTick_keep {s t : State} (h : Keep s t) : Keep s (State.seqTick t) := by
  unfold State.seqTick
  repeat' first
    | with_reducible assumption
    | with_reducible exact Keep.refl _
    | with_reducible refine Keep.ofPair ‹_ = (_, _)› ?_
    | with_reducible apply Keeps.next
    | with_reducible refine Keep.ite ?_ ?_
    | with_reducible refine Keep.ite2 ?_ ?_
    | (extract_lets +onlyGivenNames x; refine Keep.cutP (p := Keep s x) ?_ (fun _ => ?_); (on_goal 2 => clear_value x); (on_goal 1 => subst x))
    | (extract_lets +onlyGivenNames x; clear_value x)
    | with_reducible apply State.onSeq_keep
    | with_reducible apply State.lostAct_keep
    | with_reducible apply State.seqHold_keep
    | with_reducible apply State.powerDown_keep
    | with_reducible apply State.seqBegin_keep
    | with_reducible apply State.wdTick_keep
    | with_reducible apply State.seqEval_keep
    | with_reducible apply Keep.foldl
    | split

theorem State.setKeep_keep {s t : State} {mv : Nat} (h : Keep s t) : Keep s (State.setKeep mv t) := by
  unfold State.setKeep
  repeat' first
    | with_reducible assumption
    | with_reducible exact fun _ => ⟨rfl, id⟩
    | with_reducible apply State.gateWatch_keep
    | with_reducible apply State.onSys_keep

theorem State.sharePassed_keep {s t : State} {p : Nat} {seq : Nat} {time : Nat} (h : Keep s t) :
    Keep s (State.sharePassed p seq time t) := by
  unfold State.sharePassed
  repeat' first
    | with_reducible assumption
    | with_reducible apply State.onLink_keep
    | with_reducible apply State.followTime_keep
    | with_reducible apply State.toRole_keep

theorem State.shareIn_keep {s t : State} {p : Nat} {t' : Nat} {f : List Byte} (h : Keep s t) :
    Keep s (State.shareIn p t' f t) := by
  unfold State.shareIn
  dsimp only
  repeat' first
    | with_reducible assumption
    | with_reducible apply State.advanceTo_keep
    | with_reducible apply State.rootBranch_keep
    | with_reducible apply State.nodeBranch_keep
    | with_reducible apply State.onLink_keep
    | with_reducible apply State.shareReturn_keep
    | with_reducible apply State.sendOn_keep
    | with_reducible apply State.sharePassed_keep
    | split

theorem State.skbTriggers_keep {s t : State} (h : Keep s t) : Keep s (State.skbTriggers t) := by
  unfold State.skbTriggers
  dsimp only
  repeat' first
    | with_reducible assumption
    | with_reducible apply State.each_keep
    | with_reducible apply State.raiseWith_keep
    | with_reducible apply State.wake_keep
    | with_reducible apply Keep.foldl
    | with_reducible (intro _ _)

theorem State.softStart_keep {s t : State} {k : Nat} (h : Keep s t) : Keep s (State.softStart k t) := by
  unfold State.softStart
  dsimp only
  repeat' first
    | with_reducible assumption
    | with_reducible apply State.when_keep
    | with_reducible apply State.softOff_keep
    | with_reducible apply State.domTo_keep
    | with_reducible apply State.onDomCh_keep
    | with_reducible apply Keep.foldl
    | with_reducible (intro _ _)

theorem State.spiDiscard_keep {s t : State} (h : Keep s t) : Keep s (State.spiDiscard t) := by
  unfold State.spiDiscard
  repeat' first
    | with_reducible assumption
    | with_reducible apply State.onHif_keep

theorem State.spiFrame_keep {s t : State} {more : List Byte} (h : Keep s t) : Keep s (State.spiFrame more t) := by
  unfold State.spiFrame
  repeat' first
    | with_reducible assumption
    | with_reducible apply State.onHif_keep
    | with_reducible apply State.drive_keep

theorem State.spiRead_keep {s t : State} {rest : List Byte} (h : Keep s t) : Keep s (State.spiRead rest t) := by
  unfold State.spiRead
  repeat' first
    | with_reducible assumption
    | with_reducible exact Keep.refl _
    | with_reducible refine Keep.ofPair ‹_ = (_, _)› ?_
    | with_reducible apply Keeps.next
    | with_reducible refine Keep.ite ?_ ?_
    | with_reducible refine Keep.ite2 ?_ ?_
    | (extract_lets +onlyGivenNames x; refine Keep.cutP (p := Keep s x) ?_ (fun _ => ?_); (on_goal 2 => clear_value x); (on_goal 1 => subst x))
    | (extract_lets +onlyGivenNames x; clear_value x)
    | with_reducible apply State.spiFrame_keep
    | with_reducible apply State.snapTime_keep
    | with_reducible apply Keep.foldl
    | split

theorem State.spiReply_keep {s t : State} {rest : List Byte} (h : Keep s t) : Keep s (State.spiReply rest t) := by
  unfold State.spiReply
  repeat' first
    | with_reducible assumption
    | with_reducible exact Keep.refl _
    | with_reducible refine Keep.ofPair ‹_ = (_, _)› ?_
    | with_reducible apply Keeps.next
    | with_reducible refine Keep.ite ?_ ?_
    | with_reducible refine Keep.ite2 ?_ ?_
    | (extract_lets +onlyGivenNames x; clear_value x)
    | with_reducible apply State.spiFrame_keep
    | with_reducible apply State.onHif_keep
    | with_reducible apply State.hifServe_keep

theorem State.spiStream_keep {s t : State} {rest : List Byte} (h : Keep s t) : Keep s (State.spiStream rest t) := by
  unfold State.spiStream
  repeat' first
    | with_reducible assumption
    | with_reducible exact Keep.refl _
    | with_reducible refine Keep.ofPair ‹_ = (_, _)› ?_
    | with_reducible apply Keeps.next
    | with_reducible refine Keep.ite ?_ ?_
    | with_reducible refine Keep.ite2 ?_ ?_
    | (extract_lets +onlyGivenNames x; clear_value x)
    | with_reducible apply State.spiFrame_keep
    | with_reducible apply State.onSkb_keep

theorem State.spiWrite_keep {s t : State} {bytes : List Byte} (h : Keep s t) : Keep s (State.spiWrite bytes t) := by
  unfold State.spiWrite
  repeat' first
    | with_reducible assumption
    | with_reducible exact Keep.refl _
    | with_reducible refine Keep.ofPair ‹_ = (_, _)› ?_
    | with_reducible apply Keeps.next
    | with_reducible refine Keep.ite ?_ ?_
    | with_reducible refine Keep.ite2 ?_ ?_
    | (extract_lets +onlyGivenNames x; refine Keep.cutP (p := Keep s x) ?_ (fun _ => ?_); (on_goal 2 => clear_value x); (on_goal 1 => subst x))
    | (extract_lets +onlyGivenNames x; clear_value x)
    | with_reducible apply State.spiFrame_keep
    | with_reducible apply RegWalk.commit_keep
    | with_reducible apply State.spiDiscard_keep
    | with_reducible apply Keep.foldl
    | split

theorem State.strStop_keep {s t : State} {k : Nat} (h : Keep s t) : Keep s (State.strStop k t) := by
  unfold State.strStop
  dsimp only
  repeat' first
    | with_reducible assumption
    | with_reducible apply State.testLeave_keep
    | with_reducible apply State.strTo_keep
    | split

theorem State.stopStages_keep {s t : State} (h : Keep s t) : Keep s (State.stopStages t) := by
  unfold State.stopStages
  dsimp only
  repeat' first
    | with_reducible assumption
    | with_reducible apply State.each_keep
    | with_reducible apply State.domOff_keep
    | with_reducible apply State.portStop_keep
    | with_reducible apply State.strStop_keep
    | with_reducible apply State.auxStop_keep
    | with_reducible apply State.pdStop_keep
    | with_reducible apply State.onSeq_keep
    | with_reducible apply State.rectStop_keep
    | with_reducible apply Keep.foldl
    | with_reducible (intro _ _)

theorem State.strDisconnect_keep {s t : State} {k : Nat} (h : Keep s t) : Keep s (State.strDisconnect k t) := by
  unfold State.strDisconnect
  dsimp only
  repeat' first
    | with_reducible assumption
    | with_reducible apply State.testLeave_keep
    | with_reducible apply State.strTo_keep
    | split

theorem State.strAct_keep {s t : State} {k : Nat} {own : List Byte} (h : Keep s t) : Keep s (State.strAct k own t).2 := by
  unfold State.strAct
  dsimp only
  repeat' first
    | with_reducible assumption
    | with_reducible apply State.strTo_keep
    | with_reducible apply State.strDisconnect_keep
    | with_reducible apply State.settleCh_keep
    | with_reducible apply State.onStrCh_keep
    | split

theorem State.strEnd_keep {s t : State} {k : Nat} (h : Keep s t) : Keep s (State.strEnd k t) := by
  unfold State.strEnd
  repeat' first
    | with_reducible assumption
    | with_reducible apply State.ffJudge_keep
    | with_reducible apply State.ffJoin_keep
    | with_reducible apply State.dsgStep_keep
    | with_reducible apply State.onStrCh_keep
    | with_reducible apply State.drew_keep
    | with_reducible apply State.boundary_keep
    | split

theorem State.strEod_keep {s t : State} {k : Nat} (h : Keep s t) : Keep s (State.strEod k t) := by
  unfold State.strEod
  repeat' first
    | with_reducible assumption
    | with_reducible apply State.onStrCh_keep
    | with_reducible apply State.testLeave_keep
    | with_reducible apply State.raise_keep
    | with_reducible apply State.strTo_keep

theorem State.strJudge_keep {s t : State} (h : Keep s t) : Keep s (State.strJudge t) := by
  unfold State.strJudge
  repeat' first
    | with_reducible assumption
    | with_reducible apply State.judge_keep

theorem State.strOpenStep_keep {s t : State} {k : Nat} (h : Keep s t) : Keep s (State.strOpenStep k t) := by
  unfold State.strOpenStep
  dsimp only
  repeat' first
    | with_reducible assumption
    | with_reducible apply State.raise_keep
    | with_reducible apply State.onStrCh_keep
    | with_reducible apply State.strTo_keep
    | split

theorem State.strSee_keep {s t : State} {k : Nat} (h : Keep s t) : Keep s (State.strSee k t) := by
  unfold State.strSee
  repeat' first
    | with_reducible assumption
    | with_reducible exact Keep.refl _
    | with_reducible refine Keep.ofPair ‹_ = (_, _)› ?_
    | with_reducible apply Keeps.next
    | with_reducible refine Keep.ite ?_ ?_
    | with_reducible refine Keep.ite2 ?_ ?_
    | with_reducible apply State.onStrCh_keep

theorem State.strTick_keep {s t : State} {k : Nat} (h : Keep s t) : Keep s (State.strTick k t) := by
  unfold State.strTick
  dsimp only
  repeat' first
    | with_reducible assumption
    | with_reducible apply State.testLeave_keep
    | with_reducible apply State.raise_keep
    | with_reducible apply State.strTo_keep
    | with_reducible apply State.testEnd_keep
    | with_reducible apply State.strOpenStep_keep
    | split

theorem State.strTrip_keep {s t : State} {k : Nat} {code : Nat} (h : Keep s t) : Keep s (State.strTrip k code t) := by
  unfold State.strTrip
  repeat' first
    | with_reducible assumption
    | with_reducible apply State.onStrCh_keep
    | with_reducible apply State.raise_keep
    | with_reducible apply State.strTo_keep
    | with_reducible apply State.testLeave_keep
    | split

theorem State.testAct_keep {s t : State} {k : Nat} {own : List Byte} (h : Keep s t) : Keep s (State.testAct k own t).2 := by
  unfold State.testAct
  repeat' first
    | with_reducible assumption
    | with_reducible apply State.onStrCh_keep
    | with_reducible apply State.strTo_keep
    | with_reducible apply State.testEnd_keep
    | split

theorem State.stringsTick_keep {s t : State} (h : Keep s t) : Keep s (State.stringsTick t) := by
  unfold State.stringsTick
  repeat' first
    | with_reducible assumption
    | with_reducible apply State.strJudge_keep
    | with_reducible apply State.each_keep
    | with_reducible apply State.strSee_keep
    | with_reducible apply State.serve_keep
    | with_reducible apply State.strAct_keep
    | with_reducible apply State.strTick_keep
    | with_reducible apply State.testAct_keep
    | with_reducible apply Keep.foldl
    | with_reducible (intro _ _)
    | with_reducible intro _
    | with_reducible refine Keep.ofPair ‹_ = (_, _)› ?_
    | split

theorem State.tableEngine_keep {s t : State} (h : Keep s t) : Keep s (State.tableEngine t) := by
  unfold State.tableEngine
  repeat' first
    | with_reducible assumption
    | with_reducible apply State.seqTick_keep
    | with_reducible apply State.busTick_keep
    | with_reducible apply State.stringsTick_keep
    | with_reducible apply State.throttleTick_keep

theorem State.testDry_keep {s t : State} {k : Nat} (h : Keep s t) : Keep s (State.testDry k t) := by
  unfold State.testDry
  repeat' first
    | with_reducible assumption
    | with_reducible exact Keep.refl _
    | with_reducible refine Keep.ofPair ‹_ = (_, _)› ?_
    | with_reducible apply Keeps.next
    | with_reducible refine Keep.ite ?_ ?_
    | with_reducible refine Keep.ite2 ?_ ?_
    | (extract_lets +onlyGivenNames x; clear_value x)
    | with_reducible apply State.gaugeSnap_keep
    | with_reducible apply State.testEnd_keep

theorem State.testPeriod_keep {s t : State} {k : Nat} (h : Keep s t) : Keep s (State.testPeriod k t) := by
  unfold State.testPeriod
  repeat' first
    | with_reducible assumption
    | with_reducible exact Keep.refl _
    | with_reducible refine Keep.ofPair ‹_ = (_, _)› ?_
    | with_reducible apply Keeps.next
    | with_reducible refine Keep.ite ?_ ?_
    | with_reducible refine Keep.ite2 ?_ ?_
    | (extract_lets +onlyGivenNames x; clear_value x)
    | with_reducible apply State.testDry_keep
    | with_reducible apply State.testEnd_keep

theorem State.thermalWindow_keep {s t : State} {temps : Vector Int 20} (h : Keep s t) :
    Keep s (State.thermalWindow temps t) := by
  unfold State.thermalWindow
  dsimp only
  repeat' first
    | with_reducible assumption
    | with_reducible apply State.each_keep
    | with_reducible apply State.sensorWindow_keep
    | with_reducible apply State.onTherm_keep
    | with_reducible apply State.ctrlBand_keep
    | with_reducible apply Keep.foldl
    | with_reducible (intro _ _)

theorem State.tickLand_keep {s t : State} (h : Keep s t) : Keep s (State.tickLand t) := by
  unfold State.tickLand
  dsimp only
  repeat' first
    | with_reducible assumption
    | with_reducible apply State.dropRaise_keep
    | with_reducible apply State.linkLand_keep
    | with_reducible apply State.seqLand_keep
    | with_reducible apply State.pdTick_keep
    | with_reducible apply State.portsTick_keep
    | with_reducible apply State.domsTick_keep
    | with_reducible apply State.each_keep
    | with_reducible apply State.rectServe_keep
    | with_reducible apply State.boundary_keep
    | with_reducible apply State.skbTriggers_keep
    | with_reducible apply Keep.foldl
    | with_reducible (intro _ _)
    | with_reducible intro _
    | with_reducible refine Keep.ofPair ‹_ = (_, _)› ?_
    | split

theorem State.till_keep {s t : State} {t' : Nat} (h : Keep s t) : Keep s (State.till t' t) := by
  unfold State.till
  repeat' first
    | with_reducible assumption
    | with_reducible exact Keep.refl _
    | with_reducible refine Keep.ofPair ‹_ = (_, _)› ?_
    | with_reducible apply Keeps.next
    | with_reducible refine Keep.ite ?_ ?_
    | with_reducible refine Keep.ite2 ?_ ?_
    | (extract_lets +onlyGivenNames x; clear_value x)
    | with_reducible apply State.advanceTo_keep

theorem State.vbusLevel_keep {s t : State} {k : Nat} {level : Nat} (h : Keep s t) : Keep s (State.vbusLevel k level t) := by
  unfold State.vbusLevel
  dsimp only
  repeat' first
    | with_reducible assumption
    | with_reducible apply State.onPdCh_keep
    | with_reducible apply State.pdOwn_keep
    | with_reducible apply State.pdRestored_keep
    | with_reducible apply State.pdResetEvent_keep
    | with_reducible apply State.pdSwapUp_keep
    | split

theorem State.wdExpire_keep {s t : State} (h : Keep s t) : Keep s (State.wdExpire t) := by
  unfold State.wdExpire
  dsimp only
  repeat' first
    | with_reducible assumption
    | with_reducible apply State.onSeq_keep
    | with_reducible apply State.raise_keep
    | split

theorem State.withdraw_keep {s t : State} {blk : Nat} {before : State} (h : Keep s t) :
    Keep s (State.withdraw blk before t) := by
  unfold State.withdraw
  repeat' first
    | with_reducible assumption
    | with_reducible apply State.wake_keep
    | with_reducible apply State.onHif_keep
    | with_reducible apply State.wakeCommits_keep

theorem State.wrap_keep {s t : State} (h : Keep s t) : Keep s (State.wrap t) := by
  unfold State.wrap
  dsimp only
  repeat' first
    | with_reducible assumption
    | with_reducible apply State.raise_keep
    | with_reducible apply State.onLink_keep
    | with_reducible apply State.each_keep
    | with_reducible apply State.onPort_keep
    | with_reducible apply Keep.foldl
    | with_reducible (intro _ _)
    | with_reducible intro _
    | split

theorem State.writeVout_keep {s t : State} {v : Nat} {ks : List Nat} (h : Keep s t) : Keep s (State.writeVout v ks t) := by
  unfold State.writeVout
  dsimp only
  repeat' first
    | with_reducible assumption
    | with_reducible apply State.each_keep
    | with_reducible apply State.onCopy_keep
    | with_reducible apply State.bumpGen_keep
    | with_reducible apply Keep.foldl
    | with_reducible (intro _ _)

theorem State.zeroJudge_keep {s t : State} {c : Nat} (h : Keep s t) : Keep s (State.zeroJudge c t) := by
  unfold State.zeroJudge
  repeat' first
    | with_reducible assumption
    | with_reducible exact Keep.refl _
    | with_reducible refine Keep.ofPair ‹_ = (_, _)› ?_
    | with_reducible apply Keeps.next
    | with_reducible refine Keep.ite ?_ ?_
    | with_reducible refine Keep.ite2 ?_ ?_
    | (extract_lets +onlyGivenNames x; clear_value x)
    | with_reducible apply State.onMeas_keep
    | with_reducible apply State.raise_keep

end Sys2Proof.Machine
end

