-- ==== Sys2Proof/Laws/KeepExec.lean ====
section
/-! SUPPORT. What each command's meaning keeps, the packet rows apart (they stand in Laws/KeepPacket.lean). -/

namespace Sys2Proof.Machine

theorem execPowerOnReset_keep {s t : State} {keepMv : Nat} (h : Keep s t) : Keeps s (execPowerOnReset keepMv t) := by
  unfold execPowerOnReset
  repeat' first
    | with_reducible assumption
    | with_reducible apply State.powerOn_keep
    | with_reducible apply Keeps.next

theorem execPorRelease_keep {s t : State} {keepMv : Nat} (h : Keep s t) : Keeps s (execPorRelease keepMv t) := by
  unfold execPorRelease
  repeat' first
    | with_reducible assumption
    | with_reducible exact fun _ => ⟨rfl, id⟩
    | with_reducible apply State.onSys_keep
    | with_reducible apply State.setKeep_keep
    | with_reducible apply State.onHif_keep
    | with_reducible apply Keeps.next
    | split

theorem execHk12Good_keep {s t : State} (h : Keep s t) : Keeps s (execHk12Good t) := by
  unfold execHk12Good
  repeat' first
    | with_reducible assumption
    | with_reducible exact fun _ => ⟨rfl, id⟩
    | with_reducible apply State.domTo_keep
    | with_reducible apply State.onDomCh_keep
    | with_reducible apply State.onSys_keep
    | with_reducible apply Keeps.next
    | split

theorem execHk12Timeout_keep {s t : State} (h : Keep s t) : Keeps s (execHk12Timeout t) := by
  unfold execHk12Timeout
  repeat' first
    | with_reducible assumption
    | with_reducible exact fun _ => ⟨rfl, id⟩
    | with_reducible apply State.onSys_keep
    | with_reducible apply State.advanceTo_keep
    | with_reducible apply Keeps.next
    | split

theorem execHk12Retry_keep {s t : State} (h : Keep s t) : Keeps s (execHk12Retry t) := by
  unfold execHk12Retry
  repeat' first
    | with_reducible assumption
    | with_reducible exact fun _ => ⟨rfl, id⟩
    | with_reducible apply State.onSys_keep
    | with_reducible apply State.advanceTo_keep
    | with_reducible apply Keeps.next
    | split

theorem execKeepThresholdCross_keep {s t : State} {keepMv : Nat} (h : Keep s t) :
    Keeps s (execKeepThresholdCross keepMv t) := by
  unfold execKeepThresholdCross
  repeat' first
    | with_reducible assumption
    | with_reducible exact fun _ => ⟨rfl, id⟩
    | with_reducible apply State.powerOn_keep
    | with_reducible apply State.onSys_keep
    | with_reducible apply State.pump_keep
    | with_reducible apply State.setKeep_keep
    | with_reducible apply Keeps.next
    | split

theorem execStrapSample_keep {s t : State} {addr : Fin 8} {root : Bool} (h : Keep s t) :
    Keeps s (execStrapSample addr root t) := by
  unfold execStrapSample
  repeat' first
    | with_reducible assumption
    | with_reducible exact fun _ => ⟨rfl, id⟩
    | with_reducible apply State.onSys_keep
    | with_reducible apply State.advanceTo_keep
    | with_reducible apply Keeps.next
    | split

theorem execBootImageSelect_keep {s t : State} (h : Keep s t) : Keeps s (execBootImageSelect t) := by
  unfold execBootImageSelect
  repeat' first
    | with_reducible assumption
    | with_reducible apply State.bootSelect_keep
    | with_reducible apply Keeps.next
    | split

theorem execFirmwareReady_keep {s t : State} {tests : SelfTests} {meta_ : Nat} {sramOk : Bool} (h : Keep s t) :
    Keeps s (execFirmwareReady tests meta_ sramOk t) := by
  unfold execFirmwareReady
  repeat' first
    | with_reducible assumption
    | with_reducible apply State.holdReady_keep
    | with_reducible apply State.bootReady_keep
    | with_reducible apply Keeps.next
    | split

theorem execRstOutRelease_keep {s t : State} (h : Keep s t) : Keeps s (execRstOutRelease t) := by
  unfold execRstOutRelease
  repeat' first
    | with_reducible assumption
    | with_reducible exact fun _ => ⟨rfl, id⟩
    | with_reducible apply State.onSys_keep
    | with_reducible apply State.advanceTo_keep
    | with_reducible apply Keeps.next
    | split

theorem execPinResetAssert_keep {s t : State} (h : Keep s t) : Keeps s (execPinResetAssert t) := by
  unfold execPinResetAssert
  dsimp only
  repeat' first
    | with_reducible assumption
    | with_reducible exact fun _ => ⟨rfl, id⟩
    | with_reducible apply State.onSys_keep
    | with_reducible apply State.enterHold_keep
    | with_reducible apply State.onHif_keep
    | with_reducible apply State.bootAgain_keep
    | with_reducible apply State.dropOwed_keep
    | with_reducible apply Keeps.next
    | split

theorem execPinResetRelease_keep {s t : State} (h : Keep s t) : Keeps s (execPinResetRelease t) := by
  unfold execPinResetRelease
  repeat' first
    | with_reducible assumption
    | with_reducible apply State.pinRelease_keep
    | with_reducible apply Keeps.next

theorem execReset_keep {s t : State} {o : Origin} {p : List Byte} (h : Keep s t) : Keeps s (execReset o p t) := by
  unfold execReset
  dsimp only
  repeat' first
    | with_reducible assumption
    | with_reducible exact fun _ => ⟨rfl, id⟩
    | with_reducible apply State.serveReset_keep
    | with_reducible apply State.run_keep
    | with_reducible apply State.onSys_keep
    | with_reducible apply Keeps.next
    | with_reducible apply Keep.foldl
    | with_reducible (intro _ _)

theorem execColdResetSeqDone_keep {s t : State} (h : Keep s t) : Keeps s (execColdResetSeqDone t) := by
  unfold execColdResetSeqDone
  dsimp only
  repeat' first
    | with_reducible assumption
    | with_reducible exact fun _ => ⟨rfl, id⟩
    | with_reducible apply State.dropQueue_keep
    | with_reducible apply State.stopStages_keep
    | with_reducible apply State.onSeq_keep
    | with_reducible apply State.onSys_keep
    | with_reducible apply State.coldBoot_keep
    | with_reducible apply Keeps.next
    | split

theorem execResetCause_keep {s t : State} {o : Origin} {p : List Byte} (h : Keep s t) : Keeps s (execResetCause o p t) := by
  unfold execResetCause
  repeat' first
    | with_reducible assumption
    | with_reducible apply State.report_keep
    | with_reducible apply Keeps.next

theorem execD0BootRecord_keep {s t : State} {o : Origin} {p : List Byte} (h : Keep s t) :
    Keeps s (execD0BootRecord o p t) := by
  unfold execD0BootRecord
  refine Keeps.next ?_
  have room : (t.accepted o 2).sys.bootRecs = t.sys.bootRecs := by
    unfold State.accepted
    repeat' split
    all_goals rfl
  generalize hc : (if !bootRecOk p then st.badParam else if 4 ≤ t.sys.bootRecs.length then st.notPermitted else st.ok) = chk
  unfold State.run
  split
  · exact State.answer_keep h
  · refine Keep.ite (State.answer_keep h) ?_
    split
    · exact State.answer_keep h
    · rename_i c
      dsimp only
      refine Keep.ite (State.answer_keep h) ?_
      refine State.finish_keep (State.onSys_keep_at (t := t.accepted o 2) (g := fun y =>
        { y with bootRecs := y.bootRecs ++ [bootRecOf p] })
        ⟨rfl, fun _ => ?_⟩ (State.accepted_keep h))
      have n : t.sys.bootRecs.length < 4 := by
        by_contra n
        rw [if_pos (Nat.le_of_not_lt n)] at hc
        apply c
        rw [← hc]
        split <;> decide
      simp [room]
      omega

theorem execKeepReservoir_keep {s t : State} {o : Origin} {p : List Byte} (h : Keep s t) :
    Keeps s (execKeepReservoir o p t) := by
  unfold execKeepReservoir
  dsimp only
  repeat' first
    | with_reducible assumption
    | with_reducible exact fun _ => ⟨rfl, id⟩
    | with_reducible apply State.run_keep
    | with_reducible apply State.vWrite_keep
    | with_reducible apply State.await_keep
    | with_reducible apply State.gateWatch_keep
    | with_reducible apply State.onSys_keep
    | with_reducible apply Keeps.next
    | with_reducible apply Keep.foldl
    | with_reducible (intro _ _)
    | with_reducible intro _
    | split

theorem execLockstepMismatch_keep {s t : State} (h : Keep s t) : Keeps s (execLockstepMismatch t) := by
  unfold execLockstepMismatch
  repeat' first
    | with_reducible assumption
    | with_reducible apply State.restart_keep
    | with_reducible apply Keeps.next

theorem execFwWatchdogExpiry_keep {s t : State} (h : Keep s t) : Keeps s (execFwWatchdogExpiry t) := by
  unfold execFwWatchdogExpiry
  repeat' first
    | with_reducible assumption
    | with_reducible apply State.restart_keep
    | with_reducible apply Keeps.next

theorem execFirmwareRestart_keep {s t : State} (h : Keep s t) : Keeps s (execFirmwareRestart t) := by
  unfold execFirmwareRestart
  repeat' first
    | with_reducible assumption
    | with_reducible apply State.restart_keep
    | with_reducible apply Keeps.next

theorem execHostWdExpiry_keep {s t : State} (h : Keep s t) : Keeps s (execHostWdExpiry t) := by
  unfold execHostWdExpiry
  dsimp only
  repeat' first
    | with_reducible assumption
    | with_reducible exact fun _ => ⟨rfl, id⟩
    | with_reducible apply State.onSys_keep
    | with_reducible apply State.advanceTo_keep
    | with_reducible apply State.each_keep
    | with_reducible apply State.pdSafe_keep
    | with_reducible apply State.irq_keep
    | with_reducible apply State.raise_keep
    | with_reducible apply Keeps.next
    | with_reducible apply Keep.foldl
    | with_reducible (intro _ _)
    | with_reducible intro _
    | split

theorem execCrystalFail_keep {s t : State} (h : Keep s t) : Keeps s (execCrystalFail t) := by
  unfold execCrystalFail
  repeat' first
    | with_reducible assumption
    | with_reducible exact fun _ => ⟨rfl, id⟩
    | with_reducible apply State.raise_keep
    | with_reducible apply State.onSys_keep
    | with_reducible apply Keeps.next
    | split

theorem execTick10us_keep {s t : State} (h : Keep s t) : Keeps s (execTick10us t) := by
  unfold execTick10us
  repeat' first
    | with_reducible assumption
    | with_reducible exact fun _ => ⟨rfl, id⟩
    | with_reducible apply State.advanceTo_keep
    | with_reducible apply State.onLink_keep
    | with_reducible apply State.onSys_keep
    | with_reducible apply State.latch_keep
    | with_reducible apply State.identTick_keep
    | with_reducible apply State.sendPackets_keep
    | with_reducible apply State.pump_keep
    | with_reducible apply State.palDone_keep
    | with_reducible apply State.tickLand_keep
    | with_reducible apply State.tableEngine_keep
    | with_reducible apply State.histTick_keep
    | with_reducible apply Keeps.next
    | split

theorem execShareTick_keep {s t : State} (h : Keep s t) : Keeps s (execShareTick t) := by
  unfold execShareTick
  repeat' first
    | with_reducible assumption
    | with_reducible apply State.advanceTo_keep
    | with_reducible apply State.latch_keep
    | with_reducible apply State.onLink_keep
    | with_reducible apply State.rootTick_keep
    | with_reducible apply State.pdShareTick_keep
    | with_reducible apply State.capTick_keep
    | with_reducible apply State.throttleTick_keep
    | with_reducible apply State.closePeriod_keep
    | with_reducible apply State.histShare_keep
    | with_reducible apply Keeps.next
    | split

theorem execSectionPowerUp_keep {s t : State} {k : Fin 2} (h : Keep s t) : Keeps s (execSectionPowerUp k t) := by
  unfold execSectionPowerUp
  repeat' first
    | with_reducible assumption
    | with_reducible apply State.sectionUp_keep
    | with_reducible apply Keeps.next
    | split

theorem execAutonomousStart_keep {s t : State} {k : Fin 2} (h : Keep s t) : Keeps s (execAutonomousStart k t) := by
  unfold execAutonomousStart
  repeat' first
    | with_reducible assumption
    | with_reducible apply State.till_keep
    | with_reducible apply State.autoStart_keep
    | with_reducible apply State.onRectCh_keep
    | with_reducible apply Keeps.next
    | split

theorem execAutonomousTimeout_keep {s t : State} {k : Fin 2} (h : Keep s t) : Keeps s (execAutonomousTimeout k t) := by
  unfold execAutonomousTimeout
  repeat' first
    | with_reducible assumption
    | with_reducible apply State.rectTo_keep
    | with_reducible apply State.till_keep
    | with_reducible apply State.onRectCh_keep
    | with_reducible apply State.rectNote_keep
    | with_reducible apply Keeps.next
    | split

theorem execAutonomousRetry_keep {s t : State} {k : Fin 2} (h : Keep s t) : Keeps s (execAutonomousRetry k t) := by
  unfold execAutonomousRetry
  dsimp only
  repeat' first
    | with_reducible assumption
    | with_reducible apply State.till_keep
    | with_reducible apply State.autoStart_keep
    | with_reducible apply State.onRectCh_keep
    | with_reducible apply Keeps.next
    | split

theorem execTimeSnapRead_keep {s t : State} {ptr : Option Byte} {n : Nat} (h : Keep s t) :
    Keeps s (execTimeSnapRead ptr n t) := by
  unfold execTimeSnapRead
  repeat' first
    | with_reducible assumption
    | with_reducible apply State.i2cRead_keep
    | with_reducible apply Keeps.next
    | split

theorem execIrqFlagsClear_keep {s t : State} {bytes : List Byte} {hw : Nat} (h : Keep s t) :
    Keeps s (execIrqFlagsClear bytes hw t) := by
  unfold execIrqFlagsClear
  repeat' first
    | with_reducible assumption
    | with_reducible apply State.onHif_keep
    | with_reducible apply State.i2cWrite_keep
    | with_reducible apply Keeps.next
    | split

theorem execI2cWake_keep {s t : State} (h : Keep s t) : Keeps s (execI2cWake t) := by
  unfold execI2cWake
  repeat' first
    | with_reducible assumption
    | with_reducible apply State.i2cStart_keep
    | with_reducible apply Keeps.next
    | split

theorem execI2cSleep_keep {s t : State} (h : Keep s t) : Keeps s (execI2cSleep t) := by
  unfold execI2cSleep
  repeat' first
    | with_reducible assumption
    | with_reducible apply State.onHif_keep
    | with_reducible apply State.advanceTo_keep
    | with_reducible apply Keeps.next
    | split

theorem execSmbusTimeout_keep {s t : State} (h : Keep s t) : Keeps s (execSmbusTimeout t) := by
  unfold execSmbusTimeout
  repeat' first
    | with_reducible assumption
    | with_reducible apply State.irq_keep
    | with_reducible apply State.raise_keep
    | with_reducible apply State.onHif_keep
    | with_reducible apply Keeps.next
    | split

theorem execAlertResponse_keep {s t : State} {won : Bool} (h : Keep s t) : Keeps s (execAlertResponse won t) := by
  unfold execAlertResponse
  repeat' first
    | with_reducible assumption
    | with_reducible exact Keep.refl _
    | with_reducible refine Keep.ofPair ‹_ = (_, _)› ?_
    | with_reducible apply Keeps.next
    | with_reducible refine Keep.ite ?_ ?_
    | with_reducible refine Keep.ite2 ?_ ?_
    | (extract_lets +onlyGivenNames x; clear_value x)
    | with_reducible apply State.busStart_keep
    | with_reducible apply State.onHif_keep
    | with_reducible apply State.drive_keep

theorem execHostNotify_keep {s t : State} {r : NotifyRes} (h : Keep s t) : Keeps s (execHostNotify r t) := by
  unfold execHostNotify
  repeat' first
    | with_reducible assumption
    | with_reducible apply State.notify_keep
    | with_reducible apply State.advanceTo_keep
    | with_reducible apply Keeps.next
    | split

theorem execHostNotifyRetry_keep {s t : State} {r : NotifyRes} (h : Keep s t) : Keeps s (execHostNotifyRetry r t) := by
  unfold execHostNotifyRetry
  dsimp only
  repeat' first
    | with_reducible assumption
    | with_reducible apply State.onHif_keep
    | with_reducible apply State.advanceTo_keep
    | with_reducible apply State.notify_keep
    | with_reducible apply Keeps.next
    | split

theorem execPage_keep {s t : State} {w : Option (List Byte)} (h : Keep s t) : Keeps s (execPage w t) := by
  unfold execPage
  repeat' first
    | with_reducible assumption
    | with_reducible apply State.pmbus_keep
    | with_reducible apply State.pmRead_keep
    | with_reducible apply State.pmWrite_keep
    | with_reducible apply State.onHif_keep
    | with_reducible apply Keeps.next
    | with_reducible apply Keep.foldl
    | with_reducible (intro _ _)

theorem execOperation_keep {s t : State} {w : Option (List Byte)} (h : Keep s t) : Keeps s (execOperation w t) := by
  unfold execOperation
  dsimp only
  repeat' first
    | with_reducible assumption
    | with_reducible apply State.pmbus_keep
    | with_reducible apply State.pmRead_keep
    | with_reducible apply State.pmWrite_keep
    | with_reducible apply State.domJudge_keep
    | with_reducible apply State.pmCommand_keep
    | with_reducible apply Keeps.next
    | with_reducible apply Keep.foldl
    | with_reducible (intro _ _)
    | with_reducible intro _

theorem execOnOffConfig_keep {s t : State} {w : Option (List Byte)} (h : Keep s t) : Keeps s (execOnOffConfig w t) := by
  unfold execOnOffConfig
  repeat' first
    | with_reducible assumption
    | with_reducible apply State.pmReadOnly_keep
    | with_reducible apply Keeps.next

theorem execClearFaults_keep {s t : State} {bytes : List Byte} (h : Keep s t) : Keeps s (execClearFaults bytes t) := by
  unfold execClearFaults
  exact Keeps.next (State.pmbus_keep (fun _ k => k) (fun _ _ k => State.pmWrite_keep (fun _ _ k => State.onPages_keep k) k) h)

theorem execWriteProtect_keep {s t : State} {w : Option (List Byte)} (h : Keep s t) : Keeps s (execWriteProtect w t) := by
  unfold execWriteProtect
  repeat' first
    | with_reducible assumption
    | with_reducible apply State.pmbus_keep
    | with_reducible apply State.pmRead_keep
    | with_reducible apply State.pmWrite_keep
    | with_reducible apply State.onHif_keep
    | with_reducible apply Keeps.next
    | with_reducible apply Keep.foldl
    | with_reducible (intro _ _)

theorem execCapability_keep {s t : State} {w : Option (List Byte)} (h : Keep s t) : Keeps s (execCapability w t) := by
  unfold execCapability
  repeat' first
    | with_reducible assumption
    | with_reducible apply State.pmReadOnly_keep
    | with_reducible apply Keeps.next

theorem execVoutMode_keep {s t : State} {w : Option (List Byte)} (h : Keep s t) : Keeps s (execVoutMode w t) := by
  unfold execVoutMode
  repeat' first
    | with_reducible assumption
    | with_reducible apply State.pmReadOnly_keep
    | with_reducible apply Keeps.next

theorem execVoutCommand_keep {s t : State} {w : Option (List Byte)} (h : Keep s t) : Keeps s (execVoutCommand w t) := by
  unfold execVoutCommand
  dsimp only
  repeat' first
    | with_reducible assumption
    | with_reducible apply State.pmbus_keep
    | with_reducible apply State.pmRead_keep
    | with_reducible apply State.pmWrite_keep
    | with_reducible apply State.each_keep
    | with_reducible apply State.selWait_keep
    | with_reducible apply State.writeVout_keep
    | with_reducible apply Keeps.next
    | with_reducible apply Keep.foldl
    | with_reducible (intro _ _)
    | with_reducible intro _

theorem execVoutMarginHigh_keep {s t : State} {w : Option (List Byte)} (h : Keep s t) :
    Keeps s (execVoutMarginHigh w t) := by
  unfold execVoutMarginHigh
  repeat' first
    | with_reducible assumption
    | with_reducible apply State.pmMargin_keep
    | with_reducible apply Keeps.next

theorem execVoutMarginLow_keep {s t : State} {w : Option (List Byte)} (h : Keep s t) : Keeps s (execVoutMarginLow w t) := by
  unfold execVoutMarginLow
  repeat' first
    | with_reducible assumption
    | with_reducible apply State.pmMargin_keep
    | with_reducible apply Keeps.next

theorem execVoutTransitionRate_keep {s t : State} {w : Option (List Byte)} (h : Keep s t) :
    Keeps s (execVoutTransitionRate w t) := by
  unfold execVoutTransitionRate
  repeat' first
    | with_reducible assumption
    | with_reducible apply State.pmbus_keep
    | with_reducible apply State.pmRead_keep
    | with_reducible apply State.pmWrite_keep
    | with_reducible apply State.pmField_keep
    | with_reducible apply Keeps.next
    | with_reducible apply Keep.foldl
    | with_reducible (intro _ _)

theorem execStatusByte_keep {s t : State} {w : Option (List Byte)} (h : Keep s t) : Keeps s (execStatusByte w t) := by
  unfold execStatusByte
  repeat' first
    | with_reducible assumption
    | with_reducible apply State.pmReadOnly_keep
    | with_reducible apply Keeps.next

theorem execStatusWord_keep {s t : State} {w : Option (List Byte)} (h : Keep s t) : Keeps s (execStatusWord w t) := by
  unfold execStatusWord
  repeat' first
    | with_reducible assumption
    | with_reducible apply State.pmReadOnly_keep
    | with_reducible apply Keeps.next

theorem execStatusVout_keep {s t : State} {w : Option (List Byte)} (h : Keep s t) : Keeps s (execStatusVout w t) := by
  unfold execStatusVout
  repeat' first
    | with_reducible assumption
    | with_reducible apply State.pmReadOnly_keep
    | with_reducible apply Keeps.next

theorem execStatusIout_keep {s t : State} {w : Option (List Byte)} (h : Keep s t) : Keeps s (execStatusIout w t) := by
  unfold execStatusIout
  repeat' first
    | with_reducible assumption
    | with_reducible apply State.pmReadOnly_keep
    | with_reducible apply Keeps.next

theorem execStatusCml_keep {s t : State} {w : Option (List Byte)} (h : Keep s t) : Keeps s (execStatusCml w t) := by
  unfold execStatusCml
  repeat' first
    | with_reducible assumption
    | with_reducible apply State.pmReadOnly_keep
    | with_reducible apply Keeps.next

theorem execReadVout_keep {s t : State} {w : Option (List Byte)} (h : Keep s t) : Keeps s (execReadVout w t) := by
  unfold execReadVout
  repeat' first
    | with_reducible assumption
    | with_reducible apply State.pmReadOnly_keep
    | with_reducible apply Keeps.next

theorem execReadIout_keep {s t : State} {w : Option (List Byte)} (h : Keep s t) : Keeps s (execReadIout w t) := by
  unfold execReadIout
  repeat' first
    | with_reducible assumption
    | with_reducible apply State.pmReadOnly_keep
    | with_reducible apply Keeps.next

theorem execReadTemperature1_keep {s t : State} {w : Option (List Byte)} (h : Keep s t) :
    Keeps s (execReadTemperature1 w t) := by
  unfold execReadTemperature1
  repeat' first
    | with_reducible assumption
    | with_reducible apply State.pmReadOnly_keep
    | with_reducible apply Keeps.next

theorem execPmbusRevision_keep {s t : State} {w : Option (List Byte)} (h : Keep s t) : Keeps s (execPmbusRevision w t) := by
  unfold execPmbusRevision
  repeat' first
    | with_reducible assumption
    | with_reducible apply State.pmReadOnly_keep
    | with_reducible apply Keeps.next

theorem execMfrId_keep {s t : State} {w : Option (List Byte)} (h : Keep s t) : Keeps s (execMfrId w t) := by
  unfold execMfrId
  repeat' first
    | with_reducible assumption
    | with_reducible apply State.pmReadOnly_keep
    | with_reducible apply Keeps.next

theorem execMfrModel_keep {s t : State} {w : Option (List Byte)} (h : Keep s t) : Keeps s (execMfrModel w t) := by
  unfold execMfrModel
  repeat' first
    | with_reducible assumption
    | with_reducible apply State.pmReadOnly_keep
    | with_reducible apply Keeps.next

theorem execHifConfig_keep {s t : State} {o : Origin} {p : List Byte} (h : Keep s t) : Keeps s (execHifConfig o p t) := by
  unfold execHifConfig
  dsimp only
  repeat' first
    | with_reducible assumption
    | with_reducible apply State.hifServe_keep
    | with_reducible apply State.run_keep
    | with_reducible apply State.onHif_keep
    | with_reducible apply Keeps.next
    | with_reducible apply Keep.foldl
    | with_reducible (intro _ _)

theorem execHifStatus_keep {s t : State} {o : Origin} {p : List Byte} (h : Keep s t) : Keeps s (execHifStatus o p t) := by
  unfold execHifStatus
  repeat' first
    | with_reducible assumption
    | with_reducible apply State.report_keep
    | with_reducible apply Keeps.next

theorem execRemoteReply_keep {s t : State} {node : Nat} {bytes : List Byte} (h : Keep s t) :
    Keeps s (execRemoteReply node bytes t) := by
  unfold execRemoteReply
  repeat' first
    | with_reducible assumption
    | with_reducible apply State.packetEnd_keep
    | with_reducible apply State.remoteReply_keep
    | with_reducible apply Keeps.next

theorem execForwardTimeout_keep {s t : State} (h : Keep s t) : Keeps s (execForwardTimeout t) := by
  unfold execForwardTimeout
  repeat' first
    | with_reducible assumption
    | with_reducible apply State.onHif_keep
    | with_reducible apply State.advanceTo_keep
    | with_reducible apply State.packetEnd_keep
    | with_reducible apply State.collected_keep
    | with_reducible apply State.noReply_keep
    | with_reducible apply State.farAccepted_keep
    | with_reducible apply State.answer_keep
    | with_reducible apply Keeps.next
    | split

theorem execSegmentHoldExpiry_keep {s t : State} {itf : Itf} (h : Keep s t) : Keeps s (execSegmentHoldExpiry itf t) := by
  unfold execSegmentHoldExpiry
  refine Keeps.next ?_
  have key : ∀ (g : Option Segs) (f : Hif → Hif), Keep s (match g with
      | some g => (t.advanceTo (g.since + sec 1)).onHif f
      | none => t) := by
    intro g f
    split
    · exact State.onHif_keep (State.advanceTo_keep h)
    · exact h
  split <;> exact key _ _

theorem execNop_keep {s t : State} {o : Origin} {p : List Byte} (h : Keep s t) : Keeps s (execNop o p t) := by
  unfold execNop
  repeat' first
    | with_reducible assumption
    | with_reducible apply State.report_keep
    | with_reducible apply Keeps.next

theorem execSysStatus_keep {s t : State} {o : Origin} {p : List Byte} (h : Keep s t) : Keeps s (execSysStatus o p t) := by
  unfold execSysStatus
  repeat' first
    | with_reducible assumption
    | with_reducible apply State.report_keep
    | with_reducible apply Keeps.next

theorem execPrivChallenge_keep {s t : State} {o : Origin} {p : List Byte} (h : Keep s t) :
    Keeps s (execPrivChallenge o p t) := by
  unfold execPrivChallenge
  repeat' first
    | with_reducible assumption
    | with_reducible apply State.run_keep
    | with_reducible apply State.drew_keep
    | with_reducible apply State.onHif_keep
    | with_reducible apply Keeps.next
    | with_reducible apply Keep.foldl
    | with_reducible (intro _ _)

theorem execPrivResponse_keep {s t : State} {o : Origin} {p : List Byte} (h : Keep s t) :
    Keeps s (execPrivResponse o p t) := by
  unfold execPrivResponse
  dsimp only
  repeat' first
    | with_reducible assumption
    | with_reducible apply State.onHif_keep
    | with_reducible apply State.answer_keep
    | with_reducible apply State.privFail_keep
    | with_reducible apply State.run_keep
    | with_reducible apply State.privGrant_keep
    | with_reducible apply Keeps.next
    | with_reducible apply Keep.foldl
    | with_reducible (intro _ _)
    | with_reducible intro _
    | split

theorem execPrivDrop_keep {s t : State} {o : Origin} {p : List Byte} (h : Keep s t) : Keeps s (execPrivDrop o p t) := by
  unfold execPrivDrop
  repeat' first
    | with_reducible assumption
    | with_reducible apply State.run_keep
    | with_reducible apply State.onHif_keep
    | with_reducible apply Keeps.next
    | with_reducible apply Keep.foldl
    | with_reducible (intro _ _)

theorem execPrivLockoutEnd_keep {s t : State} (h : Keep s t) : Keeps s (execPrivLockoutEnd t) := by
  unfold execPrivLockoutEnd
  repeat' first
    | with_reducible assumption
    | with_reducible apply State.onHif_keep
    | with_reducible apply State.advanceTo_keep
    | with_reducible apply Keeps.next
    | split

theorem execPrivSessionTimeout_keep {s t : State} {itf : Itf} (h : Keep s t) : Keeps s (execPrivSessionTimeout itf t) := by
  unfold execPrivSessionTimeout
  repeat' first
    | with_reducible assumption
    | with_reducible apply State.onHif_keep
    | with_reducible apply State.advanceTo_keep
    | with_reducible apply Keeps.next
    | split

theorem execNodeGroups_keep {s t : State} {o : Origin} {p : List Byte} (h : Keep s t) : Keeps s (execNodeGroups o p t) := by
  unfold execNodeGroups
  repeat' first
    | with_reducible assumption
    | with_reducible exact fun _ => ⟨rfl, id⟩
    | with_reducible apply State.run_keep
    | with_reducible apply State.onSys_keep
    | with_reducible apply Keeps.next
    | with_reducible apply Keep.foldl
    | with_reducible (intro _ _)

theorem execEaselWrite_keep {s t : State} {o : Origin} {blk : Nat} {p : List Byte} (h : Keep s t) :
    Keeps s (execEaselWrite o blk p t) := by
  unfold execEaselWrite
  dsimp only
  repeat' first
    | with_reducible assumption
    | with_reducible apply State.run_keep
    | with_reducible apply State.bumpGen_keep
    | with_reducible apply State.easelApply_keep
    | with_reducible apply State.selDo_keep
    | with_reducible apply Keeps.next
    | with_reducible apply Keep.foldl
    | with_reducible (intro _ _)
    | with_reducible intro _
    | split

theorem execEaselCommit_keep {s t : State} {o : Origin} {blk : Nat} {p : List Byte} (h : Keep s t) :
    Keeps s (execEaselCommit o blk p t) := by
  unfold execEaselCommit
  dsimp only
  repeat' first
    | with_reducible assumption
    | with_reducible apply State.run_keep
    | with_reducible apply State.commitSel_keep
    | with_reducible apply State.onCfg_keep
    | with_reducible apply State.awaitSel_keep
    | with_reducible apply Keeps.next
    | with_reducible apply Keep.foldl
    | with_reducible (intro _ _)
    | with_reducible intro _
    | split

theorem execEaselDiscard_keep {s t : State} {o : Origin} {blk : Nat} {p : List Byte} (h : Keep s t) :
    Keeps s (execEaselDiscard o blk p t) := by
  unfold execEaselDiscard
  dsimp only
  repeat' first
    | with_reducible assumption
    | with_reducible apply State.run_keep
    | with_reducible apply State.withdraw_keep
    | with_reducible apply State.discardCopies_keep
    | with_reducible apply Keeps.next
    | with_reducible apply Keep.foldl
    | with_reducible (intro _ _)
    | with_reducible intro _
    | split

theorem execEaselRead_keep {s t : State} {o : Origin} {blk : Nat} {p : List Byte} (h : Keep s t) :
    Keeps s (execEaselRead o blk p t) := by
  unfold execEaselRead
  dsimp only
  repeat' first
    | with_reducible assumption
    | with_reducible apply State.run_keep
    | with_reducible apply State.report_keep
    | with_reducible apply Keeps.next
    | with_reducible apply Keep.foldl
    | with_reducible (intro _ _)
    | with_reducible intro _
    | split

theorem execEaselStatus_keep {s t : State} {o : Origin} {blk : Nat} {p : List Byte} (h : Keep s t) :
    Keeps s (execEaselStatus o blk p t) := by
  unfold execEaselStatus
  dsimp only
  repeat' first
    | with_reducible assumption
    | with_reducible apply State.run_keep
    | with_reducible apply State.report_keep
    | with_reducible apply Keeps.next
    | with_reducible apply Keep.foldl
    | with_reducible (intro _ _)
    | with_reducible intro _
    | split

theorem execCommitLand_keep {s t : State} {r : RecId} {ch : Nat} {b : Bnd} (h : Keep s t) :
    Keeps s (execCommitLand r ch b t) := by
  unfold execCommitLand
  repeat' first
    | with_reducible assumption
    | with_reducible apply State.boundaryOf_keep
    | with_reducible apply Keeps.next
    | split

theorem execLValueLand_keep {s t : State} {r : RecId} {ch : Nat} {b : Bnd} (h : Keep s t) :
    Keeps s (execLValueLand r ch b t) := by
  unfold execLValueLand
  repeat' first
    | with_reducible assumption
    | with_reducible apply State.boundaryOf_keep
    | with_reducible apply Keeps.next
    | split

theorem execCommitTimeout_keep {s t : State} (h : Keep s t) : Keeps s (execCommitTimeout t) := by
  unfold execCommitTimeout
  repeat' first
    | with_reducible assumption
    | with_reducible apply State.advanceTo_keep
    | with_reducible apply State.onHif_keep
    | with_reducible apply State.finish_keep
    | with_reducible apply State.raise_keep
    | with_reducible apply Keeps.next
    | split

theorem execMultiCommit_keep {s t : State} {o : Origin} {p : List Byte} (h : Keep s t) :
    Keeps s (execMultiCommit o p t) := by
  unfold execMultiCommit
  dsimp only
  repeat' first
    | with_reducible assumption
    | with_reducible apply State.run_keep
    | with_reducible apply State.accepted_keep
    | with_reducible apply State.onCfg_keep
    | with_reducible apply State.each_keep
    | with_reducible apply State.commitSel_keep
    | with_reducible apply State.wakeCommits_keep
    | with_reducible apply State.await_keep
    | with_reducible apply Keeps.next
    | with_reducible apply Keep.foldl
    | with_reducible (intro _ _)

theorem execEaselSave_keep {s t : State} {o : Origin} {p : List Byte} (h : Keep s t) : Keeps s (execEaselSave o p t) := by
  unfold execEaselSave
  dsimp only
  repeat' first
    | with_reducible assumption
    | with_reducible apply State.run_keep
    | with_reducible apply State.onCfg_keep
    | with_reducible apply State.pump_keep
    | with_reducible apply State.enqueue_keep
    | with_reducible apply Keeps.next
    | with_reducible apply Keep.foldl
    | with_reducible (intro _ _)
    | with_reducible intro _
    | split

theorem execPalBegin_keep {s t : State} {o : Origin} {p : List Byte} (h : Keep s t) : Keeps s (execPalBegin o p t) := by
  unfold execPalBegin
  dsimp only
  repeat' first
    | with_reducible assumption
    | with_reducible apply State.run_keep
    | with_reducible apply State.onPal_keep
    | with_reducible apply Keeps.next
    | with_reducible apply Keep.foldl
    | with_reducible (intro _ _)

theorem execPalData_keep {s t : State} {o : Origin} {p : List Byte} (h : Keep s t) : Keeps s (execPalData o p t) := by
  unfold execPalData
  dsimp only
  repeat' first
    | with_reducible assumption
    | with_reducible apply State.run_keep
    | with_reducible apply State.onPal_keep
    | with_reducible apply Keeps.next
    | with_reducible apply Keep.foldl
    | with_reducible (intro _ _)

theorem execPalEnd_keep {s t : State} {o : Origin} {p : List Byte} (h : Keep s t) : Keeps s (execPalEnd o p t) := by
  unfold execPalEnd
  refine Keeps.next (State.run_keep (fun r k => ?_) h)
  dsimp only
  repeat' first
    | with_reducible assumption
    | with_reducible apply State.pump_keep
    | with_reducible apply State.enqueue_keep
    | with_reducible apply State.onPal_keep
    | split

theorem execPalSwitch_keep {s t : State} {o : Origin} {p : List Byte} (h : Keep s t) : Keeps s (execPalSwitch o p t) := by
  unfold execPalSwitch
  dsimp only
  repeat' first
    | with_reducible assumption
    | with_reducible apply State.run_keep
    | with_reducible apply State.onPal_keep
    | with_reducible apply State.onLink_keep
    | with_reducible apply State.await_keep
    | with_reducible apply Keeps.next
    | with_reducible apply Keep.foldl
    | with_reducible (intro _ _)
    | with_reducible intro _
    | split

theorem execPalStatus_keep {s t : State} {o : Origin} {p : List Byte} (h : Keep s t) : Keeps s (execPalStatus o p t) := by
  unfold execPalStatus
  repeat' first
    | with_reducible assumption
    | with_reducible apply State.report_keep
    | with_reducible apply Keeps.next

theorem execPalRead_keep {s t : State} {o : Origin} {p : List Byte} (h : Keep s t) : Keeps s (execPalRead o p t) := by
  unfold execPalRead
  repeat' first
    | with_reducible assumption
    | with_reducible apply State.report_keep
    | with_reducible apply Keeps.next

theorem execPaletteAdopt_keep {s t : State} {c : Fin 12} {ch : Nat} (h : Keep s t) : Keeps s (execPaletteAdopt c ch t) := by
  unfold execPaletteAdopt
  repeat' first
    | with_reducible assumption
    | with_reducible apply State.palAdopt_keep
    | with_reducible apply Keeps.next

theorem execPalSwitchTimeout_keep {s t : State} (h : Keep s t) : Keeps s (execPalSwitchTimeout t) := by
  unfold execPalSwitchTimeout
  repeat' first
    | with_reducible assumption
    | with_reducible apply State.wake_keep
    | with_reducible apply State.advanceTo_keep
    | with_reducible apply Keeps.next
    | split

theorem execSectionPowerLoss_keep {s t : State} {k : Fin 2} (h : Keep s t) : Keeps s (execSectionPowerLoss k t) := by
  unfold execSectionPowerLoss
  repeat' first
    | with_reducible assumption
    | with_reducible apply State.sectionDown_keep
    | with_reducible apply Keeps.next
    | split

theorem execBarrierHeartbeat_keep {s t : State} {k : Fin 2} {toMains : Bool} {line : List Nat} (h : Keep s t) :
    Keeps s (execBarrierHeartbeat k toMains line t) := by
  unfold execBarrierHeartbeat
  repeat' first
    | with_reducible assumption
    | with_reducible apply State.hears_keep
    | with_reducible apply State.beat_keep
    | with_reducible apply Keeps.next
    | split

theorem execBarrierSilence_keep {s t : State} {k : Fin 2} (h : Keep s t) : Keeps s (execBarrierSilence k t) := by
  unfold execBarrierSilence
  repeat' first
    | with_reducible assumption
    | with_reducible apply State.channelGone_keep
    | with_reducible apply State.advanceTo_keep
    | with_reducible apply State.onBar_keep
    | with_reducible apply Keeps.next
    | split

theorem execBarrierEstablished_keep {s t : State} {k : Fin 2} {delayNs : Nat} (h : Keep s t) :
    Keeps s (execBarrierEstablished k delayNs t) := by
  unfold execBarrierEstablished
  repeat' first
    | with_reducible assumption
    | with_reducible apply State.establish_keep
    | with_reducible apply Keeps.next
    | split

theorem execInit_keep {s t : State} {k : Fin 2} {line : List Nat} (h : Keep s t) : Keeps s (execInit k line t) := by
  unfold execInit
  repeat' first
    | with_reducible assumption
    | with_reducible apply State.frame_keep
    | with_reducible apply State.onBar_keep
    | with_reducible apply Keeps.next
    | with_reducible apply Keep.foldl
    | with_reducible (intro _ _)
    | with_reducible intro _
    | with_reducible refine Keep.ofPair ‹_ = (_, _)› ?_
    | split

theorem execConfig_keep {s t : State} {k : Fin 2} {line : List Nat} (h : Keep s t) : Keeps s (execConfig k line t) := by
  unfold execConfig
  dsimp only
  repeat' first
    | with_reducible assumption
    | with_reducible apply State.frame_keep
    | with_reducible apply State.onBar_keep
    | with_reducible apply Keeps.next
    | with_reducible apply Keep.foldl
    | with_reducible (intro _ _)

theorem execCommit_keep {s t : State} {k : Fin 2} {line : List Nat} (h : Keep s t) : Keeps s (execCommit k line t) := by
  unfold execCommit
  repeat' first
    | with_reducible assumption
    | with_reducible apply State.frame_keep
    | with_reducible apply State.onBar_keep
    | with_reducible apply Keeps.next
    | with_reducible apply Keep.foldl
    | with_reducible (intro _ _)
    | with_reducible intro _
    | with_reducible refine Keep.ofPair ‹_ = (_, _)› ?_
    | split

theorem execCommand_keep {s t : State} {k : Fin 2} {line : List Nat} (h : Keep s t) : Keeps s (execCommand k line t) := by
  unfold execCommand
  repeat' first
    | with_reducible assumption
    | with_reducible apply State.frame_keep
    | with_reducible apply State.command_keep
    | with_reducible apply Keeps.next
    | with_reducible apply Keep.foldl
    | with_reducible (intro _ _)

theorem execTime_keep {s t : State} {k : Fin 2} {line : List Nat} (h : Keep s t) : Keeps s (execTime k line t) := by
  unfold execTime
  repeat' first
    | with_reducible assumption
    | with_reducible apply State.frame_keep
    | with_reducible apply State.onBar_keep
    | with_reducible apply Keeps.next
    | with_reducible apply Keep.foldl
    | with_reducible (intro _ _)

theorem execSrTiming_keep {s t : State} {k : Fin 2} {line : List Nat} (h : Keep s t) : Keeps s (execSrTiming k line t) := by
  unfold execSrTiming
  repeat' first
    | with_reducible assumption
    | with_reducible apply State.frame_keep
    | with_reducible apply State.onBar_keep
    | with_reducible apply Keeps.next
    | with_reducible apply Keep.foldl
    | with_reducible (intro _ _)

theorem execHello_keep {s t : State} {k : Fin 2} {line : List Nat} (h : Keep s t) : Keeps s (execHello k line t) := by
  unfold execHello
  dsimp only
  repeat' first
    | with_reducible assumption
    | with_reducible apply State.frame_keep
    | with_reducible apply State.onRectCh_keep
    | with_reducible apply State.raise_keep
    | with_reducible apply Keeps.next
    | with_reducible apply Keep.foldl
    | with_reducible (intro _ _)
    | with_reducible intro _
    | split

theorem execStatus_keep {s t : State} {k : Fin 2} {line : List Nat} (h : Keep s t) : Keeps s (execStatus k line t) := by
  unfold execStatus
  repeat' first
    | with_reducible assumption
    | with_reducible apply State.frame_keep
    | with_reducible apply State.qualTry_keep
    | with_reducible apply State.onRectCh_keep
    | with_reducible apply Keeps.next
    | with_reducible apply Keep.foldl
    | with_reducible (intro _ _)
    | with_reducible intro _

theorem execHalfCycle_keep {s t : State} {k : Fin 2} {line : List Nat} (h : Keep s t) :
    Keeps s (execHalfCycle k line t) := by
  unfold execHalfCycle
  repeat' first
    | with_reducible assumption
    | with_reducible apply State.frame_keep
    | with_reducible apply State.onRectCh_keep
    | with_reducible apply Keeps.next
    | with_reducible apply Keep.foldl
    | with_reducible (intro _ _)

theorem execAck_keep {s t : State} {k : Fin 2} {line : List Nat} (h : Keep s t) : Keeps s (execAck k line t) := by
  unfold execAck
  dsimp only
  repeat' first
    | with_reducible assumption
    | with_reducible apply State.frame_keep
    | with_reducible apply State.onBar_keep
    | with_reducible apply State.landedAck_keep
    | with_reducible apply Keeps.next
    | with_reducible apply Keep.foldl
    | with_reducible (intro _ _)
    | with_reducible intro _
    | split

theorem execFaultFrame_keep {s t : State} {k : Fin 2} {line : List Nat} (h : Keep s t) :
    Keeps s (execFaultFrame k line t) := by
  unfold execFaultFrame
  dsimp only
  repeat' first
    | with_reducible assumption
    | with_reducible apply State.frame_keep
    | with_reducible apply State.onRectCh_keep
    | with_reducible apply State.raise_keep
    | with_reducible apply State.onBar_keep
    | with_reducible apply State.rectTrip_keep
    | with_reducible apply Keeps.next
    | with_reducible apply Keep.foldl
    | with_reducible (intro _ _)
    | with_reducible intro _
    | split

theorem execBarrierResend_keep {s t : State} {k : Fin 2} (h : Keep s t) : Keeps s (execBarrierResend k t) := by
  unfold execBarrierResend
  dsimp only
  repeat' first
    | with_reducible assumption
    | with_reducible apply State.advanceTo_keep
    | with_reducible apply State.onBar_keep
    | with_reducible apply State.channelGone_keep
    | with_reducible apply Keeps.next
    | split

theorem execFltLine_keep {s t : State} {k : Fin 2} (h : Keep s t) : Keeps s (execFltLine k t) := by
  unfold execFltLine
  repeat' first
    | with_reducible assumption
    | with_reducible apply State.fltLine_keep
    | with_reducible apply Keeps.next

theorem execDropLine_keep {s t : State} {k : Fin 2} (h : Keep s t) : Keeps s (execDropLine k t) := by
  unfold execDropLine
  repeat' first
    | with_reducible assumption
    | with_reducible apply State.dropLine_keep
    | with_reducible apply Keeps.next

theorem execStopLine_keep {s t : State} {k : Fin 2} (h : Keep s t) : Keeps s (execStopLine k t) := by
  unfold execStopLine
  repeat' first
    | with_reducible assumption
    | with_reducible apply State.stopAssert_keep
    | with_reducible apply Keeps.next

theorem execStopRelease_keep {s t : State} {k : Fin 2} (h : Keep s t) : Keeps s (execStopRelease k t) := by
  unfold execStopRelease
  repeat' first
    | with_reducible assumption
    | with_reducible apply State.stopRelease_keep
    | with_reducible apply Keeps.next

theorem execHalfCycleEnd_keep {s t : State} {k : Fin 2} {rms : Nat} {peak : Nat} {half : Nat} (h : Keep s t) :
    Keeps s (execHalfCycleEnd k rms peak half t) := by
  unfold execHalfCycleEnd
  repeat' first
    | with_reducible assumption
    | with_reducible apply State.halfCycle_keep
    | with_reducible apply Keeps.next
    | with_reducible apply Keep.foldl
    | with_reducible (intro _ _)
    | with_reducible intro _
    | with_reducible refine Keep.ofPair ‹_ = (_, _)› ?_
    | split

theorem execQualTimerExpiry_keep {s t : State} {k : Fin 2} (h : Keep s t) : Keeps s (execQualTimerExpiry k t) := by
  unfold execQualTimerExpiry
  repeat' first
    | with_reducible assumption
    | with_reducible apply State.advanceTo_keep
    | with_reducible apply State.qualTry_keep
    | with_reducible apply State.onRectCh_keep
    | with_reducible apply Keeps.next
    | split

theorem execPrechargeTimeout_keep {s t : State} {k : Fin 2} (h : Keep s t) : Keeps s (execPrechargeTimeout k t) := by
  unfold execPrechargeTimeout
  repeat' first
    | with_reducible assumption
    | with_reducible apply State.raise_keep
    | with_reducible apply State.rectTo_keep
    | with_reducible apply State.advanceTo_keep
    | with_reducible apply Keeps.next
    | split

theorem execRelaySettled_keep {s t : State} {k : Fin 2} (h : Keep s t) : Keeps s (execRelaySettled k t) := by
  unfold execRelaySettled
  repeat' first
    | with_reducible assumption
    | with_reducible apply State.rectTo_keep
    | with_reducible apply State.advanceTo_keep
    | with_reducible apply Keeps.next
    | split

theorem execPfcRampDone_keep {s t : State} {k : Fin 2} {bulk : Nat} (h : Keep s t) : Keeps s (execPfcRampDone k bulk t) := by
  unfold execPfcRampDone
  repeat' first
    | with_reducible assumption
    | with_reducible apply State.onRectCh_keep
    | with_reducible apply State.rectTo_keep
    | with_reducible apply Keeps.next
    | split

theorem execLlcStartDone_keep {s t : State} {k : Fin 2} {v : Nat} (h : Keep s t) : Keeps s (execLlcStartDone k v t) := by
  unfold execLlcStartDone
  repeat' first
    | with_reducible assumption
    | with_reducible apply State.rectTo_keep
    | with_reducible apply Keeps.next
    | split

theorem execLlcSsTimeout_keep {s t : State} {k : Fin 2} (h : Keep s t) : Keeps s (execLlcSsTimeout k t) := by
  unfold execLlcSsTimeout
  repeat' first
    | with_reducible assumption
    | with_reducible apply State.rectTrip_keep
    | with_reducible apply State.advanceTo_keep
    | with_reducible apply Keeps.next
    | split

theorem execWalkInDone_keep {s t : State} {k : Fin 2} (h : Keep s t) : Keeps s (execWalkInDone k t) := by
  unfold execWalkInDone
  repeat' first
    | with_reducible assumption
    | with_reducible apply State.advanceTo_keep
    | with_reducible apply State.walkJudge_keep
    | with_reducible apply State.onRectCh_keep
    | with_reducible apply Keeps.next
    | split

theorem execDropoutPredicted_keep {s t : State} {k : Fin 2} (h : Keep s t) : Keeps s (execDropoutPredicted k t) := by
  unfold execDropoutPredicted
  repeat' first
    | with_reducible assumption
    | with_reducible apply State.predict_keep
    | with_reducible apply State.advanceTo_keep
    | with_reducible apply Keeps.next
    | split

theorem execZcLateExpiry_keep {s t : State} {k : Fin 2} (h : Keep s t) : Keeps s (execZcLateExpiry k t) := by
  unfold execZcLateExpiry
  repeat' first
    | with_reducible assumption
    | with_reducible apply State.predict_keep
    | with_reducible apply State.advanceTo_keep
    | with_reducible apply Keeps.next
    | split

theorem execPredictionTimeout_keep {s t : State} {k : Fin 2} (h : Keep s t) : Keeps s (execPredictionTimeout k t) := by
  unfold execPredictionTimeout
  repeat' first
    | with_reducible assumption
    | with_reducible apply State.predictTimeout_keep
    | with_reducible apply Keeps.next

theorem execBulkMinReached_keep {s t : State} {k : Fin 2} {bulk : Nat} (h : Keep s t) :
    Keeps s (execBulkMinReached k bulk t) := by
  unfold execBulkMinReached
  repeat' first
    | with_reducible assumption
    | with_reducible apply State.llcStop_keep
    | with_reducible apply Keeps.next
    | split

theorem execLinePeakLimit_keep {s t : State} {k : Fin 2} {v : Nat} (h : Keep s t) : Keeps s (execLinePeakLimit k v t) := by
  unfold execLinePeakLimit
  repeat' first
    | with_reducible assumption
    | with_reducible apply State.onRectCh_keep
    | with_reducible apply Keeps.next

theorem execBulkOvLimit_keep {s t : State} {k : Fin 2} {bulk : Nat} (h : Keep s t) : Keeps s (execBulkOvLimit k bulk t) := by
  unfold execBulkOvLimit
  repeat' first
    | with_reducible assumption
    | with_reducible apply State.onRectCh_keep
    | with_reducible apply Keeps.next

theorem execBulkOvTrip_keep {s t : State} {k : Fin 2} {bulk : Nat} (h : Keep s t) : Keeps s (execBulkOvTrip k bulk t) := by
  unfold execBulkOvTrip
  repeat' first
    | with_reducible assumption
    | with_reducible apply State.rectTripIf_keep
    | with_reducible apply Keeps.next
    | split

theorem execPfcOcTrip_keep {s t : State} {k : Fin 2} (h : Keep s t) : Keeps s (execPfcOcTrip k t) := by
  unfold execPfcOcTrip
  repeat' first
    | with_reducible assumption
    | with_reducible apply State.rectTripIf_keep
    | with_reducible apply Keeps.next

theorem execLlcOcTrip_keep {s t : State} {k : Fin 2} (h : Keep s t) : Keeps s (execLlcOcTrip k t) := by
  unfold execLlcOcTrip
  repeat' first
    | with_reducible assumption
    | with_reducible apply State.rectTripIf_keep
    | with_reducible apply Keeps.next

theorem execCapacitiveModeTrip_keep {s t : State} {k : Fin 2} (h : Keep s t) : Keeps s (execCapacitiveModeTrip k t) := by
  unfold execCapacitiveModeTrip
  repeat' first
    | with_reducible assumption
    | with_reducible apply State.rectTripIf_keep
    | with_reducible apply Keeps.next
    | split

theorem execMainsThermalTrip_keep {s t : State} (h : Keep s t) : Keeps s (execMainsThermalTrip t) := by
  unfold execMainsThermalTrip
  repeat' first
    | with_reducible assumption
    | with_reducible apply State.mainsHeat_keep
    | with_reducible apply Keeps.next
    | split

theorem execBusOvStop_keep {s t : State} {v : Nat} (h : Keep s t) : Keeps s (execBusOvStop v t) := by
  unfold execBusOvStop
  repeat' first
    | with_reducible assumption
    | with_reducible apply State.each_keep
    | with_reducible apply State.stopAssert_keep
    | with_reducible apply State.raise_keep
    | with_reducible apply Keeps.next
    | with_reducible apply Keep.foldl
    | with_reducible (intro _ _)
    | with_reducible intro _
    | with_reducible refine Keep.ofPair ‹_ = (_, _)› ?_
    | split

theorem execSrReverseDisable_keep {s t : State} {k : Fin 2} (h : Keep s t) : Keeps s (execSrReverseDisable k t) := by
  unfold execSrReverseDisable
  repeat' first
    | with_reducible assumption
    | with_reducible apply State.raise_keep
    | with_reducible apply State.onRectCh_keep
    | with_reducible apply Keeps.next
    | split

theorem execShareToleranceFault_keep {s t : State} {k : Fin 2} (h : Keep s t) : Keeps s (execShareToleranceFault k t) := by
  unfold execShareToleranceFault
  repeat' first
    | with_reducible assumption
    | with_reducible apply State.raise_keep
    | with_reducible apply State.onRectCh_keep
    | with_reducible apply State.advanceTo_keep
    | with_reducible apply Keeps.next
    | split

theorem execRectControl_keep {s t : State} {o : Origin} {p : List Byte} (h : Keep s t) :
    Keeps s (execRectControl o p t) := by
  unfold execRectControl
  dsimp only
  repeat' first
    | with_reducible assumption
    | with_reducible apply State.run_keep
    | with_reducible apply State.selWait_keep
    | with_reducible apply State.each_keep
    | with_reducible apply State.rectServe_keep
    | with_reducible apply Keeps.next
    | with_reducible apply Keep.foldl
    | with_reducible (intro _ _)

theorem execRectStatus_keep {s t : State} {o : Origin} {p : List Byte} (h : Keep s t) : Keeps s (execRectStatus o p t) := by
  unfold execRectStatus
  repeat' first
    | with_reducible assumption
    | with_reducible apply State.report_keep
    | with_reducible apply Keeps.next

theorem execBarrierStatus_keep {s t : State} {o : Origin} {p : List Byte} (h : Keep s t) :
    Keeps s (execBarrierStatus o p t) := by
  unfold execBarrierStatus
  repeat' first
    | with_reducible assumption
    | with_reducible apply State.report_keep
    | with_reducible apply Keeps.next

theorem execBusUndervoltage_keep {s t : State} {v : Nat} {held : Nat} (h : Keep s t) :
    Keeps s (execBusUndervoltage v held t) := by
  unfold execBusUndervoltage
  repeat' first
    | with_reducible assumption
    | with_reducible apply State.busUnder_keep
    | with_reducible apply Keeps.next
    | split

theorem execBusWindowExit_keep {s t : State} {v : Nat} (h : Keep s t) : Keeps s (execBusWindowExit v t) := by
  unfold execBusWindowExit
  repeat' first
    | with_reducible assumption
    | with_reducible apply State.busLeave_keep
    | with_reducible apply Keeps.next
    | split

theorem execAuxWindowEnter_keep {s t : State} {k : Fin 2} {v : Nat} (h : Keep s t) : Keeps s (execAuxWindowEnter k v t) := by
  unfold execAuxWindowEnter
  repeat' first
    | with_reducible assumption
    | with_reducible apply State.auxEnter_keep
    | with_reducible apply Keeps.next
    | split

theorem execAuxWindowExit_keep {s t : State} {k : Fin 2} {v : Nat} {held : Nat} (h : Keep s t) :
    Keeps s (execAuxWindowExit k v held t) := by
  unfold execAuxWindowExit
  repeat' first
    | with_reducible assumption
    | with_reducible apply State.auxExit_keep
    | with_reducible apply Keeps.next
    | split

theorem execAuxInsertDone_keep {s t : State} {k : Fin 2} (h : Keep s t) : Keeps s (execAuxInsertDone k t) := by
  unfold execAuxInsertDone
  repeat' first
    | with_reducible assumption
    | with_reducible apply State.auxTo_keep
    | with_reducible apply State.advanceTo_keep
    | with_reducible apply Keeps.next
    | split

theorem execAuxMatchDone_keep {s t : State} {k : Fin 2} (h : Keep s t) : Keeps s (execAuxMatchDone k t) := by
  unfold execAuxMatchDone
  repeat' first
    | with_reducible assumption
    | with_reducible apply State.auxTo_keep
    | with_reducible apply Keeps.next
    | split

theorem execAuxWalkInDone_keep {s t : State} {k : Fin 2} {i : Nat} {held : Nat} (h : Keep s t) :
    Keeps s (execAuxWalkInDone k i held t) := by
  unfold execAuxWalkInDone
  repeat' first
    | with_reducible assumption
    | with_reducible apply State.readyBack_keep
    | with_reducible apply State.auxTo_keep
    | with_reducible apply Keeps.next
    | split

theorem execColdConnectDone_keep {s t : State} {k : Fin 2} {v : Nat} (h : Keep s t) :
    Keeps s (execColdConnectDone k v t) := by
  unfold execColdConnectDone
  repeat' first
    | with_reducible assumption
    | with_reducible apply State.readyBack_keep
    | with_reducible apply State.auxTo_keep
    | with_reducible apply Keeps.next
    | split

theorem execAuxSoaTrip_keep {s t : State} {k : Fin 2} {held : Nat} (h : Keep s t) : Keeps s (execAuxSoaTrip k held t) := by
  unfold execAuxSoaTrip
  repeat' first
    | with_reducible assumption
    | with_reducible apply State.auxTrip_keep
    | with_reducible apply State.advanceTo_keep
    | with_reducible apply Keeps.next
    | split

theorem execAuxFastTrip_keep {s t : State} {k : Fin 2} {i : Nat} (h : Keep s t) : Keeps s (execAuxFastTrip k i t) := by
  unfold execAuxFastTrip
  repeat' first
    | with_reducible assumption
    | with_reducible apply State.auxTrip_keep
    | with_reducible apply Keeps.next
    | split

theorem execAuxReverseTrip_keep {s t : State} {k : Fin 2} {i : Int} {held : Nat} (h : Keep s t) :
    Keeps s (execAuxReverseTrip k i held t) := by
  unfold execAuxReverseTrip
  repeat' first
    | with_reducible assumption
    | with_reducible apply State.auxTrip_keep
    | with_reducible apply Keeps.next
    | split

theorem execAuxRetry_keep {s t : State} {k : Fin 2} (h : Keep s t) : Keeps s (execAuxRetry k t) := by
  unfold execAuxRetry
  repeat' first
    | with_reducible assumption
    | with_reducible apply State.auxTo_keep
    | with_reducible apply State.advanceTo_keep
    | with_reducible apply Keeps.next
    | split

theorem execBbmGapDone_keep {s t : State} {k : Fin 2} (h : Keep s t) : Keeps s (execBbmGapDone k t) := by
  unfold execBbmGapDone
  repeat' first
    | with_reducible assumption
    | with_reducible apply State.onAuxCh_keep
    | with_reducible apply State.advanceTo_keep
    | with_reducible apply Keeps.next
    | split

theorem execBusStatus_keep {s t : State} {o : Origin} {p : List Byte} (h : Keep s t) : Keeps s (execBusStatus o p t) := by
  unfold execBusStatus
  repeat' first
    | with_reducible assumption
    | with_reducible apply State.report_keep
    | with_reducible apply Keeps.next

theorem execAuxControl_keep {s t : State} {o : Origin} {p : List Byte} (h : Keep s t) : Keeps s (execAuxControl o p t) := by
  unfold execAuxControl
  dsimp only
  repeat' first
    | with_reducible assumption
    | with_reducible apply State.run_keep
    | with_reducible apply State.selWait_keep
    | with_reducible apply Keeps.next
    | with_reducible apply Keep.foldl
    | with_reducible (intro _ _)

theorem execStringMatchDone_keep {s t : State} {k : Fin 2} {v : Nat} (h : Keep s t) :
    Keeps s (execStringMatchDone k v t) := by
  unfold execStringMatchDone
  repeat' first
    | with_reducible assumption
    | with_reducible apply State.strTo_keep
    | with_reducible apply State.advanceTo_keep
    | with_reducible apply Keeps.next
    | split

theorem execStringMatchTimeout_keep {s t : State} {k : Fin 2} (h : Keep s t) : Keeps s (execStringMatchTimeout k t) := by
  unfold execStringMatchTimeout
  repeat' first
    | with_reducible assumption
    | with_reducible apply State.strTrip_keep
    | with_reducible apply State.advanceTo_keep
    | with_reducible apply Keeps.next
    | split

theorem execStringColdDone_keep {s t : State} {k : Fin 2} (h : Keep s t) : Keeps s (execStringColdDone k t) := by
  unfold execStringColdDone
  repeat' first
    | with_reducible assumption
    | with_reducible apply State.advanceTo_keep
    | with_reducible apply State.strTo_keep
    | with_reducible apply State.onBus_keep
    | with_reducible apply Keeps.next
    | split

theorem execChgOkDeassert_keep {s t : State} {k : Fin 2} (h : Keep s t) : Keeps s (execChgOkDeassert k t) := by
  unfold execChgOkDeassert
  repeat' first
    | with_reducible assumption
    | with_reducible apply State.when_keep
    | with_reducible apply State.raise_keep
    | with_reducible apply State.onStrCh_keep
    | with_reducible apply Keeps.next
    | with_reducible apply Keep.foldl
    | with_reducible (intro _ _)

theorem execChgOkAssert_keep {s t : State} {k : Fin 2} (h : Keep s t) : Keeps s (execChgOkAssert k t) := by
  unfold execChgOkAssert
  repeat' first
    | with_reducible assumption
    | with_reducible apply State.onStrCh_keep
    | with_reducible apply Keeps.next

theorem execDsgOkDeassert_keep {s t : State} {k : Fin 2} (h : Keep s t) : Keeps s (execDsgOkDeassert k t) := by
  unfold execDsgOkDeassert
  repeat' first
    | with_reducible assumption
    | with_reducible apply State.onStrCh_keep
    | with_reducible apply Keeps.next

theorem execDsgOkAssert_keep {s t : State} {k : Fin 2} (h : Keep s t) : Keeps s (execDsgOkAssert k t) := by
  unfold execDsgOkAssert
  repeat' first
    | with_reducible assumption
    | with_reducible apply State.onStrCh_keep
    | with_reducible apply Keeps.next

theorem execNtcRecover_keep {s t : State} {k : Fin 2} {j : Fin 2} (h : Keep s t) : Keeps s (execNtcRecover k j t) := by
  unfold execNtcRecover
  repeat' first
    | with_reducible assumption
    | with_reducible apply State.onStrCh_keep
    | with_reducible apply State.advanceTo_keep
    | with_reducible apply Keeps.next
    | split

theorem execEndOfDischarge_keep {s t : State} {k : Fin 2} (h : Keep s t) : Keeps s (execEndOfDischarge k t) := by
  unfold execEndOfDischarge
  repeat' first
    | with_reducible assumption
    | with_reducible apply State.gaugeSnap_keep
    | with_reducible apply State.strEod_keep
    | with_reducible apply State.advanceTo_keep
    | with_reducible apply Keeps.next
    | split

theorem execStringRetry_keep {s t : State} {k : Fin 2} (h : Keep s t) : Keeps s (execStringRetry k t) := by
  unfold execStringRetry
  repeat' first
    | with_reducible assumption
    | with_reducible apply State.strTo_keep
    | with_reducible apply State.advanceTo_keep
    | with_reducible apply Keeps.next
    | split

theorem execStringFastTrip_keep {s t : State} {k : Fin 2} {i : Int} (h : Keep s t) : Keeps s (execStringFastTrip k i t) := by
  unfold execStringFastTrip
  repeat' first
    | with_reducible assumption
    | with_reducible apply State.strTrip_keep
    | with_reducible apply Keeps.next
    | split

theorem execStringOvertempTrip_keep {s t : State} {k : Fin 2} (h : Keep s t) : Keeps s (execStringOvertempTrip k t) := by
  unfold execStringOvertempTrip
  repeat' first
    | with_reducible assumption
    | with_reducible apply State.strTrip_keep
    | with_reducible apply Keeps.next
    | split

theorem execPackOvervoltage_keep {s t : State} {k : Fin 2} {v : Nat} {held : Nat} (h : Keep s t) :
    Keeps s (execPackOvervoltage k v held t) := by
  unfold execPackOvervoltage
  repeat' first
    | with_reducible assumption
    | with_reducible apply State.raise_keep
    | with_reducible apply State.onStrCh_keep
    | with_reducible apply Keeps.next
    | split

theorem execChargerTick_keep {s t : State} (h : Keep s t) : Keeps s (execChargerTick t) := by
  unfold execChargerTick
  repeat' first
    | with_reducible assumption
    | with_reducible apply State.chgJudge_keep
    | with_reducible apply State.each_keep
    | with_reducible apply State.chgTick_keep
    | with_reducible apply Keeps.next
    | with_reducible apply Keep.foldl
    | with_reducible (intro _ _)

theorem execPrechargeTimerExpiry_keep {s t : State} {k : Fin 2} (h : Keep s t) : Keeps s (execPrechargeTimerExpiry k t) := by
  unfold execPrechargeTimerExpiry
  repeat' first
    | with_reducible assumption
    | with_reducible apply State.chgLatch_keep
    | with_reducible apply State.onStrCh_keep
    | with_reducible apply Keeps.next
    | split

theorem execCccvTimerExpiry_keep {s t : State} {k : Fin 2} (h : Keep s t) : Keeps s (execCccvTimerExpiry k t) := by
  unfold execCccvTimerExpiry
  repeat' first
    | with_reducible assumption
    | with_reducible apply State.expire_keep
    | with_reducible apply State.onStrCh_keep
    | with_reducible apply Keeps.next
    | split

theorem execWallTimerExpiry_keep {s t : State} {k : Fin 2} (h : Keep s t) : Keeps s (execWallTimerExpiry k t) := by
  unfold execWallTimerExpiry
  repeat' first
    | with_reducible assumption
    | with_reducible apply State.chgLatch_keep
    | with_reducible apply State.onStrCh_keep
    | with_reducible apply Keeps.next
    | split

theorem execChargeResume_keep {s t : State} {k : Fin 2} (h : Keep s t) : Keeps s (execChargeResume k t) := by
  unfold execChargeResume
  repeat' first
    | with_reducible assumption
    | with_reducible apply State.onStrCh_keep
    | with_reducible apply Keeps.next
    | split

theorem execStringTestEnd_keep {s t : State} {k : Fin 2} {cause : Fin 4} (h : Keep s t) :
    Keeps s (execStringTestEnd k cause t) := by
  unfold execStringTestEnd
  dsimp only
  repeat' first
    | with_reducible assumption
    | with_reducible apply State.testDry_keep
    | with_reducible apply State.testEnd_keep
    | with_reducible apply State.advanceTo_keep
    | with_reducible apply Keeps.next
    | with_reducible apply Keep.foldl
    | with_reducible (intro _ _)
    | with_reducible intro _
    | split

theorem execStringControl_keep {s t : State} {o : Origin} {p : List Byte} (h : Keep s t) :
    Keeps s (execStringControl o p t) := by
  unfold execStringControl
  dsimp only
  repeat' first
    | with_reducible assumption
    | with_reducible apply State.run_keep
    | with_reducible apply State.selWait_keep
    | with_reducible apply Keeps.next
    | with_reducible apply Keep.foldl
    | with_reducible (intro _ _)

theorem execChgControl_keep {s t : State} {o : Origin} {p : List Byte} (h : Keep s t) : Keeps s (execChgControl o p t) := by
  unfold execChgControl
  dsimp only
  repeat' first
    | with_reducible assumption
    | with_reducible apply State.run_keep
    | with_reducible apply State.selWait_keep
    | with_reducible apply Keeps.next
    | with_reducible apply Keep.foldl
    | with_reducible (intro _ _)

theorem execStringTest_keep {s t : State} {o : Origin} {p : List Byte} (h : Keep s t) : Keeps s (execStringTest o p t) := by
  unfold execStringTest
  dsimp only
  repeat' first
    | with_reducible assumption
    | with_reducible apply State.run_keep
    | with_reducible apply State.selWait_keep
    | with_reducible apply Keeps.next
    | with_reducible apply Keep.foldl
    | with_reducible (intro _ _)

theorem execChgStatus_keep {s t : State} {o : Origin} {p : List Byte} (h : Keep s t) : Keeps s (execChgStatus o p t) := by
  unfold execChgStatus
  repeat' first
    | with_reducible assumption
    | with_reducible apply State.report_keep
    | with_reducible apply Keeps.next

theorem execGaugeUpdate_keep {s t : State} {k : Fin 2} (h : Keep s t) : Keeps s (execGaugeUpdate k t) := by
  unfold execGaugeUpdate
  repeat' first
    | with_reducible assumption
    | with_reducible apply State.gaugeUpdate_keep
    | with_reducible apply Keeps.next

theorem execGaugeStateSave_keep {s t : State} {k : Fin 2} (h : Keep s t) : Keeps s (execGaugeStateSave k t) := by
  unfold execGaugeStateSave
  repeat' first
    | with_reducible assumption
    | with_reducible apply State.advanceTo_keep
    | with_reducible apply State.gaugeSave_keep
    | with_reducible apply State.onGaugeCh_keep
    | with_reducible apply Keeps.next
    | split

theorem execVarnishRetry_keep {s t : State} (h : Keep s t) : Keeps s (execVarnishRetry t) := by
  unfold execVarnishRetry
  dsimp only
  repeat' first
    | with_reducible assumption
    | with_reducible apply State.advanceTo_keep
    | with_reducible apply State.each_keep
    | with_reducible apply State.vWrite_keep
    | with_reducible apply Keeps.next
    | with_reducible apply Keep.foldl
    | with_reducible (intro _ _)
    | with_reducible intro _
    | split

theorem execGaugeStatus_keep {s t : State} {o : Origin} {p : List Byte} (h : Keep s t) :
    Keeps s (execGaugeStatus o p t) := by
  unfold execGaugeStatus
  repeat' first
    | with_reducible assumption
    | with_reducible apply State.report_keep
    | with_reducible apply Keeps.next

theorem execGaugeReset_keep {s t : State} {o : Origin} {p : List Byte} (h : Keep s t) : Keeps s (execGaugeReset o p t) := by
  unfold execGaugeReset
  dsimp only
  repeat' first
    | with_reducible assumption
    | with_reducible apply State.run_keep
    | with_reducible apply State.selWait_keep
    | with_reducible apply Keeps.next
    | with_reducible apply Keep.foldl
    | with_reducible (intro _ _)

theorem execGaugeSetFcc_keep {s t : State} {o : Origin} {p : List Byte} (h : Keep s t) :
    Keeps s (execGaugeSetFcc o p t) := by
  unfold execGaugeSetFcc
  dsimp only
  repeat' first
    | with_reducible assumption
    | with_reducible apply State.run_keep
    | with_reducible apply State.selWait_keep
    | with_reducible apply Keeps.next
    | with_reducible apply Keep.foldl
    | with_reducible (intro _ _)

theorem execDomainInputReady_keep {s t : State} {k : Fin 16} (h : Keep s t) : Keeps s (execDomainInputReady k t) := by
  unfold execDomainInputReady
  repeat' first
    | with_reducible assumption
    | with_reducible apply State.domTo_keep
    | with_reducible apply State.advanceTo_keep
    | with_reducible apply Keeps.next
    | split

theorem execDomainInputLost_keep {s t : State} {k : Fin 16} (h : Keep s t) : Keeps s (execDomainInputLost k t) := by
  unfold execDomainInputLost
  repeat' first
    | with_reducible assumption
    | with_reducible apply State.domTo_keep
    | with_reducible apply State.raise_keep
    | with_reducible apply State.onDomCh_keep
    | with_reducible apply Keeps.next
    | split

theorem execDomainCheckDone_keep {s t : State} {k : Fin 16} {sws : List Nat} (h : Keep s t) :
    Keeps s (execDomainCheckDone k sws t) := by
  unfold execDomainCheckDone
  dsimp only
  repeat' first
    | with_reducible assumption
    | with_reducible apply State.advanceTo_keep
    | with_reducible apply State.domTo_keep
    | with_reducible apply State.raise_keep
    | with_reducible apply State.onDomCh_keep
    | with_reducible apply State.when_keep
    | with_reducible apply State.domNoPhase_keep
    | with_reducible apply State.softStart_keep
    | with_reducible apply Keeps.next
    | with_reducible apply Keep.foldl
    | with_reducible (intro _ _)
    | with_reducible intro _
    | with_reducible refine Keep.ofPair ‹_ = (_, _)› ?_
    | split

theorem execSoftStartDone_keep {s t : State} {k : Fin 16} (h : Keep s t) : Keeps s (execSoftStartDone k t) := by
  unfold execSoftStartDone
  dsimp only
  repeat' first
    | with_reducible assumption
    | with_reducible apply State.advanceTo_keep
    | with_reducible apply State.onDomCh_keep
    | with_reducible apply State.domTo_keep
    | with_reducible apply Keeps.next
    | split

theorem execDomainSsTimeout_keep {s t : State} {k : Fin 16} (h : Keep s t) : Keeps s (execDomainSsTimeout k t) := by
  unfold execDomainSsTimeout
  repeat' first
    | with_reducible assumption
    | with_reducible apply State.domTrip_keep
    | with_reducible apply State.advanceTo_keep
    | with_reducible apply Keeps.next
    | split

theorem execDomainOv_keep {s t : State} {k : Fin 16} {v : Nat} {held : Nat} (h : Keep s t) :
    Keeps s (execDomainOv k v held t) := by
  unfold execDomainOv
  repeat' first
    | with_reducible assumption
    | with_reducible apply State.domTripIf_keep
    | with_reducible apply Keeps.next
    | split

theorem execDomainUv_keep {s t : State} {k : Fin 16} {v : Nat} {held : Nat} (h : Keep s t) :
    Keeps s (execDomainUv k v held t) := by
  unfold execDomainUv
  repeat' first
    | with_reducible assumption
    | with_reducible apply State.seqEval_keep
    | with_reducible apply State.d0Window_keep
    | with_reducible apply State.raise_keep
    | with_reducible apply State.onDomCh_keep
    | with_reducible apply Keeps.next
    | split

theorem execRemoteSenseFault_keep {s t : State} {k : Fin 16} (h : Keep s t) : Keeps s (execRemoteSenseFault k t) := by
  unfold execRemoteSenseFault
  repeat' first
    | with_reducible assumption
    | with_reducible apply State.domTripIf_keep
    | with_reducible apply Keeps.next

theorem execDomainOcTrip_keep {s t : State} {k : Fin 16} (h : Keep s t) : Keeps s (execDomainOcTrip k t) := by
  unfold execDomainOcTrip
  repeat' first
    | with_reducible assumption
    | with_reducible apply State.domTripIf_keep
    | with_reducible apply State.advanceTo_keep
    | with_reducible apply Keeps.next
    | split

theorem execDomainRetry_keep {s t : State} {k : Fin 16} (h : Keep s t) : Keeps s (execDomainRetry k t) := by
  unfold execDomainRetry
  repeat' first
    | with_reducible assumption
    | with_reducible apply State.domTo_keep
    | with_reducible apply State.advanceTo_keep
    | with_reducible apply Keeps.next
    | split

theorem execReferenceArrived_keep {s t : State} {k : Fin 16} (h : Keep s t) : Keeps s (execReferenceArrived k t) := by
  unfold execReferenceArrived
  repeat' first
    | with_reducible assumption
    | with_reducible apply State.advanceTo_keep
    | with_reducible apply State.domJudge_keep
    | with_reducible apply State.onDomCh_keep
    | with_reducible apply Keeps.next
    | split

theorem execSoftStopDone_keep {s t : State} {k : Fin 16} (h : Keep s t) : Keeps s (execSoftStopDone k t) := by
  unfold execSoftStopDone
  repeat' first
    | with_reducible assumption
    | with_reducible apply State.domTo_keep
    | with_reducible apply State.advanceTo_keep
    | with_reducible apply Keeps.next
    | split

theorem execLoadRelease_keep {s t : State} {k : Fin 16} (h : Keep s t) : Keeps s (execLoadRelease k t) := by
  unfold execLoadRelease
  repeat' first
    | with_reducible assumption
    | with_reducible apply State.each_keep
    | with_reducible apply State.setPulse_keep
    | with_reducible apply State.onDomCh_keep
    | with_reducible apply Keeps.next
    | with_reducible apply Keep.foldl
    | with_reducible (intro _ _)
    | with_reducible intro _
    | with_reducible refine Keep.ofPair ‹_ = (_, _)› ?_
    | split

theorem execLoadReleaseEnd_keep {s t : State} {k : Fin 16} {atMax : Bool} (h : Keep s t) :
    Keeps s (execLoadReleaseEnd k atMax t) := by
  unfold execLoadReleaseEnd
  dsimp only
  repeat' first
    | with_reducible assumption
    | with_reducible apply State.onDomCh_keep
    | with_reducible apply State.raise_keep
    | with_reducible apply State.advanceTo_keep
    | with_reducible apply Keeps.next
    | split

theorem execPhaseFail_keep {s t : State} {k : Fin 16} {ph : Fin 32} (h : Keep s t) : Keeps s (execPhaseFail k ph t) := by
  unfold execPhaseFail
  dsimp only
  repeat' first
    | with_reducible assumption
    | with_reducible apply State.raise_keep
    | with_reducible apply State.onDomCh_keep
    | with_reducible apply State.domNoPhase_keep
    | with_reducible apply State.shedFloor_keep
    | with_reducible apply Keeps.next
    | split

theorem execSyncLost_keep {s t : State} (h : Keep s t) : Keeps s (execSyncLost t) := by
  unfold execSyncLost
  repeat' first
    | with_reducible assumption
    | with_reducible apply State.raise_keep
    | with_reducible apply State.onDom_keep
    | with_reducible apply State.syncStep_keep
    | with_reducible apply Keeps.next
    | split

theorem execSyncRelock_keep {s t : State} {period : Nat} {stable : Bool} (h : Keep s t) :
    Keeps s (execSyncRelock period stable t) := by
  unfold execSyncRelock
  repeat' first
    | with_reducible assumption
    | with_reducible apply State.onDom_keep
    | with_reducible apply State.syncStep_keep
    | with_reducible apply Keeps.next
    | split

theorem execDomControl_keep {s t : State} {o : Origin} {p : List Byte} (h : Keep s t) : Keeps s (execDomControl o p t) := by
  unfold execDomControl
  dsimp only
  repeat' first
    | with_reducible assumption
    | with_reducible apply State.run_keep
    | with_reducible apply State.selWait_keep
    | with_reducible apply State.judge_keep
    | with_reducible apply Keeps.next
    | with_reducible apply Keep.foldl
    | with_reducible (intro _ _)
    | with_reducible intro _
    | split

theorem execDomVout_keep {s t : State} {o : Origin} {p : List Byte} (h : Keep s t) : Keeps s (execDomVout o p t) := by
  unfold execDomVout
  dsimp only
  repeat' first
    | with_reducible assumption
    | with_reducible apply State.run_keep
    | with_reducible apply State.selWait_keep
    | with_reducible apply State.writeVout_keep
    | with_reducible apply Keeps.next
    | with_reducible apply Keep.foldl
    | with_reducible (intro _ _)

theorem execDomStatus_keep {s t : State} {o : Origin} {p : List Byte} (h : Keep s t) : Keeps s (execDomStatus o p t) := by
  unfold execDomStatus
  repeat' first
    | with_reducible assumption
    | with_reducible apply State.report_keep
    | with_reducible apply Keeps.next

theorem execPhaseStatus_keep {s t : State} {o : Origin} {p : List Byte} (h : Keep s t) :
    Keeps s (execPhaseStatus o p t) := by
  unfold execPhaseStatus
  repeat' first
    | with_reducible assumption
    | with_reducible apply State.report_keep
    | with_reducible apply Keeps.next

theorem execMeteringSlot_keep {s t : State} {n : Fin 24} (h : Keep s t) : Keeps s (execMeteringSlot n t) := by
  unfold execMeteringSlot
  repeat' first
    | with_reducible assumption
    | with_reducible apply State.portSlot_keep
    | with_reducible apply Keeps.next

theorem execPortWindowEnter_keep {s t : State} {n : Fin 24} (h : Keep s t) : Keeps s (execPortWindowEnter n t) := by
  unfold execPortWindowEnter
  repeat' first
    | with_reducible assumption
    | with_reducible apply State.portEnter_keep
    | with_reducible apply Keeps.next

theorem execPortWindowExit_keep {s t : State} {n : Fin 24} (h : Keep s t) : Keeps s (execPortWindowExit n t) := by
  unfold execPortWindowExit
  repeat' first
    | with_reducible assumption
    | with_reducible apply State.portExit_keep
    | with_reducible apply Keeps.next

theorem execPortInsertDone_keep {s t : State} {n : Fin 24} (h : Keep s t) : Keeps s (execPortInsertDone n t) := by
  unfold execPortInsertDone
  repeat' first
    | with_reducible assumption
    | with_reducible apply State.portTo_keep
    | with_reducible apply State.advanceTo_keep
    | with_reducible apply Keeps.next
    | split

theorem execPortCheckPass_keep {s t : State} {n : Fin 24} {v : Nat} (h : Keep s t) : Keeps s (execPortCheckPass n v t) := by
  unfold execPortCheckPass
  repeat' first
    | with_reducible assumption
    | with_reducible apply State.portTo_keep
    | with_reducible apply State.advanceTo_keep
    | with_reducible apply Keeps.next
    | split

theorem execPortSwitchShort_keep {s t : State} {n : Fin 24} {v : Nat} (h : Keep s t) :
    Keeps s (execPortSwitchShort n v t) := by
  unfold execPortSwitchShort
  repeat' first
    | with_reducible assumption
    | with_reducible apply State.onPortCh_keep
    | with_reducible apply State.advanceTo_keep
    | with_reducible apply State.portSave_keep
    | with_reducible apply State.portTo_keep
    | with_reducible apply State.raise_keep
    | with_reducible apply Keeps.next
    | split

theorem execPortInrushDone_keep {s t : State} {n : Fin 24} {v : Nat} (h : Keep s t) :
    Keeps s (execPortInrushDone n v t) := by
  unfold execPortInrushDone
  repeat' first
    | with_reducible assumption
    | with_reducible apply State.portTo_keep
    | with_reducible apply Keeps.next
    | split

theorem execPortSoaTrip_keep {s t : State} {n : Fin 24} (h : Keep s t) : Keeps s (execPortSoaTrip n t) := by
  unfold execPortSoaTrip
  repeat' first
    | with_reducible assumption
    | with_reducible apply State.portTrip_keep
    | with_reducible apply State.advanceTo_keep
    | with_reducible apply Keeps.next
    | split

theorem execPortFastTrip_keep {s t : State} {n : Fin 24} {uv : Nat} (h : Keep s t) : Keeps s (execPortFastTrip n uv t) := by
  unfold execPortFastTrip
  repeat' first
    | with_reducible assumption
    | with_reducible apply State.portTrip_keep
    | with_reducible apply Keeps.next
    | split

theorem execPortReverseCurrent_keep {s t : State} {n : Fin 24} {i : Int} {held : Nat} (h : Keep s t) :
    Keeps s (execPortReverseCurrent n i held t) := by
  unfold execPortReverseCurrent
  repeat' first
    | with_reducible assumption
    | with_reducible apply State.portTo_keep
    | with_reducible apply State.raise_keep
    | with_reducible apply Keeps.next
    | split

theorem execPortRetry_keep {s t : State} {n : Fin 24} (h : Keep s t) : Keeps s (execPortRetry n t) := by
  unfold execPortRetry
  repeat' first
    | with_reducible assumption
    | with_reducible apply State.portTo_keep
    | with_reducible apply State.advanceTo_keep
    | with_reducible apply Keeps.next
    | split

theorem execPortUnshed_keep {s t : State} (h : Keep s t) : Keeps s (execPortUnshed t) := by
  unfold execPortUnshed
  dsimp only
  repeat' first
    | with_reducible assumption
    | with_reducible apply State.advanceTo_keep
    | with_reducible apply State.onFeed_keep
    | with_reducible apply State.portTo_keep
    | with_reducible apply State.raise_keep
    | with_reducible apply Keeps.next
    | split

theorem execPortControl_keep {s t : State} {o : Origin} {p : List Byte} (h : Keep s t) :
    Keeps s (execPortControl o p t) := by
  unfold execPortControl
  dsimp only
  repeat' first
    | with_reducible assumption
    | with_reducible apply State.run_keep
    | with_reducible apply State.selWait_keep
    | with_reducible apply Keeps.next
    | with_reducible apply Keep.foldl
    | with_reducible (intro _ _)

theorem execPortStatus_keep {s t : State} {o : Origin} {p : List Byte} (h : Keep s t) : Keeps s (execPortStatus o p t) := by
  unfold execPortStatus
  repeat' first
    | with_reducible assumption
    | with_reducible apply State.report_keep
    | with_reducible apply Keeps.next

theorem execPortMeter_keep {s t : State} {o : Origin} {p : List Byte} (h : Keep s t) : Keeps s (execPortMeter o p t) := by
  unfold execPortMeter
  repeat' first
    | with_reducible assumption
    | with_reducible apply State.report_keep
    | with_reducible apply Keeps.next

theorem execLinkTrainSwitch_keep {s t : State} {p : Fin 3} (h : Keep s t) : Keeps s (execLinkTrainSwitch p t) := by
  unfold execLinkTrainSwitch
  dsimp only
  repeat' first
    | with_reducible assumption
    | with_reducible apply State.advanceTo_keep
    | with_reducible apply State.onPort_keep
    | with_reducible apply Keeps.next
    | split

theorem execLinkPortUp_keep {s t : State} {p : Fin 3} {valid : Nat} (h : Keep s t) : Keeps s (execLinkPortUp p valid t) := by
  unfold execLinkPortUp
  dsimp only
  repeat' first
    | with_reducible assumption
    | with_reducible apply State.onPort_keep
    | with_reducible apply State.raise_keep
    | with_reducible apply State.retrain_keep
    | with_reducible apply State.flood_keep
    | with_reducible apply Keeps.next
    | split

theorem execLinkPortDown_keep {s t : State} {p : Fin 3} {quiet : Nat} {errs : Nat} (h : Keep s t) :
    Keeps s (execLinkPortDown p quiet errs t) := by
  unfold execLinkPortDown
  dsimp only
  repeat' first
    | with_reducible assumption
    | with_reducible apply State.onPort_keep
    | with_reducible apply State.raise_keep
    | with_reducible apply State.onLink_keep
    | with_reducible apply State.wrap_keep
    | with_reducible apply State.flood_keep
    | with_reducible apply Keeps.next
    | split

theorem execShareFrame_keep {s t : State} {p : Fin 3} {t' : Nat} {f : List Byte} (h : Keep s t) :
    Keeps s (execShareFrame p t' f t) := by
  unfold execShareFrame
  repeat' first
    | with_reducible assumption
    | with_reducible apply State.shareIn_keep
    | with_reducible apply Keeps.next

theorem execShareFrameReturn_keep {s t : State} {p : Fin 3} {loopNs : Nat} {f : List Byte} (h : Keep s t) :
    Keeps s (execShareFrameReturn p loopNs f t) := by
  unfold execShareFrameReturn
  repeat' first
    | with_reducible assumption
    | with_reducible apply State.rootBranch_keep
    | with_reducible apply State.advanceTo_keep
    | with_reducible apply Keeps.next
    | split

theorem execDecisionFrame_keep {s t : State} {p : Fin 3} {t' : Nat} {f : List Byte} (h : Keep s t) :
    Keeps s (execDecisionFrame p t' f t) := by
  unfold execDecisionFrame
  dsimp only
  repeat' first
    | with_reducible assumption
    | with_reducible apply State.advanceTo_keep
    | with_reducible apply State.sendOn_keep
    | with_reducible apply State.raise_keep
    | with_reducible apply State.onLink_keep
    | with_reducible apply State.onPal_keep
    | with_reducible apply Keeps.next
    | split

theorem execSharePeriodMissed_keep {s t : State} (h : Keep s t) : Keeps s (execSharePeriodMissed t) := by
  unfold execSharePeriodMissed
  dsimp only
  repeat' first
    | with_reducible assumption
    | with_reducible apply State.onLink_keep
    | with_reducible apply State.raise_keep
    | with_reducible apply State.toRole_keep
    | with_reducible apply Keeps.next
    | split

theorem execRootElection_keep {s t : State} (h : Keep s t) : Keeps s (execRootElection t) := by
  unfold execRootElection
  dsimp only
  repeat' first
    | with_reducible assumption
    | with_reducible apply State.onLink_keep
    | with_reducible apply State.becomeRoot_keep
    | with_reducible apply State.flood_keep
    | with_reducible apply Keeps.next
    | split

theorem execFaultEvent_keep {s t : State} {p : Fin 3} {f : List Byte} (h : Keep s t) : Keeps s (execFaultEvent p f t) := by
  unfold execFaultEvent
  repeat' first
    | with_reducible assumption
    | with_reducible apply State.eventIn_keep
    | with_reducible apply State.linkEntry_keep
    | with_reducible apply Keeps.next
    | with_reducible apply Keep.foldl
    | with_reducible (intro _ _)

theorem execDropEvent_keep {s t : State} {p : Fin 3} {f : List Byte} (h : Keep s t) : Keeps s (execDropEvent p f t) := by
  unfold execDropEvent
  dsimp only
  repeat' first
    | with_reducible assumption
    | with_reducible apply State.eventIn_keep
    | with_reducible apply State.linkEntry_keep
    | with_reducible apply State.onLink_keep
    | with_reducible apply Keeps.next
    | with_reducible apply Keep.foldl
    | with_reducible (intro _ _)
    | with_reducible intro _

theorem execDropClearEvent_keep {s t : State} {p : Fin 3} {f : List Byte} (h : Keep s t) :
    Keeps s (execDropClearEvent p f t) := by
  unfold execDropClearEvent
  repeat' first
    | with_reducible assumption
    | with_reducible apply State.eventIn_keep
    | with_reducible apply State.onLink_keep
    | with_reducible apply Keeps.next
    | with_reducible apply Keep.foldl
    | with_reducible (intro _ _)

theorem execBreakEvent_keep {s t : State} {p : Fin 3} {f : List Byte} (h : Keep s t) : Keeps s (execBreakEvent p f t) := by
  unfold execBreakEvent
  repeat' first
    | with_reducible assumption
    | with_reducible apply State.eventIn_keep
    | with_reducible apply State.wrap_keep
    | with_reducible apply State.onLink_keep
    | with_reducible apply State.linkEntry_keep
    | with_reducible apply Keeps.next
    | with_reducible apply Keep.foldl
    | with_reducible (intro _ _)
    | with_reducible intro _

theorem execRootClaim_keep {s t : State} {p : Fin 3} {f : List Byte} (h : Keep s t) : Keeps s (execRootClaim p f t) := by
  unfold execRootClaim
  dsimp only
  repeat' first
    | with_reducible assumption
    | with_reducible apply State.onLink_keep
    | with_reducible apply State.sendOn_keep
    | with_reducible apply State.flood_keep
    | with_reducible apply Keeps.next
    | split

theorem execGen1Event_keep {s t : State} {p : Fin 3} {f : List Byte} (h : Keep s t) : Keeps s (execGen1Event p f t) := by
  unfold execGen1Event
  repeat' first
    | with_reducible assumption
    | with_reducible apply State.eventIn_keep
    | with_reducible apply State.raise_keep
    | with_reducible apply State.retrain_keep
    | with_reducible apply Keeps.next
    | with_reducible apply Keep.foldl
    | with_reducible (intro _ _)
    | with_reducible intro _
    | with_reducible refine Keep.ofPair ‹_ = (_, _)› ?_
    | split

theorem execIdent_keep {s t : State} {p : Fin 3} {f : List Byte} {roundNs : Nat} {upNs : Nat} (h : Keep s t) :
    Keeps s (execIdent p f roundNs upNs t) := by
  unfold execIdent
  dsimp only
  repeat' first
    | with_reducible assumption
    | with_reducible apply State.onLink_keep
    | with_reducible apply State.onPort_keep
    | with_reducible apply Keeps.next
    | split

theorem execRingRestore_keep {s t : State} (h : Keep s t) : Keeps s (execRingRestore t) := by
  unfold execRingRestore
  repeat' first
    | with_reducible assumption
    | with_reducible apply State.onLink_keep
    | with_reducible apply Keeps.next
    | with_reducible apply Keep.foldl
    | with_reducible (intro _ _)
    | with_reducible intro _
    | with_reducible refine Keep.ofPair ‹_ = (_, _)› ?_
    | split

theorem execLinkStatus_keep {s t : State} {o : Origin} {p : List Byte} (h : Keep s t) : Keeps s (execLinkStatus o p t) := by
  unfold execLinkStatus
  repeat' first
    | with_reducible assumption
    | with_reducible apply State.report_keep
    | with_reducible apply Keeps.next

theorem execNodeTable_keep {s t : State} {o : Origin} {p : List Byte} (h : Keep s t) : Keeps s (execNodeTable o p t) := by
  unfold execNodeTable
  repeat' first
    | with_reducible assumption
    | with_reducible apply State.report_keep
    | with_reducible apply Keeps.next

theorem execEnumerate_keep {s t : State} {o : Origin} {p : List Byte} (h : Keep s t) : Keeps s (execEnumerate o p t) := by
  unfold execEnumerate
  repeat' first
    | with_reducible assumption
    | with_reducible apply State.run_keep
    | with_reducible apply State.enumerate_keep
    | with_reducible apply Keeps.next
    | with_reducible apply Keep.foldl
    | with_reducible (intro _ _)

theorem execCapStatus_keep {s t : State} {o : Origin} {p : List Byte} (h : Keep s t) : Keeps s (execCapStatus o p t) := by
  unfold execCapStatus
  repeat' first
    | with_reducible assumption
    | with_reducible apply State.report_keep
    | with_reducible apply Keeps.next

theorem execCcDebounceDone_keep {s t : State} {k : Fin 2} (h : Keep s t) : Keeps s (execCcDebounceDone k t) := by
  unfold execCcDebounceDone
  dsimp only
  repeat' first
    | with_reducible assumption
    | with_reducible apply State.pdEv_keep
    | with_reducible apply State.pdTime_keep
    | with_reducible apply State.pdTo_keep
    | with_reducible apply State.pdAttach_keep
    | with_reducible apply Keeps.next
    | with_reducible apply Keep.foldl
    | with_reducible (intro _ _)
    | with_reducible intro _
    | split

theorem execPdDebounceDone_keep {s t : State} {k : Fin 2} (h : Keep s t) : Keeps s (execPdDebounceDone k t) := by
  unfold execPdDebounceDone
  dsimp only
  repeat' first
    | with_reducible assumption
    | with_reducible apply State.pdEv_keep
    | with_reducible apply State.pdTime_keep
    | with_reducible apply State.pdAttach_keep
    | with_reducible apply State.pdTo_keep
    | with_reducible apply State.pdDetach_keep
    | with_reducible apply Keeps.next
    | with_reducible apply Keep.foldl
    | with_reducible (intro _ _)
    | with_reducible intro _
    | split

theorem execDrpToggle_keep {s t : State} {k : Fin 2} (h : Keep s t) : Keeps s (execDrpToggle k t) := by
  unfold execDrpToggle
  dsimp only
  repeat' first
    | with_reducible assumption
    | with_reducible apply State.pdEv_keep
    | with_reducible apply State.pdTo_keep
    | with_reducible apply State.advanceTo_keep
    | with_reducible apply Keeps.next
    | with_reducible apply Keep.foldl
    | with_reducible (intro _ _)
    | with_reducible intro _
    | split

theorem execErrorRecoveryDone_keep {s t : State} {k : Fin 2} (h : Keep s t) : Keeps s (execErrorRecoveryDone k t) := by
  unfold execErrorRecoveryDone
  repeat' first
    | with_reducible assumption
    | with_reducible apply State.pdEv_keep
    | with_reducible apply State.errRecDone_keep
    | with_reducible apply State.pdTime_keep
    | with_reducible apply Keeps.next
    | with_reducible apply Keep.foldl
    | with_reducible (intro _ _)

theorem execPdDetach_keep {s t : State} {k : Fin 2} {v : Option Nat} {held : Nat} (h : Keep s t) :
    Keeps s (execPdDetach k v held t) := by
  unfold execPdDetach
  repeat' first
    | with_reducible assumption
    | with_reducible exact Keep.refl _
    | with_reducible refine Keep.ofPair ‹_ = (_, _)› ?_
    | with_reducible apply Keeps.next
    | with_reducible refine Keep.ite ?_ ?_
    | with_reducible refine Keep.ite2 ?_ ?_
    | (with_reducible refine fun _ => ?_; try beta_reduce)
    | (extract_lets +onlyGivenNames x; clear_value x)
    | with_reducible apply State.pdEv_keep
    | with_reducible apply State.pdDetach_keep

theorem execPdMessageReceived_keep {s t : State} {k : Fin 2} {sop : Fin 3} {header : Nat} {data : List Byte} (h : Keep s t) :
    Keeps s (execPdMessageReceived k sop header data t) := by
  unfold execPdMessageReceived
  dsimp only
  repeat' first
    | with_reducible assumption
    | with_reducible apply State.pdEv_keep
    | with_reducible apply State.pdAck_keep
    | with_reducible apply State.pdReceive_keep
    | with_reducible apply Keeps.next
    | with_reducible apply Keep.foldl
    | with_reducible (intro _ _)
    | with_reducible intro _
    | split

theorem execCrcReceiveTimeout_keep {s t : State} {k : Fin 2} (h : Keep s t) : Keeps s (execCrcReceiveTimeout k t) := by
  unfold execCrcReceiveTimeout
  dsimp only
  repeat' first
    | with_reducible assumption
    | with_reducible apply State.pdEv_keep
    | with_reducible apply State.pdTime_keep
    | with_reducible apply State.pdFire_keep
    | with_reducible apply State.pdDone_keep
    | with_reducible apply Keeps.next
    | with_reducible apply Keep.foldl
    | with_reducible (intro _ _)
    | with_reducible intro _
    | split

theorem execSinkTxWaitDone_keep {s t : State} {k : Fin 2} (h : Keep s t) : Keeps s (execSinkTxWaitDone k t) := by
  unfold execSinkTxWaitDone
  repeat' first
    | with_reducible assumption
    | with_reducible apply State.pdEv_keep
    | with_reducible apply State.pdFire_keep
    | with_reducible apply State.pdTime_keep
    | with_reducible apply Keeps.next
    | with_reducible apply Keep.foldl
    | with_reducible (intro _ _)
    | with_reducible intro _
    | with_reducible refine Keep.ofPair ‹_ = (_, _)› ?_
    | split

theorem execAmsTimeout_keep {s t : State} {k : Fin 2} (h : Keep s t) : Keeps s (execAmsTimeout k t) := by
  unfold execAmsTimeout
  dsimp only
  repeat' first
    | with_reducible assumption
    | with_reducible apply State.pdEv_keep
    | with_reducible apply State.amsOver_keep
    | with_reducible apply State.pdTime_keep
    | with_reducible apply State.pdDone_keep
    | with_reducible apply Keeps.next
    | with_reducible apply Keep.foldl
    | with_reducible (intro _ _)
    | with_reducible intro _
    | split

theorem execSenderResponseExpiry_keep {s t : State} {k : Fin 2} (h : Keep s t) : Keeps s (execSenderResponseExpiry k t) := by
  unfold execSenderResponseExpiry
  dsimp only
  repeat' first
    | with_reducible assumption
    | with_reducible apply State.pdEv_keep
    | with_reducible apply State.pdTime_keep
    | with_reducible apply State.pdNoAnswer_keep
    | with_reducible apply State.onPdCh_keep
    | with_reducible apply Keeps.next
    | with_reducible apply Keep.foldl
    | with_reducible (intro _ _)
    | with_reducible intro _
    | split

theorem execPsTransitionExpiry_keep {s t : State} {k : Fin 2} (h : Keep s t) : Keeps s (execPsTransitionExpiry k t) := by
  unfold execPsTransitionExpiry
  dsimp only
  repeat' first
    | with_reducible assumption
    | with_reducible apply State.pdEv_keep
    | with_reducible apply State.pdTime_keep
    | with_reducible apply State.pdPhaseOut_keep
    | with_reducible apply State.raise_keep
    | with_reducible apply Keeps.next
    | with_reducible apply Keep.foldl
    | with_reducible (intro _ _)
    | with_reducible intro _
    | split

theorem execPsSourceTimeout_keep {s t : State} {k : Fin 2} (h : Keep s t) : Keeps s (execPsSourceTimeout k t) := by
  unfold execPsSourceTimeout
  dsimp only
  repeat' first
    | with_reducible assumption
    | with_reducible apply State.pdEv_keep
    | with_reducible apply State.pdTime_keep
    | with_reducible apply State.pdReply_keep
    | with_reducible apply State.pdNote_keep
    | with_reducible apply State.onPdCh_keep
    | with_reducible apply State.pdPhaseOut_keep
    | with_reducible apply Keeps.next
    | with_reducible apply Keep.foldl
    | with_reducible (intro _ _)
    | with_reducible intro _
    | split

theorem execHardResetReceived_keep {s t : State} {k : Fin 2} (h : Keep s t) : Keeps s (execHardResetReceived k t) := by
  unfold execHardResetReceived
  dsimp only
  repeat' first
    | with_reducible assumption
    | with_reducible apply State.pdEv_keep
    | with_reducible apply State.pdHardReset_keep
    | with_reducible apply Keeps.next
    | with_reducible apply Keep.foldl
    | with_reducible (intro _ _)
    | with_reducible intro _
    | split

theorem execPsHardResetDone_keep {s t : State} {k : Fin 2} (h : Keep s t) : Keeps s (execPsHardResetDone k t) := by
  unfold execPsHardResetDone
  dsimp only
  repeat' first
    | with_reducible assumption
    | with_reducible apply State.pdEv_keep
    | with_reducible apply State.pdTime_keep
    | with_reducible apply State.onPdCh_keep
    | with_reducible apply State.pdSlew_keep
    | with_reducible apply Keeps.next
    | with_reducible apply Keep.foldl
    | with_reducible (intro _ _)
    | with_reducible intro _
    | split

theorem execSafe0vTimeout_keep {s t : State} {k : Fin 2} (h : Keep s t) : Keeps s (execSafe0vTimeout k t) := by
  unfold execSafe0vTimeout
  dsimp only
  repeat' first
    | with_reducible assumption
    | with_reducible apply State.pdEv_keep
    | with_reducible apply State.raise_keep
    | with_reducible apply State.pdTime_keep
    | with_reducible apply Keeps.next
    | with_reducible apply Keep.foldl
    | with_reducible (intro _ _)
    | with_reducible intro _
    | split

theorem execSrcRecoverDone_keep {s t : State} {k : Fin 2} (h : Keep s t) : Keeps s (execSrcRecoverDone k t) := by
  unfold execSrcRecoverDone
  dsimp only
  repeat' first
    | with_reducible assumption
    | with_reducible apply State.pdEv_keep
    | with_reducible apply State.pdTime_keep
    | with_reducible apply State.onPdCh_keep
    | with_reducible apply State.pdSlew_keep
    | with_reducible apply Keeps.next
    | with_reducible apply Keep.foldl
    | with_reducible (intro _ _)
    | with_reducible intro _
    | split

theorem execSinkHardResetWaitEnd_keep {s t : State} {k : Fin 2} (h : Keep s t) : Keeps s (execSinkHardResetWaitEnd k t) := by
  unfold execSinkHardResetWaitEnd
  dsimp only
  repeat' first
    | with_reducible assumption
    | with_reducible apply State.pdEv_keep
    | with_reducible apply State.pdDetach_keep
    | with_reducible apply State.pdTime_keep
    | with_reducible apply Keeps.next
    | with_reducible apply Keep.foldl
    | with_reducible (intro _ _)
    | with_reducible intro _
    | split

theorem execSrcTransitionDone_keep {s t : State} {k : Fin 2} (h : Keep s t) : Keeps s (execSrcTransitionDone k t) := by
  unfold execSrcTransitionDone
  dsimp only
  repeat' first
    | with_reducible assumption
    | with_reducible apply State.pdEv_keep
    | with_reducible apply State.pdTime_keep
    | with_reducible apply State.onPdCh_keep
    | with_reducible apply State.pdSlew_keep
    | with_reducible apply Keeps.next
    | with_reducible apply Keep.foldl
    | with_reducible (intro _ _)
    | with_reducible intro _
    | split

theorem execSourceChangeDone_keep {s t : State} {k : Fin 2} {v : Nat} {held : Nat} (h : Keep s t) :
    Keeps s (execSourceChangeDone k v held t) := by
  unfold execSourceChangeDone
  dsimp only
  repeat' first
    | with_reducible assumption
    | with_reducible apply State.pdEv_keep
    | with_reducible apply State.pdComplete_keep
    | with_reducible apply State.pdOwn_keep
    | with_reducible apply Keeps.next
    | with_reducible apply Keep.foldl
    | with_reducible (intro _ _)
    | with_reducible intro _
    | split

theorem execSrcSettleTimeout_keep {s t : State} {k : Fin 2} (h : Keep s t) : Keeps s (execSrcSettleTimeout k t) := by
  unfold execSrcSettleTimeout
  dsimp only
  repeat' first
    | with_reducible assumption
    | with_reducible apply State.pdEv_keep
    | with_reducible apply State.pdEscalate_keep
    | with_reducible apply State.pdNote_keep
    | with_reducible apply State.raise_keep
    | with_reducible apply State.pdTime_keep
    | with_reducible apply Keeps.next
    | with_reducible apply Keep.foldl
    | with_reducible (intro _ _)
    | with_reducible intro _
    | split

theorem execFrsSignalReceived_keep {s t : State} {k : Fin 2} {low : Nat} (h : Keep s t) :
    Keeps s (execFrsSignalReceived k low t) := by
  unfold execFrsSignalReceived
  dsimp only
  repeat' first
    | with_reducible assumption
    | with_reducible apply State.pdEv_keep
    | with_reducible apply State.raise_keep
    | with_reducible apply State.onPdCh_keep
    | with_reducible apply Keeps.next
    | with_reducible apply Keep.foldl
    | with_reducible (intro _ _)
    | with_reducible intro _
    | split

theorem execFrsVbusDrop_keep {s t : State} {k : Fin 2} {v : Nat} (h : Keep s t) : Keeps s (execFrsVbusDrop k v t) := by
  unfold execFrsVbusDrop
  dsimp only
  repeat' first
    | with_reducible assumption
    | with_reducible apply State.pdEv_keep
    | with_reducible apply State.pdNote_keep
    | with_reducible apply State.onPdCh_keep
    | with_reducible apply Keeps.next
    | with_reducible apply Keep.foldl
    | with_reducible (intro _ _)
    | with_reducible intro _
    | split

theorem execSourceLimitRestored_keep {s t : State} {k : Fin 2} (h : Keep s t) : Keeps s (execSourceLimitRestored k t) := by
  unfold execSourceLimitRestored
  dsimp only
  repeat' first
    | with_reducible assumption
    | with_reducible apply State.pdEv_keep
    | with_reducible apply State.errRecDone_keep
    | with_reducible apply State.onPdCh_keep
    | with_reducible apply State.pdTime_keep
    | with_reducible apply Keeps.next
    | with_reducible apply Keep.foldl
    | with_reducible (intro _ _)
    | with_reducible intro _
    | split

theorem execPdSrcOv_keep {s t : State} {k : Fin 2} {v : Nat} (h : Keep s t) : Keeps s (execPdSrcOv k v t) := by
  unfold execPdSrcOv
  dsimp only
  repeat' first
    | with_reducible assumption
    | with_reducible apply State.pdEv_keep
    | with_reducible apply State.raise_keep
    | with_reducible apply State.pdErrRec_keep
    | with_reducible apply Keeps.next
    | with_reducible apply Keep.foldl
    | with_reducible (intro _ _)
    | with_reducible intro _
    | split

theorem execPdSrcOc_keep {s t : State} {k : Fin 2} {i : Nat} {held : Nat} (h : Keep s t) :
    Keeps s (execPdSrcOc k i held t) := by
  unfold execPdSrcOc
  dsimp only
  repeat' first
    | with_reducible assumption
    | with_reducible apply State.pdEv_keep
    | with_reducible apply State.raise_keep
    | with_reducible apply State.pdErrRec_keep
    | with_reducible apply Keeps.next
    | with_reducible apply Keep.foldl
    | with_reducible (intro _ _)
    | with_reducible intro _
    | split

theorem execPdSinkOv_keep {s t : State} {k : Fin 2} {v : Nat} (h : Keep s t) : Keeps s (execPdSinkOv k v t) := by
  unfold execPdSinkOv
  dsimp only
  repeat' first
    | with_reducible assumption
    | with_reducible apply State.pdEv_keep
    | with_reducible apply State.raise_keep
    | with_reducible apply State.onPdCh_keep
    | with_reducible apply Keeps.next
    | with_reducible apply Keep.foldl
    | with_reducible (intro _ _)
    | with_reducible intro _
    | split

theorem execCcOv_keep {s t : State} {k : Fin 2} {v : Nat} (h : Keep s t) : Keeps s (execCcOv k v t) := by
  unfold execCcOv
  repeat' first
    | with_reducible assumption
    | with_reducible apply State.pdEv_keep
    | with_reducible apply State.raise_keep
    | with_reducible apply State.onPdCh_keep
    | with_reducible apply State.pdErrRec_keep
    | with_reducible apply Keeps.next
    | with_reducible apply Keep.foldl
    | with_reducible (intro _ _)
    | with_reducible intro _
    | with_reducible refine Keep.ofPair ‹_ = (_, _)› ?_
    | split

theorem execVconnOc_keep {s t : State} {k : Fin 2} {i : Nat} {held : Nat} (h : Keep s t) :
    Keeps s (execVconnOc k i held t) := by
  unfold execVconnOc
  repeat' first
    | with_reducible assumption
    | with_reducible apply State.pdEv_keep
    | with_reducible apply State.raise_keep
    | with_reducible apply State.onPdCh_keep
    | with_reducible apply Keeps.next
    | with_reducible apply Keep.foldl
    | with_reducible (intro _ _)
    | with_reducible intro _
    | with_reducible refine Keep.ofPair ‹_ = (_, _)› ?_
    | split

theorem execPdControl_keep {s t : State} {o : Origin} {p : List Byte} (h : Keep s t) : Keeps s (execPdControl o p t) := by
  unfold execPdControl
  dsimp only
  repeat' first
    | with_reducible assumption
    | with_reducible apply State.run_keep
    | with_reducible apply State.pdIdle_keep
    | with_reducible apply State.await_keep
    | with_reducible apply State.onPdCh_keep
    | with_reducible apply Keeps.next
    | with_reducible apply Keep.foldl
    | with_reducible (intro _ _)

theorem execPdTx_keep {s t : State} {o : Origin} {p : List Byte} (h : Keep s t) : Keeps s (execPdTx o p t) := by
  unfold execPdTx
  dsimp only
  repeat' first
    | with_reducible assumption
    | with_reducible apply State.run_keep
    | with_reducible apply State.pdIdle_keep
    | with_reducible apply State.await_keep
    | with_reducible apply State.onPdCh_keep
    | with_reducible apply Keeps.next
    | with_reducible apply Keep.foldl
    | with_reducible (intro _ _)

theorem execPdEvent_keep {s t : State} {o : Origin} {p : List Byte} (h : Keep s t) : Keeps s (execPdEvent o p t) := by
  unfold execPdEvent
  dsimp only
  repeat' first
    | with_reducible assumption
    | with_reducible apply State.run_keep
    | with_reducible apply State.pdDrain_keep
    | with_reducible apply State.onPdCh_keep
    | with_reducible apply Keeps.next
    | with_reducible apply Keep.foldl
    | with_reducible (intro _ _)

theorem execPdPower_keep {s t : State} {o : Origin} {p : List Byte} (h : Keep s t) : Keeps s (execPdPower o p t) := by
  unfold execPdPower
  dsimp only
  repeat' first
    | with_reducible assumption
    | with_reducible apply State.run_keep
    | with_reducible apply State.pdArm_keep
    | with_reducible apply State.pdComplete_keep
    | with_reducible apply State.onPdCh_keep
    | with_reducible apply Keeps.next
    | with_reducible apply Keep.foldl
    | with_reducible (intro _ _)
    | with_reducible intro _
    | split

theorem execPdSwap_keep {s t : State} {o : Origin} {p : List Byte} (h : Keep s t) : Keeps s (execPdSwap o p t) := by
  unfold execPdSwap
  dsimp only
  repeat' first
    | with_reducible assumption
    | with_reducible apply State.run_keep
    | with_reducible apply State.pdArm_keep
    | with_reducible apply Keeps.next
    | with_reducible apply Keep.foldl
    | with_reducible (intro _ _)

theorem execPdStatus_keep {s t : State} {o : Origin} {p : List Byte} (h : Keep s t) : Keeps s (execPdStatus o p t) := by
  unfold execPdStatus
  repeat' first
    | with_reducible assumption
    | with_reducible apply State.report_keep
    | with_reducible apply Keeps.next

theorem execSeqStepSettled_keep {s t : State} (h : Keep s t) : Keeps s (execSeqStepSettled t) := by
  unfold execSeqStepSettled
  repeat' first
    | with_reducible assumption
    | with_reducible apply State.seqDelay_keep
    | with_reducible apply State.advanceTo_keep
    | with_reducible apply Keeps.next
    | split

theorem execSeqStepTimeout_keep {s t : State} (h : Keep s t) : Keeps s (execSeqStepTimeout t) := by
  unfold execSeqStepTimeout
  repeat' first
    | with_reducible assumption
    | with_reducible apply State.seqFail_keep
    | with_reducible apply State.advanceTo_keep
    | with_reducible apply Keeps.next
    | split

theorem execSeqDelayDone_keep {s t : State} (h : Keep s t) : Keeps s (execSeqDelayDone t) := by
  unfold execSeqDelayDone
  repeat' first
    | with_reducible assumption
    | with_reducible apply State.seqNext_keep
    | with_reducible apply State.advanceTo_keep
    | with_reducible apply Keeps.next
    | split

theorem execSeqChatter_keep {s t : State} (h : Keep s t) : Keeps s (execSeqChatter t) := by
  unfold execSeqChatter
  repeat' first
    | with_reducible assumption
    | with_reducible apply State.seqFail_keep
    | with_reducible apply State.onSeq_keep
    | with_reducible apply Keeps.next
    | split

theorem execSeqMemberLost_keep {s t : State} {j : Fin 32} (h : Keep s t) : Keeps s (execSeqMemberLost j t) := by
  unfold execSeqMemberLost
  dsimp only
  repeat' first
    | with_reducible assumption
    | with_reducible apply State.raise_keep
    | with_reducible apply State.onSeq_keep
    | with_reducible apply Keeps.next
    | split

theorem execSeqInChange_keep {s t : State} {level : Bool} {held : Nat} (h : Keep s t) :
    Keeps s (execSeqInChange level held t) := by
  unfold execSeqInChange
  dsimp only
  repeat' first
    | with_reducible assumption
    | with_reducible apply State.pinEdge_keep
    | with_reducible apply State.seqEval_keep
    | with_reducible apply State.onSeq_keep
    | with_reducible apply Keeps.next
    | split

theorem execSeqFltSensed_keep {s t : State} {low : Nat} (h : Keep s t) : Keeps s (execSeqFltSensed low t) := by
  unfold execSeqFltSensed
  dsimp only
  repeat' first
    | with_reducible assumption
    | with_reducible apply State.pinEdge_keep
    | with_reducible apply State.onSeq_keep
    | with_reducible apply State.raise_keep
    | with_reducible apply Keeps.next
    | split

theorem execEmWindowExit_keep {s t : State} {m : Fin 16} (h : Keep s t) : Keeps s (execEmWindowExit m t) := by
  unfold execEmWindowExit
  dsimp only
  repeat' first
    | with_reducible assumption
    | with_reducible apply State.onSeq_keep
    | with_reducible apply State.raise_keep
    | with_reducible apply State.seqEval_keep
    | with_reducible apply State.fltAssert_keep
    | with_reducible apply Keeps.next
    | split

theorem execEmWindowEnter_keep {s t : State} {m : Fin 16} (h : Keep s t) : Keeps s (execEmWindowEnter m t) := by
  unfold execEmWindowEnter
  repeat' first
    | with_reducible assumption
    | with_reducible apply State.seqEval_keep
    | with_reducible apply State.onSeq_keep
    | with_reducible apply Keeps.next
    | split

theorem execWdiEdge_keep {s t : State} {t' : Nat} (h : Keep s t) : Keeps s (execWdiEdge t' t) := by
  unfold execWdiEdge
  dsimp only
  repeat' first
    | with_reducible assumption
    | with_reducible apply State.pinEdge_keep
    | with_reducible apply State.advanceTo_keep
    | with_reducible apply State.wdExpire_keep
    | with_reducible apply State.onSeq_keep
    | with_reducible apply Keeps.next
    | split

theorem execWdiExpiry_keep {s t : State} (h : Keep s t) : Keeps s (execWdiExpiry t) := by
  unfold execWdiExpiry
  repeat' first
    | with_reducible assumption
    | with_reducible apply State.wdExpire_keep
    | with_reducible apply State.advanceTo_keep
    | with_reducible apply Keeps.next
    | split

theorem execRstPulseEnd_keep {s t : State} (h : Keep s t) : Keeps s (execRstPulseEnd t) := by
  unfold execRstPulseEnd
  repeat' first
    | with_reducible assumption
    | with_reducible apply State.wdTick_keep
    | with_reducible apply State.onSeq_keep
    | with_reducible apply State.advanceTo_keep
    | with_reducible apply Keeps.next
    | split

theorem execSeqStart_keep {s t : State} {o : Origin} {p : List Byte} (h : Keep s t) : Keeps s (execSeqStart o p t) := by
  unfold execSeqStart
  dsimp only
  repeat' first
    | with_reducible assumption
    | with_reducible apply State.run_keep
    | with_reducible apply State.awaitSel_keep
    | with_reducible apply Keeps.next
    | with_reducible apply Keep.foldl
    | with_reducible (intro _ _)

theorem execSeqControl_keep {s t : State} {o : Origin} {p : List Byte} (h : Keep s t) : Keeps s (execSeqControl o p t) := by
  unfold execSeqControl
  dsimp only
  repeat' first
    | with_reducible assumption
    | with_reducible apply State.run_keep
    | with_reducible apply State.awaitSel_keep
    | with_reducible apply Keeps.next
    | with_reducible apply Keep.foldl
    | with_reducible (intro _ _)

theorem execSeqStatus_keep {s t : State} {o : Origin} {p : List Byte} (h : Keep s t) : Keeps s (execSeqStatus o p t) := by
  unfold execSeqStatus
  repeat' first
    | with_reducible assumption
    | with_reducible apply State.report_keep
    | with_reducible apply Keeps.next

theorem execEmStatus_keep {s t : State} {o : Origin} {p : List Byte} (h : Keep s t) : Keeps s (execEmStatus o p t) := by
  unfold execEmStatus
  repeat' first
    | with_reducible assumption
    | with_reducible apply State.run_keep
    | with_reducible apply State.onSeq_keep
    | with_reducible apply Keeps.next
    | with_reducible apply Keep.foldl
    | with_reducible (intro _ _)

theorem execAdcConversion_keep {s t : State} {k : Fin 10} {v : Int} {spares : List Int} {drained : Bool} (h : Keep s t) :
    Keeps s (execAdcConversion k v spares drained t) := by
  unfold execAdcConversion
  dsimp only
  repeat' first
    | with_reducible assumption
    | with_reducible apply State.advanceTo_keep
    | with_reducible apply State.convert_keep
    | with_reducible apply Keeps.next
    | split

theorem execTriggerMiss_keep {s t : State} {k : Fin 8} {v : Int} {spares : List Int} (h : Keep s t) :
    Keeps s (execTriggerMiss k v spares t) := by
  unfold execTriggerMiss
  repeat' first
    | with_reducible assumption
    | with_reducible apply State.advanceTo_keep
    | with_reducible apply State.onUnit_keep
    | with_reducible apply State.raise_keep
    | with_reducible apply State.convert_keep
    | with_reducible apply Keeps.next
    | split

theorem execTriadDisagree_keep {s t : State} {t' : SelfTest} (h : Keep s t) : Keeps s (execTriadDisagree t' t) := by
  unfold execTriadDisagree
  dsimp only
  repeat' first
    | with_reducible assumption
    | with_reducible apply State.raise_keep
    | with_reducible apply State.onMeas_keep
    | with_reducible apply State.onUnit_keep
    | with_reducible apply Keeps.next
    | split

theorem execCalPassStart_keep {s t : State} {tests : SelfTests} (h : Keep s t) : Keeps s (execCalPassStart tests t) := by
  unfold execCalPassStart
  repeat' first
    | with_reducible assumption
    | with_reducible apply State.calStart_keep
    | with_reducible apply State.advanceTo_keep
    | with_reducible apply Keeps.next
    | split

theorem execCalPassComputed_keep {s t : State} (h : Keep s t) : Keeps s (execCalPassComputed t) := by
  unfold execCalPassComputed
  dsimp only
  repeat' first
    | with_reducible assumption
    | with_reducible apply State.each_keep
    | with_reducible apply State.gainJudge_keep
    | with_reducible apply State.zeroJudge_keep
    | with_reducible apply State.calLand_keep
    | with_reducible apply State.onMeas_keep
    | with_reducible apply Keeps.next
    | with_reducible apply Keep.foldl
    | with_reducible (intro _ _)
    | with_reducible intro _
    | split

theorem execCalPassTimeout_keep {s t : State} (h : Keep s t) : Keeps s (execCalPassTimeout t) := by
  unfold execCalPassTimeout
  repeat' first
    | with_reducible assumption
    | with_reducible apply State.advanceTo_keep
    | with_reducible apply State.onMeas_keep
    | with_reducible apply State.calReply_keep
    | with_reducible apply State.raise_keep
    | with_reducible apply Keeps.next
    | split

theorem execCalPassAccepted_keep {s t : State} (h : Keep s t) : Keeps s (execCalPassAccepted t) := by
  unfold execCalPassAccepted
  repeat' first
    | with_reducible assumption
    | with_reducible apply State.onMeas_keep
    | with_reducible apply State.calReply_keep
    | with_reducible apply State.vWrite_keep
    | with_reducible apply State.raise_keep
    | with_reducible apply Keeps.next
    | split

theorem execCaptureEdge_keep {s t : State} {k : Fin 8} {rising : Bool} {held : Nat} (h : Keep s t) :
    Keeps s (execCaptureEdge k rising held t) := by
  unfold execCaptureEdge
  repeat' first
    | with_reducible assumption
    | with_reducible apply State.capture_keep
    | with_reducible apply Keeps.next

theorem execTachEdge_keep {s t : State} {m : Fin 4} (h : Keep s t) : Keeps s (execTachEdge m t) := by
  unfold execTachEdge
  repeat' first
    | with_reducible assumption
    | with_reducible apply State.pinEdge_keep
    | with_reducible apply State.measure_keep
    | with_reducible apply State.onMeas_keep
    | with_reducible apply Keeps.next
    | split

theorem execTachTimeout_keep {s t : State} {m : Fin 4} (h : Keep s t) : Keeps s (execTachTimeout m t) := by
  unfold execTachTimeout
  repeat' first
    | with_reducible assumption
    | with_reducible apply State.advanceTo_keep
    | with_reducible apply State.measure_keep
    | with_reducible apply State.onMeas_keep
    | with_reducible apply Keeps.next
    | split

theorem execAdcStatus_keep {s t : State} {o : Origin} {p : List Byte} (h : Keep s t) : Keeps s (execAdcStatus o p t) := by
  unfold execAdcStatus
  repeat' first
    | with_reducible assumption
    | with_reducible apply State.report_keep
    | with_reducible apply Keeps.next

theorem execMeasPeek_keep {s t : State} {o : Origin} {p : List Byte} (h : Keep s t) : Keeps s (execMeasPeek o p t) := by
  unfold execMeasPeek
  dsimp only
  repeat' first
    | with_reducible assumption
    | with_reducible apply State.run_keep
    | with_reducible apply State.onMeas_keep
    | with_reducible apply Keeps.next
    | with_reducible apply Keep.foldl
    | with_reducible (intro _ _)
    | with_reducible intro _
    | split

theorem execTelemRead_keep {s t : State} {o : Origin} {p : List Byte} (h : Keep s t) : Keeps s (execTelemRead o p t) := by
  unfold execTelemRead
  dsimp only
  repeat' first
    | with_reducible assumption
    | with_reducible apply State.run_keep
    | with_reducible apply State.drew_keep
    | with_reducible apply State.onMeas_keep
    | with_reducible apply Keeps.next
    | with_reducible apply Keep.foldl
    | with_reducible (intro _ _)
    | with_reducible intro _
    | split

theorem execCalRun_keep {s t : State} {o : Origin} {p : List Byte} (h : Keep s t) : Keeps s (execCalRun o p t) := by
  unfold execCalRun
  repeat' first
    | with_reducible assumption
    | with_reducible apply State.run_keep
    | with_reducible apply State.await_keep
    | with_reducible apply Keeps.next
    | with_reducible apply Keep.foldl
    | with_reducible (intro _ _)

theorem execCalStatus_keep {s t : State} {o : Origin} {p : List Byte} (h : Keep s t) : Keeps s (execCalStatus o p t) := by
  unfold execCalStatus
  repeat' first
    | with_reducible assumption
    | with_reducible apply State.report_keep
    | with_reducible apply Keeps.next

theorem execCcStatus_keep {s t : State} {o : Origin} {p : List Byte} (h : Keep s t) : Keeps s (execCcStatus o p t) := by
  unfold execCcStatus
  repeat' first
    | with_reducible assumption
    | with_reducible apply State.report_keep
    | with_reducible apply Keeps.next

theorem execThermalWindow_keep {s t : State} {temps : Vector Int 20} (h : Keep s t) :
    Keeps s (execThermalWindow temps t) := by
  unfold execThermalWindow
  repeat' first
    | with_reducible assumption
    | with_reducible apply State.thermalWindow_keep
    | with_reducible apply Keeps.next

theorem execThermalShutdown_keep {s t : State} {z : Fin 4} (h : Keep s t) : Keeps s (execThermalShutdown z t) := by
  unfold execThermalShutdown
  repeat' first
    | with_reducible assumption
    | with_reducible apply State.ctrlHeat_keep
    | with_reducible apply Keeps.next
    | split

theorem execThermalShutdownEnd_keep {s t : State} {z : Fin 5} (h : Keep s t) : Keeps s (execThermalShutdownEnd z t) := by
  unfold execThermalShutdownEnd
  dsimp only
  repeat' first
    | with_reducible assumption
    | with_reducible apply State.advanceTo_keep
    | with_reducible apply State.onTherm_keep
    | with_reducible apply State.raise_keep
    | with_reducible apply State.ctrlRelease_keep
    | with_reducible apply Keeps.next
    | split

theorem execFanUpdate_keep {s t : State} (h : Keep s t) : Keeps s (execFanUpdate t) := by
  unfold execFanUpdate
  repeat' first
    | with_reducible assumption
    | with_reducible apply State.each_keep
    | with_reducible apply State.fanUpdate_keep
    | with_reducible apply Keeps.next
    | with_reducible apply Keep.foldl
    | with_reducible (intro _ _)
    | with_reducible intro _
    | with_reducible refine Keep.ofPair ‹_ = (_, _)› ?_
    | split

theorem execFanStall_keep {s t : State} {m : Fin 4} {held : Nat} (h : Keep s t) : Keeps s (execFanStall m held t) := by
  unfold execFanStall
  dsimp only
  repeat' first
    | with_reducible assumption
    | with_reducible apply State.onTherm_keep
    | with_reducible apply State.raise_keep
    | with_reducible apply State.fanDrive_keep
    | with_reducible apply Keeps.next
    | split

theorem execFanStallClear_keep {s t : State} {m : Fin 4} {held : Nat} (h : Keep s t) :
    Keeps s (execFanStallClear m held t) := by
  unfold execFanStallClear
  repeat' first
    | with_reducible assumption
    | with_reducible apply State.onTherm_keep
    | with_reducible apply Keeps.next
    | split

theorem execThermalStatus_keep {s t : State} {o : Origin} {p : List Byte} (h : Keep s t) :
    Keeps s (execThermalStatus o p t) := by
  unfold execThermalStatus
  repeat' first
    | with_reducible assumption
    | with_reducible apply State.report_keep
    | with_reducible apply Keeps.next

theorem execFanStatus_keep {s t : State} {o : Origin} {p : List Byte} (h : Keep s t) : Keeps s (execFanStatus o p t) := by
  unfold execFanStatus
  repeat' first
    | with_reducible assumption
    | with_reducible apply State.report_keep
    | with_reducible apply Keeps.next

theorem execHistoryRecord_keep {s t : State} (h : Keep s t) : Keeps s (execHistoryRecord t) := by
  unfold execHistoryRecord
  repeat' first
    | with_reducible assumption
    | with_reducible apply State.advanceTo_keep
    | with_reducible apply State.histPut_keep
    | with_reducible apply State.pump_keep
    | with_reducible apply State.histClear_keep
    | with_reducible apply Keeps.next
    | split

theorem execEventFlush_keep {s t : State} (h : Keep s t) : Keeps s (execEventFlush t) := by
  unfold execEventFlush
  repeat' first
    | with_reducible assumption
    | with_reducible apply State.advanceTo_keep
    | with_reducible apply State.pump_keep
    | with_reducible apply State.enqueue_keep
    | with_reducible apply Keeps.next
    | split

theorem execNandOpDone_keep {s t : State} {ok : Bool} (h : Keep s t) : Keeps s (execNandOpDone ok t) := by
  unfold execNandOpDone
  repeat' first
    | with_reducible assumption
    | with_reducible apply State.nandDone_keep
    | with_reducible apply Keeps.next

theorem execNandTimeout_keep {s t : State} (h : Keep s t) : Keeps s (execNandTimeout t) := by
  unfold execNandTimeout
  repeat' first
    | with_reducible assumption
    | with_reducible apply State.nandFail_keep
    | with_reducible apply State.advanceTo_keep
    | with_reducible apply Keeps.next
    | split

theorem execCaptureFreeze_keep {s t : State} (h : Keep s t) : Keeps s (execCaptureFreeze t) := by
  unfold execCaptureFreeze
  dsimp only
  repeat' first
    | with_reducible assumption
    | with_reducible apply State.onSkb_keep
    | with_reducible apply State.pump_keep
    | with_reducible apply State.arm_keep
    | with_reducible apply State.enqueue_keep
    | with_reducible apply Keeps.next
    | split

theorem execCaptureCommit_keep {s t : State} (h : Keep s t) : Keeps s (execCaptureCommit t) := by
  unfold execCaptureCommit
  repeat' first
    | with_reducible assumption
    | with_reducible apply State.nandDone_keep
    | with_reducible apply Keeps.next
    | split

theorem execScrubStart_keep {s t : State} (h : Keep s t) : Keeps s (execScrubStart t) := by
  unfold execScrubStart
  repeat' first
    | with_reducible assumption
    | with_reducible apply State.advanceTo_keep
    | with_reducible apply State.scrubNext_keep
    | with_reducible apply State.onSkb_keep
    | with_reducible apply Keeps.next
    | split

theorem execScrubSlice_keep {s t : State} {sectors : Nat} {bits : Nat} {worn : List (Fin 16192)} {lost : List
    (Fin 4 × Nat)} {last : Bool} (h : Keep s t) : Keeps s (execScrubSlice sectors bits worn lost last t) := by
  unfold execScrubSlice
  dsimp only
  repeat' first
    | with_reducible assumption
    | with_reducible apply State.advanceTo_keep
    | with_reducible apply State.onSkb_keep
    | with_reducible apply State.each_keep
    | with_reducible apply State.raise_keep
    | with_reducible apply Keeps.next
    | with_reducible apply Keep.foldl
    | with_reducible (intro _ _)
    | with_reducible intro _
    | split

theorem execStreamTimeout_keep {s t : State} (h : Keep s t) : Keeps s (execStreamTimeout t) := by
  unfold execStreamTimeout
  repeat' first
    | with_reducible assumption
    | with_reducible apply State.onSkb_keep
    | with_reducible apply State.advanceTo_keep
    | with_reducible apply Keeps.next
    | split

theorem execSkbStatus_keep {s t : State} {o : Origin} {p : List Byte} (h : Keep s t) : Keeps s (execSkbStatus o p t) := by
  unfold execSkbStatus
  repeat' first
    | with_reducible assumption
    | with_reducible apply State.report_keep
    | with_reducible apply Keeps.next

theorem execSkbRead_keep {s t : State} {o : Origin} {p : List Byte} (h : Keep s t) : Keeps s (execSkbRead o p t) := by
  unfold execSkbRead
  dsimp only
  repeat' first
    | with_reducible assumption
    | with_reducible apply State.run_keep
    | with_reducible apply State.onSkb_keep
    | with_reducible apply Keeps.next
    | with_reducible apply Keep.foldl
    | with_reducible (intro _ _)
    | with_reducible intro _
    | split

theorem execSkbStreamStop_keep {s t : State} {o : Origin} {p : List Byte} (h : Keep s t) :
    Keeps s (execSkbStreamStop o p t) := by
  unfold execSkbStreamStop
  repeat' first
    | with_reducible assumption
    | with_reducible apply State.run_keep
    | with_reducible apply State.onSkb_keep
    | with_reducible apply Keeps.next
    | with_reducible apply Keep.foldl
    | with_reducible (intro _ _)

theorem execSkbCaptureInfo_keep {s t : State} {o : Origin} {p : List Byte} (h : Keep s t) :
    Keeps s (execSkbCaptureInfo o p t) := by
  unfold execSkbCaptureInfo
  repeat' first
    | with_reducible assumption
    | with_reducible apply State.report_keep
    | with_reducible apply Keeps.next

theorem execSkbTrigger_keep {s t : State} {o : Origin} {p : List Byte} (h : Keep s t) : Keeps s (execSkbTrigger o p t) := by
  unfold execSkbTrigger
  repeat' first
    | with_reducible assumption
    | with_reducible apply State.run_keep
    | with_reducible apply State.await_keep
    | with_reducible apply Keeps.next
    | with_reducible apply Keep.foldl
    | with_reducible (intro _ _)

theorem execSkbMark_keep {s t : State} {o : Origin} {p : List Byte} (h : Keep s t) : Keeps s (execSkbMark o p t) := by
  unfold execSkbMark
  dsimp only
  repeat' first
    | with_reducible assumption
    | with_reducible apply State.run_keep
    | with_reducible apply State.raiseWith_keep
    | with_reducible apply Keeps.next
    | with_reducible apply Keep.foldl
    | with_reducible (intro _ _)

theorem execSkbClear_keep {s t : State} {o : Origin} {p : List Byte} (h : Keep s t) : Keeps s (execSkbClear o p t) := by
  unfold execSkbClear
  repeat' first
    | with_reducible assumption
    | with_reducible apply State.run_keep
    | with_reducible apply State.pump_keep
    | with_reducible apply State.enqueue_keep
    | with_reducible apply Keeps.next
    | with_reducible apply Keep.foldl
    | with_reducible (intro _ _)
    | with_reducible intro _
    | with_reducible refine Keep.ofPair ‹_ = (_, _)› ?_
    | split

theorem execFaultRaise_keep {s t : State} {code : Nat} {ch : Nat} (h : Keep s t) : Keeps s (execFaultRaise code ch t) := by
  unfold execFaultRaise
  repeat' first
    | with_reducible assumption
    | with_reducible apply State.raise_keep
    | with_reducible apply Keeps.next

theorem execHandlerComplete_keep {s t : State} (h : Keep s t) : Keeps s (execHandlerComplete t) := by
  unfold execHandlerComplete
  refine Keeps.next ?_
  split
  · split
    · exact State.onFlt_keep (fun k => Flt.nextHandler_ordered k rfl rfl) h
    · exact h
  · exact h

theorem execImgBegin_keep {s t : State} {o : Origin} {p : List Byte} (h : Keep s t) : Keeps s (execImgBegin o p t) := by
  unfold execImgBegin
  dsimp only
  repeat' first
    | with_reducible assumption
    | with_reducible apply State.run_keep
    | with_reducible apply State.onImg_keep
    | with_reducible apply Keeps.next
    | with_reducible apply Keep.foldl
    | with_reducible (intro _ _)

theorem execImgData_keep {s t : State} {o : Origin} {p : List Byte} (h : Keep s t) : Keeps s (execImgData o p t) := by
  unfold execImgData
  dsimp only
  repeat' first
    | with_reducible assumption
    | with_reducible apply State.run_keep
    | with_reducible apply State.onImg_keep
    | with_reducible apply Keeps.next
    | with_reducible apply Keep.foldl
    | with_reducible (intro _ _)

theorem execImgEnd_keep {s t : State} {o : Origin} {p : List Byte} (h : Keep s t) : Keeps s (execImgEnd o p t) := by
  unfold execImgEnd
  dsimp only
  repeat' first
    | with_reducible assumption
    | with_reducible apply State.run_keep
    | with_reducible apply State.onImg_keep
    | with_reducible apply State.raiseWith_keep
    | with_reducible apply State.pump_keep
    | with_reducible apply State.enqueue_keep
    | with_reducible apply Keeps.next
    | with_reducible apply Keep.foldl
    | with_reducible (intro _ _)
    | with_reducible intro _
    | split

theorem execImgActivate_keep {s t : State} {o : Origin} {p : List Byte} (h : Keep s t) :
    Keeps s (execImgActivate o p t) := by
  unfold execImgActivate
  dsimp only
  repeat' first
    | with_reducible assumption
    | with_reducible exact fun _ => ⟨rfl, id⟩
    | with_reducible apply State.serveReset_keep
    | with_reducible apply State.run_keep
    | with_reducible apply State.raiseWith_keep
    | with_reducible apply State.onImg_keep
    | with_reducible apply State.onSys_keep
    | with_reducible apply Keeps.next
    | with_reducible apply Keep.foldl
    | with_reducible (intro _ _)
    | with_reducible intro _
    | split

theorem execImgConfirm_keep {s t : State} {o : Origin} {p : List Byte} (h : Keep s t) : Keeps s (execImgConfirm o p t) := by
  unfold execImgConfirm
  dsimp only
  repeat' first
    | with_reducible assumption
    | with_reducible apply State.run_keep
    | with_reducible apply State.raiseWith_keep
    | with_reducible apply State.onImg_keep
    | with_reducible apply State.vWrite_keep
    | with_reducible apply State.await_keep
    | with_reducible apply Keeps.next
    | with_reducible apply Keep.foldl
    | with_reducible (intro _ _)
    | with_reducible intro _
    | split

theorem execImgStatus_keep {s t : State} {o : Origin} {p : List Byte} (h : Keep s t) : Keeps s (execImgStatus o p t) := by
  unfold execImgStatus
  repeat' first
    | with_reducible assumption
    | with_reducible apply State.report_keep
    | with_reducible apply Keeps.next

theorem execFaultStatus_keep {s t : State} {o : Origin} {p : List Byte} (h : Keep s t) :
    Keeps s (execFaultStatus o p t) := by
  unfold execFaultStatus
  repeat' first
    | with_reducible assumption
    | with_reducible apply State.report_keep
    | with_reducible apply Keeps.next

theorem execFaultActive_keep {s t : State} {o : Origin} {p : List Byte} (h : Keep s t) :
    Keeps s (execFaultActive o p t) := by
  unfold execFaultActive
  repeat' first
    | with_reducible assumption
    | with_reducible apply State.report_keep
    | with_reducible apply Keeps.next

theorem execBankSupplyChange_keep {s t : State} {host : Bool} {valid : Bool} (h : Keep s t) :
    Keeps s (execBankSupplyChange host valid t) := by
  unfold execBankSupplyChange
  dsimp only
  refine Keeps.next (Keep.ite (State.pinRelease_keep ?k) ?k)
  refine State.onSys_keep (fun _ => ?_) h
  split <;> exact ⟨rfl, id⟩

theorem execPmbusUnsupportedCommand_keep {s t : State} {c : Byte} {w : Option (List Byte)} (h : Keep s t) :
    Keeps s (execPmbusUnsupportedCommand c w t) := by
  unfold execPmbusUnsupportedCommand
  repeat' first
    | with_reducible assumption
    | with_reducible apply State.pmbus_keep
    | with_reducible apply State.pmRefuse_keep
    | with_reducible apply State.pecBad_keep
    | with_reducible apply Keeps.next
    | with_reducible apply Keep.foldl
    | with_reducible (intro _ _)
    | with_reducible intro _
    | with_reducible refine Keep.ofPair ‹_ = (_, _)› ?_
    | split

theorem execConverterPeriodEnd_keep {s t : State} {c : Conv} (h : Keep s t) : Keeps s (execConverterPeriodEnd c t) := by
  unfold execConverterPeriodEnd
  repeat' first
    | with_reducible assumption
    | with_reducible apply State.llcEnd_keep
    | with_reducible apply State.adcTrigger_keep
    | with_reducible apply State.calLand_keep
    | with_reducible apply State.testPeriod_keep
    | with_reducible apply State.strEnd_keep
    | with_reducible apply State.pdPeriodEnd_keep
    | with_reducible apply Keeps.next
    | split

theorem execDomainPwmPeriod_keep {s t : State} {k : Fin 16} {ph : Fin 32} {e : Int} {zero : Bool} {ocp : Option Nat}
    (h : Keep s t) : Keeps s (execDomainPwmPeriod k ph e zero ocp t) := by
  unfold execDomainPwmPeriod
  repeat' first
    | with_reducible assumption
    | with_reducible apply State.pwmPeriod_keep
    | with_reducible apply Keeps.next

theorem execBulkDropConfirmation_keep {s t : State} {k : Fin 2} {bulk : Nat} (h : Keep s t) :
    Keeps s (execBulkDropConfirmation k bulk t) := by
  unfold execBulkDropConfirmation
  repeat' first
    | with_reducible assumption
    | with_reducible apply State.onRectCh_keep
    | with_reducible apply State.rectLost_keep
    | with_reducible apply Keeps.next
    | split

theorem execBulkOvRelease_keep {s t : State} {k : Fin 2} {bulk : Nat} (h : Keep s t) :
    Keeps s (execBulkOvRelease k bulk t) := by
  unfold execBulkOvRelease
  repeat' first
    | with_reducible assumption
    | with_reducible apply State.onRectCh_keep
    | with_reducible apply Keeps.next

theorem execDomainUvClear_keep {s t : State} {k : Fin 16} {v : Nat} {held : Nat} (h : Keep s t) :
    Keeps s (execDomainUvClear k v held t) := by
  unfold execDomainUvClear
  repeat' first
    | with_reducible assumption
    | with_reducible apply State.seqEval_keep
    | with_reducible apply State.d0Window_keep
    | with_reducible apply State.onDomCh_keep
    | with_reducible apply Keeps.next
    | split

theorem execDomainTripCountClear_keep {s t : State} {k : Fin 16} (h : Keep s t) :
    Keeps s (execDomainTripCountClear k t) := by
  unfold execDomainTripCountClear
  repeat' first
    | with_reducible assumption
    | with_reducible apply State.onDomCh_keep
    | with_reducible apply State.advanceTo_keep
    | with_reducible apply Keeps.next
    | split

theorem execPortTripCountClear_keep {s t : State} {n : Fin 24} (h : Keep s t) : Keeps s (execPortTripCountClear n t) := by
  unfold execPortTripCountClear
  repeat' first
    | with_reducible assumption
    | with_reducible apply State.portSave_keep
    | with_reducible apply State.onPortCh_keep
    | with_reducible apply State.advanceTo_keep
    | with_reducible apply Keeps.next
    | split

theorem execCcStateChange_keep {s t : State} {k : Fin 2} {cc1 : CcPin} {cc2 : CcPin} (h : Keep s t) :
    Keeps s (execCcStateChange k cc1 cc2 t) := by
  unfold execCcStateChange
  dsimp only
  repeat' first
    | with_reducible assumption
    | with_reducible apply State.onPdCh_keep
    | with_reducible apply State.pdEv_keep
    | with_reducible apply State.pdFire_keep
    | with_reducible apply State.vconnSet_keep
    | with_reducible apply State.pdCheck_keep
    | with_reducible apply Keeps.next
    | with_reducible apply Keep.foldl
    | with_reducible (intro _ _)
    | with_reducible intro _
    | split

theorem execVbusLevelReached_keep {s t : State} {k : Fin 2} {level : Fin 3} (h : Keep s t) :
    Keeps s (execVbusLevelReached k level t) := by
  unfold execVbusLevelReached
  repeat' first
    | with_reducible assumption
    | with_reducible apply State.pdEv_keep
    | with_reducible apply State.vbusLevel_keep
    | with_reducible apply Keeps.next
    | with_reducible apply Keep.foldl
    | with_reducible (intro _ _)

theorem execBistCarrierEnd_keep {s t : State} {k : Fin 2} (h : Keep s t) : Keeps s (execBistCarrierEnd k t) := by
  unfold execBistCarrierEnd
  repeat' first
    | with_reducible assumption
    | with_reducible apply State.pdEv_keep
    | with_reducible apply State.onPdCh_keep
    | with_reducible apply State.pdTime_keep
    | with_reducible apply Keeps.next
    | with_reducible apply Keep.foldl
    | with_reducible (intro _ _)
    | with_reducible intro _
    | with_reducible refine Keep.ofPair ‹_ = (_, _)› ?_
    | split

theorem execSeqFltReleased_keep {s t : State} (h : Keep s t) : Keeps s (execSeqFltReleased t) := by
  unfold execSeqFltReleased
  repeat' first
    | with_reducible assumption
    | with_reducible apply State.onSeq_keep
    | with_reducible apply State.pinEdge_keep
    | with_reducible apply Keeps.next
    | split

theorem execCcCounterWrap_keep {s t : State} {k : Fin 8} (h : Keep s t) : Keeps s (execCcCounterWrap k t) := by
  unfold execCcCounterWrap
  repeat' first
    | with_reducible assumption
    | with_reducible apply State.advanceTo_keep
    | with_reducible apply State.onCc_keep
    | with_reducible apply State.boundary_keep
    | with_reducible apply Keeps.next
    | split

theorem execCcCompareMatch_keep {s t : State} {k : Fin 8} (h : Keep s t) : Keeps s (execCcCompareMatch k t) := by
  unfold execCcCompareMatch
  dsimp only
  repeat' first
    | with_reducible assumption
    | with_reducible apply State.advanceTo_keep
    | with_reducible apply State.adcTrigger_keep
    | with_reducible apply State.onCc_keep
    | with_reducible apply Keeps.next
    | split

theorem execCaptureSample_keep {s t : State} (h : Keep s t) : Keeps s (execCaptureSample t) := by
  unfold execCaptureSample
  repeat' first
    | with_reducible assumption
    | with_reducible apply State.advanceTo_keep
    | with_reducible apply State.onSkb_keep
    | with_reducible apply Keeps.next
    | split

end Sys2Proof.Machine
end

