-- ==== Sys2Proof/Laws/KeepPacket.lean ====
section
/-! SUPPORT. What a packet, and the rows that bring one, keep. -/

namespace Sys2Proof.Machine

/-- A command's meaning keeps what `Keep` says. -/
def KCmd.Keeps (c : KCmd) : Prop := ∀ o p s, Machine.Keeps s (c.run o p s)

theorem cmdsSystem_keeps : ∀ c ∈ cmdsSystem, c.Keeps := by
  simp only [cmdsSystem, List.forall_mem_cons]
  exact ⟨fun _ _ _ => execNop_keep (Keep.refl _), fun _ _ _ => execSysStatus_keep (Keep.refl _),
    fun _ _ _ => execNodeGroups_keep (Keep.refl _), fun _ _ _ => execReset_keep (Keep.refl _),
    fun _ _ _ => execResetCause_keep (Keep.refl _), fun _ _ _ => execD0BootRecord_keep (Keep.refl _),
    fun _ _ _ => execKeepReservoir_keep (Keep.refl _), by simp⟩

theorem cmdsHif_keeps : ∀ c ∈ cmdsHif, c.Keeps := by
  simp only [cmdsHif, List.forall_mem_cons]
  exact ⟨fun _ _ _ => execHifConfig_keep (Keep.refl _), fun _ _ _ => execHifStatus_keep (Keep.refl _),
    fun _ _ _ => execPrivChallenge_keep (Keep.refl _), fun _ _ _ => execPrivResponse_keep (Keep.refl _),
    fun _ _ _ => execPrivDrop_keep (Keep.refl _), by simp⟩

theorem cmdsConfig_keeps : ∀ c ∈ cmdsConfig, c.Keeps := by
  simp only [cmdsConfig, List.forall_mem_cons]
  exact ⟨fun _ _ _ => execMultiCommit_keep (Keep.refl _), fun _ _ _ => execEaselSave_keep (Keep.refl _), by simp⟩

theorem cmdsPalette_keeps : ∀ c ∈ cmdsPalette, c.Keeps := by
  simp only [cmdsPalette, List.forall_mem_cons]
  exact ⟨fun _ _ _ => execPalBegin_keep (Keep.refl _), fun _ _ _ => execPalData_keep (Keep.refl _),
    fun _ _ _ => execPalEnd_keep (Keep.refl _), fun _ _ _ => execPalSwitch_keep (Keep.refl _),
    fun _ _ _ => execPalStatus_keep (Keep.refl _), fun _ _ _ => execPalRead_keep (Keep.refl _), by simp⟩

theorem cmdsRect_keeps : ∀ c ∈ cmdsRect, c.Keeps := by
  simp only [cmdsRect, List.forall_mem_cons]
  exact ⟨fun _ _ _ => execRectControl_keep (Keep.refl _), fun _ _ _ => execRectStatus_keep (Keep.refl _),
    fun _ _ _ => execBarrierStatus_keep (Keep.refl _), by simp⟩

theorem cmdsBus_keeps : ∀ c ∈ cmdsBus, c.Keeps := by
  simp only [cmdsBus, List.forall_mem_cons]
  exact ⟨fun _ _ _ => execBusStatus_keep (Keep.refl _), fun _ _ _ => execAuxControl_keep (Keep.refl _), by simp⟩

theorem cmdsCharger_keeps : ∀ c ∈ cmdsCharger, c.Keeps := by
  simp only [cmdsCharger, List.forall_mem_cons]
  exact ⟨fun _ _ _ => execStringControl_keep (Keep.refl _), fun _ _ _ => execChgControl_keep (Keep.refl _),
    fun _ _ _ => execStringTest_keep (Keep.refl _), fun _ _ _ => execChgStatus_keep (Keep.refl _), by simp⟩

theorem cmdsGauge_keeps : ∀ c ∈ cmdsGauge, c.Keeps := by
  simp only [cmdsGauge, List.forall_mem_cons]
  exact ⟨fun _ _ _ => execGaugeStatus_keep (Keep.refl _), fun _ _ _ => execGaugeReset_keep (Keep.refl _),
    fun _ _ _ => execGaugeSetFcc_keep (Keep.refl _), by simp⟩

theorem cmdsDomain_keeps : ∀ c ∈ cmdsDomain, c.Keeps := by
  simp only [cmdsDomain, List.forall_mem_cons]
  exact ⟨fun _ _ _ => execDomControl_keep (Keep.refl _), fun _ _ _ => execDomVout_keep (Keep.refl _),
    fun _ _ _ => execDomStatus_keep (Keep.refl _), fun _ _ _ => execPhaseStatus_keep (Keep.refl _), by simp⟩

theorem cmdsFeed_keeps : ∀ c ∈ cmdsFeed, c.Keeps := by
  simp only [cmdsFeed, List.forall_mem_cons]
  exact ⟨fun _ _ _ => execPortControl_keep (Keep.refl _), fun _ _ _ => execPortStatus_keep (Keep.refl _),
    fun _ _ _ => execPortMeter_keep (Keep.refl _), by simp⟩

theorem cmdsLink_keeps : ∀ c ∈ cmdsLink, c.Keeps := by
  simp only [cmdsLink, List.forall_mem_cons]
  exact ⟨fun _ _ _ => execLinkStatus_keep (Keep.refl _), fun _ _ _ => execNodeTable_keep (Keep.refl _),
    fun _ _ _ => execEnumerate_keep (Keep.refl _), fun _ _ _ => execCapStatus_keep (Keep.refl _), by simp⟩

theorem cmdsPd_keeps : ∀ c ∈ cmdsPd, c.Keeps := by
  simp only [cmdsPd, List.forall_mem_cons]
  exact ⟨fun _ _ _ => execPdControl_keep (Keep.refl _), fun _ _ _ => execPdTx_keep (Keep.refl _),
    fun _ _ _ => execPdEvent_keep (Keep.refl _), fun _ _ _ => execPdPower_keep (Keep.refl _),
    fun _ _ _ => execPdSwap_keep (Keep.refl _), fun _ _ _ => execPdStatus_keep (Keep.refl _), by simp⟩

theorem cmdsSeq_keeps : ∀ c ∈ cmdsSeq, c.Keeps := by
  simp only [cmdsSeq, List.forall_mem_cons]
  exact ⟨fun _ _ _ => execSeqStart_keep (Keep.refl _), fun _ _ _ => execSeqControl_keep (Keep.refl _),
    fun _ _ _ => execSeqStatus_keep (Keep.refl _), fun _ _ _ => execEmStatus_keep (Keep.refl _), by simp⟩

theorem cmdsMeas_keeps : ∀ c ∈ cmdsMeas, c.Keeps := by
  simp only [cmdsMeas, List.forall_mem_cons]
  exact ⟨fun _ _ _ => execAdcStatus_keep (Keep.refl _), fun _ _ _ => execMeasPeek_keep (Keep.refl _),
    fun _ _ _ => execTelemRead_keep (Keep.refl _), fun _ _ _ => execCalRun_keep (Keep.refl _),
    fun _ _ _ => execCalStatus_keep (Keep.refl _), fun _ _ _ => execCcStatus_keep (Keep.refl _), by simp⟩

theorem cmdsThermal_keeps : ∀ c ∈ cmdsThermal, c.Keeps := by
  simp only [cmdsThermal, List.forall_mem_cons]
  exact ⟨fun _ _ _ => execThermalStatus_keep (Keep.refl _), fun _ _ _ => execFanStatus_keep (Keep.refl _), by simp⟩

theorem cmdsSketch_keeps : ∀ c ∈ cmdsSketch, c.Keeps := by
  simp only [cmdsSketch, List.forall_mem_cons]
  exact ⟨fun _ _ _ => execSkbStatus_keep (Keep.refl _), fun _ _ _ => execSkbRead_keep (Keep.refl _),
    fun _ _ _ => execSkbStreamStop_keep (Keep.refl _), fun _ _ _ => execSkbCaptureInfo_keep (Keep.refl _),
    fun _ _ _ => execSkbTrigger_keep (Keep.refl _), fun _ _ _ => execSkbMark_keep (Keep.refl _),
    fun _ _ _ => execSkbClear_keep (Keep.refl _), by simp⟩

theorem cmdsFault_keeps : ∀ c ∈ cmdsFault, c.Keeps := by
  simp only [cmdsFault, List.forall_mem_cons]
  exact ⟨fun _ _ _ => execFaultStatus_keep (Keep.refl _), fun _ _ _ => execFaultActive_keep (Keep.refl _), by simp⟩

theorem cmdsSecurity_keeps : ∀ c ∈ cmdsSecurity, c.Keeps := by
  simp only [cmdsSecurity, List.forall_mem_cons]
  exact ⟨fun _ _ _ => execImgBegin_keep (Keep.refl _), fun _ _ _ => execImgData_keep (Keep.refl _),
    fun _ _ _ => execImgEnd_keep (Keep.refl _), fun _ _ _ => execImgActivate_keep (Keep.refl _),
    fun _ _ _ => execImgConfirm_keep (Keep.refl _), fun _ _ _ => execImgStatus_keep (Keep.refl _), by simp⟩

theorem cmdsEasel_keeps (blk : Nat) : ∀ c ∈ cmdsEasel blk, c.Keeps := by
  simp only [cmdsEasel, List.forall_mem_cons]
  exact ⟨fun _ _ _ => execEaselWrite_keep (Keep.refl _), fun _ _ _ => execEaselCommit_keep (Keep.refl _),
    fun _ _ _ => execEaselDiscard_keep (Keep.refl _), fun _ _ _ => execEaselRead_keep (Keep.refl _),
    fun _ _ _ => execEaselStatus_keep (Keep.refl _), by simp⟩

/-- Every command that a packet can name. -/
theorem korisk_keeps {op : Nat} {c : KCmd} (h : korisk op = some c) : c.Keeps := by
  have m := List.mem_of_find?_eq_some h
  unfold cmdsOf at m
  rcases List.mem_append.1 m with m | m
  · split at m
    · exact cmdsSystem_keeps _ m
    · exact cmdsHif_keeps _ m
    · exact cmdsConfig_keeps _ m
    · exact cmdsPalette_keeps _ m
    · exact cmdsRect_keeps _ m
    · exact cmdsBus_keeps _ m
    · exact cmdsCharger_keeps _ m
    · exact cmdsGauge_keeps _ m
    · exact cmdsDomain_keeps _ m
    · exact cmdsFeed_keeps _ m
    · exact cmdsLink_keeps _ m
    · exact cmdsPd_keeps _ m
    · exact cmdsSeq_keeps _ m
    · exact cmdsMeas_keeps _ m
    · exact cmdsThermal_keeps _ m
    · exact cmdsSketch_keeps _ m
    · exact cmdsFault_keeps _ m
    · exact cmdsSecurity_keeps _ m
    · cases m
  · split at m
    · exact cmdsEasel_keeps _ _ m
    · cases m

theorem State.localPacket_keep {s t : State} {o : Origin} {k : Packet} {c : KCmd} (hc : c.Keeps) (h : Keep s t) :
    Keep s (State.localPacket o k c t) := by
  have key : Keep s (afterRun (c.run o k.params t) t) := by
    have q := hc o k.params t
    unfold afterRun
    split
    · rename_i r e
      exact h.trans (q r e)
    · exact h
    · exact h
  unfold State.localPacket
  repeat' first
    | with_reducible assumption
    | with_reducible apply State.answer_keep
    | with_reducible apply State.segment_keep
    | split

theorem State.fanOut_keep {s t : State} {o : Origin} {k : Packet} {c : KCmd} {bs : List Byte} (hc : c.Keeps) (h : Keep s t) :
    Keep s (State.fanOut o k c bs t) := by
  unfold State.fanOut
  dsimp only
  repeat' first
    | with_reducible assumption
    | with_reducible apply State.deliver_keep
    | with_reducible apply State.forward_keep
    | with_reducible apply State.localPacket_keep hc
    | split

theorem State.hostPacket_keep {s t : State} {i : Itf} {bs : List Byte} (h : Keep s t) :
    Keep s (State.hostPacket i bs t) := by
  unfold State.hostPacket
  dsimp only
  repeat' first
    | with_reducible assumption
    | with_reducible exact State.localPacket_keep (korisk_keeps ‹_›) (State.dropSeg_keep h)
    | with_reducible exact State.fanOut_keep (korisk_keeps ‹_›) (State.dropSeg_keep h)
    | with_reducible apply State.answer_keep
    | with_reducible apply State.forward_keep
    | with_reducible apply State.dropSeg_keep
    | split

theorem State.linkPacket_keep {s t : State} {src : Nat} {level : Nat} {bs : List Byte} (h : Keep s t) :
    Keep s (State.linkPacket src level bs t) := by
  unfold State.linkPacket
  dsimp only
  repeat' first
    | with_reducible assumption
    | with_reducible exact State.localPacket_keep (korisk_keeps ‹_›) (State.dropSeg_keep h)
    | with_reducible apply State.answer_keep
    | with_reducible apply State.dropSeg_keep
    | split

theorem State.submit_keep {s t : State} {last : Bool} (h : Keep s t) : Keep s (State.submit last t) := by
  unfold State.submit
  repeat' first
    | with_reducible assumption
    | with_reducible exact Keep.refl _
    | with_reducible refine Keep.ofPair ‹_ = (_, _)› ?_
    | with_reducible apply Keeps.next
    | with_reducible refine Keep.ite ?_ ?_
    | with_reducible refine Keep.ite2 ?_ ?_
    | (extract_lets +onlyGivenNames x; clear_value x)
    | with_reducible apply State.onMbx_keep
    | with_reducible apply State.packetEnd_keep
    | with_reducible apply State.answer_keep
    | with_reducible apply State.dropSeg_keep
    | with_reducible apply State.hostPacket_keep

theorem State.mbxAct_keep {s t : State} {n : Nat} (h : Keep s t) : Keep s (State.mbxAct n t) := by
  unfold State.mbxAct
  repeat' first
    | with_reducible assumption
    | with_reducible exact Keep.refl _
    | with_reducible refine Keep.ofPair ‹_ = (_, _)› ?_
    | with_reducible apply Keeps.next
    | with_reducible refine Keep.ite ?_ ?_
    | with_reducible refine Keep.ite2 ?_ ?_
    | (extract_lets +onlyGivenNames x; clear_value x)
    | with_reducible apply State.submit_keep
    | with_reducible apply State.release_keep
    | with_reducible apply State.abort_keep

theorem State.mbxRow_keep {s t : State} {n : Nat} (h : Keep s t) : Keep s (State.mbxRow n t) := by
  unfold State.mbxRow
  repeat' first
    | with_reducible assumption
    | with_reducible exact Keep.refl _
    | with_reducible refine Keep.ofPair ‹_ = (_, _)› ?_
    | with_reducible apply Keeps.next
    | with_reducible refine Keep.ite ?_ ?_
    | with_reducible refine Keep.ite2 ?_ ?_
    | (extract_lets +onlyGivenNames x; clear_value x)
    | with_reducible apply State.mbxAct_keep
    | with_reducible apply State.onHif_keep
    | with_reducible apply State.drive_keep
    | with_reducible apply State.i2cStart_keep

theorem State.spiPacket_keep {s t : State} {rest : List Byte} (h : Keep s t) : Keep s (State.spiPacket rest t) := by
  unfold State.spiPacket
  repeat' first
    | with_reducible assumption
    | with_reducible exact Keep.refl _
    | with_reducible refine Keep.ofPair ‹_ = (_, _)› ?_
    | with_reducible apply Keeps.next
    | with_reducible refine Keep.ite ?_ ?_
    | with_reducible refine Keep.ite2 ?_ ?_
    | (extract_lets +onlyGivenNames x; clear_value x)
    | with_reducible apply State.spiFrame_keep
    | with_reducible apply State.spiDiscard_keep
    | with_reducible apply State.packetEnd_keep
    | with_reducible apply State.hostPacket_keep
    | with_reducible apply State.onHif_keep

theorem State.spiTake_keep {s t : State} {frame : List Byte} (h : Keep s t) : Keep s (State.spiTake frame t) := by
  unfold State.spiTake
  repeat' first
    | with_reducible assumption
    | with_reducible exact Keep.refl _
    | with_reducible refine Keep.ofPair ‹_ = (_, _)› ?_
    | with_reducible apply Keeps.next
    | with_reducible refine Keep.ite ?_ ?_
    | with_reducible refine Keep.ite2 ?_ ?_
    | (extract_lets +onlyGivenNames x; clear_value x)
    | with_reducible apply State.spiDiscard_keep
    | with_reducible apply State.spiFrame_keep
    | with_reducible apply State.spiWrite_keep
    | with_reducible apply State.spiRead_keep
    | with_reducible apply State.spiPacket_keep
    | with_reducible apply State.spiReply_keep
    | with_reducible apply State.spiStream_keep
    | with_reducible apply Keep.foldl
    | split

theorem execHostWdWrite_keep {s t : State} {itf : Itf} {v : Byte} (h : Keep s t) : Keeps s (execHostWdWrite itf v t) := by
  unfold execHostWdWrite
  repeat' first
    | with_reducible assumption
    | with_reducible apply State.wdWrite_keep
    | with_reducible apply State.onHif_keep
    | with_reducible apply State.drive_keep
    | with_reducible apply State.i2cStart_keep
    | with_reducible apply State.spiTake_keep
    | with_reducible apply Keeps.next
    | split

theorem execRegisterWrite_keep {s t : State} {bytes : List Byte} (h : Keep s t) : Keeps s (execRegisterWrite bytes t) := by
  unfold execRegisterWrite
  repeat' first
    | with_reducible assumption
    | with_reducible exact Keep.refl _
    | with_reducible refine Keep.ofPair ‹_ = (_, _)› ?_
    | with_reducible apply Keeps.next
    | with_reducible refine Keep.ite ?_ ?_
    | with_reducible refine Keep.ite2 ?_ ?_
    | (extract_lets +onlyGivenNames x; clear_value x)
    | with_reducible apply State.mbxAct_keep
    | with_reducible apply State.i2cWrite_keep

theorem execSubmitMore_keep {s t : State} (h : Keep s t) : Keeps s (execSubmitMore t) := by
  unfold execSubmitMore
  repeat' first
    | with_reducible assumption
    | with_reducible exact Keep.refl _
    | with_reducible refine Keep.ofPair ‹_ = (_, _)› ?_
    | with_reducible apply Keeps.next
    | with_reducible refine Keep.ite ?_ ?_
    | with_reducible refine Keep.ite2 ?_ ?_
    | (extract_lets +onlyGivenNames x; clear_value x)
    | with_reducible apply State.mbxRow_keep

theorem execSubmitLast_keep {s t : State} (h : Keep s t) : Keeps s (execSubmitLast t) := by
  unfold execSubmitLast
  repeat' first
    | with_reducible assumption
    | with_reducible exact Keep.refl _
    | with_reducible refine Keep.ofPair ‹_ = (_, _)› ?_
    | with_reducible apply Keeps.next
    | with_reducible refine Keep.ite ?_ ?_
    | with_reducible refine Keep.ite2 ?_ ?_
    | (extract_lets +onlyGivenNames x; clear_value x)
    | with_reducible apply State.mbxRow_keep

theorem execRelease_keep {s t : State} (h : Keep s t) : Keeps s (execRelease t) := by
  unfold execRelease
  repeat' first
    | with_reducible assumption
    | with_reducible exact Keep.refl _
    | with_reducible refine Keep.ofPair ‹_ = (_, _)› ?_
    | with_reducible apply Keeps.next
    | with_reducible refine Keep.ite ?_ ?_
    | with_reducible refine Keep.ite2 ?_ ?_
    | (extract_lets +onlyGivenNames x; clear_value x)
    | with_reducible apply State.mbxRow_keep

theorem execAbort_keep {s t : State} (h : Keep s t) : Keeps s (execAbort t) := by
  unfold execAbort
  repeat' first
    | with_reducible assumption
    | with_reducible exact Keep.refl _
    | with_reducible refine Keep.ofPair ‹_ = (_, _)› ?_
    | with_reducible apply Keeps.next
    | with_reducible refine Keep.ite ?_ ?_
    | with_reducible refine Keep.ite2 ?_ ?_
    | (extract_lets +onlyGivenNames x; clear_value x)
    | with_reducible apply State.mbxRow_keep

theorem execRegWrite_keep {s t : State} {bytes : List Byte} (h : Keep s t) : Keeps s (execRegWrite bytes t) := by
  unfold execRegWrite
  repeat' first
    | with_reducible assumption
    | with_reducible apply State.spiTake_keep
    | with_reducible apply Keeps.next

theorem execRegRead_keep {s t : State} {ptr : Byte} {n : Nat} (h : Keep s t) : Keeps s (execRegRead ptr n t) := by
  unfold execRegRead
  repeat' first
    | with_reducible assumption
    | with_reducible apply State.spiTake_keep
    | with_reducible apply Keeps.next

theorem execPktWrite_keep {s t : State} {len : Nat} {bytes : List Byte} (h : Keep s t) :
    Keeps s (execPktWrite len bytes t) := by
  unfold execPktWrite
  repeat' first
    | with_reducible assumption
    | with_reducible exact Keep.refl _
    | with_reducible refine Keep.ofPair ‹_ = (_, _)› ?_
    | with_reducible apply Keeps.next
    | with_reducible refine Keep.ite ?_ ?_
    | with_reducible refine Keep.ite2 ?_ ?_
    | (extract_lets +onlyGivenNames x; clear_value x)
    | with_reducible apply State.spiTake_keep

theorem execPktRead_keep {s t : State} {n : Nat} (h : Keep s t) : Keeps s (execPktRead n t) := by
  unfold execPktRead
  repeat' first
    | with_reducible assumption
    | with_reducible apply State.spiTake_keep
    | with_reducible apply Keeps.next

theorem execStreamRead_keep {s t : State} {n : Nat} (h : Keep s t) : Keeps s (execStreamRead n t) := by
  unfold execStreamRead
  repeat' first
    | with_reducible assumption
    | with_reducible apply State.spiTake_keep
    | with_reducible apply Keeps.next

theorem execCommandFrame_keep {s t : State} {p : Fin 3} {f : List Byte} (h : Keep s t) :
    Keeps s (execCommandFrame p f t) := by
  unfold execCommandFrame
  repeat' first
    | with_reducible assumption
    | with_reducible exact Keep.refl _
    | with_reducible refine Keep.ofPair ‹_ = (_, _)› ?_
    | with_reducible apply Keeps.next
    | with_reducible refine Keep.ite ?_ ?_
    | with_reducible refine Keep.ite2 ?_ ?_
    | (extract_lets +onlyGivenNames x; refine Keep.cutP (p := Keep s x) ?_ (fun _ => ?_); (on_goal 2 => clear_value x); (on_goal 1 => subst x))
    | (extract_lets +onlyGivenNames x; clear_value x)
    | with_reducible apply State.onLink_keep
    | with_reducible apply State.sendOn_keep
    | with_reducible apply State.packetEnd_keep
    | with_reducible apply State.remoteReply_keep
    | with_reducible apply State.linkPacket_keep
    | with_reducible apply Keep.foldl
    | split

theorem execSpiUnknownInstruction_keep {s t : State} {b : Byte} (h : Keep s t) :
    Keeps s (execSpiUnknownInstruction b t) := by
  unfold execSpiUnknownInstruction
  repeat' first
    | with_reducible assumption
    | with_reducible apply State.spiTake_keep
    | with_reducible apply Keeps.next

end Sys2Proof.Machine
end

