-- ==== Sys2Proof/Laws/Reply.lean ====
section
/-! SUPPORT. What a reply touches: the interface it goes out on, and nothing else of the state. -/

namespace Sys2Proof.Machine

/-- `t` differs from `s` at most in the host interfaces. -/
def OnlyHif (s t : State) : Prop := t = { s with hif := t.hif }

namespace OnlyHif

theorem refl (s : State) : OnlyHif s s := rfl

theorem trans {s t r : State} (a : OnlyHif s t) (b : OnlyHif t r) : OnlyHif s r := by
  unfold OnlyHif at *
  rw [b, a]

theorem ite {s a b : State} {c : Prop} [Decidable c] (h : OnlyHif s a) (k : OnlyHif s b) : OnlyHif s (if c then a else b) := by
  split <;> assumption

end OnlyHif

variable {s t : State} {o : Origin} {op status : Nat} {data bytes : List Byte}

theorem State.onHif_only {f : Hif → Hif} (h : OnlyHif s t) : OnlyHif s (t.onHif f) := h.trans rfl

theorem State.deliver_only (h : OnlyHif s t) : OnlyHif s (t.deliver o bytes) := by
  unfold State.deliver
  split <;> exact h.trans rfl

theorem State.noReply_only (h : OnlyHif s t) : OnlyHif s (t.noReply o) := by
  unfold State.noReply
  split
  · exact h.trans rfl
  · exact h.trans rfl
  · exact h

theorem State.collect_only (h : OnlyHif s t) : OnlyHif s (t.collect o op status) := by
  unfold State.collect
  split
  · exact h
  · dsimp only
    split
    · exact State.deliver_only (State.onHif_only h)
    · exact State.onHif_only h

theorem State.answer_only (h : OnlyHif s t) : OnlyHif s (t.answer o op status data) := by
  unfold State.answer
  split
  · exact State.collect_only h
  · dsimp only
    repeat' split
    all_goals first
      | exact State.deliver_only (State.onHif_only h)
      | exact State.deliver_only h

theorem State.finish_only (h : OnlyHif s t) : OnlyHif s (t.finish o op status data) := by
  unfold State.finish
  split
  · exact State.noReply_only h
  · exact State.answer_only h

/-- R69, R119: an Observe command reloads no timer. -/
theorem State.accepted_observe (s : State) (o : Origin) : s.accepted o 0 = s := rfl

/-- An acceptance changes the watchdog and the interfaces only. -/
theorem State.accepted_rest (s : State) (o : Origin) (priv : Nat) :
    s.accepted o priv = { s with sys := (s.accepted o priv).sys, hif := (s.accepted o priv).hif } := by
  unfold State.accepted
  cases o.itf <;> dsimp only <;> split <;> split <;> rfl

@[simp] theorem State.accepted_cfg (s : State) (o : Origin) (priv : Nat) : (s.accepted o priv).cfg = s.cfg := by
  rw [State.accepted_rest]

@[simp] theorem State.accepted_pal (s : State) (o : Origin) (priv : Nat) : (s.accepted o priv).pal = s.pal := by
  rw [State.accepted_rest]

@[simp] theorem State.accepted_rect (s : State) (o : Origin) (priv : Nat) : (s.accepted o priv).rect = s.rect := by
  rw [State.accepted_rest]

@[simp] theorem State.accepted_bus (s : State) (o : Origin) (priv : Nat) : (s.accepted o priv).bus = s.bus := by
  rw [State.accepted_rest]

@[simp] theorem State.accepted_str (s : State) (o : Origin) (priv : Nat) : (s.accepted o priv).str = s.str := by
  rw [State.accepted_rest]

@[simp] theorem State.accepted_gauge (s : State) (o : Origin) (priv : Nat) : (s.accepted o priv).gauge = s.gauge := by
  rw [State.accepted_rest]

@[simp] theorem State.accepted_varn (s : State) (o : Origin) (priv : Nat) : (s.accepted o priv).varn = s.varn := by
  rw [State.accepted_rest]

@[simp] theorem State.accepted_dom (s : State) (o : Origin) (priv : Nat) : (s.accepted o priv).dom = s.dom := by
  rw [State.accepted_rest]

@[simp] theorem State.accepted_feed (s : State) (o : Origin) (priv : Nat) : (s.accepted o priv).feed = s.feed := by
  rw [State.accepted_rest]

@[simp] theorem State.accepted_link (s : State) (o : Origin) (priv : Nat) : (s.accepted o priv).link = s.link := by
  rw [State.accepted_rest]

@[simp] theorem State.accepted_pd (s : State) (o : Origin) (priv : Nat) : (s.accepted o priv).pd = s.pd := by
  rw [State.accepted_rest]

@[simp] theorem State.accepted_seq (s : State) (o : Origin) (priv : Nat) : (s.accepted o priv).seq = s.seq := by
  rw [State.accepted_rest]

@[simp] theorem State.accepted_meas (s : State) (o : Origin) (priv : Nat) : (s.accepted o priv).meas = s.meas := by
  rw [State.accepted_rest]

@[simp] theorem State.accepted_therm (s : State) (o : Origin) (priv : Nat) : (s.accepted o priv).therm = s.therm := by
  rw [State.accepted_rest]

@[simp] theorem State.accepted_skb (s : State) (o : Origin) (priv : Nat) : (s.accepted o priv).skb = s.skb := by
  rw [State.accepted_rest]

@[simp] theorem State.accepted_flt (s : State) (o : Origin) (priv : Nat) : (s.accepted o priv).flt = s.flt := by
  rw [State.accepted_rest]

@[simp] theorem State.accepted_img (s : State) (o : Origin) (priv : Nat) : (s.accepted o priv).img = s.img := by
  rw [State.accepted_rest]

@[simp] theorem State.accepted_free (s : State) (o : Origin) (priv : Nat) : (s.accepted o priv).free = s.free := by
  rw [State.accepted_rest]

@[simp] theorem State.accepted_pending (s : State) (o : Origin) (priv : Nat) : (s.accepted o priv).pending = s.pending := by
  rw [State.accepted_rest]

/-- A report changes the interface only. -/
theorem State.report_only {chk : Nat} {d : State → List Byte} (h : OnlyHif s t) : OnlyHif s (t.report o op chk d) := by
  unfold State.report State.run
  split
  · exact State.answer_only h
  · split
    · exact State.answer_only h
    · split
      · exact State.answer_only h
      · exact State.finish_only h

/-- A command that the checks of R114 turn away is answered, and does nothing. -/
theorem State.run_refused {priv chk : Nat} {act : State → Res × State} (h : ¬s.lets o op priv) :
    s.run o op priv chk act = s.answer o op (s.gate o op priv) [] := by
  unfold State.run
  rw [if_pos h]

/-- A command whose packet has bad FLAGS gets BAD_PARAM, and does nothing, unless its privilege check fails first. -/
theorem State.run_malformed {priv chk : Nat} {act : State → Res × State} (h : s.lets o op priv) (f : o.form = false)
    (k : chk ≠ st.notPermitted) : s.run o op priv chk act = s.answer o op st.badParam [] := by
  unfold State.run
  rw [if_neg (not_not.2 h), if_pos ⟨by rw [f]; rfl, k⟩]

/-- A command whose own check fails is answered with that status, and does nothing. -/
theorem State.run_rejected {priv chk : Nat} {act : State → Res × State} (h : s.admits o op priv) (k : chk ≠ st.ok) :
    s.run o op priv chk act = s.answer o op chk [] := by
  unfold State.run
  rw [if_neg (not_not.2 h.1), if_neg (fun q => by rw [h.2] at q; exact absurd q.1 (by decide)), if_pos k]

/-- A command that passes the checks of R114 runs, and replies where it ends at once. -/
theorem State.run_admitted {priv chk : Nat} {act : State → Res × State} (h : s.admits o op priv) (k : chk = st.ok) :
    s.run o op priv chk act = Settled s o op (act (s.accepted o priv)) := by
  subst k
  unfold State.run Settled
  refine (if_neg (not_not.2 h.1)).trans ((if_neg (fun q => by rw [h.2] at q; exact absurd q.1 (by decide))).trans ((if_neg (not_not.2 rfl)).trans ?_))
  rcases act (s.accepted o priv) with ⟨⟨status, d⟩ | _, t⟩ <;> rfl

/-- A command that ends at once with another status than STATE has run and replies. -/
theorem State.run_done {priv chk : Nat} {act : State → Res × State} {status : Nat} {d : List Byte} {t : State}
    (h : s.admits o op priv) (k : chk = st.ok) (e : act (s.accepted o priv) = (.done status d, t)) (n : status ≠ st.state) :
    s.run o op priv chk act = t.finish o op status d := by
  rw [State.run_admitted h k, e]
  exact if_neg n

/-- A report that passes the checks of R114 replies OK with its bytes. -/
theorem State.report_admitted {chk : Nat} {d : State → List Byte} (h : s.admits o op 0) (k : chk = st.ok) :
    s.report o op chk d = s.finish o op st.ok (d s) := by
  exact State.run_done h k rfl (by decide)

/-- An event whose meaning is a guarded effect. -/
theorem fires_ite {c : Instr} {g : Prop} [Decidable g] (h : exec c s = .next (if g then t else s)) : Fires c s g t :=
  ⟨fun k => by rw [Goes, h, if_pos k], fun k => by rw [Goes, h, if_neg k]⟩

/-- An event whose meaning stands aside where the guard fails. -/
theorem fires_ite_not {c : Instr} {g b : Prop} [Decidable b] (h : exec c s = .next (if b then s else t)) (e : ¬b ↔ g) :
    Fires c s g t :=
  ⟨fun k => by rw [Goes, h, if_neg (e.2 k)], fun k => by rw [Goes, h, if_pos (not_not.1 fun n => k (e.1 n))]⟩

/-- A guard said in other words. -/
theorem Fires.congr {c : Instr} {g k : Prop} (e : g ↔ k) (h : Fires c s g t) : Fires c s k t :=
  ⟨fun a => h.1 (e.2 a), fun a => h.2 fun b => a (e.1 b)⟩

/-- A command whose meaning is `State.run`. -/
theorem obeys_run {c : Instr} {priv chk : Nat} {act f : State → Res × State}
    (h : exec c s = .next (s.run o op priv chk act)) (e : ∀ r, act r = f r) : Obeys c s o op priv chk f := by
  intro g
  refine ⟨fun k => ?_, fun k => ?_⟩
  · rw [Goes, h, State.run_rejected g k]
  · rw [Goes, h, State.run_admitted g k, e]

/-- A parameter check that holds. -/
theorem param_ok {b : Bool} (h : b = true) : param b = st.ok := by rw [h]; rfl

/-- A parameter check that fails. -/
theorem param_bad {b : Bool} (h : b = false) : param b = st.badParam := by rw [h]; rfl

@[simp] theorem length_toLE (n v : Nat) : (toLE n v).length = n := by
  induction n generalizing v with
  | zero => rfl
  | succ n ih => simp [toLE, ih]

@[simp] theorem length_toLEi (n : Nat) (i : Int) : (toLEi n i).length = n := length_toLE _ _

@[simp] theorem length_padTo (n : Nat) (bs : List Byte) : (padTo n bs).length = n := by
  simp [padTo, zeros]
  omega

end Sys2Proof.Machine
end

