-- ==== Sys2Proof/Machine/Pins.lean ====
section
/-! DEFINITION. The output pins as the state drives them (R42–R44): three-state PWM, push-pull and open-drain outputs, and
what each does without its bank supply. -/

namespace Sys2Proof.Machine

/-- What the device drives on a pin (R43). -/
inductive Drive where
  | high | low | hiZ
  deriving DecidableEq, Repr

/-- R42, R44: a push-pull output: at high impedance while its bank supply is below 1.5 V. -/
def pushPull (bank level : Bool) : Drive := if !bank then .hiZ else if level then .high else .low

/-- R42, R44: an open-drain output: released while its bank supply is below 1.5 V. -/
def openDrain (bank pull : Bool) : Drive := if bank && pull then .low else .hiZ

/-- R42, R268: the bank of a phase's output: PWM0 has an internal 5 V rail, the others VIO_PWM. -/
def State.pwmBank (s : State) (p : Nat) : Bool := p = 0 || s.sys.vioPwm

/-- R43, R268, R271, R285, R286, R289: PWMp at `t`, 100 ps, from the start of the phase's period; `zero` says that the phase's
current has reached zero in this low-side on-time. The output is at high impedance in power-on reset, without its bank supply,
while the phase is unassigned, stopped, shed or failed, through a brake, and in diode emulation from zero current on. -/
def State.pwmPin (s : State) (p t : Nat) (zero : Bool) : Drive :=
  match s.ownerOf p with
  | none => .hiZ
  | some k =>
    if s.sys.por ∨ !s.pwmBank p ∨ !(s.activeMask k).testBit p ∨ s.braking k then .hiZ
    else if t < s.dom.pulse[fin 32 p] then .high
    else if zero && (s.domCh k).de.testBit p then .hiZ
    else .low

/-- R277: the reference's period, 100 ps. -/
def State.refPeriod (s : State) : Nat := 100000000 / max 1 s.refFreq

/-- R277: SYNC_OUT at `t`, 100 ps, from a rising edge of the reference: the reference at 50% duty, or low. -/
def State.syncOutPin (s : State) (t : Nat) : Drive :=
  pushPull s.sys.vioPwm (s.flag Fld.Dom.SYNC_OUT_EN && decide (2 * (t % s.refPeriod) < s.refPeriod))

/-- What a charge-pump gate drive asks of a switch: off, the linear control of a current, mA, or full enhancement. -/
inductive Gate where
  | off | linear (ma : Nat) | full
  deriving DecidableEq, Repr

/-- R305, R307: FPn_GATE: INRUSH holds INRUSH_MA. -/
def State.portGate (s : State) (n : Nat) : Gate :=
  match (s.portCh n).st with
  | .on => .full
  | .inrush => .linear (s.fld Fld.Feed.INRUSH_MA n)
  | .absent | .off | .wait | .delay | .check | .shed | .retryWait | .latched => .off

/-- R190–R193: the switch of an auxiliary input: fully on, but limited to ILIM_MA, in ON. -/
def State.auxGate (s : State) (k : Nat) : Gate :=
  match (s.auxCh k).st with
  | .on => .full
  | .walkIn | .coldConnect => .linear (s.auxLimit k)
  | .off | .disabled | .absent | .delay | .qualified | .matching | .ready | .fault | .latched => .off

/-- R208: a string converter's switching period, ns. -/
def State.stringPeriod (s : State) (k : Nat) : Nat := 1000000 / max 1 (s.fld Fld.Chg.FSW_KHZ k)

/-- R357: the switching period of a PD port's converter, ns. -/
def State.pdPeriod (s : State) (k : Nat) : Nat := 1000000 / max 1 (s.fld Fld.Pd.FSW_KHZ k)

/-- What a port presents on its CC pins (R358, R359). -/
inductive CcPull where
  | open_ | rd | rp (level : Nat)
  deriving DecidableEq, Repr

/-- R52, R358, R359, R373: the dead-battery Rd before firmware ready; then Rp of a port on the source's side, Rd of one on
the sink's, and nothing while it is disabled or in ErrorRecovery. R369, R370: in a swap a source's Rp becomes Rd before its
PS_RDY, and a sink's Rd becomes Rp with the partner's. -/
def State.ccPull (s : State) (k : Nat) : CcPull :=
  let c := s.pdCh k
  if s.sys.por ∨ !s.sys.fwReady then .rd
  else if c.ccOpen then .open_
  else
    match c.st with
    | .disabled | .errorRecovery => .open_
    | .unattachedSnk | .attachWaitSnk | .tryWaitSnk | .trySnk => .rd
    | .unattachedSrc | .attachWaitSrc | .trySrc | .tryWaitSrc => .rp c.rp
    | .attachedSnk | .attachedSrc =>
      if c.source && !(c.swapping && c.phase = 3) && (!c.frs || c.phase = 6) then .rp c.rp else .rd

/-- R391: SEQ_OUT. -/
def State.seqOutPin (s : State) : Drive := pushPull s.sys.vioHost s.seq.seqOut

/-- R393: SEQ_FLT_N, which this device pulls low while it asserts it. -/
def State.seqFltPin (s : State) : Drive := openDrain s.sys.vioHost s.seq.fltOwn

/-- R61, R397: RST_OUT_N, low while a reset requires it or a watchdog pulse runs. -/
def State.rstOutPin (s : State) : Drive := openDrain s.sys.vioHost (s.sys.rstOut || s.seq.pulse.isSome)

/-- R91: IRQ_N. -/
def State.irqPin (s : State) : Drive := openDrain s.sys.vioHost s.irqLow

/-- R52, R418, R449: FANm: at 100% until firmware is ready, then as its channel drives it. -/
def State.fanPin (s : State) (m : Fin 4) : Drive :=
  pushPull s.sys.vioPwm (!s.sys.fwReady || (s.meas.cc[fin 8 m.val]).out)

/-- R52, R418: TB_OUTm: its channel's output in mode 1, low in the other modes. -/
def State.tbOutPin (s : State) (m : Fin 4) : Drive :=
  pushPull s.sys.vioPwm (s.sys.fwReady && s.fld Fld.Meas.MODE (4 + m.val) = 1 && (s.meas.cc[fin 8 (4 + m.val)]).out)

end Sys2Proof.Machine
end

