-- ==== Sys2Proof/Machine/Gates.lean ====
section
/-! DEFINITION. The gate outputs of a rectifier channel as the state drives them (R155–R159): the PFC legs, the LLC bridge and
the synchronous rectifiers, with their dead times, blanking and cycle-by-cycle limits. -/

namespace Sys2Proof.Machine

/-- The switch of a half bridge that conducts. -/
inductive Leg where
  | high | low | off
  deriving DecidableEq, Repr

/-- The two gate outputs of a half bridge, high side first (R42: logic at the section's own 5 V). -/
def Leg.pins (powered : Bool) (l : Leg) : Drive × Drive :=
  (pushPull powered (decide (l = .high)), pushPull powered (decide (l = .low)))

/-- R142, R148: a dead time of an instance, ns, in the bank the section uses: `off` its offset in the table, `w` its size. -/
def State.deadTime (s : State) (k inst off w : Nat) : Nat := u (s.table (s.pal.pendSec.testBit k) 0x0B inst) off w

/-- R156, R157: a half bridge whose high side is asked for from 0 to `on` of its period, at `t`, ns: each switch turns on after
its own dead time. -/
def bridgeAt (rise fall on t : Nat) : Leg :=
  if t < on then (if rise ≤ t then .high else .off) else if on + fall ≤ t then .low else .off

/-- R155: the bulk reference, mV: in PFC_RAMP it rises from the measured bulk to BULK_MV over PFC_SS_MS. -/
def State.bulkRef (s : State) (k : Nat) : Nat :=
  let c := s.rectCh k
  let goal := s.secF Fld.Rect.BULK_MV k
  let ramp := max 1 (ms (s.secF Fld.Rect.PFC_SS_MS k))
  let t := min ramp (s.now - c.tState)
  if c.st = .pfcRamp then (c.bulkFrom * (ramp - t) + goal * t) / ramp else goal

/-- R156: the PFC switching period, ns. -/
def State.pfcPeriod (s : State) (k : Nat) : Nat := 1000000 / max 1 (s.secF Fld.Rect.PFC_KHZ k)

/-- R156: the duty after the blanking, ramped over one further ZC_BLANK_US: what is left of an on-time of `on` ns. -/
def State.zcRamp (s : State) (k on : Nat) : Nat :=
  let blank := max 1 (us (s.secF Fld.Rect.ZC_BLANK_US k))
  on * min blank (s.now - ((s.rectCh k).tZc + blank)) / blank

/-- The cycle-by-cycle limit at a current-sense voltage of 0.900 V (R156, R157), µV. -/
def senseLimit (uv : Int) : Bool := 900000 ≤ uv.natAbs

/-- R156, R166: fast leg A, or B, at `t` ns of the switching period: `on` is the on-time of the current loop, `lim` when the
phase's current reached its limit in this period. Leg B switches half a period later. -/
def State.pfcLeg (s : State) (k : Nat) (legB : Bool) (on : Nat) (lim : Option Nat) (t : Nat) : Leg :=
  let c := s.rectCh k
  let per := s.pfcPeriod k
  let t := (if legB then t + per - per / 2 else t) % max 1 per
  let on := min (s.zcRamp k on) (lim.getD per)
  if !c.pfc ∨ c.peakHold ∨ c.bulkHold ∨ (legB ∧ c.shedB) ∨ s.zcBlank k then .off
  else bridgeAt (s.deadTime k c.dtInst 0 1) (s.deadTime k c.dtInst 1 1) on t

/-- R156: the slow leg commutates at the line's zero-crossings. -/
def State.slowPos (s : State) (k : Nat) : Leg :=
  let c := s.rectCh k
  if !c.pfc then .off else if c.slowLeg then .high else .low

/-- R157, R158: the LLC bridge at `t` ns of its period, leg A; leg B is its opposite. `lim`, `lim2` are when the primary
current reached its limit in each half-period, which then ends. -/
def State.llcLeg (s : State) (k : Nat) (lim lim2 : Option Nat) (t : Nat) : Leg :=
  let c := s.rectCh k
  let half := min c.bar.period (lim.getD c.bar.period)
  let rest := min c.bar.period (lim2.getD c.bar.period)
  let dt := s.deadTime k c.dtInst 2 2
  if !c.llc ∨ c.bar.period = 0 ∨ half + rest ≤ t then .off else bridgeAt dt dt half t

/-- The other leg of a bridge. -/
def Leg.opposite : Leg → Leg
  | .high => .low | .low => .high | .off => .off

/-- R159: an SR gate after a sample of its drain, mV: `t` is the time since the body diode began to conduct, `cond` the
conduction time of the previous period, both ns. -/
def State.srGate (s : State) (k : Nat) (on : Bool) (drain : Int) (t cond : Nat) : Bool :=
  let c := s.rectCh k
  let ends := cond ≤ t + s.deadTime k c.srInst 6 2
  if !c.sr ∨ !c.delivers ∨ c.burst ∨ s.ctrlDown then false
  else if on then drain ≤ -20 && !ends
  else drain < -200 && s.deadTime k c.srInst 4 2 ≤ t && !ends

/-- R159: the drain of a gate that is on shows reverse current. -/
def srReverse (on : Bool) (drain : Int) : Bool := on && decide (100 < drain)

/-- R42, R159: SRGnA or SRGnB. -/
def State.srPin (s : State) (on : Bool) : Drive := pushPull s.sys.vioPwm on

/-- R42, R44, R208: BATx_HG1 and LG1 (the bus-side leg), then HG2 and LG2 (the pack-side leg), as the modulator asks of the
legs: off while the converter stands (R211), at high impedance without VIO_PWM. -/
def State.stringPins (s : State) (k : Nat) (bus pack : Leg) : (Drive × Drive) × (Drive × Drive) :=
  let c := s.strCh k
  let on : Bool := c.st = .matching || c.st = .connected || c.st = .chargeOnly || c.st = .test
  let pins (l : Leg) : Drive × Drive := Leg.pins s.sys.vioPwm (if on then l else .off)
  (pins bus, pins pack)

/-- R42, R44, R357: PDx_HG1, LG1, HG2 and LG2, the same way. -/
def State.pdPins (s : State) (k : Nat) (bus port : Leg) : (Drive × Drive) × (Drive × Drive) :=
  let pins (l : Leg) : Drive × Drive := Leg.pins s.sys.vioPwm (if (s.pdCh k).conv then l else .off)
  (pins bus, pins port)

/-- R57, R155: RLYn sinks its relay's current while the relay is closed. -/
def State.relayPin (s : State) (k : Nat) : Drive := openDrain (s.rectCh k).powered (s.rectCh k).relay

end Sys2Proof.Machine
end

