-- ==== Sys2Proof/WellFormed.lean ====
section
/-! DEFINITION. Well-formed commands: operands that the interfaces of the device can carry. The step gives every command its
effect whether it is well formed or not. -/

namespace Sys2Proof

/-- R104, R105, R118: what can reach the device as a Korisk packet: at most 4,086 parameter bytes, a level of 0 to 3, and no
NO_REPLY beside a group destination. -/
def packetWf (o : Origin) (p : List Byte) : Bool :=
  p.length ≤ 4086 && o.level ≤ 3 && o.src < 256 && !(o.noReply && o.fanned)

/-- R167: a line of 10-bit symbols of the barrier. -/
def lineWf (line : List Nat) : Bool := line.all fun w => w < 1024

/-- The operands of a command fit the fields that carry them: packets (R104), frames of at most 265 symbols (R334), lines
of 10-bit symbols (R167), registers, and messages of at most seven data objects. -/
def Instr.wf : Instr → Bool
  | .powerOnReset _ => true
  | .porRelease _ => true
  | .hk12Good => true
  | .hk12Timeout => true
  | .hk12Retry => true
  | .keepThresholdCross _ => true
  | .strapSample _ _ => true
  | .bootImageSelect => true
  | .firmwareReady _ _ _ => true
  | .rstOutRelease => true
  | .pinResetAssert => true
  | .pinResetRelease => true
  | .reset o p => packetWf o p
  | .coldResetSeqDone => true
  | .resetCause o p => packetWf o p
  | .d0BootRecord o p => packetWf o p
  | .keepReservoir o p => packetWf o p
  | .lockstepMismatch => true
  | .fwWatchdogExpiry => true
  | .firmwareRestart => true
  | .hostWdWrite _ _ => true
  | .hostWdExpiry => true
  | .crystalFail => true
  | .tick10us => true
  | .shareTick => true
  | .sectionPowerUp _ => true
  | .autonomousStart _ => true
  | .autonomousTimeout _ => true
  | .autonomousRetry _ => true
  | .registerWrite _ => true
  | .timeSnapRead _ n => 1 ≤ n
  | .irqFlagsClear bytes hw => 1 ≤ bytes.length && bytes.length ≤ 5 && hw < 2 ^ 32
  | .i2cWake => true
  | .i2cSleep => true
  | .smbusTimeout => true
  | .submitMore => true
  | .submitLast => true
  | .release => true
  | .abort => true
  | .alertResponse _ => true
  | .hostNotify _ => true
  | .hostNotifyRetry _ => true
  | .regWrite _ => true
  | .regRead _ _ => true
  | .pktWrite len _ => len < 2 ^ 16
  | .pktRead _ => true
  | .streamRead _ => true
  | .page _ => true
  | .operation _ => true
  | .onOffConfig _ => true
  | .clearFaults _ => true
  | .writeProtect _ => true
  | .capability _ => true
  | .voutMode _ => true
  | .voutCommand _ => true
  | .voutMarginHigh _ => true
  | .voutMarginLow _ => true
  | .voutTransitionRate _ => true
  | .statusByte _ => true
  | .statusWord _ => true
  | .statusVout _ => true
  | .statusIout _ => true
  | .statusCml _ => true
  | .readVout _ => true
  | .readIout _ => true
  | .readTemperature1 _ => true
  | .pmbusRevision _ => true
  | .mfrId _ => true
  | .mfrModel _ => true
  | .hifConfig o p => packetWf o p
  | .hifStatus o p => packetWf o p
  | .remoteReply node bytes => 1 ≤ node && node ≤ 239 && bytes.length ≤ 4096
  | .forwardTimeout => true
  | .segmentHoldExpiry _ => true
  | .nop o p => packetWf o p
  | .sysStatus o p => packetWf o p
  | .privChallenge o p => packetWf o p
  | .privResponse o p => packetWf o p
  | .privDrop o p => packetWf o p
  | .privLockoutEnd => true
  | .privSessionTimeout _ => true
  | .nodeGroups o p => packetWf o p
  | .easelWrite o blk p => blk < 256 && packetWf o p
  | .easelCommit o blk p => blk < 256 && packetWf o p
  | .easelDiscard o blk p => blk < 256 && packetWf o p
  | .easelRead o blk p => blk < 256 && packetWf o p
  | .easelStatus o blk p => blk < 256 && packetWf o p
  | .commitLand _ ch _ => ch < 32
  | .lValueLand _ ch _ => ch < 32
  | .commitTimeout => true
  | .multiCommit o p => packetWf o p
  | .easelSave o p => packetWf o p
  | .palBegin o p => packetWf o p
  | .palData o p => packetWf o p
  | .palEnd o p => packetWf o p
  | .palSwitch o p => packetWf o p
  | .palStatus o p => packetWf o p
  | .palRead o p => packetWf o p
  | .paletteAdopt _ ch => ch < 32
  | .palSwitchTimeout => true
  | .sectionPowerLoss _ => true
  | .barrierHeartbeat _ _ line => lineWf line
  | .barrierSilence _ => true
  | .barrierEstablished _ _ => true
  | .init _ line => lineWf line
  | .config _ line => lineWf line
  | .commit _ line => lineWf line
  | .command _ line => lineWf line
  | .time _ line => lineWf line
  | .srTiming _ line => lineWf line
  | .hello _ line => lineWf line
  | .status _ line => lineWf line
  | .halfCycle _ line => lineWf line
  | .ack _ line => lineWf line
  | .faultFrame _ line => lineWf line
  | .barrierResend _ => true
  | .fltLine _ => true
  | .dropLine _ => true
  | .stopLine _ => true
  | .stopRelease _ => true
  | .halfCycleEnd _ _ _ _ => true
  | .qualTimerExpiry _ => true
  | .prechargeTimeout _ => true
  | .relaySettled _ => true
  | .pfcRampDone _ _ => true
  | .llcStartDone _ _ => true
  | .llcSsTimeout _ => true
  | .walkInDone _ => true
  | .dropoutPredicted _ => true
  | .zcLateExpiry _ => true
  | .predictionTimeout _ => true
  | .bulkMinReached _ _ => true
  | .linePeakLimit _ _ => true
  | .bulkOvLimit _ _ => true
  | .bulkOvTrip _ _ => true
  | .pfcOcTrip _ => true
  | .llcOcTrip _ => true
  | .capacitiveModeTrip _ => true
  | .mainsThermalTrip => true
  | .busOvStop _ => true
  | .srReverseDisable _ => true
  | .shareToleranceFault _ => true
  | .rectControl o p => packetWf o p
  | .rectStatus o p => packetWf o p
  | .barrierStatus o p => packetWf o p
  | .busUndervoltage _ _ => true
  | .busWindowExit _ => true
  | .auxWindowEnter _ _ => true
  | .auxWindowExit _ _ _ => true
  | .auxInsertDone _ => true
  | .auxMatchDone _ => true
  | .auxWalkInDone _ _ _ => true
  | .coldConnectDone _ _ => true
  | .auxSoaTrip _ _ => true
  | .auxFastTrip _ _ => true
  | .auxReverseTrip _ _ _ => true
  | .auxRetry _ => true
  | .bbmGapDone _ => true
  | .busStatus o p => packetWf o p
  | .auxControl o p => packetWf o p
  | .stringMatchDone _ _ => true
  | .stringMatchTimeout _ => true
  | .stringColdDone _ => true
  | .chgOkDeassert _ => true
  | .chgOkAssert _ => true
  | .dsgOkDeassert _ => true
  | .dsgOkAssert _ => true
  | .ntcRecover _ _ => true
  | .endOfDischarge _ => true
  | .stringRetry _ => true
  | .stringFastTrip _ _ => true
  | .stringOvertempTrip _ => true
  | .packOvervoltage _ _ _ => true
  | .chargerTick => true
  | .prechargeTimerExpiry _ => true
  | .cccvTimerExpiry _ => true
  | .wallTimerExpiry _ => true
  | .chargeResume _ => true
  | .stringTestEnd _ _ => true
  | .stringControl o p => packetWf o p
  | .chgControl o p => packetWf o p
  | .stringTest o p => packetWf o p
  | .chgStatus o p => packetWf o p
  | .gaugeUpdate _ => true
  | .gaugeStateSave _ => true
  | .varnishRetry => true
  | .gaugeStatus o p => packetWf o p
  | .gaugeReset o p => packetWf o p
  | .gaugeSetFcc o p => packetWf o p
  | .domainInputReady _ => true
  | .domainInputLost _ => true
  | .domainCheckDone _ sws => sws.length ≤ 8
  | .softStartDone _ => true
  | .domainSsTimeout _ => true
  | .domainOv _ _ _ => true
  | .domainUv _ _ _ => true
  | .remoteSenseFault _ => true
  | .domainOcTrip _ => true
  | .domainRetry _ => true
  | .referenceArrived _ => true
  | .softStopDone _ => true
  | .loadRelease _ => true
  | .loadReleaseEnd _ _ => true
  | .phaseFail _ _ => true
  | .syncLost => true
  | .syncRelock _ _ => true
  | .domControl o p => packetWf o p
  | .domVout o p => packetWf o p
  | .domStatus o p => packetWf o p
  | .phaseStatus o p => packetWf o p
  | .meteringSlot _ => true
  | .portWindowEnter _ => true
  | .portWindowExit _ => true
  | .portInsertDone _ => true
  | .portCheckPass _ _ => true
  | .portSwitchShort _ _ => true
  | .portInrushDone _ _ => true
  | .portSoaTrip _ => true
  | .portFastTrip _ _ => true
  | .portReverseCurrent _ _ _ => true
  | .portRetry _ => true
  | .portUnshed => true
  | .portControl o p => packetWf o p
  | .portStatus o p => packetWf o p
  | .portMeter o p => packetWf o p
  | .linkTrainSwitch _ => true
  | .linkPortUp _ _ => true
  | .linkPortDown _ _ _ => true
  | .shareFrame _ t f => f.length ≤ 265 && t < 2 ^ 64
  | .shareFrameReturn _ _ f => f.length ≤ 265
  | .decisionFrame _ t f => f.length ≤ 265 && t < 2 ^ 64
  | .sharePeriodMissed => true
  | .rootElection => true
  | .faultEvent _ f => f.length ≤ 265
  | .dropEvent _ f => f.length ≤ 265
  | .dropClearEvent _ f => f.length ≤ 265
  | .breakEvent _ f => f.length ≤ 265
  | .rootClaim _ f => f.length ≤ 265
  | .gen1Event _ f => f.length ≤ 265
  | .ident _ f _ _ => f.length ≤ 265
  | .commandFrame _ f => f.length ≤ 265
  | .ringRestore => true
  | .linkStatus o p => packetWf o p
  | .nodeTable o p => packetWf o p
  | .enumerate o p => packetWf o p
  | .capStatus o p => packetWf o p
  | .ccDebounceDone _ => true
  | .pdDebounceDone _ => true
  | .drpToggle _ => true
  | .errorRecoveryDone _ => true
  | .pdDetach _ _ _ => true
  | .pdMessageReceived _ _ header data => header < 2 ^ 16 && data.length ≤ 28
  | .crcReceiveTimeout _ => true
  | .sinkTxWaitDone _ => true
  | .amsTimeout _ => true
  | .senderResponseExpiry _ => true
  | .psTransitionExpiry _ => true
  | .psSourceTimeout _ => true
  | .hardResetReceived _ => true
  | .psHardResetDone _ => true
  | .safe0vTimeout _ => true
  | .srcRecoverDone _ => true
  | .sinkHardResetWaitEnd _ => true
  | .srcTransitionDone _ => true
  | .sourceChangeDone _ _ _ => true
  | .srcSettleTimeout _ => true
  | .frsSignalReceived _ _ => true
  | .frsVbusDrop _ _ => true
  | .sourceLimitRestored _ => true
  | .pdSrcOv _ _ => true
  | .pdSrcOc _ _ _ => true
  | .pdSinkOv _ _ => true
  | .ccOv _ _ => true
  | .vconnOc _ _ _ => true
  | .pdControl o p => packetWf o p
  | .pdTx o p => packetWf o p
  | .pdEvent o p => packetWf o p
  | .pdPower o p => packetWf o p
  | .pdSwap o p => packetWf o p
  | .pdStatus o p => packetWf o p
  | .seqStepSettled => true
  | .seqStepTimeout => true
  | .seqDelayDone => true
  | .seqChatter => true
  | .seqMemberLost _ => true
  | .seqInChange _ _ => true
  | .seqFltSensed _ => true
  | .emWindowExit _ => true
  | .emWindowEnter _ => true
  | .wdiEdge _ => true
  | .wdiExpiry => true
  | .rstPulseEnd => true
  | .seqStart o p => packetWf o p
  | .seqControl o p => packetWf o p
  | .seqStatus o p => packetWf o p
  | .emStatus o p => packetWf o p
  | .adcConversion _ _ _ _ => true
  | .triggerMiss _ _ _ => true
  | .triadDisagree _ => true
  | .calPassStart _ => true
  | .calPassComputed => true
  | .calPassTimeout => true
  | .calPassAccepted => true
  | .captureEdge _ _ _ => true
  | .tachEdge _ => true
  | .tachTimeout _ => true
  | .adcStatus o p => packetWf o p
  | .measPeek o p => packetWf o p
  | .telemRead o p => packetWf o p
  | .calRun o p => packetWf o p
  | .calStatus o p => packetWf o p
  | .ccStatus o p => packetWf o p
  | .thermalWindow _ => true
  | .thermalShutdown _ => true
  | .thermalShutdownEnd _ => true
  | .fanUpdate => true
  | .fanStall _ _ => true
  | .fanStallClear _ _ => true
  | .thermalStatus o p => packetWf o p
  | .fanStatus o p => packetWf o p
  | .historyRecord => true
  | .eventFlush => true
  | .nandOpDone _ => true
  | .nandTimeout => true
  | .captureFreeze => true
  | .captureCommit => true
  | .scrubStart => true
  | .scrubSlice _ _ _ _ _ => true
  | .streamTimeout => true
  | .skbStatus o p => packetWf o p
  | .skbRead o p => packetWf o p
  | .skbStreamStop o p => packetWf o p
  | .skbCaptureInfo o p => packetWf o p
  | .skbTrigger o p => packetWf o p
  | .skbMark o p => packetWf o p
  | .skbClear o p => packetWf o p
  | .faultRaise code ch => code < 2 ^ 16 && ch < 256
  | .handlerComplete => true
  | .imgBegin o p => packetWf o p
  | .imgData o p => packetWf o p
  | .imgEnd o p => packetWf o p
  | .imgActivate o p => packetWf o p
  | .imgConfirm o p => packetWf o p
  | .imgStatus o p => packetWf o p
  | .faultStatus o p => packetWf o p
  | .faultActive o p => packetWf o p
  | .bankSupplyChange _ _ => true
  | .spiUnknownInstruction b => b ∉ [0x01, 0x03, 0x10, 0x11, 0x12]
  | .pmbusUnsupportedCommand _ _ => true
  | .converterPeriodEnd _ => true
  | .domainPwmPeriod _ _ _ _ _ => true
  | .bulkDropConfirmation _ _ => true
  | .bulkOvRelease _ _ => true
  | .domainUvClear _ _ _ => true
  | .domainTripCountClear _ => true
  | .portTripCountClear _ => true
  | .ccStateChange _ _ _ => true
  | .vbusLevelReached _ _ => true
  | .bistCarrierEnd _ => true
  | .seqFltReleased => true
  | .ccCounterWrap _ => true
  | .ccCompareMatch _ => true
  | .captureSample => true

end Sys2Proof
end

