-- ==== Sys2Proof/Tests/Slice0.lean ====
section
/-! SUPPORT. The author's own tests: commands that are not well formed are refused; for each statement with hypotheses a
witness that meets them; single steps whose results the spec gives. -/

namespace Sys2Proof.Tests

open Sys2Proof Sys2Proof.Machine

set_option Elab.async false

/-! ## Well-formedness -/

/-- A packet of the I2C session. -/
def ho : Origin := { itf := .i2c, src := 0, level := 0, tag := 0, noReply := false, fanned := false }

/-- An origin with a level that no session has. -/
def high : Origin := { ho with level := 4 }

theorem test_wf_accepts : (Instr.nop ho []).wf = true ∧ (Instr.remoteReply 239 []).wf = true ∧
    (Instr.easelRead ho 0x12 []).wf = true ∧ (Instr.irqFlagsClear (zeros 5) 0).wf = true ∧ (Instr.irqFlagsClear (zeros 1) 0).wf = true ∧
    (Instr.timeSnapRead none 1).wf = true := by decide

theorem test_packet_checks_refuse :
    (Instr.nop high []).wf = false ∧ (Instr.nop { ho with src := 256 } []).wf = false ∧
    (Instr.nop { ho with noReply := true, fanned := true } []).wf = false ∧
    (Instr.nop ho (List.replicate 4087 0)).wf = false ∧ (Instr.nop ho (List.replicate 4086 0)).wf = true := by
  decide +kernel

theorem test_packet_commands_refuse_a_bad_origin_1 :
    (Instr.reset high []).wf = false ∧ (Instr.resetCause high []).wf = false ∧ (Instr.d0BootRecord high []).wf = false ∧
    (Instr.keepReservoir high []).wf = false ∧ (Instr.hifConfig high []).wf = false ∧ (Instr.hifStatus high []).wf = false ∧
    (Instr.nop high []).wf = false ∧ (Instr.sysStatus high []).wf = false ∧ (Instr.privChallenge high []).wf = false ∧
    (Instr.privResponse high []).wf = false ∧ (Instr.privDrop high []).wf = false ∧ (Instr.nodeGroups high []).wf = false ∧
    (Instr.multiCommit high []).wf = false ∧ (Instr.easelSave high []).wf = false ∧ (Instr.palBegin high []).wf = false ∧
    (Instr.palData high []).wf = false ∧ (Instr.palEnd high []).wf = false ∧ (Instr.palSwitch high []).wf = false ∧
    (Instr.palStatus high []).wf = false ∧ (Instr.palRead high []).wf = false ∧ (Instr.rectControl high []).wf = false ∧
    (Instr.rectStatus high []).wf = false ∧ (Instr.barrierStatus high []).wf = false ∧ (Instr.busStatus high []).wf = false ∧
    (Instr.auxControl high []).wf = false ∧ (Instr.stringControl high []).wf = false ∧ (Instr.chgControl high []).wf = false ∧
    (Instr.stringTest high []).wf = false ∧ (Instr.chgStatus high []).wf = false ∧ (Instr.gaugeStatus high []).wf = false ∧
    (Instr.gaugeReset high []).wf = false ∧ (Instr.gaugeSetFcc high []).wf = false ∧ (Instr.domControl high []).wf = false ∧
    (Instr.domVout high []).wf = false ∧ (Instr.domStatus high []).wf = false := by decide

theorem test_packet_commands_refuse_a_bad_origin_2 :
    (Instr.phaseStatus high []).wf = false ∧ (Instr.portControl high []).wf = false ∧ (Instr.portStatus high []).wf = false ∧
    (Instr.portMeter high []).wf = false ∧ (Instr.linkStatus high []).wf = false ∧ (Instr.nodeTable high []).wf = false ∧
    (Instr.enumerate high []).wf = false ∧ (Instr.capStatus high []).wf = false ∧ (Instr.pdControl high []).wf = false ∧
    (Instr.pdTx high []).wf = false ∧ (Instr.pdEvent high []).wf = false ∧ (Instr.pdPower high []).wf = false ∧
    (Instr.pdSwap high []).wf = false ∧ (Instr.pdStatus high []).wf = false ∧ (Instr.seqStart high []).wf = false ∧
    (Instr.seqControl high []).wf = false ∧ (Instr.seqStatus high []).wf = false ∧ (Instr.emStatus high []).wf = false ∧
    (Instr.adcStatus high []).wf = false ∧ (Instr.measPeek high []).wf = false ∧ (Instr.telemRead high []).wf = false ∧
    (Instr.calRun high []).wf = false ∧ (Instr.calStatus high []).wf = false ∧ (Instr.ccStatus high []).wf = false ∧
    (Instr.thermalStatus high []).wf = false ∧ (Instr.fanStatus high []).wf = false ∧ (Instr.skbStatus high []).wf = false ∧
    (Instr.skbRead high []).wf = false ∧ (Instr.skbStreamStop high []).wf = false ∧ (Instr.skbCaptureInfo high []).wf = false ∧
    (Instr.skbTrigger high []).wf = false ∧ (Instr.skbMark high []).wf = false ∧ (Instr.skbClear high []).wf = false ∧
    (Instr.imgBegin high []).wf = false ∧ (Instr.imgData high []).wf = false := by decide

theorem test_packet_commands_refuse_a_bad_origin_3 :
    (Instr.imgEnd high []).wf = false ∧ (Instr.imgActivate high []).wf = false ∧ (Instr.imgConfirm high []).wf = false ∧
    (Instr.imgStatus high []).wf = false ∧ (Instr.faultStatus high []).wf = false ∧ (Instr.faultActive high []).wf = false := by decide

theorem test_easel_checks_refuse :
    (Instr.easelWrite ho 256 []).wf = false ∧ (Instr.easelCommit ho 256 []).wf = false ∧
    (Instr.easelDiscard ho 256 []).wf = false ∧ (Instr.easelRead ho 256 []).wf = false ∧
    (Instr.easelStatus ho 256 []).wf = false ∧ (Instr.easelWrite high 7 []).wf = false ∧
    (Instr.easelCommit high 7 []).wf = false ∧ (Instr.easelDiscard high 7 []).wf = false ∧
    (Instr.easelRead high 7 []).wf = false ∧ (Instr.easelStatus high 7 []).wf = false ∧
    (Instr.commitLand .dom0 32 .main).wf = false ∧ (Instr.lValueLand .dom0 32 .main).wf = false ∧
    (Instr.paletteAdopt 0 32).wf = false := by decide

theorem test_interface_checks_refuse :
    (Instr.irqFlagsClear [] 0).wf = false ∧ (Instr.irqFlagsClear (zeros 6) 0).wf = false ∧
    (Instr.irqFlagsClear [0] (2 ^ 32)).wf = false ∧ (Instr.timeSnapRead none 0).wf = false ∧
    (Instr.pktWrite 65536 []).wf = false ∧ (Instr.remoteReply 0 []).wf = false ∧ (Instr.remoteReply 240 []).wf = false ∧
    (Instr.remoteReply 1 (List.replicate 4097 0)).wf = false ∧ (Instr.faultRaise 65536 0).wf = false ∧
    (Instr.faultRaise 0 256).wf = false := by
  decide +kernel

theorem test_barrier_checks_refuse :
    lineWf [1023] ∧ (Instr.barrierHeartbeat 0 true [1024]).wf = false ∧ (Instr.init 0 [1024]).wf = false ∧
    (Instr.config 0 [0, 1024]).wf = false ∧ (Instr.commit 0 [1024]).wf = false ∧ (Instr.command 0 [1024]).wf = false ∧
    (Instr.time 0 [1024]).wf = false ∧ (Instr.srTiming 0 [1024]).wf = false ∧ (Instr.hello 0 [1024]).wf = false ∧
    (Instr.status 0 [1024]).wf = false ∧ (Instr.halfCycle 0 [1024]).wf = false ∧ (Instr.ack 0 [1024]).wf = false ∧
    (Instr.faultFrame 0 [1024]).wf = false := by decide +kernel

theorem test_link_checks_refuse :
    (Instr.shareFrame 0 0 (zeros 266)).wf = false ∧ (Instr.shareFrame 0 (2 ^ 64) []).wf = false ∧
    (Instr.shareFrameReturn 0 0 (zeros 266)).wf = false ∧ (Instr.decisionFrame 0 0 (zeros 266)).wf = false ∧
    (Instr.decisionFrame 0 (2 ^ 64) []).wf = false ∧ (Instr.faultEvent 0 (zeros 266)).wf = false ∧
    (Instr.dropEvent 0 (zeros 266)).wf = false ∧ (Instr.dropClearEvent 0 (zeros 266)).wf = false ∧
    (Instr.breakEvent 0 (zeros 266)).wf = false ∧ (Instr.rootClaim 0 (zeros 266)).wf = false ∧
    (Instr.gen1Event 0 (zeros 266)).wf = false ∧ (Instr.ident 0 (zeros 266) 0 0).wf = false ∧
    (Instr.commandFrame 0 (zeros 266)).wf = false ∧ (Instr.commandFrame 0 (zeros 265)).wf = true := by
  decide +kernel

theorem test_pd_and_domain_checks_refuse :
    (Instr.pdMessageReceived 0 0 65536 []).wf = false ∧ (Instr.pdMessageReceived 0 0 0 (zeros 29)).wf = false ∧
    (Instr.domainCheckDone 0 (List.replicate 9 0)).wf = false := by decide

/-! ## States for the witnesses -/

/-- The device running, both interfaces live. -/
def live : State := State.reset.onSys fun y =>
  { y with por := false, mode := .running, fwReady := true, hk := .good, vioHost := true, sampled := true, nandBar := false }

/-- The same with both sessions at Install. -/
def inst : State := live.onHif fun h => { h with i2c := { level := 2, tInstall := 0 }, spiS := { level := 2, tInstall := 0 } }

/-- A configuration field of a channel at a value. -/
def setField (f : Field) (v ch : Nat) (s : State) : State :=
  s.onCopy f.record ch fun c => { c with live := f.set v c.live, easel := f.set v c.easel }

/-- Both a state where an event acts and one where it does not. -/
def Both (g : State → Prop) : Prop := (∃ s, g s) ∧ ∃ s, ¬g s

theorem both {g : State → Prop} (s t : State) (h : g s) (k : ¬g t) : Both g := ⟨⟨s, h⟩, ⟨t, k⟩⟩

/-- Parameters that a command takes, and some that it refuses. -/
def Checks (chk : List Byte → Nat) : Prop := (∃ p, chk p = st.ok) ∧ ∃ p, chk p ≠ st.ok

theorem checks {chk : List Byte → Nat} (p q : List Byte) (h : chk p = st.ok) (k : chk q ≠ st.ok) : Checks chk :=
  ⟨⟨p, h⟩, ⟨q, k⟩⟩

/-- A session at Install runs every command of a running device. -/
theorem inst_admits (op priv : Nat) (h : priv ≤ 2) : inst.admits ho op priv := by
  refine ⟨?_, rfl⟩
  show (if 2 < priv then st.notPermitted else st.ok) = st.ok
  rw [if_neg (by omega)]

/-! ## Witnesses: the block as a whole -/

theorem witness_StepIdles : (∃ s : State, s.pending = [] ∧ s.sys.por) ∧ ∃ s : State, s.pending = [] ∧ s.sys.por = false :=
  ⟨⟨.reset, rfl, rfl⟩, ⟨live, rfl, rfl⟩⟩

/-- An entry of the fault queue. -/
def entry (sev seq time : Nat) : QEntry := { code := 0x0101, ch := 0xFF, sev := sev, seq := seq, time := time, count := 1 }

/-- A queue with a running handler, three suspended ones and three entries that wait. -/
def fullQueue : Flt :=
  { Flt.reset with queue := [entry 3 4 10, entry 3 5 11, entry 1 6 5], running := some (entry 4 3 0),
                   susp := [entry 3 2 0, entry 2 1 0, entry 1 0 0] }

theorem fullQueue_ordered : fullQueue.Ordered :=
  ⟨by decide, by decide, by decide, by decide, by decide⟩

theorem witness_FaultQueueStaysOrdered :
    ∃ s t : State, s.flt.Ordered ∧ step s = .next t ∧ s.flt.queue ≠ [] ∧ s.pending = [.handlerComplete] :=
  ⟨(inst.onFlt fun _ => fullQueue).onSys id |> fun s => { s with pending := [.handlerComplete] }, _, fullQueue_ordered, rfl,
    by decide +kernel, rfl⟩

theorem witness_AtMostThreeSuspended : ∃ f : Flt, f.Ordered ∧ f.susp.length = 3 := ⟨fullQueue, fullQueue_ordered, rfl⟩

theorem witness_BootRecordsStayInSlots :
    ∃ s t : State, s.sys.bootRecs.length = 4 ∧ s.sys.bootRecs.length ≤ 4 ∧ step s = .next t :=
  ⟨live.onSys fun y => { y with bootRecs := List.replicate 4 BootRec.default }, _, rfl, by decide +kernel, rfl⟩

theorem witness_IdentityStays : ∃ s t : State, s.pending = [.hk12Good] ∧ step s = .next t :=
  ⟨{ live with pending := [.hk12Good] }, _, rfl, rfl⟩

/-! ## Witnesses: host commands -/

theorem witness_ReportsChangeOnlyTheInterface :
    (∃ o p c s t, IsReport o p c ∧ Goes c s t ∧ s.admits o 0x0100 0) ∧
    (∃ o p c s t, IsReport o p c ∧ Goes c s t ∧ ¬s.admits o 0x1302 0) ∧
    ∀ blk, IsReport ho [] (.easelRead ho blk []) ∧ IsReport ho [] (.easelStatus ho blk []) :=
  ⟨⟨ho, [], .nop ho [], live, _, Or.inr List.mem_cons_self, rfl, by decide +kernel⟩,
    ⟨ho, [], .faultActive ho [], .reset, _, by simp [IsReport], rfl, by decide +kernel⟩,
    fun blk => ⟨Or.inl ⟨blk, Or.inl rfl⟩, Or.inl ⟨blk, Or.inr rfl⟩⟩⟩

theorem witness_TurnedAwayCommandsDoNothing :
    (∃ (o : Origin) (p : List Byte) (c : Instr) (op priv : Nat) (s : State), IsCommand o p c op priv ∧ ¬s.admits o op priv ∧ s.gate o op priv = st.busy) ∧
    (∃ (o : Origin) (p : List Byte) (c : Instr) (op priv : Nat) (s : State), IsCommand o p c op priv ∧ ¬s.admits o op priv ∧ s.gate o op priv = st.state) ∧
    (∃ (o : Origin) (p : List Byte) (c : Instr) (op priv : Nat) (s : State), IsCommand o p c op priv ∧ ¬s.admits o op priv ∧ s.gate o op priv = st.notPermitted) ∧
    ∃ (o : Origin) (p : List Byte) (c : Instr) (op priv : Nat) (s : State), IsCommand o p c op priv ∧ s.lets o op priv ∧ o.form = false :=
  ⟨⟨ho, [], .nop ho [], 0x0100, 0, .reset, Or.inl ⟨rfl, rfl, rfl⟩, by decide +kernel, by decide +kernel⟩,
    ⟨ho, [], .nop ho [], 0x0100, 0, live.onSys fun y => { y with mode := .bootLoader }, Or.inl ⟨rfl, rfl, rfl⟩,
      by decide +kernel, by decide +kernel⟩,
    ⟨ho, [], .imgConfirm ho [], 0x1405, 2, live, by simp [IsCommand], by decide +kernel, by decide +kernel⟩,
    { ho with form := false }, [], .nop { ho with form := false } [], 0x0100, 0, inst, Or.inl ⟨rfl, rfl, rfl⟩, by decide +kernel, rfl⟩

theorem witness_PrivilegeDecides :
    (∃ (s : State) (o : Origin) (priv : Nat), s.sys.mode = .running ∧ s.level o < priv) ∧ (∃ (s : State) (o : Origin) (priv : Nat), s.sys.mode = .running ∧ priv = s.level o) ∧
    (∃ s : State, s.sys.mode = .hold) ∧ (∃ s : State, s.sys.mode = .holdOnly) ∧ (∃ s : State, s.sys.mode = .bootRom) ∧
    ∃ s : State, s.sys.mode = .coldReset :=
  ⟨⟨live, ho, 2, by decide +kernel⟩, ⟨live, ho, 1, by decide +kernel⟩, ⟨live.onSys fun y => { y with mode := .hold }, rfl⟩,
    ⟨live.onSys fun y => { y with mode := .holdOnly }, rfl⟩, ⟨.reset, rfl⟩,
    ⟨live.onSys fun y => { y with mode := .coldReset }, rfl⟩⟩

theorem witness_AcceptanceReloadsTheWatchdog : (∃ o : Origin, o.itf = .i2c) ∧ (∃ o : Origin, o.itf = .spi) ∧ ∃ n, 1 ≤ n :=
  ⟨⟨ho, rfl⟩, ⟨{ ho with itf := .spi }, rfl⟩, 1, by decide⟩

theorem witness_NopDoesNothing : (∃ s : State, s.admits ho 0x0100 0) ∧ ∃ p : List Byte, p ≠ [] :=
  ⟨⟨inst, inst_admits _ _ (by decide)⟩, [0], by decide⟩

theorem witness_ReportsReplyWithTheirTable :
    (∃ s : State, ∀ op ∈ [0x0101, 0x0111, 0x0202, 0x0605, 0x0801, 0x0C03, 0x0D01, 0x0D02, 0x0D04, 0x0F03, 0x1001, 0x1005, 0x1101,
      0x1102, 0x1301, 0x1302, 0x1406], s.admits ho op 0) ∧
    ∃ s : State, ∀ blk ∈ easelBlocks, s.admits ho (256 * blk + 0xE4) 0 :=
  ⟨⟨inst, fun _ _ => inst_admits _ _ (by decide)⟩, inst, fun _ _ => inst_admits _ _ (by decide)⟩

theorem witness_ChannelReportsReplyWithTheirTable :
    (∃ s : State, ∀ op, s.admits ho op 0) ∧
    (∀ x ∈ [(0x07, 1), (0x09, 1), (0x0A, 1), (0x0B, 15), (0x0C, 23), (0x0E, 1), (0x10, 7)],
      [byte x.2, 0].length = 2 ∧ inst.single x.1 (u [byte x.2, 0] 0 2) = some x.2) ∧ u [7, 0] 1 1 = 0 :=
  ⟨⟨inst, fun _ => inst_admits _ _ (by decide)⟩, by decide +kernel, by decide⟩

/-! ## Witnesses: power, boot and reset -/

theorem witness_PowerEventsRun :
    Both (fun s => s.sys.por ∧ 4600 ≤ 4600) ∧ (∀ s : State, ¬(s.sys.por ∧ 4600 ≤ 4599)) ∧ Both (fun s => s.sys.hk = .ramp) ∧
    Both (fun s => s.sys.hk = .retryWait ∧ 4500 < s.sys.keepMv) ∧
    (∃ mv : Nat, mv < 4500 ∧ mv = 4499) ∧ (∃ s : State, 4500 ≤ 4500 ∧ s.sys.por) ∧ (∃ s : State, 4500 ≤ 4500 ∧ s.sys.por = false) ∧
    Both (fun s => s.sys.strapDue ∧ s.sys.vioHost ∧ s.sys.hk = .good) ∧ Both (fun s => s.sys.rstLow) :=
  ⟨both .reset live (by decide +kernel) (by decide +kernel), fun _ h => absurd h.2 (by decide),
    both (live.onSys fun y => { y with hk := .ramp }) live (by decide +kernel) (by decide +kernel),
    both (live.onSys fun y => { y with hk := .retryWait, keepMv := 4501 })
      (live.onSys fun y => { y with hk := .retryWait, keepMv := 4500 }) (by decide +kernel) (by decide +kernel),
    ⟨4499, by decide⟩, ⟨.reset, by decide +kernel⟩, ⟨live, by decide +kernel⟩,
    both (live.onSys fun y => { y with strapDue := true }) live (by decide +kernel) (by decide +kernel),
    both (live.onSys fun y => { y with rstLow := true }) live (by decide +kernel) (by decide +kernel)⟩

/-- A mode of the device, with its last image booted. -/
def inMode (m : Mode) : State := (live.onSys fun y => { y with mode := m }).onImg fun i => { i with booted := some 1 }

theorem witness_BootEventsRun :
    Both (fun s => s.sys.mode = .bootRom ∧ s.sys.hk = .good ∧ s.sys.rstLow = false ∧ s.img.booted = none) ∧
    (∃ s : State, s.bootVerdict (s.img.active.getD 0) = none ∧ s.bootVerdict (otherArea (s.img.active.getD 0)) = none) ∧
    (∃ s : State, s.sys.rstLow = false ∧ s.sys.mode = .hold) ∧
    (∃ s : State, s.sys.rstLow = false ∧ s.sys.mode = .bootRom ∧ s.sys.hk = .good ∧ s.img.booted.isSome) ∧
    (∃ s : State, s.sys.rstLow) ∧ (∀ m ∈ [Mode.running, .bootLoader, .holdOnly, .coldReset], (inMode m).sys.mode = m) ∧
    (∃ (s : State) (t : Nat), s.sys.d0InWin = some t ∧ s.sys.rstOut) ∧ (∃ s : State, s.sys.d0InWin = none) ∧
    ∃ s : State, s.sys.rstOut = false :=
  ⟨both (live.onSys fun y => { y with mode := .bootRom }) live (by decide +kernel) (by decide +kernel),
    ⟨.reset, by decide +kernel⟩, ⟨inMode .hold, by decide +kernel⟩, ⟨inMode .bootRom, by decide +kernel⟩, ⟨live.onSys fun y => { y with rstLow := true }, rfl⟩,
    by decide +kernel, ⟨live.onSys fun y => { y with d0InWin := some 7 }, 7, rfl, rfl⟩, ⟨live, rfl⟩,
    live.onSys fun y => { y with rstOut := false }, rfl⟩

theorem witness_ResetsRun :
    (∃ s : State, s.sys.por) ∧ (∃ s : State, s.sys.rstLow) ∧ (∃ s : State, s.sys.vioHost = false) ∧
    (∀ m ∈ [Mode.running, .hold, .holdOnly, .bootRom, .bootLoader, .coldReset],
      (inMode m).sys.por = false ∧ (inMode m).sys.rstLow = false ∧ (inMode m).sys.vioHost ∧ (inMode m).sys.mode = m) ∧
    Both (fun s => s.seq.coldDue ∧ s.seq.st ≠ .running) ∧ Both (fun s => s.sys.por = false ∧ s.sys.rcClock = false) ∧
    (∀ p ∈ [[1, 0x5A], [2, 0x5A]], inst.admits ho 0x0110 (if u p 0 1 = 2 then 2 else 1) ∧ p.length = 2 ∧
      (u p 0 1 = 1 ∨ u p 0 1 = 2) ∧ u p 1 1 = 0x5A) :=
  ⟨⟨.reset, rfl⟩, ⟨live.onSys fun y => { y with rstLow := true }, rfl⟩, ⟨live.onSys fun y => { y with vioHost := false }, rfl⟩,
    by decide +kernel, both (live.onSeq fun q => { q with coldDue := true }) live (by decide +kernel) (by decide +kernel),
    both live .reset (by decide +kernel) (by decide +kernel), by decide +kernel⟩

theorem witness_PinResetReleaseRuns :
    ((∃ s : State, s.sys.rstLow = false) ∧ ∃ s : State, s.sys.por) ∧ ∀ m ∈ [Mode.running, .bootRom, .bootLoader, .coldReset, .hold, .holdOnly],
      ∃ s : State, s.sys.rstLow ∧ s.sys.por = false ∧ s.sys.mode = m :=
  ⟨⟨⟨live, rfl⟩, .reset, rfl⟩, fun m _ => ⟨(inMode m).onSys fun y => { y with rstLow := true }, rfl, rfl, rfl⟩⟩

/-- A boot record whose every field stands at the least value it takes. -/
def leastBoot : List Byte := toLE 4 400 ++ toLE 2 200 ++ toLE 2 2 ++ toLE 2 1 ++ toLE 4 500 ++ [2, 0]

theorem witness_BootRecordsRun :
    inst.admits ho 0x0112 2 ∧ inst.admits ho 0x0113 2 ∧ bootRecOk leastBoot ∧ bootRecOk [] = false ∧
    (∃ s : State, s.admits ho 0x0112 2 ∧ s.sys.bootRecs.length = 3) ∧
    (∃ s : State, s.admits ho 0x0112 2 ∧ s.sys.bootRecs.length = 4) ∧
    (∃ p : List Byte, p.length = 8 ∧ u p 4 4 = 0 ∧ u p 0 4 = 0) ∧
    (∃ p : List Byte, p.length = 8 ∧ u p 4 4 = 0 ∧ u p 0 4 = 470) ∧
    (∃ p : List Byte, p.length = 8 ∧ u p 4 4 = 0 ∧ u p 0 4 = 100000) ∧
    (∃ p : List Byte, p.length ≠ 8) ∧ (∃ p : List Byte, u p 4 4 ≠ 0) ∧ (∃ p : List Byte, u p 0 4 = 1) ∧
    (∃ p : List Byte, u p 0 4 = 469) ∧ ∃ p : List Byte, u p 0 4 = 100001 :=
  ⟨by decide +kernel, by decide +kernel, by decide +kernel, by decide,
    ⟨inst.onSys fun y => { y with bootRecs := List.replicate 3 BootRec.default }, by decide +kernel⟩,
    ⟨inst.onSys fun y => { y with bootRecs := List.replicate 4 BootRec.default }, by decide +kernel⟩,
    ⟨zeros 8, by decide +kernel⟩, ⟨toLE 8 470, by decide +kernel⟩, ⟨toLE 8 100000, by decide +kernel⟩, ⟨[], by decide⟩,
    ⟨[0, 0, 0, 0, 1, 0, 0, 0], by decide⟩, ⟨toLE 8 1, by decide⟩, ⟨toLE 8 469, by decide +kernel⟩,
    toLE 8 100001, by decide +kernel⟩

theorem witness_HostWatchdogRuns :
    Both (fun s => s.i2cUp) ∧ Both (fun s => s.spiUp) ∧ Both (fun s => s.sys.wdRunning ∧ s.sys.safe = false) :=
  ⟨both live .reset (by decide +kernel) (by decide +kernel), both live .reset (by decide +kernel) (by decide +kernel),
    both (live.onSys fun y => { y with wdRunning := true }) live (by decide +kernel) (by decide +kernel)⟩

theorem witness_TicksRun :
    (∃ s : State, s.sys.por) ∧ (∃ s : State, s.sys.por = false) ∧ (∃ s : State, s.link.landDue = false) ∧ ∃ s : State, s.link.landDue :=
  ⟨⟨.reset, rfl⟩, ⟨live, rfl⟩, ⟨live, rfl⟩, live.onLink fun l => { l with landDue := true }, rfl⟩

/-! ## Witnesses: the host interfaces -/

theorem witness_I2cEventsRun :
    Both (fun s => s.i2cUp) ∧ (∃ (s : State) (n : Nat), s.i2cUp ∧ 1 ≤ n ∧ n = 1) ∧
    ((∃ s : State, s.hif.opt.pec = false) ∧ ∃ s : State, s.hif.opt.pec) ∧
    Both (fun s => s.i2cUp ∧ s.hif.asleep) ∧
    Both (fun s => s.i2cUp ∧ s.hif.opt.options.testBit 1 ∧ s.hif.asleep = false ∧ s.hif.mbx.state ≠ .busy ∧
      s.hif.alert = false ∧ s.hif.notifyDue = false) ∧
    Both (fun s => s.i2cUp ∧ s.hif.opt.options.testBit 0) ∧ (∃ s : State, s.i2cUp ∧ s.hif.attnMode = 2 ∧ s.hif.alert) ∧
    ((∃ s : State, s.i2cUp = false) ∧ (∃ s : State, s.hif.attnMode ≠ 2) ∧ ∃ s : State, s.hif.alert = false) ∧
    Both (fun s => s.notifyReady ∧ s.hif.notifyHold = 0) ∧ Both (fun s => s.hif.notifyHold ≠ 0) :=
  ⟨both live .reset (by decide +kernel) (by decide +kernel), ⟨live, 1, by decide +kernel⟩,
    ⟨⟨live, rfl⟩, live.onHif fun h => { h with opt := { h.opt with pec := true } }, rfl⟩,
    both (live.onHif fun h => { h with asleep := true }) live (by decide +kernel) (by decide +kernel),
    both live (live.onHif fun h => { h with alert := true }) (by decide +kernel) (by decide +kernel),
    both live .reset (by decide +kernel) (by decide +kernel),
    ⟨live.onHif fun h => { h with attnMode := 2, alert := true }, by decide +kernel⟩,
    ⟨⟨.reset, rfl⟩, ⟨live, by decide +kernel⟩, live, rfl⟩,
    both (live.onHif fun h => { h with attnMode := 3, notifyDue := true }) live (by decide +kernel) (by decide +kernel),
    both (live.onHif fun h => { h with notifyHold := 1 }) live (by decide +kernel) (by decide +kernel)⟩

theorem witness_SettingAFlagWins : live.i2cUp ∧
    ∀ ds ∈ [[], [2], toLE 4 irqBits], ds.length ≤ 4 ∧ leNat ds &&& irqBits = leNat ds := by decide +kernel

/-- A stream with one byte to go. -/
def oneByte : Stream := { src := 2, first := 0, n := 1, data := [1], pos := 0, total := 1 }

theorem witness_MailboxAndSpiRun :
    Both (fun s => s.i2cUp) ∧ Both (fun s => s.spiUp) ∧
    (∀ len ∈ [10, 4096], ∃ (s : State) (bytes : List Byte), s.spiUp ∧ 10 ≤ len ∧ len ≤ 4096 ∧ len ≤ bytes.length ∧
      s.hif.spi.running = false ∧ s.hif.spi.reply = []) ∧
    (∃ s : State, s.spiUp ∧ ∀ len ∈ [9, 4097], len < 10 ∨ 4096 < len) ∧ (∃ s : State, s.spiUp ∧ s.hif.spi.running) ∧
    (∃ s : State, s.spiUp ∧ s.hif.spi.reply ≠ [] ∧ s.hif.spi.reply.length ≤ 1) ∧
    (∃ s : State, s.spiUp ∧ s.hif.spi.reply = []) ∧ (∃ s : State, s.spiUp ∧ 0 < s.hif.spi.reply.length) ∧
    (spiOp 0 = none ∧ spiOp 0x13 = none ∧ spiOp 0x10 = some .pktWrite ∧ spiOp 0x01 = some .regWrite ∧ spiOp 0x03 = some .regRead ∧
      spiOp 0x11 = some .pktRead ∧ spiOp 0x12 = some .streamRead) ∧
    (∃ (s : State) (x : Stream), s.spiUp ∧ s.skb.stream = some x ∧ s.skb.streamLeft.length = 1) ∧ ∃ s : State, s.spiUp ∧ s.skb.stream = none :=
  ⟨both live .reset (by decide +kernel) (by decide +kernel), both live .reset (by decide +kernel) (by decide +kernel),
    fun len h => ⟨live, zeros len, rfl, by revert h len; decide, by revert h len; decide, by simp [zeros], rfl, rfl⟩,
    ⟨live, by decide +kernel⟩, ⟨live.onHif fun h => { h with spi := { h.spi with running := true } }, by decide +kernel⟩,
    ⟨live.onHif fun h => { h with spi := { h.spi with reply := [1] } }, by decide +kernel⟩, ⟨live, by decide +kernel⟩,
    ⟨live.onHif fun h => { h with spi := { h.spi with reply := [1] } }, by decide +kernel⟩, by decide,
    ⟨live.onSkb fun k => { k with stream := some oneByte }, oneByte, by decide +kernel⟩, live, by decide +kernel⟩

theorem witness_PmbusReadsRun : ∃ s : State, s.pmUp := ⟨live, by decide +kernel⟩

/-- The window with a page chosen. -/
def paged (n : Nat) : State := live.onHif fun h => { h with pmPage := n }

theorem witness_PmbusWritesRun :
    (∀ n ∈ [0, 15, 255], (paged n).pmUp ∧ (paged n).sys.mode = .running ∧ (paged n).hif.opt.pec = false ∧
      (paged n).hif.pmProtect = 0) ∧
    ((15 : Byte).toNat < 16 ∧ (255 : Byte).toNat = 255 ∧ ¬(16 : Byte).toNat < 16) ∧
    (∀ v ∈ [0x00, 0x20, 0x40, (0x80 : Byte)], v.toNat ∈ [0x00, 0x20, 0x40, 0x80]) ∧
    (operationAct (0x80 : Byte).toNat = some 1 ∧ operationAct (0xA8 : Byte).toNat = some 7 ∧ 0 ∉ (paged 15).hif.pmDoms) ∧
    (∀ v ∈ [12841, 14193], leNat [byte v, byte (v / 256)] = v ∧ ∀ k ∈ (paged 0).hif.pmDoms,
      (paged 0).onRange k ((paged 0).ofUlin k v) ∧ (paged 0).fld Fld.Dom.MARGIN_LOW_MV k ≤ (paged 0).ofUlin k v ∧
        (paged 0).ofUlin k v ≤ (paged 0).fld Fld.Dom.MARGIN_HIGH_MV k) ∧
    (paged 0).pmFieldOk Fld.Dom.MARGIN_HIGH_MV (fun k => (paged 0).ofUlin k (leNat [byte 14193, byte (14193 / 256)])) ∧
    (paged 0).pmFieldOk Fld.Dom.MARGIN_LOW_MV (fun k => (paged 0).ofUlin k (leNat [byte 12841, byte (12841 / 256)])) ∧
    (∃ n, lin11Slew (leNat [1, 0]) = some n ∧ (paged 0).pmFieldOk Fld.Dom.SLEW fun _ => n) ∧
    (0x04 : Byte) ∉ pmCommands ∧ (0xFF : Byte) ∉ pmCommands ∧ (0x9A : Byte) ∈ pmCommands := by
  refine ⟨by decide +kernel, by decide, by decide, by decide +kernel, by decide +kernel, by decide +kernel, by decide +kernel,
    ⟨100, by decide +kernel⟩, by decide, by decide, by decide⟩

/-! ## Witnesses: packets and sessions -/

/-- A packet that was passed on. -/
def passed (o : Origin) : Fwd := { o := o, op := 0x0101, dest := 9, left := [9], entries := [], since := 0, params := [] }

/-- Segments held for a CONT. -/
def segs : Segs := { opcode := 0x0101, tag := 0, rest := [1], since := 0 }

/-- Port ZL1 of a node with LINK_EN set carries frames away from the root. -/
def linked : State := (setField Fld.Link.LINK_EN 1 0 inst).onPort 1 fun p => { p with line := .up2, use := .away }

/-- A command frame for node 5. -/
def cmdFrame : List Byte := frameOf sofCommand [5, 0, 0, 0, 0, 0]

theorem witness_PacketEventsRun :
    (∃ s : State, s.hif.fwds = []) ∧
    (∃ (s : State) (f : Fwd) (rest : List Fwd), s.hif.fwds = f :: rest ∧ f.o.fanned = false ∧ f.o.noReply = false) ∧
    (∃ (s : State) (f : Fwd) (rest : List Fwd), s.hif.fwds = f :: rest ∧ f.o.fanned = false ∧ f.o.noReply) ∧
    (∃ (s : State) (f : Fwd) (rest : List Fwd), s.hif.fwds = f :: rest ∧ f.o.fanned) ∧
    (∃ (s : State) (g : Segs), s.hif.segI2c = some g) ∧ (∃ (s : State) (g : Segs), s.hif.segSpi = some g) ∧
    (∃ (s : State) (g : Nat × Segs) (rest : List (Nat × Segs)), s.hif.segLink = g :: rest) ∧
    (∃ s : State, s.hif.segI2c = none ∧ s.hif.segSpi = none ∧ s.hif.segLink = []) ∧
    (∃ (s : State) (p : Fin 3) (f b : List Byte), s.flag Fld.Link.LINK_EN ∧ (s.linkPort p.val).used ∧
      frameBody sofCommand (10 + u f 5 1) f = some b ∧ u b 0 1 < 0xF0 ∧ u b 0 1 ≠ s.nodeAddr) ∧
    (∃ s : State, s.flag Fld.Link.LINK_EN = false) ∧ ∃ s : State, (s.linkPort 2).used = false :=
  ⟨⟨live, rfl⟩, ⟨live.onHif fun h => { h with fwds := [passed ho] }, passed ho, [], rfl, rfl, rfl⟩,
    ⟨live.onHif fun h => { h with fwds := [passed { ho with noReply := true }] }, passed { ho with noReply := true }, [], rfl, rfl, rfl⟩,
    ⟨live.onHif fun h => { h with fwds := [passed { ho with fanned := true }] }, passed { ho with fanned := true }, [], rfl, rfl⟩,
    ⟨live.onHif fun h => { h with segI2c := some segs }, segs, rfl⟩,
    ⟨live.onHif fun h => { h with segSpi := some segs }, segs, rfl⟩,
    ⟨live.onHif fun h => { h with segLink := [(9, segs)] }, (9, segs), [], rfl⟩, ⟨live, rfl, rfl, rfl⟩,
    ⟨linked, 1, cmdFrame, [5, 0, 0, 0, 0, 0], by decide +kernel⟩, ⟨setField Fld.Link.LINK_EN 0 0 inst, by decide +kernel⟩, inst, by decide +kernel⟩

/-- The I2C session with a nonce outstanding. -/
def asked : State := inst.onHif fun h => { h with nonceI2c := some (zeros 16, 0) }

/-- The response to it. -/
def answer : List Byte := hmac256 asked.sys.installKey (asked.privMessage (zeros 16) .i2c)

theorem witness_SessionsRun :
    ownEntry ho ∧ (∀ op ∈ [0x0210, 0x0211, 0x0212], inst.admits ho op 0) ∧
    (∃ s : State, s.hif.lockout = none) ∧ (∃ p : List Byte, p.length = 1 ∧ u p 0 1 = 2) ∧
    (∃ (s : State) (t : Nat), s.hif.lockout = some t ∧ s.admits ho 0x0210 0) ∧
    (∃ p : List Byte, p.length = 1 ∧ u p 0 1 ≠ 2) ∧
    (asked.admits ho 0x0211 0 ∧ answer.length = 32 ∧ asked.privOk ho.itf answer) ∧
    (asked.privOk ho.itf (zeros 32) = false ∧ (zeros 32).length = 32) ∧
    Both (fun s => 2 ≤ (s.hif.session .spi).level) :=
  ⟨by decide, fun _ _ => inst_admits _ _ (by decide), ⟨live, rfl⟩, ⟨[2], by decide⟩,
    ⟨inst.onHif fun h => { h with lockout := some 0 }, 0, rfl, by decide +kernel⟩, ⟨[3], by decide⟩, by decide +kernel,
    by decide +kernel, both inst live (by decide +kernel) (by decide +kernel)⟩

theorem witness_HostOptionsRun :
    inst.admits ho 0x0105 1 ∧ inst.admits ho 0x0201 1 ∧
    Checks (fun p => param (p.length = 2 ∧ u p 0 2 < 2 ^ 15)) ∧
    (∀ a ∈ [(0x08 : Byte), 0x77], let p : List Byte := [1, 7, a, 0]
      p.length = 4 ∧ u p 0 1 ≤ 1 ∧ u p 1 1 < 8 ∧ 0x08 ≤ u p 2 1 ∧ u p 2 1 ≤ 0x77 ∧ u p 2 1 ≠ 0x40 + inst.sys.addr ∧
        u p 2 1 ≠ 0x48 + inst.sys.addr ∧ u p 3 1 = 0) ∧ ∃ p : List Byte, p.length ≠ 4 :=
  ⟨by decide +kernel, by decide +kernel, checks [0xFF, 0x7F] [0, 0x80] (by decide) (by decide), by decide +kernel, [], by decide⟩

/-! ## Witnesses: the easel and the palette -/

/-- A batch of staged values. -/
def batch : Batch := { vals := [(0, 1)], slow := true, fast := false, slowDone := false, since := 0, id := 1, own := 31 }

/-- A reply that waits since the start of the timebase. -/
def waits (op : Nat) : Wait := { o := ho, op := op, left := 0, failed := 0, data := [], since := 0, mute := false }

/-- WALKIN_W_S written with its reset value. -/
def writeWalk : List Byte := [0, 0x80, 1, 0, 0, 0, 2, 0, 0xE8, 3]

theorem witness_EaselCommandsRun :
    (∃ blk, blk ∉ easelBlocks ∧ ∀ n ∈ [0xE0, 0xE1, 0xE2, 0xE3], inst.admits ho (256 * blk + n) 0) ∧
    (0x07 ∈ easelBlocks ∧ (∃ vs, writeForm 0x07 writeWalk = some (.rect1, vs) ∧
      inst.easelRefuse .rect1 0 (vs.filter fun x => x.1.cls ≠ .ro) = false) ∧ recWide .rect1 ∧ inst.writeParam 0x07 writeWalk) ∧
    (∀ g ∈ [(0 : Byte), 1], let p : List Byte := [1, 0, g, 0]
      p.length = 4 ∧ (inst.sel 0x07 (u p 0 2)).isSome ∧ inst.genOk 0x07 (u p 2 2) ∧
        inst.admits ho (256 * 0x07 + 0xE1) (inst.commitPriv 0x07 (inst.sel 0x07 (u p 0 2))) ∧
        maskOf ((inst.commitSel 0x07 ⟨0, 2⟩ 1).armedOn 0x07 1) = 0) ∧
    (let p : List Byte := [1, 0]
     p.length = 2 ∧ (inst.sel 0x07 (u p 0 2)).isSome ∧
      inst.admits ho (256 * 0x07 + 0xE2) (inst.commitPriv 0x07 (inst.sel 0x07 (u p 0 2)))) ∧
    (let p : List Byte := [15, 0, 0, 1, 0, 0, 68, 0]
     recOf 0x0B (u p 2 1) = some .dom0 ∧ inst.readSel 0x0B .dom0 (u p 0 2) = some 15 ∧ p.length = 8 ∧ u p 3 1 ≤ 1 ∧
      1 ≤ u p 6 2 ∧ u p 6 2 ≤ 4085 ∧ u p 4 2 + u p 6 2 = recLen .dom0) := by
  refine ⟨⟨0x06, by decide, fun _ _ => inst_admits _ _ (by decide)⟩, ⟨by decide, ⟨_, rfl, by decide +kernel⟩, rfl, by decide +kernel⟩,
    by decide +kernel, by decide +kernel, by decide +kernel⟩

theorem witness_EaselLandsRun :
    Both (fun s => (s.copy .dom0 15).armed ≠ []) ∧ Both (fun s => (s.copy .dom0 15).pendL ≠ []) ∧
    (∃ s : State, s.hif.waits.find? Wait.isCommit = none) ∧
    (∃ (s : State) (w : Wait), s.hif.waits.find? Wait.isCommit = some w ∧ w.op ≠ 0x0301) ∧
    (∃ p : List Byte, inst.admits ho 0x0301 1 ∧ p.length ≠ 2 + 6 * u p 0 1) ∧
    (∀ n ∈ [1, 12], let p : List Byte := [byte n, 0] ++ (List.range n).flatMap fun e => [byte (7 + e), 0, 0, 0x80, 0, 0]
      inst.admits ho 0x0301 1 ∧ p.length = 2 + 6 * n ∧ 1 ≤ n ∧ n ≤ 16 ∧ u p 0 1 = n ∧ u p 1 1 = 0 ∧
        ∀ e ∈ List.range n, inst.multiCheck ho p e = st.ok) ∧
    inst.admits ho 0x0302 2 ∧ Checks (fun p => paramState p.isEmpty (!inst.sys.nandBar && !inst.anyArmed)) :=
  ⟨both (live.onCopy .dom0 15 fun c => { c with armed := [batch] }) live (by decide +kernel) (by decide +kernel),
    both (live.onCopy .dom0 15 fun c => { c with pendL := [batch] }) live (by decide +kernel) (by decide +kernel),
    ⟨live, by decide +kernel⟩, ⟨live.onHif fun h => { h with waits := [waits 0x07E1] }, waits 0x07E1, by decide +kernel⟩,
    ⟨[], by decide +kernel⟩, by decide +kernel, by decide +kernel, checks [] [0] (by decide +kernel) (by decide +kernel)⟩

/-- A download open for `n` bytes. -/
def opening (n : Nat) : State := inst.onPal fun q => { q with opened := some n }

/-- A palette image with the tables that every image must have (R131). -/
def image : List Byte :=
  [80, 76, 84, 49, 1, 8, 0, 0, 232, 1, 0, 0, 0, 0, 0, 0, 2, 0, 36, 0, 80, 0, 0, 0, 2, 1, 36, 0, 116, 0, 0, 0, 2, 2, 36, 0,
    152, 0, 0, 0, 2, 3, 36, 0, 188, 0, 0, 0, 7, 0, 132, 0, 224, 0, 0, 0, 8, 0, 100, 0, 100, 1, 0, 0, 10, 0, 20, 0, 200, 1,
    0, 0, 11, 0, 8, 0, 220, 1, 0, 0, 30, 0, 0, 0, 100, 0, 94, 1, 194, 1, 38, 2, 0, 0, 0, 0, 100, 0, 0, 0, 255, 255, 0, 0,
    100, 0, 206, 255, 0, 0, 0, 0, 0, 0, 0, 0, 30, 0, 0, 0, 100, 0, 94, 1, 194, 1, 38, 2, 0, 0, 0, 0, 100, 0, 0, 0, 255,
    255, 0, 0, 100, 0, 206, 255, 0, 0, 0, 0, 0, 0, 0, 0, 30, 0, 0, 0, 250, 0, 244, 1, 188, 2, 232, 3, 168, 0, 0, 0, 168, 0,
    0, 0, 168, 0, 0, 0, 168, 0, 0, 0, 24, 0, 0, 0, 24, 0, 0, 0, 30, 0, 56, 255, 250, 0, 88, 2, 132, 3, 76, 4, 0, 0, 0, 0,
    0, 0, 0, 0, 0, 0, 0, 0, 0, 0, 0, 0, 0, 0, 0, 0, 0, 0, 0, 0, 0, 0, 0, 0, 1, 128, 0, 128, 100, 8, 240, 0, 112, 254, 168,
    253, 50, 8, 240, 0, 56, 255, 112, 254, 0, 8, 240, 0, 156, 255, 212, 254, 0, 8, 100, 0, 0, 0, 56, 255, 0, 8, 0, 0, 50,
    0, 106, 255, 0, 7, 0, 0, 100, 0, 156, 255, 0, 6, 0, 0, 150, 0, 206, 255, 0, 5, 0, 0, 200, 0, 0, 0, 0, 4, 0, 0, 250, 0,
    50, 0, 0, 3, 0, 0, 44, 1, 100, 0, 0, 2, 0, 0, 94, 1, 150, 0, 0, 1, 0, 0, 144, 1, 200, 0, 0, 0, 0, 0, 194, 1, 250, 0, 0,
    0, 0, 0, 244, 1, 44, 1, 0, 0, 0, 0, 38, 2, 94, 1, 0, 0, 0, 0, 0, 0, 0, 0, 26, 4, 232, 3, 50, 8, 240, 0, 100, 0, 0, 0,
    76, 4, 26, 4, 0, 8, 240, 0, 100, 0, 0, 0, 106, 4, 56, 4, 0, 8, 100, 0, 100, 0, 0, 0, 136, 4, 86, 4, 0, 8, 0, 0, 100, 0,
    0, 0, 166, 4, 116, 4, 0, 6, 0, 0, 100, 0, 0, 0, 196, 4, 146, 4, 0, 4, 0, 0, 100, 0, 0, 0, 226, 4, 176, 4, 0, 2, 0, 0,
    90, 0, 0, 0, 20, 5, 226, 4, 0, 0, 0, 0, 75, 0, 0, 0, 5, 0, 0, 0, 1, 1, 2, 1, 3, 1, 4, 1, 5, 1, 0, 0, 0, 0, 0, 0, 20,
    20, 100, 0, 40, 0, 60, 0, 164, 248, 138, 109]

/-- That image in the staged bank, and a configuration that names no table (every palette field 0xFF). -/
def staged (b : BankState) : State :=
  ((opening 488).onCfg fun c =>
    { c with recs := c.recs.map fun l => l.map fun _ => RecCopy.settled (List.replicate 400 0xFF) }).onPal fun q =>
      q.setBank q.staged { st := b, bytes := image }

set_option maxRecDepth 100000 in
theorem staged_checks : (staged .loading).palCheck (staged .loading).pal.stagedBank.bytes 488 = none := by decide +kernel

theorem witness_PaletteRuns :
    (∀ op ∈ [0x0601, 0x0602, 0x0603, 0x0604], inst.admits ho op 2) ∧ inst.admits ho 0x0606 0 ∧
    (∀ n ∈ [24, 32768], paramState ((toLE 4 n).length = 4 ∧ 24 ≤ u (toLE 4 n) 0 4 ∧ u (toLE 4 n) 0 4 ≤ 32768)
      (inst.pal.pending = 0 && !inst.pal.switching) = st.ok) ∧
    (∀ n ∈ [1, 4080], let p := toLE 4 0 ++ toLE 2 n ++ zeros n
      p.length = 6 + u p 4 2 ∧ 1 ≤ u p 4 2 ∧ u p 4 2 ≤ 4080 ∧ (opening 4080).pal.opened = some 4080 ∧
        u p 0 4 = (opening 4080).pal.stagedBank.bytes.length ∧ (opening 4080).pal.stagedBank.bytes.length + u p 4 2 ≤ 4080) ∧
    (inst.pal.opened = none ∧ (opening 24).pal.opened.isSome ∧ (opening 24).sys.nandBar = false) ∧
    ((opening 24).palCheck (opening 24).pal.stagedBank.bytes 24).isSome ∧
    (staged .loading).palCheck (staged .loading).pal.stagedBank.bytes 488 = none ∧
    ((staged .valid).admits ho 0x0604 2 ∧ (staged .valid).pal.stagedBank.st = .valid ∧ (staged .valid).pal.pending = 0 ∧
      (staged .valid).pal.switching = false ∧ (staged .valid).namedErr (staged .valid).pal.stagedBank.bytes = none ∧
      (staged .valid).sys.mode = .running) ∧
    (let p : List Byte := [0] ++ toLE 4 0 ++ toLE 2 1
     p.length = 7 ∧ u p 0 1 ≤ 1 ∧ 1 ≤ u p 5 2 ∧ u p 5 2 ≤ 4085 ∧ u p 1 4 + u p 5 2 ≤ (inst.bankBytes inst.pal.active).length) ∧
    (∃ (s : State) (w : Wait), s.hif.waits.find? (fun w => w.op = 0x0604) = some w) ∧
    ∃ s : State, s.hif.waits.find? (fun w => w.op = 0x0604) = none := by
  refine ⟨fun _ _ => inst_admits _ _ (by decide), inst_admits _ _ (by decide), by decide +kernel, by decide +kernel,
    by decide +kernel, by decide +kernel, staged_checks, by decide +kernel, by decide +kernel,
    ⟨live.onHif fun h => { h with waits := [waits 0x0604] }, waits 0x0604, by decide +kernel⟩, live, by decide +kernel⟩

/-! ## Witnesses: the rectifier sections, the barrier and the bus -/

/-- Section 1 powered, its channel in a state. -/
def sect (x : RState) : State := inst.onRectCh 1 fun c => { c with st := x, powered := true, runOn := true }

theorem rect_in (x : RState) : Both (fun s => (s.rectCh 1).st = x) :=
  both (sect x) (sect (if x = .off then .run else .off)) rfl (by cases x <;> decide)

theorem witness_RectStatesRun :
    Both (fun s => (s.rectCh 1).powered = false) ∧ Both (fun s => (s.rectCh 1).powered) ∧
    Both (fun s => (s.rectCh 1).st = .off ∧ (s.rectCh 1).powered ∧ (s.rectCh 1).bar.link ≠ .up ∧ s.flag Fld.Rect.PRESENT 1) ∧
    Both (fun s => (s.rectCh 1).st = .autonomous ∧ (s.rectCh 1).bar.link ≠ .up) ∧
    (∃ (s : State) (t : Nat), (s.rectCh 1).autoAt = some t) ∧ (∃ s : State, (s.rectCh 1).autoAt = none) ∧
    (∃ (s : State) (t : Nat), (s.rectCh 1).st = .qualify ∧ (s.rectCh 1).qualFrom = some t ∧ (s.rectCh 1).qualDone = none) ∧
    (∃ (s : State) (t : Nat), (s.rectCh 1).st = .qualify ∧ (s.rectCh 1).qualDone = some t ∧ (s.rectCh 1).precharged = false) ∧
    (∀ x ∈ [RState.qualify, .relay, .pfcRamp, .llcStart], Both fun s => (s.rectCh 1).st = x) ∧
    Both (fun s => (s.rectCh 1).st = .walkIn ∧ (s.rectCh 1).softOff = false) ∧
    Both (fun s => (s.rectCh 1).st = .lost ∧ (s.rectCh 1).runOn) :=
  ⟨both .reset (sect .off) (by decide +kernel) (by decide +kernel), both (sect .off) .reset (by decide +kernel) (by decide +kernel),
    both (sect .off) (sect .run) (by decide +kernel) (by decide +kernel),
    both (sect .autonomous) (sect .off) (by decide +kernel) (by decide +kernel),
    ⟨(sect .off).onRectCh 1 fun c => { c with autoAt := some 9 }, 9, rfl⟩, ⟨sect .off, rfl⟩,
    ⟨(sect .qualify).onRectCh 1 fun c => { c with qualFrom := some 9 }, 9, rfl, rfl, rfl⟩,
    ⟨(sect .qualify).onRectCh 1 fun c => { c with qualDone := some 9, peak := 300000 }, 9, by decide +kernel⟩, fun x _ => rect_in x,
    both (sect .walkIn) (sect .off) (by decide +kernel) (by decide +kernel),
    both (sect .lost) (sect .off) (by decide +kernel) (by decide +kernel)⟩

/-- Two sensors of section 0 at 150 °C. -/
def hotMains : State := (inst.onRectCh 0 fun c => { c with powered := true }).onTherm fun h =>
  { h with sens := Vector.ofFn fun j => { win := if 16 ≤ j.val then [1500] else [], broken := false } }

theorem witness_RectTripsRun :
    Both (fun s => (s.rectCh 1).delivers) ∧ Both (fun s => (s.rectCh 1).switching) ∧
    Both (fun s => s.zoneAt 1500 4 ∧ (s.therm.zone[4]).shut = false) ∧ Both (fun s => (s.rectCh 1).st = .run) :=
  ⟨both (sect .run) (sect .off) (by decide +kernel) (by decide +kernel),
    both (sect .run) (sect .off) (by decide +kernel) (by decide +kernel),
    both hotMains inst (by decide +kernel) (by decide +kernel), rect_in .run⟩

/-- Section 1's barrier link changed. -/
def bar (f : Barrier → Barrier) : State := (sect .off).onBar 1 f

theorem witness_BarrierFramesRun :
    (∃ s : State, (s.rectCh 1).powered ∧ (s.rectCh 1).bar.hello) ∧ (∃ n : Nat, n = 2 ∧ n ≤ 2) ∧
    (∃ s : State, (s.rectCh 1).powered ∧ (s.rectCh 1).bar.fltWait) ∧
    Both (fun s => (s.rectCh 1).powered ∧ (s.rectCh 1).bar.link ≠ .down) ∧
    Both (fun s => (s.rectCh 1).powered ∧ (s.rectCh 1).bar.link = .establishing ∧ (s.rectCh 1).bar.init) ∧
    Both (fun s => (s.rectCh 1).powered ∧ (s.rectCh 1).bar.awaiting.isSome) :=
  ⟨⟨bar fun b => { b with hello := true }, rfl, rfl⟩, ⟨2, rfl, by decide⟩, ⟨bar fun b => { b with fltWait := true }, rfl, rfl⟩,
    both (bar fun b => { b with link := .up }) (bar id) (by decide +kernel) (by decide +kernel),
    both (bar fun b => { b with link := .establishing, init := true }) (bar id) (by decide +kernel) (by decide +kernel),
    both (bar fun b => { b with awaiting := some (1, 0) }) (bar id) (by decide +kernel) (by decide +kernel)⟩

/-- Input AUXB in a state. -/
def aux (x : AState) : State := inst.onAuxCh 1 fun c => { c with st := x }

theorem witness_BusEventsRun :
    Both (fun s => s.bus.outWin = false) ∧
    (∀ x ∈ [AState.delay, .matching, .walkIn, .coldConnect, .fault], Both fun s => (s.auxCh 1).st = x) ∧
    Both (fun s => (s.auxCh 1).st = .coldConnect ∨ (s.auxCh 1).st = .on) ∧ Both (fun s => (s.auxCh 1).running) :=
  ⟨both inst (inst.onBus fun b => { b with outWin := true }) (by decide +kernel) (by decide +kernel),
    fun x _ => both (aux x) (aux (if x = .off then .on else .off)) rfl (by cases x <;> decide),
    both (aux .on) (aux .off) (by decide +kernel) (by decide +kernel),
    both (aux .on) (aux .off) (by decide +kernel) (by decide +kernel)⟩

/-! ## Witnesses: strings, charger and gauge -/

/-- String 1 in a state, the other in hot standby on a live bus. -/
def string (x : SState) : State :=
  ((inst.onBus fun b => { b with st := .mains }).onStrCh 0 fun c => { c with st := .connected, iDsgMax := 1 }).onStrCh 1
    fun c => { c with st := x }

theorem witness_StringEventsRun :
    (∀ x ∈ [SState.matching, .cold, .fault], Both fun s => (s.strCh 1).st = x) ∧
    (∃ (s : State) (t : Nat), ((s.strCh 1).ntc[1]).goodSince = some t) ∧ (∃ s : State, ((s.strCh 1).ntc[1]).goodSince = none) ∧
    Both (fun s => (s.strCh 1).st = .connected ∨ (s.strCh 1).st = .test) ∧ Both (fun s => (s.strCh 1).running) ∧
    Both (fun s => (s.strCh 1).running ∧ (s.tBat 1).isSome) :=
  ⟨fun x _ => both (string x) (string (if x = .absent then .test else .absent)) rfl (by cases x <;> decide),
    ⟨(string .opened).onStrCh 1 fun c => { c with ntc := upd c.ntc 1 fun n => { n with goodSince := some 9 } }, 9, rfl⟩,
    ⟨string .opened, rfl⟩, both (string .test) (string .opened) (by decide +kernel) (by decide +kernel),
    both (string .test) (string .opened) (by decide +kernel) (by decide +kernel),
    both (string .test) (string .opened) (by decide +kernel) (by decide +kernel)⟩

/-- Charger 1 in a state of its profile. -/
def charger (x : CState) (ps : Nat) : State := (string .connected).onStrCh 1 fun c => { c with chg := x, ps := ps }

theorem witness_ChargerAndGaugeRun :
    Both (fun s => (s.strCh 1).chg = .run ∧ s.kind 1 = 1) ∧
    Both (fun s => (s.strCh 1).chg = .run ∧ (s.kind 1 = 2 ∨ s.kind 1 = 3 ∨ s.kind 1 = 6)) ∧
    Both (fun s => (s.strCh 1).chg = .suspended) ∧ Both (fun s => s.sys.mode = .running) ∧
    Both (fun s => s.sys.mode = .running ∧ (s.strCh 1).st ≠ .absent) ∧ (∃ s : State, s.varn.openSince = none) ∧
    ∃ (s : State) (t : Nat), s.varn.openSince = some t ∧ ∀ x ∈ s.varn.items, x.deferred = none :=
  ⟨both (charger .run 1) (charger .run 2) (by decide +kernel) (by decide +kernel),
    both (charger .run 2) (charger .run 1) (by decide +kernel) (by decide +kernel),
    both (charger .suspended 1) (charger .run 1) (by decide +kernel) (by decide +kernel),
    both live .reset (by decide +kernel) (by decide +kernel),
    both (string .opened) (string .absent) (by decide +kernel) (by decide +kernel), ⟨live, rfl⟩,
    live.onVarn fun v => { v with openSince := some 9 }, 9, rfl, by decide +kernel⟩

/-- Action `a` on channel 1. -/
def act1 (a : Byte) : List Byte := [1, 0, a, 0]

/-- A test of string 1 at the edges of its ranges. -/
def testParam : List Byte := [1, 0, 1, 2] ++ toLE 2 2000 ++ toLE 2 1440 ++ toLE 4 2000000

theorem witness_SupplyCommandsRun :
    (∀ x ∈ [(0x0701, 1), (0x0802, 1), (0x0901, 1), (0x0902, 1), (0x0903, 1), (0x0A02, 2), (0x0A03, 2)],
      inst.admits ho x.1 x.2) ∧
    Checks (fun p => param (p.length = 4 ∧ 1 ≤ u p 2 1 ∧ u p 2 1 ≤ 4 ∧ u p 3 1 = 0 ∧ (inst.sel 0x07 (u p 0 2)).isSome)) ∧
    Checks (fun p => param (p.length = 4 ∧ 1 ≤ u p 2 1 ∧ u p 2 1 ≤ 3 ∧ u p 3 1 = 0 ∧ (inst.sel 0x08 (u p 0 2)).isSome)) ∧
    Checks (fun p => param (p.length = 4 ∧ 1 ≤ u p 2 1 ∧ u p 2 1 ≤ 3 ∧ (u p 3 1 = 0 ∨ u p 3 1 = 0x5A) ∧
      (inst.sel 0x09 (u p 0 2)).isSome)) ∧
    Checks (fun p => param (p.length = 4 ∧ 1 ≤ u p 2 1 ∧ u p 2 1 ≤ 4 ∧ u p 3 1 = 0 ∧ (inst.sel 0x09 (u p 0 2)).isSome)) ∧
    (∃ s : State, s.admits ho 0x0903 1 ∧ testParams testParam ∧ s.single 0x09 (u testParam 0 2) = some 1 ∧ s.testOk 1) ∧
    (∃ s : State, s.admits ho 0x0903 1 ∧ testParams ([1, 0, 2] ++ zeros 9) ∧ (s.strCh 1).st = .test) ∧
    Checks (fun p => param (p.length = 4 ∧ (inst.sel 0x0A (u p 0 2)).isSome ∧ (u p 2 1 = 1 ∨ u p 2 1 = 2) ∧ u p 3 1 = 0)) ∧
    (∀ f ∈ [50000, 110000], let p : List Byte := [1, 0] ++ toLE 4 f
      p.length = 6 ∧ inst.single 0x0A (u p 0 2) = some 1 ∧ inst.fld Fld.Chg.RATED_MAH 1 ≤ 2 * u p 2 4 ∧
        100 * u p 2 4 ≤ 110 * inst.fld Fld.Chg.RATED_MAH 1 ∧ inst.gaugeRefuse 1 = st.ok) :=
  ⟨by decide +kernel, checks (act1 4) (act1 5) (by decide +kernel) (by decide +kernel),
    checks (act1 3) (act1 4) (by decide +kernel) (by decide +kernel),
    checks [1, 0, 3, 0x5A] (act1 4) (by decide +kernel) (by decide +kernel),
    checks (act1 4) (act1 5) (by decide +kernel) (by decide +kernel), ⟨string .connected, by decide +kernel⟩,
    ⟨string .test, by decide +kernel⟩, checks (act1 2) (act1 3) (by decide +kernel) (by decide +kernel), by decide +kernel⟩

/-! ## Witnesses: domains and ports -/

/-- Domain 15 with phase 31, enabled on a live bus, in a state. -/
def dom (x : DState) : State :=
  ((setField Fld.Dom.PHASES (2 ^ 31) 15 inst).onBus fun b => { b with st := .mains }).onDomCh 15 fun c =>
    { c with st := x, enable := true }

theorem dom_in (x : DState) : Both (fun s => (s.domCh 15).st = x) :=
  both (dom x) (dom (if x = .off then .on else .off)) rfl (by cases x <;> decide)

theorem witness_DomainStatesRun :
    Both (fun s => (s.domCh 15).st = .off ∧ (s.domCh 15).enable ∧ s.fld Fld.Dom.PHASES 15 ≠ 0 ∧ s.inputPresent 15 ∧ !s.ctrlDown) ∧
    Both (fun s => ((s.domCh 15).st = .check ∨ (s.domCh 15).running) ∧ !s.inputPresent 15) ∧
    (∀ x ∈ [DState.check, .softStart, .on, .softStop], Both fun s => (s.domCh 15).st = x) ∧
    (∃ (s : State) (p : Nat), (s.domCh 15).st = .check ∧ (s.advanceTo ((s.domCh 15).tState + us 50)).shortPhase 15 [1] = some p) ∧
    (∃ s : State, (s.domCh 15).st = .check ∧ (s.advanceTo ((s.domCh 15).tState + us 50)).shortPhase 15 [0] = none ∧
      (s.advanceTo ((s.domCh 15).tState + us 50)).healthyPh 15 ≠ []) ∧
    Both (fun s => (s.domCh 15).st = .softStart ∨ (s.domCh 15).st = .on) ∧
    Both (fun s => (s.domCh 15).st = .on ∧ (s.domCh 15).uv = false) ∧ (∃ (s : State) (t : Nat), (s.domCh 15).limSince = some t) ∧
    Both (fun s => (s.domCh 15).st = .retryWait ∧ (s.domCh 15).enable ∧ !s.ctrlDown) :=
  ⟨both (dom .off) (dom .on) (by decide +kernel) (by decide +kernel),
    both ((dom .on).onBus fun b => { b with st := .dead }) (dom .on) (by decide +kernel) (by decide +kernel), fun x _ => dom_in x,
    ⟨dom .check, 31, by decide +kernel⟩, ⟨dom .check, by decide +kernel⟩,
    both (dom .on) (dom .off) (by decide +kernel) (by decide +kernel),
    both (dom .on) (dom .off) (by decide +kernel) (by decide +kernel),
    ⟨(dom .on).onDomCh 15 fun c => { c with limSince := some 9 }, 9, rfl⟩,
    both (dom .retryWait) (dom .off) (by decide +kernel) (by decide +kernel)⟩

/-- DOM_VOUT of D0 to `v` mV at slew `n`. -/
def voutParam (v n : Nat) : List Byte := [0, 0, 0, 0] ++ toLE 4 v ++ toLE 2 n ++ [0, 0]

theorem witness_DomainRegulationRuns :
    Both (fun s => (s.domCh 15).st = .on) ∧ Both (fun s => (s.domCh 15).st = .on ∧ s.fld Fld.Dom.LR_MODE 15 ≠ 0) ∧
    (∃ s : State, (s.domCh 15).lr = none) ∧ (∃ (s : State) (t : Nat), (s.domCh 15).lr = some t ∧ s.fld Fld.Dom.LR_MODE 15 = 1) ∧
    Both (fun s => (s.domCh 15).running ∧ 31 ∈ s.activePh 15) ∧
    Both (fun s => s.flag Fld.Dom.SYNC_SRC ∧ s.dom.syncLost = false ∧ s.dom.syncPeriod ≠ 0) ∧
    (∀ period ∈ [50, 500], 50 ≤ period ∧ period ≤ 500) ∧ (¬50 ≤ 49 ∧ ¬501 ≤ 500) ∧
    (∀ a ∈ [(2 : Byte), 7], let p : List Byte := [15, 0, a, 0]
      inst.sel 0x0B (u p 0 2) = some ⟨0, 2 ^ 15⟩ ∧ inst.admits ho 0x0B01 1 ∧ p.length = 4 ∧ 2 ≤ u p 2 1 ∧ u p 2 1 ≤ 7 ∧
        u p 3 1 = 0) ∧
    ((dom .on).sel 0x0B (u [15, 0, 1, 0] 0 2) = some ⟨0, 2 ^ 15⟩ ∧ u [15, 0, 1, 0] 2 1 = 1 ∧ (dom .on).admits ho 0x0B01 1 ∧
      ∀ k ∈ maskBits 16 (2 ^ 15), k = 0 ∨ ((dom .on).domCh k).st = .on) ∧
    (∀ x ∈ [(3135, 0), (3465, 5), (3465, 2000)], let p := voutParam x.1 x.2
      inst.sel 0x0B (u p 0 2) = some ⟨0, 1⟩ ∧ inst.admits ho 0x0B02 1 ∧ p.length = 12 ∧ u p 2 2 = 0 ∧ u p 10 2 = 0 ∧
        (∀ k ∈ maskBits 16 1, inst.onRange k (u p 4 4) ∧ inst.fld Fld.Dom.MARGIN_LOW_MV k ≤ u p 4 4 ∧
          u p 4 4 ≤ inst.fld Fld.Dom.MARGIN_HIGH_MV k) ∧ (u p 8 2 = 0 ∨ (5 ≤ u p 8 2 ∧ u p 8 2 ≤ 2000))) :=
  ⟨dom_in .on, both (setField Fld.Dom.LR_MODE 1 15 (dom .on)) (dom .off) (by decide +kernel) (by decide +kernel), ⟨dom .on, rfl⟩,
    ⟨(setField Fld.Dom.LR_MODE 1 15 (dom .on)).onDomCh 15 fun c => { c with lr := some 9 }, 9, rfl, by decide +kernel⟩,
    both (dom .on) (dom .off) (by decide +kernel) (by decide +kernel),
    both ((setField Fld.Dom.SYNC_SRC 1 0 inst).onDom fun d => { d with syncPeriod := 50 }) inst (by decide +kernel)
      (by decide +kernel), by decide, by decide, by decide +kernel, by decide +kernel, by decide +kernel⟩

/-- Port 23 enabled, in a state. -/
def port (x : PState) : State := inst.onPortCh 23 fun c => { c with st := x, enable := true }

theorem witness_PortEventsRun :
    (∀ x ∈ [PState.delay, .check, .inrush, .on], Both fun s => (s.portCh 23).st = x) ∧
    Both (fun s => (s.portCh 23).running) ∧ Both (fun s => (s.portCh 23).st = .retryWait ∧ (s.portCh 23).enable) ∧
    (∃ s : State, s.feed.unshed = []) ∧ (∃ (s : State) (m : Nat) (rest : List Nat), s.feed.unshed = m :: rest ∧ (s.portCh m).st = .shed) ∧
    inst.admits ho 0x0C01 1 ∧
    Checks (fun p => param (p.length = 4 ∧ (inst.sel 0x0C (u p 0 2)).isSome ∧ 1 ≤ u p 2 1 ∧ u p 2 1 ≤ 4 ∧ u p 3 1 = 0)) :=
  ⟨fun x _ => both (port x) (port (if x = .off then .on else .off)) rfl (by cases x <;> decide),
    both (port .on) (port .off) (by decide +kernel) (by decide +kernel),
    both (port .retryWait) (port .off) (by decide +kernel) (by decide +kernel), ⟨inst, rfl⟩,
    ⟨(port .shed).onFeed fun f => { f with unshed := [23] }, 23, [], rfl, rfl⟩, by decide +kernel,
    checks [23, 0, 4, 0] [24, 0, 4, 0] (by decide +kernel) (by decide +kernel)⟩

/-! ## Witnesses: the link -/

/-- A link port that has its neighbour's IDENT, or none, in a line state. -/
def wire (x : LineState) (peer : Option (Nat × Nat)) : State := inst.onPort 1 fun p => { p with line := x, peer := peer }

/-- A node with an address that has seen share frames, its link changed. -/
def node (f : Link → Link) : State := linked.onLink fun l => f { l with nodeAddr := 1, everSeen := true }

theorem witness_LinkEventsRun :
    inst.admits ho 0x0D03 2 ∧
    Checks (fun q => paramState (q.length = 2 && (u q 0 1 = 1 || u q 0 1 = 2) && u q 1 1 = 0 && !ho.fanned)
      (inst.flag Fld.Link.LINK_EN && !inst.link.claimed && inst.link.best.isNone)) ∧
    Both (fun s => (s.linkPort 1).line = .training) ∧ (∃ s : State, (s.linkPort 1).line ≠ .training) ∧
    (∃ s : State, (s.linkPort 1).line = .training ∧ (s.linkPort 1).peer = none) ∧
    (∃ s : State, (s.linkPort 1).line = .training ∧ (s.linkPort 1).peer = some (0, 9)) ∧
    Both (fun s => (s.linkPort 1).line = .up1 ∨ (s.linkPort 1).line = .up2) ∧
    (∃ s : State, s.link.missNow = false) ∧ (∃ s : State, s.link.missNow ∧ s.link.everSeen = false) ∧
    (∃ s : State, s.link.missNow ∧ s.link.everSeen ∧ s.link.missedRun = 2) ∧ (∃ s : State, s.link.electDue = false) ∧
    (∃ s : State, s.link.electDue ∧ (s.onLink fun l => { l with electDue := false }).eligible = false) ∧
    (∃ s : State, s.link.electDue ∧ (s.onLink fun l => { l with electDue := false }).eligible ∧ s.link.claimed) ∧
    Both (fun s => s.link.role = 2 ∧ s.link.wrapped) :=
  ⟨by decide +kernel, checks [2, 0] [3, 0] (by decide +kernel) (by decide +kernel),
    both (wire .training none) (wire .down none) (by decide +kernel) (by decide +kernel), ⟨wire .up2 none, by decide +kernel⟩,
    ⟨wire .training none, by decide +kernel⟩, ⟨wire .training (some (0, 9)), by decide +kernel⟩,
    both (wire .up1 none) (wire .training none) (by decide +kernel) (by decide +kernel), ⟨inst, rfl⟩,
    ⟨inst.onLink fun l => { l with missNow := true }, by decide +kernel⟩,
    ⟨node fun l => { l with missNow := true, missedRun := 2 }, by decide +kernel⟩, ⟨inst, rfl⟩,
    ⟨inst.onLink fun l => { l with electDue := true }, by decide +kernel⟩,
    ⟨node fun l => { l with electDue := true, claimed := true }, by decide +kernel⟩,
    both (node fun l => { l with role := 2, wrapped := true }) inst (by decide +kernel) (by decide +kernel)⟩

/-- An event frame of a TYPE. -/
def event (type : Nat) : List Byte := frameOf sofEvent (eventBody type 3 0 0 0)

/-- A root with a share frame in flight. -/
def flying : State := node fun l => { l with role := 2, flight := some (7, 5, true) }

theorem witness_LinkFramesRun :
    (∃ s : State, s.link.flight = none) ∧
    (∃ b, flying.link.flight = some (7, 5, true) ∧ flying.link.role = 2 ∧ (flying.linkPort 1).used ∧
      10 * flying.sharePeriod - 1 < 10 * flying.sharePeriod ∧
      frameBody sofShare 32 (frameOf sofShare (shareBytes 7 ShareFig.zero 5)) = some b ∧ (shareOf b).1 = 7 ∧
      flying.link.merge = []) ∧
    ((∃ s : State, s.flag Fld.Link.LINK_EN = false) ∧ ∃ s : State, (s.linkPort 1).used = false) ∧
    (linked.flag Fld.Link.LINK_EN ∧ (linked.linkPort 1).used ∧ frameBody sofDecision 32 [] = none) ∧
    (∃ b, flying.flag Fld.Link.LINK_EN ∧ (flying.linkPort 1).used ∧
      frameBody sofDecision 32 (frameOf sofDecision (zeros 28)) = some b ∧ flying.link.role = 2) ∧
    (∀ n ∈ [1, 2, 3, 4, 5, 6, 7], frameBody sofEvent 16 (event n) = some (eventBody n 3 0 0 0) ∧
      u (eventBody n 3 0 0 0) 0 1 = n) ∧ (linked.link.gen ≠ 1 ∧ linked.link.role ≠ 2 ∧ linked.link.best = none) ∧
    ((linked.linkPort 1).line ≠ .down ∧ (linked.linkPort 1).use ≠ .toRoot) ∧ ∀ b, frameBody sofEvent 16 [] ≠ some b :=
  ⟨⟨inst, rfl⟩, ⟨shareBytes 7 ShareFig.zero 5, by decide +kernel⟩,
    ⟨⟨setField Fld.Link.LINK_EN 0 0 inst, by decide +kernel⟩, inst, by decide +kernel⟩, by decide +kernel,
    ⟨zeros 28, by decide +kernel⟩, by decide +kernel, by decide +kernel, by decide +kernel, fun b h => by cases h⟩

/-! ## Witnesses: the PD ports -/

/-- PD port 1 changed. -/
def pd (f : PdCh → PdCh) : State := inst.onPdCh 1 f

/-- A present port, firmware ready, for which a command's premise holds as the command sees it. -/
def Seen (g : State → PdCh → Prop) : Prop :=
  ∃ s : State, s.sys.fwReady ∧ s.flag Fld.Pd.PRESENT 1 ∧
    g (s.onPdCh 1 fun c => { c with out := [] }) ((s.onPdCh 1 fun c => { c with out := [] }).pdCh 1)

/-- A message being sent. -/
def message : PdTx :=
  { sop := 0, resp := 0, amsStart := false, amsEnd := false, soft := false, own := false, header := 0x0041, data := [],
    tries := 0, sent := true, t := 5, owed := none }

/-- A contract change or a swap that is armed. -/
def armed (kind : Nat) : Armed := { kind := kind, epr := false, v := 9000, i := 3000, p := 27000, owed := none }

theorem witness_PdTimersRun :
    Seen (fun r c => c.st = .attachWaitSnk ∧ c.rpSeen.isSome ∧ r.fld Fld.Pd.ROLE 1 ≠ 4) ∧
    Seen (fun r c => c.st = .attachWaitSrc ∧ c.rdSeen.isSome ∧ r.fld Fld.Pd.ROLE 1 ≠ 3) ∧
    Seen (fun _ c => c.st = .trySnk) ∧ Seen (fun _ c => c.st = .trySrc) ∧
    Seen (fun r c => 2 ≤ r.fld Fld.Pd.ROLE 1 ∧ c.st = .unattachedSrc) ∧
    Seen (fun r c => 2 ≤ r.fld Fld.Pd.ROLE 1 ∧ c.st = .unattachedSnk ∧ c.limited = false) ∧
    Seen (fun r _ => r.fld Fld.Pd.ROLE 1 < 2) ∧
    Seen (fun r c => c.attached ∧ c.typeC = false ∧ r.sopHeard 1 0) ∧ Seen (fun _ c => c.attached = false) ∧
    Seen (fun _ c => c.typeC) ∧ Seen (fun r _ => r.sopHeard 1 2 = false) ∧
    Seen (fun _ c => c.tx = some message ∧ message.sent) ∧
    Seen (fun _ c => c.tx = some { message with sent := false } ∧ c.source) ∧
    Seen (fun _ c => c.ams = some 5 ∧ c.tx = none) ∧ Seen (fun _ c => c.resp = some (1, 5)) ∧
    Seen (fun _ c => c.run.map (·.kind) = some 1 ∧ c.phase = 3) ∧
    Seen (fun _ c => c.run = some (armed 2) ∧ (armed 2).kind = 2 ∧ c.phase = 3) ∧
    Seen (fun _ c => c.tx = none ∧ c.ams = none ∧ c.resp = none ∧ c.run = none) :=
  ⟨⟨pd fun c => { c with st := .attachWaitSnk, cc1 := .rp 3 }, by decide +kernel⟩,
    ⟨setField Fld.Pd.ROLE 4 1 (pd fun c => { c with st := .attachWaitSrc, cc1 := .rd }), by decide +kernel⟩,
    ⟨pd fun c => { c with st := .trySnk }, by decide +kernel⟩, ⟨pd fun c => { c with st := .trySrc }, by decide +kernel⟩,
    ⟨setField Fld.Pd.ROLE 2 1 (pd fun c => { c with st := .unattachedSrc }), by decide +kernel⟩,
    ⟨setField Fld.Pd.ROLE 2 1 (pd id), by decide +kernel⟩, ⟨setField Fld.Pd.ROLE 1 1 (pd id), by decide +kernel⟩,
    ⟨pd fun c => { c with st := .attachedSnk }, by decide +kernel⟩, ⟨pd id, by decide +kernel⟩,
    ⟨pd fun c => { c with typeC := true }, by decide +kernel⟩, ⟨setField Fld.Pd.SOP2_EN 0 1 (pd id), by decide +kernel⟩,
    ⟨pd fun c => { c with tx := some message }, by decide +kernel⟩,
    ⟨pd fun c => { c with tx := some { message with sent := false }, source := true }, by decide +kernel⟩,
    ⟨pd fun c => { c with ams := some 5 }, by decide +kernel⟩, ⟨pd fun c => { c with resp := some (1, 5) }, by decide +kernel⟩,
    ⟨pd fun c => { c with run := some (armed 1), phase := 3 }, by decide +kernel⟩,
    ⟨pd fun c => { c with run := some (armed 2), phase := 3 }, by decide +kernel⟩, ⟨pd id, by decide +kernel⟩⟩

theorem witness_PdPowerEventsRun :
    Seen (fun _ c => c.hr = .psHardReset) ∧ Seen (fun _ c => c.hr = .recover) ∧ Seen (fun _ c => c.hr = .sinkWait) ∧
    Seen (fun _ c => c.run = some (armed 1) ∧ c.phase = 1) ∧
    Seen (fun _ c => c.run = some (armed 2) ∧ c.phase = 1 ∧ (armed 2).kind ≠ 1) ∧
    Seen (fun _ c => c.run.map (·.kind) = some 1 ∧ c.phase = 2) ∧
    Seen (fun r c => c.st = .attachedSnk ∧ c.source = false ∧ r.flag Fld.Pd.FRS_RX_EN 1) ∧
    Seen (fun _ c => c.frs ∧ c.source = false) ∧ Seen (fun _ c => c.okSince = some 5 ∧ c.limited) ∧
    Seen (fun _ c => c.attached ∧ c.source ∧ c.conv) ∧ Seen (fun _ c => c.vconn) ∧ Seen (fun _ c => c.bist = some 5) ∧
    Seen (fun r _ => ((r.onPdCh 1 fun c => { c with cc1 := .rd, cc2 := .open_, ccOpen := false }).pdCh 1).attached = false) :=
  ⟨⟨pd fun c => { c with hr := .psHardReset }, by decide +kernel⟩, ⟨pd fun c => { c with hr := .recover }, by decide +kernel⟩,
    ⟨pd fun c => { c with hr := .sinkWait }, by decide +kernel⟩,
    ⟨pd fun c => { c with run := some (armed 1), phase := 1 }, by decide +kernel⟩,
    ⟨pd fun c => { c with run := some (armed 2), phase := 1 }, by decide +kernel⟩,
    ⟨pd fun c => { c with run := some (armed 1), phase := 2 }, by decide +kernel⟩,
    ⟨setField Fld.Pd.FRS_RX_EN 1 1 (pd fun c => { c with st := .attachedSnk }), by decide +kernel⟩,
    ⟨pd fun c => { c with frs := true }, by decide +kernel⟩,
    ⟨pd fun c => { c with okSince := some 5, limited := true }, by decide +kernel⟩,
    ⟨pd fun c => { c with st := .attachedSrc, source := true, conv := true }, by decide +kernel⟩,
    ⟨pd fun c => { c with vconn := true }, by decide +kernel⟩, ⟨pd fun c => { c with bist := some 5 }, by decide +kernel⟩,
    ⟨pd id, by decide +kernel⟩⟩

theorem witness_AbsentPdPortsRest :
    (∃ s : State, s.sys.fwReady = false) ∧ ∃ s : State, s.flag Fld.Pd.PRESENT 1 = false :=
  ⟨⟨.reset, rfl⟩, setField Fld.Pd.PRESENT 0 1 inst, by decide +kernel⟩

/-- A control message, and one with the longest data. -/
def txParam (n : Nat) : List Byte := [1, 0, 0, 0, 0x41, 0] ++ toLE 2 n ++ zeros n

theorem witness_PdCommandsRun :
    (∀ p ∈ [act1 1, txParam 0, [1, 0]], inst.single 0x0E (u p 0 2) = some 1) ∧ (∀ op, inst.admits ho op 1) ∧
    Checks (fun p => paramState (p.length = 4 ∧ 1 ≤ u p 2 1 ∧ u p 2 1 ≤ 9 ∧ u p 3 1 = 0) (inst.pdRefuse (u p 2 1) 1 = st.ok)) ∧
    (∃ s : State, paramState (txParams (txParam 0)) (!s.txRefuse (u (txParam 0) 2 1) 1) = st.ok) ∧
    (∃ s : State, paramState (txParams (txParam 262)) (!s.txRefuse (u (txParam 262) 2 1) 1) = st.ok) ∧
    paramState (txParams (txParam 263)) (!inst.txRefuse 0 1) ≠ st.ok ∧ Checks (fun p => param (p.length = 2)) ∧
    (∀ x ∈ [(5000, 0, 0), (48000, 3000, 1)], let p : List Byte := [1, 0, 1, byte x.2.2] ++ toLE 4 x.1 ++ toLE 4 x.2.1 ++ toLE 4 240000
      inst.single 0x0E (u p 0 2) = some 1 ∧ powerParams p ∧ u p 2 1 = 1 ∧ u p 8 4 ≤ 3000) ∧
    (∃ s : State, (s.pdCh 1).attached ∧ (s.pdCh 1).typeC = false) ∧
    ∃ s : State, ∃ p q : List Byte,
      paramState (p.length = 4 ∧ 1 ≤ u p 2 1 ∧ u p 2 1 ≤ 4 ∧ u p 3 1 = 0) ((s.pdCh 1).attached && !(s.pdCh 1).typeC) = st.ok ∧
      paramState (q.length = 4 ∧ 1 ≤ u q 2 1 ∧ u q 2 1 ≤ 4 ∧ u q 3 1 = 0) ((s.pdCh 1).attached && !(s.pdCh 1).typeC) ≠ st.ok :=
  ⟨by decide +kernel, fun _ => inst_admits _ _ (by decide),
    checks (act1 1) (act1 10) (by decide +kernel) (by decide +kernel),
    ⟨pd fun c => { c with st := .attachedSnk }, by decide +kernel⟩, ⟨pd fun c => { c with st := .attachedSnk }, by decide +kernel⟩,
    by decide +kernel, checks [1, 0] [] (by decide) (by decide), by decide +kernel,
    ⟨pd fun c => { c with st := .attachedSrc }, by decide +kernel⟩,
    ⟨pd fun c => { c with st := .attachedSrc }, act1 4, act1 5, by decide +kernel⟩⟩

/-! ## Witnesses: the sequencer, measurement and thermal -/

/-- A sequence that runs, in a phase of a step; its step 0 waits for domain 0. -/
def seqIn (ph : QPhase) : State := inst.onSeq fun q =>
  { q with st := .running, phase := ph, step := 1, cond := true, settleSince := some 5,
           table := [1, 0, 0, 0, 1, 0, 0, 0, 0, 0, 0, 1, 0, 0, 0, 0, 0, 0, 0, 0] }

theorem witness_SequencerRuns :
    (∃ s : State, s.seq.settleSince = some 5 ∧ s.seq.st = .running ∧ s.seq.phase = .wait ∧ s.seq.cond) ∧
    (∃ s : State, s.seq.settleSince = none) ∧ Both (fun s => s.seq.st = .running ∧ s.seq.phase = .wait) ∧
    Both (fun s => s.seq.st = .running ∧ s.seq.phase = .delay) ∧
    Both (fun s => s.seq.st = .running ∧ 0 < s.seq.step ∧ seqKind s.seq.table ≠ 1 ∧
      s.stepBad (seqStepOf s.seq.table 0) ≠ (0, 0)) ∧
    ((∃ s : State, s.flag Fld.Seq.EN 15 = false) ∧ ∃ s : State, (s.seq.em[15]).out) ∧
    (∃ s : State, s.flag Fld.Seq.EN 15 ∧ (s.seq.em[15]).out = false ∧ s.fld Fld.Seq.ACTION 15 = 0) ∧
    (∃ s : State, s.seq.wdArm = none) ∧
    (∃ s : State, s.seq.wdArm.isSome ∧ s.seq.wdEdge = none ∧ (s.advanceTo s.wdLimit).now ≤ (s.advanceTo s.wdLimit).wdLimit) ∧
    (∃ s : State, s.seq.wdArm.isSome ∧ (s.advanceTo (s.wdLimit + 1)).wdLimit < (s.advanceTo (s.wdLimit + 1)).now) ∧
    Both (fun s => s.seq.wdArm ≠ none) ∧ ((∃ s : State, s.seq.pulse = none) ∧ ∃ s : State, s.seq.pulse = some 5) ∧
    inst.admits ho 0x0F01 1 ∧ inst.admits ho 0x0F02 1 ∧ inst.admits ho 0x0F04 0 ∧
    Checks (fun p => paramState (p.length = 2 ∧ u p 0 1 ≤ 7 ∧ u p 1 1 ≤ 1 ∧ inst.hasTable 0x06 (u p 0 1))
      (!inst.startRefuse (u p 0 1))) ∧
    Checks (fun p => paramState (p.length = 2 ∧ 1 ≤ u p 0 1 ∧ u p 0 1 ≤ 3 ∧ u p 1 1 = 0)
      (!(seqIn .wait).seqCtlRefuse (u p 0 1))) ∧ Checks (fun p => param p.isEmpty) :=
  ⟨⟨seqIn .wait, rfl, rfl, rfl, rfl⟩, ⟨inst, rfl⟩, both (seqIn .wait) inst (by decide +kernel) (by decide +kernel),
    both (seqIn .delay) inst (by decide +kernel) (by decide +kernel), both (seqIn .wait) inst (by decide +kernel) (by decide +kernel),
    ⟨⟨inst, by decide +kernel⟩, inst.onSeq fun q => { q with em := upd q.em 15 fun e => { e with out := true } }, by decide +kernel⟩,
    ⟨setField Fld.Seq.EN 1 15 (setField Fld.Seq.ACTION 0 15 inst), by decide +kernel⟩, ⟨inst, rfl⟩,
    ⟨inst.onSeq fun q => { q with wdArm := some 5 }, by decide +kernel⟩,
    ⟨inst.onSeq fun q => { q with wdArm := some 5 }, by decide +kernel⟩,
    both (inst.onSeq fun q => { q with wdArm := some 5 }) inst (by decide +kernel) (by decide +kernel),
    ⟨⟨inst, rfl⟩, inst.onSeq fun q => { q with pulse := some 5 }, rfl⟩, by decide +kernel, by decide +kernel, by decide +kernel,
    checks [1, 1] [8, 0] (by decide +kernel) (by decide +kernel), checks [1, 0] [4, 0] (by decide +kernel) (by decide +kernel),
    checks [] [0] (by decide) (by decide)⟩

/-- A calibration pass in a state. -/
def cal (x : CalState) : State := inst.onMeas fun m => { m with cal := x, calDue := some 5 }

theorem witness_MeasurementRuns :
    (∃ s : State, s.entryTrig 7 (s.adc 7).pos = false) ∧
    (∃ s : State, s.entryTrig 4 (s.adc 4).pos ∧ (s.adc 4).tMiss = none) ∧
    (let r := inst.raise 0x100A 6; (r.adc 6).st ≠ .substituted ∧ (r.adc 6).st ≠ .noConverter) ∧
    Both (fun s => s.fld Fld.Meas.MODE 7 = 2) ∧ Both (fun s => s.ccCounts 7) ∧
    Both (fun s => s.ccCounts 3 ∧ 0 < (s.meas.cc[3]).compare ∧ (s.meas.cc[3]).compare ≤ (s.meas.cc[3]).period) ∧
    ((∃ s : State, (s.meas.tach[3]).tLast = some 5) ∧ ∃ s : State, (s.meas.tach[3]).tLast = none) ∧
    ((∃ s : State, s.sys.mode ≠ .running) ∧ (∃ s : State, s.meas.cal ≠ .idle) ∧ (∃ s : State, s.flag Fld.Meas.CAL_EN = false) ∧
      ∃ s : State, s.passCalled = false) ∧
    (∃ s : State, s.sys.mode = .running ∧ s.meas.cal = .idle ∧ s.flag Fld.Meas.CAL_EN ∧ s.passCalled = false ∧ s.meas.calDue = some 5 ∧
      ∀ w ∈ s.hif.waits, w.op ≠ 0x1004) ∧
    Both (fun s => s.meas.cal = .computing ∧ s.now ≤ s.meas.tCal + ms 250) ∧
    Both (fun s => s.meas.cal = .triad ∨ s.meas.cal = .shadow ∨ s.meas.cal = .computing) ∧
    Both (fun s => s.meas.cal = .applying ∧ s.meas.landing = []) ∧
    inst.admits ho 0x1004 1 ∧ inst.admits ho 0x1002 0 ∧ inst.admits ho 0x1003 0 ∧
    Checks (fun p => paramState p.isEmpty (inst.meas.cal = .idle && inst.flag Fld.Meas.CAL_EN && inst.sys.mode = .running &&
      !(inst.hif.waits.any fun w => w.op = 0x1004))) ∧
    (∀ p ∈ [[0x10, 0], [0x11, 0]], p.length = 2 ∧ u p 1 1 = 0 ∧ (u p 0 1 = 0x10 ∨ u p 0 1 = 0x11)) ∧
    (∃ s : State, s.flag Fld.Meas.DIAG_EN ∧ s.fld Fld.Meas.DIAG_UNIT = u [7, 0] 0 1 ∧ u [7, 0] 0 1 < 8 ∧ u [7, 0] 1 1 = 0) ∧
    (∀ p ∈ [[0, 0, 0, 0], [227, 0, 0, 0]], p.length = 4 ∧ u p 2 1 = 0 ∧ u p 3 1 = 0 ∧ telNamed (u p 0 2)) :=
  ⟨⟨inst, by decide +kernel⟩, ⟨inst, by decide +kernel⟩, by decide +kernel,
    both (setField Fld.Meas.MODE 2 7 inst) inst (by decide +kernel) (by decide +kernel),
    both (setField Fld.Meas.MODE 1 7 inst) inst (by decide +kernel) (by decide +kernel),
    both (inst.onCc 3 fun c => { c with compare := 3999 }) inst (by decide +kernel) (by decide +kernel),
    ⟨⟨inst.onMeas fun m => { m with tach := upd m.tach 3 fun t => { t with tLast := some 5 } }, by decide +kernel⟩, inst, by decide +kernel⟩,
    ⟨⟨.reset, by decide +kernel⟩, ⟨cal .triad, by decide +kernel⟩, ⟨setField Fld.Meas.CAL_EN 0 0 inst, by decide +kernel⟩,
      inst, by decide +kernel⟩,
    ⟨cal .idle, by decide +kernel⟩, both (cal .computing) inst (by decide +kernel) (by decide +kernel),
    both (cal .shadow) inst (by decide +kernel) (by decide +kernel), both (cal .applying) inst (by decide +kernel) (by decide +kernel),
    by decide +kernel, by decide +kernel, by decide +kernel, checks [] [0] (by decide +kernel) (by decide +kernel), by decide +kernel,
    ⟨setField Fld.Meas.DIAG_EN 1 0 (setField Fld.Meas.DIAG_UNIT 7 0 inst), by decide +kernel⟩, by decide +kernel⟩

/-- Every sensor of the control die at 150 °C. -/
def hotCtrl : State := inst.onTherm fun h =>
  { h with sens := Vector.ofFn fun j => { win := if j.val < 16 then [1500] else [], broken := false } }

/-- Zone 4 shut down and cool since tick 5, its die latched or not. -/
def cooling (latched : Bool) : State := inst.onTherm fun h =>
  { h with zone := upd h.zone 4 fun _ => { shut := true, coolSince := some 5 }, mainsLatch := latched }

/-- Fan 3 stalled or not, its rotor below STALL_RPM. -/
def fan3 (stalled : Bool) : State := inst.onTherm fun h => { h with fan := upd h.fan 3 fun f => { f with stalled := stalled } }

/-- Fan 3's rotor fast enough. -/
def fast3 (s : State) : State := s.onMeas fun m => { m with tach := upd m.tach 3 fun t => { t with rpm := 60000 } }

theorem witness_ThermalRuns :
    Both (fun s => s.zoneAt 1500 3 ∧ (s.therm.zone[fin 5 3]).shut = false) ∧
    ((∃ s : State, (s.therm.zone[4]).shut = false) ∧ ∃ s : State, (s.therm.zone[4]).coolSince = none) ∧
    (∃ s : State, (s.therm.zone[4]).shut ∧ (s.therm.zone[4]).coolSince = some 5 ∧ s.therm.mainsLatch) ∧
    (∃ s : State, (s.therm.zone[4]).shut ∧ (s.therm.zone[4]).coolSince = some 5 ∧ s.therm.mainsLatch = false) ∧
    Both (fun s => s.sys.fwReady) ∧
    Both (fun s => s.sys.mode = .running ∧ s.flag Fld.Therm.FITTED 3 ∧ s.flag Fld.Therm.STALL_EN 3 ∧ !(s.therm.fan[3]).stalled ∧
      0 < (s.therm.fan[3]).duty ∧ (s.meas.tach[3]).rpm < s.fld Fld.Therm.STALL_RPM 3) ∧
    Both (fun s => s.sys.mode = .running ∧ (s.therm.fan[3]).stalled ∧ s.fld Fld.Therm.STALL_RPM 3 ≤ (s.meas.tach[3]).rpm) :=
  ⟨both hotCtrl inst (by decide +kernel) (by decide +kernel), ⟨⟨inst, by decide +kernel⟩, inst, by decide +kernel⟩,
    ⟨cooling true, by decide +kernel⟩, ⟨cooling false, by decide +kernel⟩, both live .reset (by decide +kernel) (by decide +kernel),
    both (fan3 false) (fan3 true) (by decide +kernel) (by decide +kernel),
    both (fast3 (fan3 true)) (fan3 true) (by decide +kernel) (by decide +kernel)⟩

/-! ## Witnesses: the recorder, faults and images -/

/-- The recorder changed. -/
def rec (f : Skb → Skb) : State := inst.onSkb f

/-- A capture area in a phase, with its samples. -/
def area (x : AreaPhase) (n : Nat) : Area := { Area.free with phase := x, samples := List.replicate n [] }

/-- One ring record with SEQ 0. -/
def ring : List (List Byte) := [zeros 64]

theorem witness_RecorderRuns :
    Both (fun s => s.sys.por = false) ∧ Both (fun s => s.skb.evBuf ≠ []) ∧ Both (fun s => s.skb.running.isSome) ∧
    ((∃ s : State, s.skb.running = some ⟨.capture 0, none⟩) ∧ ∃ s : State, s.skb.running = none) ∧
    (∃ s : State, ∀ a ∈ s.skb.areas, a.phase = .triggered → a.samples.length < 8192) ∧
    (∃ s : State, (s.skb.areas.findIdx fun a => a.phase = .triggered && 8192 ≤ a.samples.length) < s.skb.areas.length) ∧
    ((∃ s : State, s.skb.areas.find? Area.isRecording = none) ∧
      ∃ s : State, s.skb.areas.find? Area.isRecording = some (area .recording 0)) ∧
    Both (fun s => s.sys.mode = .running ∧ !s.skb.failed ∧ !s.skb.scrub) ∧
    ((∃ s : State, s.skb.scrub = false) ∧ ∃ s : State, s.skb.scrub) ∧ Both (fun s => s.skb.stream.isSome) ∧
    (∀ x ∈ [(0x1201, 0), (0x1202, 0), (0x1203, 0), (0x1205, 1), (0x1206, 1), (0x1207, 2)], inst.admits ho x.1 x.2) ∧
    Checks (fun p => param p.isEmpty) ∧
    Checks (fun p => paramState p.isEmpty (rec fun k => { k with stream := some oneByte }).skb.stream.isSome) ∧
    Checks (fun p => paramState p.isEmpty ((setField Fld.Skb.CAP_EN 1 0 inst).flag Fld.Skb.CAP_EN)) ∧
    Checks (fun p => param (p.length = 32)) ∧ Checks (fun p => param (p.length = 2 ∧ u p 0 1 < 16 ∧ u p 1 1 = 0x5A)) ∧
    (∃ s : State, ∃ bs, let p : List Byte := [1, 0, 0, 0] ++ toLE 4 0 ++ toLE 4 1
      p.length = 12 ∧ u p 1 1 = 0 ∧ u p 3 1 = 0 ∧ s.skbData (u p 0 1) (u p 2 1) (u p 4 4) (u p 8 4) = some bs) ∧
    (∃ s : State, ∃ bs, let p : List Byte := [1, 1, 0, 0] ++ toLE 4 0 ++ toLE 4 1
      p.length = 12 ∧ u p 1 1 = 1 ∧ u p 3 1 = 0 ∧ s.skb.stream = none ∧
        s.skbData (u p 0 1) (u p 2 1) (u p 4 4) (u p 8 4) = some bs) :=
  ⟨both inst .reset (by decide +kernel) (by decide +kernel),
    both (rec fun k => { k with evBuf := [zeros 64] }) inst (by decide +kernel) (by decide +kernel),
    both (rec fun k => { k with running := some ⟨.events, none⟩ }) inst (by decide +kernel) (by decide +kernel),
    ⟨⟨rec fun k => { k with running := some ⟨.capture 0, none⟩ }, rfl⟩, inst, rfl⟩, ⟨inst, by decide +kernel⟩,
    ⟨rec fun k => { k with areas := [area .triggered 8192] }, by decide +kernel⟩,
    ⟨⟨inst, by decide +kernel⟩, rec fun k => { k with areas := [area .recording 0] }, by decide +kernel⟩,
    both inst (rec fun k => { k with scrub := true }) (by decide +kernel) (by decide +kernel),
    ⟨⟨inst, rfl⟩, rec fun k => { k with scrub := true }, rfl⟩,
    both (rec fun k => { k with stream := some oneByte }) inst (by decide +kernel) (by decide +kernel), by decide +kernel,
    checks [] [0] (by decide) (by decide), checks [] [0] (by decide +kernel) (by decide +kernel),
    checks [] [0] (by decide +kernel) (by decide +kernel), checks (zeros 32) [] (by decide) (by decide),
    checks [15, 0x5A] [16, 0x5A] (by decide) (by decide),
    ⟨rec fun k => { k with evRing := ring }, _, by decide +kernel, by decide +kernel, by decide +kernel, rfl⟩,
    ⟨rec fun k => { k with evRing := ring }, _, by decide +kernel, by decide +kernel, by decide +kernel, rfl, rfl⟩⟩

/-- A public key, and the header of an image of one byte that its private key signed (calculated with Python). -/
def key : Nat × Nat :=
  (0x749a3d4d44459cbabcc5cd81ac3103e670ae9180f0671467b30e38f98846ba6e,
    0x1c764d25d2815fbdcdcaecfac3ff06782b6487c02995d22cddde801d168dfe28)
def fwHead : List Byte :=
  [0x4B, 0x4F, 0x52, 0x33, 1] ++ zeros 11 ++ toLE 8 1 ++
    toBE 32 0xca358758f6d27e6cf45272937977a748fd88391db679ceda7dc7bf1f005ee879 ++ zeros 136

/-- The image. -/
def fwImage : List Byte :=
  fwHead ++ toBE 32 0x8a57d8a481c521c9fe7846f49d3419e76678c3ad06cb001565b70ea4fef87a04 ++
    toBE 32 0xd8c7f2e0d5ec609954d2c25189bc08a24ac23dad71a8bf0a6f0e36b8fd3f96e2 ++ [7]

/-- R493, R494: a signed image passes every check, and fails check 3 when its body is changed. -/
theorem test_image_signature : imageCheck fwImage key (zeros 8) 0 = 0 ∧
    imageCheck (fwImage.set 256 8) key (zeros 8) 0 = 3 := by decide +kernel

/-- A download of image B, the device's public key being `key`. -/
def loading (bs : List Byte) : State := (inst.onSys fun y => { y with pubKey := key }).onImg fun i =>
  { i with download := 1, target := 1, total := 257, area := upd i.area 1 fun _ => { st := .invalid, bytes := bs } }

theorem witness_FaultsAndImagesRun :
    (∃ s : State, s.handling ∧ s.flt.running = some (entry 4 3 0)) ∧
    ((∃ s : State, s.handling = false) ∧ ∃ s : State, s.flt.running = none) ∧
    (∀ op ∈ [0x1401, 0x1402, 0x1403, 0x1404, 0x1405], inst.admits ho op 2) ∧
    (∀ n ∈ [257, 16777472], let p : List Byte := [1, 0, 0, 0] ++ toLE 4 n
      paramState (p.length = 8 ∧ u p 0 1 ≤ 1 ∧ u p 1 3 = 0 ∧ 257 ≤ u p 4 4 ∧ u p 4 4 ≤ 16777472)
        (inst.downloads && inst.img.booted ≠ some (fin 2 (u p 0 1))) = st.ok) ∧
    (let p : List Byte := toLE 4 0 ++ toLE 2 1 ++ [7]
     p.length = 6 + u p 4 2 ∧ 1 ≤ u p 4 2 ∧ u p 4 2 ≤ 4080 ∧ (loading []).img.download = 1 ∧ (loading []).downloads ∧
      u p 0 4 = (loading []).img.received ∧ u p 0 4 + u p 4 2 ≤ (loading []).img.total) ∧
    (let a := (loading []).accepted ho 2
     imageCheck (a.img.area[a.img.target]).bytes a.sys.pubKey a.sys.serial a.img.rollback ≠ 0) ∧
    (let a := (loading fwImage).accepted ho 2
     (loading fwImage).img.download = 1 ∧ (loading fwImage).downloads ∧
      imageCheck (a.img.area[a.img.target]).bytes a.sys.pubKey a.sys.serial a.img.rollback = 0 ∧ a.skb.failed = false) ∧
    (∃ s : State, ([1, 0] : List Byte).length = 2 ∧ u [1, 0] 0 1 ≤ 1 ∧ u [1, 0] 1 1 = 0 ∧
      (s.img.area[fin 2 (u [1, 0] 0 1)]).st = .valid) ∧ inst.img.booted = none ∧
    (∃ s : State, s.img.booted = some 1 ∧ s.img.rollback < u (s.img.area[1]).bytes 12 4) :=
  ⟨⟨inst.onFlt fun _ => fullQueue, by decide +kernel⟩, ⟨⟨.reset, rfl⟩, inst, rfl⟩, fun _ _ => inst_admits _ _ (by decide),
    by decide +kernel, by decide +kernel, by decide +kernel, by decide +kernel,
    ⟨(loading []).onImg fun i => { i with area := upd i.area 1 fun a => { a with st := .valid } }, by decide +kernel⟩, rfl,
    (loading (fwImage.set 12 1)).onImg fun i => { i with booted := some 1 }, by decide +kernel⟩

/-! ## Witnesses: bytes and words -/

theorem witness_CheckSums : ∃ bs, packetOk bs := ⟨packet 0x40 0x0100 7 1 [], by decide +kernel⟩

theorem witness_PacketsReadBack :
    ∃ (flags op dest : Nat) (params : List Byte), flags < 2 ^ 8 ∧ op < 2 ^ 16 ∧ dest < 2 ^ 8 ∧ params.length ≤ 4086 ∧
      flags = 255 ∧ op = 65535 ∧ dest = 255 ∧ params.length = 4086 :=
  ⟨255, 65535, 255, zeros 4086, by decide, by decide, by decide, by decide +kernel, rfl, rfl, rfl, by decide +kernel⟩

theorem witness_FieldsReadBack :
    ∃ (f : Field) (bs : List Byte) (j m : Nat), f.off + f.nbytes = bs.length ∧ f.off + f.nbytes ≤ bs.length ∧ j < f.off ∧ m < f.lo :=
  ⟨Fld.reserved .bus0 4 3 5, zeros 5, 3, 2, by decide, by decide, by decide, by decide⟩

/-- Port 23 in a state, 30 handlers waiting. -/
def busyPort (x : PState) : State := (port x).onFlt fun f => { f with queue := List.replicate 30 (entry 1 0 0) }

theorem witness_ReverseCurrentIsNoTrip :
    ∀ x ∈ [PState.inrush, .on], ((busyPort x).portCh 23).st = x ∧ ((busyPort x).copy .feed0 23).pendL = [] ∧
      ((busyPort x).copy .feed0 23).armed = [] ∧ (busyPort x).flt.held = 30 ∧ (busyPort x).flt.held ≤ 30 := by
  decide +kernel

/-! ## Single steps and published vectors -/

/-- FIPS 180-4: SHA-256 of "abc". -/
theorem test_sha256_abc : sha256 [0x61, 0x62, 0x63] =
    toBE 32 0xba7816bf8f01cfea414140de5dae2223b00361a396177a9cb410ff61f20015ad := by decide +kernel

/-- RFC 4231, test case 2. -/
theorem test_hmac : hmac256 [0x4A, 0x65, 0x66, 0x65]
    (toBE 28 0x7768617420646f2079612077616e7420666f72206e6f7468696e673f) =
    toBE 32 0x5bdcc146bf60754e6a042426089575c75a003f089d2739839dec58b964ec3843 := by decide +kernel

/-- R116, R107: NOP's reply on I2C: the header with REPLY set, the opcode, the tag, the node, one status byte, the check. -/
theorem test_nop_reply : ∃ t, exec (.nop { ho with tag := 9 } []) inst = .next t ∧
    t.hif.mbx.buf.take 9 = [0xA5, 0x41, 0x00, 0x01, 9, 0, 1, 0, 0] := ⟨_, rfl, by decide +kernel⟩

/-- R118: below its privilege a command is answered NOT_PERMITTED (0x04). -/
theorem test_not_permitted : ∃ t, exec (.imgConfirm ho []) live = .next t ∧
    (t.hif.mbx.buf.drop 8).head? = some 0x04 :=
  ⟨_, rfl, by decide +kernel⟩

/-- R69, R70: the watchdog's expiry starts the safe defaults and sets flag 1. -/
theorem test_watchdog : ∃ t, exec .hostWdExpiry (inst.onSys fun y => { y with wdRunning := true }) = .next t ∧ t.sys.safe ∧
    t.hif.irq.testBit 1 := ⟨_, rfl, by decide +kernel⟩

/-- R306: a port's insertion delay ends in CHECK. -/
theorem test_port_insert : ∃ t, exec (.portInsertDone 23) (port .delay) = .next t ∧ (t.portCh 23).st = .check :=
  ⟨_, rfl, by decide +kernel⟩

/-- R485, R486: the handler that ends is followed by the one it suspended, where nothing of higher rank waits. -/
theorem test_handler_resumes : ∃ t, exec .handlerComplete (inst.onFlt fun _ => fullQueue) = .next t ∧
    (t.flt.running.map (·.seq)) = some 2 ∧ t.flt.lastDone = 3 := ⟨_, rfl, by decide +kernel⟩

/-! ## Witnesses of the clauses that need more state -/

/-- Image A signed and valid, its public key the device's. -/
def signedA : State := (live.onSys fun y => { y with mode := .bootRom, pubKey := key }).onImg fun i =>
  { i with area := upd i.area 0 fun _ => { st := .valid, bytes := fwImage } }

theorem witness_BootEventsRun_images :
    (∃ s : State, s.bootVerdict (s.img.active.getD 0) = some 0) ∧
    ∃ s : State, s.bootVerdict (s.img.active.getD 0) = none ∧ s.bootVerdict (otherArea (s.img.active.getD 0)) = some 0 :=
  ⟨⟨signedA, by decide +kernel⟩, signedA.onImg fun i => { i with active := some 1 }, by decide +kernel⟩

/-- SHARE_US written to 20 µs: block 0x0D, record 0, all channels. -/
def writeShare : List Byte := [0, 0x80, 0, 0, 2, 0, 2, 0, 20, 0]

/-- SHUNT_UOHM of the ports of a selector written to `v`. -/
def writeShunt (sel v : Nat) : List Byte := toLE 2 sel ++ [0, 0, 28, 0, 2, 0] ++ toLE 2 v

/-- A write on block `blk` that is well formed and admitted, refused or not on channel `k`. -/
def Writes (s : State) (blk : Nat) (p : List Byte) (r : RecId) (k : Nat) (refused : Bool) : Prop :=
  ∃ vs, writeForm blk p = some (r, vs) ∧ s.writeParam blk p ∧
    let vals := vs.filter fun x => x.1.cls ≠ .ro
    let priv := max (easelPriv blk) (if vals.any fun x => x.1.install then 2 else 1)
    s.admits ho (256 * blk + 0xE0) priv ∧ (s.accepted ho priv).easelRefuse r k vals = refused

/-- Port 23 ON with a value of class B staged. -/
def stagedPort (x : PState) : State := (port x).onCopy .feed0 23 fun c => { c with stagedB := [4] }

theorem witness_EaselCommandsRun_writes :
    Writes inst 0x07 writeWalk .rect1 0 false ∧ recWide .rect1 ∧ Writes linked 0x0D writeShare .link0 0 true ∧ recWide .link0 ∧
    (Writes (port .off) 0x0C (writeShunt 23 900) .feed0 23 false ∧ Writes (port .on) 0x0C (writeShunt 23 900) .feed0 23 true ∧
      recWide .feed0 = false ∧ 23 < 32 ∧ inst.sel 0x0C 23 = some ⟨0, 2 ^ 23⟩) ∧
    (∀ n ∈ [0x4001, 0x8000], Writes (port .on) 0x0C (writeShunt n 900) .feed0 23 true ∧
      ∃ sel : Sel, inst.sel 0x0C n = some sel ∧ sel.mode ≠ 0) ∧
    writeForm 0x0C [] = none :=
  ⟨⟨_, rfl, by decide +kernel, by decide +kernel, by decide +kernel⟩, rfl, ⟨_, rfl, by decide +kernel, by decide +kernel, by decide +kernel⟩,
    rfl, ⟨⟨_, rfl, by decide +kernel, by decide +kernel, by decide +kernel⟩, ⟨_, rfl, by decide +kernel, by decide +kernel, by decide +kernel⟩, rfl,
      by decide, by decide +kernel⟩,
    fun n h => by
      simp only [List.mem_cons, List.not_mem_nil, or_false] at h
      obtain rfl | rfl := h
      · exact ⟨⟨_, rfl, by decide +kernel, by decide +kernel, by decide +kernel⟩, ⟨1, 0⟩, by decide +kernel, by decide⟩
      · exact ⟨⟨_, rfl, by decide +kernel, by decide +kernel, by decide +kernel⟩, ⟨2, 2 ^ 24 - 1⟩, by decide +kernel, by decide⟩,
    rfl⟩

theorem witness_EaselCommandsRun_commits :
    (let s := stagedPort .on
     let p : List Byte := [23, 0, 0, 0]
     let sel := s.sel 0x0C (u p 0 2)
     let a := s.accepted ho (s.commitPriv 0x0C sel)
     s.admits ho (256 * 0x0C + 0xE1) (s.commitPriv 0x0C sel) ∧ p.length = 4 ∧ sel.isSome ∧ s.genOk 0x0C (u p 2 2) ∧
       maskOf (((a.onCfg fun c => { c with commits := c.commits + 1 }).commitSel 0x0C (sel.getD ⟨0, 0⟩) a.commitId).armedOn 0x0C
         a.commitId) ≠ 0) ∧
    (let p : List Byte := [23, 0, 9, 0]
     p.length = 4 ∧ (inst.sel 0x0C (u p 0 2)).isSome ∧ inst.genOk 0x0C (u p 2 2) = false) ∧
    (inst.sel 0x0C (u [24, 0, 0, 0] 0 2) = none ∧ ([] : List Byte).length ≠ 4) ∧
    (inst.sel 0x0C (u [24, 0] 0 2) = none ∧ ([] : List Byte).length ≠ 2) ∧
    (∀ p ∈ [[23, 0, 0, 2, 0, 0, 1, 0], [23, 0, 0, 0, 0, 0, 0, 0], [23, 0, 0, 0, 0, 0, 0xF6, 0x0F], [23, 0, 9, 0, 0, 0, 1, 0],
      [23, 0, 0, 0, 0, 0, 33, 0], ([24, 0, 0, 0, 0, 0, 1, 0] : List Byte)],
      1 < u p 3 1 ∨ u p 6 2 = 0 ∨ 4085 < u p 6 2 ∨ recOf 0x0C (u p 2 1) = none ∨
        (recOf 0x0C (u p 2 1) = some .feed0 ∧ (recLen .feed0 < u p 4 2 + u p 6 2 ∨ inst.readSel 0x0C .feed0 (u p 0 2) = none))) := by
  decide +kernel

theorem witness_EaselLandsRun_copies :
    (∃ vals : List (Field × Nat × Nat), vals ≠ [] ∧ ∀ v ∈ vals, v.1.cls = .B) ∧
    (∃ c : RecCopy, c.pendL = [] ∧ c.armed = [batch] ∧ batch.due .feed0 .main) ∧ (∃ c : RecCopy, c.pendL = [] ∧ c.armed = []) ∧
    (∃ c : RecCopy, c.pendL = [batch] ∧ c.armed = [] ∧ batch.due .feed0 .main) ∧
    (∃ c : RecCopy, c.pendL = [batch] ∧ c.armed = [] ∧ batch.due .dom0 .sw = false) ∧
    Both (fun s => (s.copy .dom1 0).armed ≠ []) ∧ Both (fun s => (s.copy .dom1 0).pendL ≠ []) ∧
    (∃ (s : State) (w : Wait), s.hif.waits.find? Wait.isCommit = some w ∧ w.op = 0x0301) ∧
    (∀ p ∈ [[0, 0], [17, 0], [1, 1], ([1, 0] : List Byte)], p.length ≠ 2 + 6 * u p 0 1 ∨ u p 0 1 = 0 ∨ 16 < u p 0 1 ∨ u p 1 1 ≠ 0) ∧
    (let p : List Byte := [1, 0, 0x06, 0, 0, 0x80, 0, 0]
     p.length = 2 + 6 * u p 0 1 ∧ ((List.range (u p 0 1)).map (inst.multiCheck ho p)).find? (fun c => c ≠ st.ok) = some st.badParam) ∧
    ((inst.onSys fun y => { y with nandBar := true }).admits ho 0x0302 2 ∧ (stagedPort .on).admits ho 0x0302 2 ∧
      ((port .on).onCopy .feed0 23 fun c => { c with armed := [batch] }).anyArmed) ∧
    (inst.onSkb fun k => { k with failed := true }).admits ho 0x0302 2 :=
  ⟨⟨[(Fld.Feed.FAST_MA, 7, 40000)], by decide, by decide⟩, ⟨{ inst.copy .feed0 23 with armed := [batch] }, by decide +kernel⟩,
    ⟨inst.copy .feed0 23, by decide +kernel⟩, ⟨{ inst.copy .feed0 23 with pendL := [batch] }, by decide +kernel⟩,
    ⟨{ inst.copy .dom0 3 with pendL := [batch] }, by decide +kernel⟩,
    both (live.onCopy .dom1 0 fun c => { c with armed := [batch] }) live (by decide +kernel) (by decide +kernel),
    both (live.onCopy .dom1 0 fun c => { c with pendL := [batch] }) live (by decide +kernel) (by decide +kernel),
    ⟨live.onHif fun h => { h with waits := [waits 0x0301] }, waits 0x0301, by decide +kernel⟩, by decide, by decide +kernel,
    by decide +kernel, by decide +kernel⟩

/-! ## Witnesses: the clauses of one statement, at the edges of their ranges -/

/-- A telemetry channel's latest value. -/
def telAt (c : Nat) (v : Int) (s : State) : State :=
  s.onMeas fun m => { m with tel := upd m.tel (fin 256 c) fun t => { t with latest := v } }

theorem witness_PaletteRuns_edges :
    (∀ n ∈ [23, 32769], ¬(24 ≤ u (toLE 4 n) 0 4 ∧ u (toLE 4 n) 0 4 ≤ 32768)) ∧
    (inst.onPal fun q => { q with pending := 1 }).pal.pending ≠ 0 ∧ (inst.onPal fun q => { q with switching := true }).pal.switching ∧
    (let p := toLE 4 1 ++ toLE 2 24 ++ zeros 24
     u p 0 4 ≠ (opening 24).pal.stagedBank.bytes.length) ∧
    (let p := toLE 4 0 ++ toLE 2 25 ++ zeros 25
     24 < (opening 24).pal.stagedBank.bytes.length + u p 4 2) ∧
    ((staged .loading).onSkb fun k => { k with failed := true }).skb.failed ∧
    ((staged .valid).onLink fun l => { l with role := 2 }).link.role = 2 ∧ u [1] 0 1 = 1 ∧
    (∀ c : Fin 12, (inst.onPal fun q => { q with pending := 0xFFF }).pal.pending.testBit c ∧ inst.pal.pending.testBit c = false) ∧
    inst.seq.st = .idle ∧ inst.plantReady ∧ ((inst.onPal fun q => { q with plant := some 0 }).onLink (fun l => { l with capping := 0 })).plantReady = false ∧ inst.busQuiet ∧ (sect .walkIn).busQuiet = false := by
  decide +kernel

/-- Section 1's bulk reference. -/
def bulkRef : Nat := inst.secF Fld.Rect.BULK_MV 1

theorem witness_RectStatesRun_edges :
    (∀ bulk ∈ [98 * bulkRef / 100, 102 * bulkRef / 100], 98 * bulkRef ≤ 100 * bulk ∧ 100 * bulk ≤ 102 * bulkRef) ∧
    (∀ bulk ∈ [98 * bulkRef / 100 - 1, 102 * bulkRef / 100 + 1], ¬(98 * bulkRef ≤ 100 * bulk ∧ 100 * bulk ≤ 102 * bulkRef)) ∧
    ((sect .pfcRamp).llcBarred = false ∧ ((sect .pfcRamp).onAuxCh 1 fun c => { c with st := .on }).llcBarred) ∧
    (∀ j : Fin 2, ((telAt 96 50000 (sect .llcStart)).auxCh j).running = false) ∧ (telAt 96 50000 (sect .llcStart)).vBus = 50000 ∧
    ¬(∀ j : Fin 2, ((aux .on).auxCh j).running = false) ∧
    (let m := (sect .lost).secF Fld.Rect.BULK_MIN_MV 1
     m - 1 < m ∧ 0 < m) := by
  decide +kernel

/-- Section 1 in a state, with `n` trips behind it. -/
def tripped (x : RState) (n : Nat) : State := (sect x).onRectCh 1 fun c => { c with trips := List.replicate n 0 }

theorem witness_RectTripsRun_edges :
    (let s := (sect .run).onRectCh 1 fun c => { c with armed := true }
     (s.rectCh 1).armed ∧ (s.rectCh 1).delivers ∧ (s.rectCh 1).predicted = none) ∧
    ((sect .run).onRectCh 1 fun c => { c with predicted := some 7 }).rect.ch[1].predicted = some 7 ∧
    ((sect .qualify).rectCh 1).starting = false ∧ ((sect .relay).rectCh 1).starting ∧ ((sect .run).rectCh 1).starting ∧
    (((sect .run).onBar 1 fun b => { b with flt := true }).rectCh 1).bar.flt ∧ ((sect .run).rectCh 1).bar.flt = false ∧
    (∀ x ∈ [(2, 3), (3, 4), (4, 5)], (recent (sec 59) (sec 60) ((tripped .run x.1).rectCh 1).trips).length = x.2) ∧
    (recent (sec 60) (sec 60) ((tripped .run 3).rectCh 1).trips).length = 1 ∧
    0 < (sect .run).secF Fld.Rect.BULK_DROP_MV 1 ∧ ((sect .pfcRamp).onRectCh 1 fun c => { c with pfc := true }).rect.ch[1].pfc ∧
    ((sect .off).rectCh 1).switching = false ∧ ((sect .autonomous).rectCh 1).switching ∧ ((sect .lost).rectCh 1).switching := by
  decide +kernel

theorem witness_BarrierFramesRun_edges :
    (State.reset.rectCh 1).powered = false ∧
    (let s := bar fun b => { b with rxHeard := true, seqRx := 255, txHeard := true, seqTx := 255 }
     (∀ x ∈ [(0, true), (126, true), (127, false), (255, false)], ∀ v ∈ [0, 1111],
      Barrier.follows (s.rectCh 1).bar.seqRx (s.rectCh 1).bar.rxHeard x.1 (decide (beatCrc x.1 v = beatCrc x.1 v)) = x.2 ∧
        Barrier.follows (s.rectCh 1).bar.seqTx (s.rectCh 1).bar.txHeard x.1 true = x.2 ∧
        Barrier.follows (s.rectCh 1).bar.seqTx (s.rectCh 1).bar.txHeard x.1 false = false)) ∧
    Barrier.follows 0 false 200 true ∧ ((sect .off).rectCh 1).llc = false ∧
    ((sect .run).onRectCh 1 fun c => { c with llc := true }).rect.ch[1].llc ∧ ((sect .off).rectCh 1).bar.hello = false ∧
    (let s := (sect .qualify).onRectCh 1 fun c => { c with qualDone := some 5, bar := { c.bar with link := .up } }
     (s.rectCh 1).st = .qualify ∧ (s.rectCh 1).qualDone.isSome ∧ s.startAllowed 1) ∧
    (sect .autonomous).sys.fwReady ∧
    (((bar fun b => { b with goodRun := 16, goodMains := 16 }).rectCh 1).bar.goodRun = 16) ∧
    (((bar fun b => { b with link := .up }).rectCh 1).bar.link = .up) ∧
    (¬(((bar fun b => { b with goodRun := 15, goodMains := 16 }).rectCh 1).bar.link = .up ∨
      (16 ≤ ((bar fun b => { b with goodRun := 15, goodMains := 16 }).rectCh 1).bar.goodRun))) ∧
    (sect .off).flag Fld.Rect.PRESENT 1 ∧ (setField Fld.Rect.PRESENT 0 1 (sect .off)).flag Fld.Rect.PRESENT 1 = false ∧
    ((bar fun b => { b with landed := true }).rectCh 1).bar.landed ∧ 0x0705 ∈ tripCodes ∧ 0x0701 ∉ tripCodes ∧
    (((bar fun b => { b with link := .up, everUp := true }).rectCh 1).bar.link ≠ .down ∧
      ((bar fun b => { b with link := .up, everUp := true }).rectCh 1).bar.everUp) ∧
    ((bar fun b => { b with awaiting := some (1, 0), attempts := 7 }).rectCh 1).bar.attempts = 7 := by
  decide +kernel

theorem witness_BusEventsRun_edges :
    (let s := inst
     let uv := s.fld Fld.Bus.BUS_UV_MV
     uv - 1 < uv ∧ s.bus.st = .dead ∧ (string .opened).bus.st ≠ .dead) ∧
    (∀ v ∈ [43999, 57601], v < 44000 ∨ 57600 < v) ∧ (∀ v ∈ [44000, 57600], ¬(v < 44000 ∨ 57600 < v)) ∧
    (let uv := inst.fld Fld.Bus.UV_MV 1
     let ov := inst.fld Fld.Bus.OV_MV 1
     let hy := inst.fld Fld.Bus.HYST_MV 1
     uv + hy ≤ ov - hy ∧ ov - hy + hy ≤ ov ∧ uv ≠ 0) ∧
    ((aux .absent).auxCh 1).st = .absent ∧ (aux .absent).ctrlDown = false ∧ (aux .absent).sys.fwReady ∧
    ((aux .delay).auxCh 1).st = .delay ∧ ((aux .matching).gapOk 1 ∧ (aux .matching).rectComing = false) ∧
    (let s := (aux .walkIn).onAuxCh 1 fun c => { c with walk := 100000000, vin := 50000 }
     19 < (s.auxCh 1).walk / (100 * max 1 (s.auxCh 1).vin)) ∧
    ((telAt 96 50000 (aux .coldConnect)).vBus = 50000) ∧
    (∀ x ∈ [(2, 3), (3, 4)], (recent (sec 599) (sec 600) (List.replicate x.1 0)).length = x.2) ∧
    ((aux .on).onAuxCh 0 fun c => { c with tOff := some 5 }).bus.aux[0].tOff = some 5 ∧ ((aux .on).auxCh 0).running = false ∧
    ((aux .on).auxCh 0).tOff = none := by
  decide +kernel

/-- A waiting command of one channel. -/
def waiting (op k : Nat) : State :=
  inst.onHif fun h => { h with waits := [{ waits op with left := 2 ^ k, data := [0, 0] ++ zeros 4 ++ [1] }] }

theorem witness_StringEventsRun_edges :
    (let s := telAt 99 50000 (string .matching)
     let m := s.fld Fld.Chg.MATCH_MV 1
     s.strV 1 = 50000 ∧ (∀ v ∈ [50000 - m, 50000 + m], s.strV 1 ≤ v + m ∧ (v : Int) ≤ s.strV 1 + m) ∧
       ∀ v ∈ [50000 - m - 1, 50000 + m + 1], ¬(s.strV 1 ≤ v + m ∧ (v : Int) ≤ s.strV 1 + m)) ∧
    ((string .absent).strCh 1).st = .absent ∧ ((string .opened).strCh 1).st ≠ .absent ∧
    (∀ x ∈ [(2, 3), (3, 4)], (recent (sec 599) (sec 600) (List.replicate x.1 0)).length = x.2) ∧
    ((string .connected).tBat 1).isSome ∧
    ((string .connected).onStrCh 1 fun c => { c with ntc := c.ntc.map fun n => { n with faulted := true } }).tBat 1 = none ∧
    0 < (string .connected).fld Fld.Chg.FAST_MA 1 ∧ ((string .test).strCh 1).st = .test ∧
    ((string .test).strCh 1).test.end_ = 0 := by
  decide +kernel

theorem witness_ChargerAndGaugeRun_edges :
    (live.sys.mode = .running ∧ live.sys.fwReady) ∧ (inMode .hold).sys.mode ≠ .running ∧
    (live.onSys fun y => { y with fwReady := false }).sys.fwReady = false ∧
    (∀ x ∈ [(0, false), (1800, false), (1801, false), (0, true)],
      let s := (charger .run 2).onStrCh 1 fun c => { c with therm := List.replicate x.1 true, resumeUsed := x.2 }
      let full := s.onStrCh 1 fun c => { c with tEq := max c.tEq (60000000 * s.fld Fld.Chg.CCCV_TIMER_MIN 1) }
      (full.strCh 1).chg = .run ∧ (full.strCh 1).tPre < 60 * s.fld Fld.Chg.PRE_TIMER_MIN 1 ∧
        (full.strCh 1).tWall < 180 * s.fld Fld.Chg.CCCV_TIMER_MIN 1 ∧ (full.strCh 1).resumeUsed = x.2 ∧
        ((full.strCh 1).therm.filter id).length = x.1) ∧
    (∃ x : VItem, x.deferred = some [1] ∧ [x].length = 1) := by
  and_intros <;> first | decide +kernel | exact ⟨⟨0x10, none, none, some [1]⟩, by decide⟩

/-- A palette whose charge profile has a state that equalizes. -/
def equalizing : State := inst.onPal fun q =>
  { q.setBank 0 { st := .valid, bytes := palImage 0 [⟨1, inst.fld Fld.Chg.PROFILE 1, [0, 1, 0, 0] ++ zeros 10 ++ [7] ++ zeros 17⟩] } with
    active := .bank0 }

theorem witness_SupplyCommandsRun_edges :
    (∀ x ∈ [(0x0901, 1), (0x0A02, 1), (0x0701, 1)], let s := waiting x.1 x.2
      s.hif.waits.length = 1 ∧ ∀ w ∈ s.hif.waits, w.op = x.1 ∧ w.left.testBit x.2 ∧ w.started.testBit x.2 = false) ∧
    ((let s := waiting 0x0901 1
      (s.strAct 1 [3]).1 = st.state) ∧ ((string .disabled).strAct 1 [1]).1 = st.ok) ∧
    ((sect .disabled).flag Fld.Rect.PRESENT 1 ∧ ((sect .disabled).rectCh 1).st = .disabled ∧
      ((sect .run).rectCh 1).softOff = false) ∧
    ((aux .disabled).flag Fld.Bus.PRESENT 1 ∧ ((aux .disabled).auxCh 1).st = .disabled) ∧
    ((string .disabled).strCh 1).st = .disabled ∧ ((string .fault).strCh 1).st = .fault ∧ inst.hasEq 1 = false ∧ equalizing.hasEq 1 ∧
    (string .connected).testOk 1 ∧ testParams [] = false ∧ (string .opened).testOk 1 = false ∧
    ((string .absent).strCh 1).st = .absent ∧ inst.single 0x0A (u [2, 0] 0 2) = none ∧
    (let rated := inst.fld Fld.Chg.RATED_MAH 1
     (∀ f ∈ [(rated + 1) / 2 - 1, 110 * rated / 100 + 1], ¬(rated ≤ 2 * f ∧ 100 * f ≤ 110 * rated))) := by
  decide +kernel

theorem witness_DomainStatesRun_edges :
    (¬((dom .off).onDomCh 15 fun c => { c with enable := false }).dom.ch[15].enable) ∧
    (let s := dom .on
     s.uvLimit 15 ≤ s.ovLimit 15 ∧ (s.flag Fld.Dom.WIN_MODE 15 = false) ∧ s.domRef 15 = (s.domCh 15).ref.goal) ∧
    (let s := (dom .check).onDomCh 15 fun c => { c with failed := 2 ^ 31 }
     (s.domCh 15).st = .check ∧ (s.advanceTo ((s.domCh 15).tState + us 50)).shortPhase 15 [] = none ∧
       (s.advanceTo ((s.domCh 15).tState + us 50)).healthyPh 15 = []) ∧
    ((dom .check).domCh 15).offDue = false ∧
    (let s := dom .on
     let n := s.fld Fld.Dom.RETRIES 15
     ∀ x ∈ [(n - 1, false), (n, true)],
      decide (s.fld Fld.Dom.RETRIES 15 < ((s.onDomCh 15 fun c => { c with trips := x.1 }).domCh 15).trips + 1) = x.2) ∧
    ((dom .on).domCh 15).limSince = none ∧
    ((dom .off).onDomCh 15 fun c => { c with limSince := some 9 }).dom.ch[15].st ≠ .on ∧ (dom .retryWait).ctrlDown = false := by
  decide +kernel

theorem witness_DomainRegulationRuns_edges :
    ((dom .on).activePh 15 = [31] ∧ 30 ∉ (dom .on).activePh 15) ∧
    (let s := ((dom .on).onDomCh 15 fun c => { c with failed := 2 ^ 31, cause := 31 }).raise 0x0B05 15
     s.healthyPh 15 = []) ∧
    (let s := setField Fld.Dom.PHASES (2 ^ 31 + 2 ^ 30) 15 (dom .on)
     30 ∈ s.activePh 15 ∧ 31 ∈ s.activePh 15 ∧ (s.activePh 15).head? = some 30 ∧
       ((s.onDomCh 15 fun c => { c with failed := 2 ^ 31, cause := 31 }).raise 0x0B05 15).healthyPh 15 = [30]) ∧
    (live.sys.vioPwm = false ∧ (live.onSys fun y => { y with vioPwm := true }).sys.vioPwm) ∧
    ((dom .on).onDomCh 15 fun c => { c with lr := some 9 }).dom.ch[15].lr = some 9 ∧ (setField Fld.Dom.LR_MODE 2 15 (dom .on)).fld Fld.Dom.LR_MODE 15 ≠ 1 ∧
    (∀ p ∈ [[], [16, 0, 1, 0], [15, 0, 0, 0], [15, 0, 8, 0], ([15, 0, 1, 1] : List Byte)],
      p.length ≠ 4 ∨ inst.sel 0x0B (u p 0 2) = none ∨ u p 2 1 = 0 ∨ 7 < u p 2 1 ∨ u p 3 1 ≠ 0) ∧
    ((dom .off).fld Fld.Dom.PHASES 15 ≠ 0 ∧ ((dom .off).domCh 15).st ≠ .latched ∧ ((dom .latched).domCh 15).st = .latched) ∧
    (∀ x ∈ [(3135, 0), (3465, 5), (3465, 2000)], let p := voutParam x.1 x.2
      p.length = 12 ∧ u p 2 2 = 0 ∧ u p 10 2 = 0 ∧ (u p 8 2 = 0 ∨ (5 ≤ u p 8 2 ∧ u p 8 2 ≤ 2000)) ∧
        (∀ k ∈ maskBits 16 1, inst.onRange k (u p 4 4) ∧ Fld.Dom.MARGIN_LOW_MV.getRaw (inst.copy .dom0 k).easel ≤ u p 4 4 ∧
          u p 4 4 ≤ Fld.Dom.MARGIN_HIGH_MV.getRaw (inst.copy .dom0 k).easel) ∧ maskBits 32 1 ≠ []) ∧
    (∀ x ∈ [(3134, 0), (3466, 0), (3300, 4), (3300, 2001)], let p := voutParam x.1 x.2
      ¬((u p 8 2 = 0 ∨ (5 ≤ u p 8 2 ∧ u p 8 2 ≤ 2000)) ∧
        ∀ k ∈ maskBits 16 1, Fld.Dom.MARGIN_LOW_MV.getRaw (inst.copy .dom0 k).easel ≤ u p 4 4 ∧
          u p 4 4 ≤ Fld.Dom.MARGIN_HIGH_MV.getRaw (inst.copy .dom0 k).easel)) := by
  decide +kernel

theorem witness_PortEventsRun_edges :
    ((port .absent).portCh 23).st = .absent ∧ ((port .on).portCh 23).st ≠ .absent ∧
    (((port .wait).portCh 23).st = .wait ∧ (port .wait).ctrlDown = false) ∧
    ((port .on).portCh 23).running ∧ ((port .check).portCh 23).st = .check ∧
    (let s := telAt 96 50000 (port .check)
     2 * 24999 < s.vBus ∧ s.vBus ≤ 2 * 25000) ∧
    (let s := telAt 96 50000 (port .inrush)
     s.vBus ≤ 49700 + 300 ∧ ¬s.vBus ≤ 49699 + 300) ∧
    (let s := port .on
     let n := s.fld Fld.Feed.RETRIES 23
     ∀ x ∈ [(n - 1, false), (n, true)],
      decide (s.fld Fld.Feed.RETRIES 23 < ((s.onPortCh 23 fun c => { c with trips := x.1 }).portCh 23).trips + 1) = x.2) ∧
    (∃ (s : State), s.feed.unshed = [23] ∧ (s.portCh 23).st ≠ .shed) ∧
    ((port .off).portShed 23 = false ∧ ((port .latched).portCh 23).st = .latched) := by
  and_intros <;> first | decide +kernel | exact ⟨(port .on).onFeed fun f => { f with unshed := [23] }, by decide +kernel⟩

theorem witness_LinkEventsRun_edges :
    (ho.fanned = false ∧ { ho with fanned := true, noReply := false }.fanned) ∧
    (linked.flag Fld.Link.LINK_EN ∧ linked.link.claimed = false ∧ linked.link.best = none) ∧ inst.link.usedPorts = [] ∧
    (1023 < 1024 ∧ ¬1024 ≤ 1023) ∧ ((wire .up1 none).linkPort 1).line ≠ .training ∧
    (∀ x ∈ [(1999, 16, false), (2000, 0, true), (0, 17, true)], decide (2000 ≤ x.1 ∨ 16 < x.2.1) = x.2.2) ∧
    (let s := node fun l => { l with missNow := true, missedRun := 0 }
     s.link.missNow ∧ s.link.everSeen ∧ s.link.missedRun = 0) ∧
    (let s := node fun l => { l with missNow := true, missedRun := 3 }
     s.link.everSeen ∧ s.link.missedRun ≠ 0 ∧ s.link.missedRun ≠ 2) ∧
    (let s := node fun l => { l with electDue := true }
     (s.onLink fun l => { l with electDue := false }).eligible ∧ s.link.claimed = false) := by
  decide +kernel

/-- The node's port 1 towards the root, or away from it. -/
def portUse (x : PortUse) : State := linked.onPort 1 fun p => { p with use := x }

theorem witness_LinkFramesRun_edges :
    (linked.flag Fld.Link.LINK_EN ∧ ((linked.linkPort 1).line = .up1 ∨ (linked.linkPort 1).line = .up2)) ∧
    ((portUse .unused).linkPort 1).use = .unused ∧ frameBody sofShare 32 [] = none ∧
    (((portUse .away).onLink fun l => { l with outSeq := some 7 }).linkPort 1).use = .away ∧
    (linked.link.role ≠ 2 ∧ ((portUse .toRoot).linkPort 1).use = .toRoot) ∧
    (let s := (portUse .away).onLink fun l => { l with outSeq := some 7 }
     s.link.role ≠ 2 ∧ s.link.outSeq = some 7 ∧ s.link.awayPorts.length ≤ 1) ∧
    (flying.link.role = 2 ∧ flying.link.yielding = false ∧ flying.link.flight.isSome) ∧
    (let s := node fun l => { l with role := 2 }
     s.link.role = 2 ∧ s.link.yielding = false ∧ s.link.flight = none) ∧
    (∀ s ∈ [setField Fld.Link.PLANT_CAP 0 0 linked, linked.onLink fun l => { l with mismatch := true }],
      s.flag Fld.Link.PLANT_CAP = false ∨ s.link.mismatch) ∧
    (let s := setField Fld.Link.PLANT_CAP 1 0 linked
     ¬(s.link.role = 2 ∨ s.flag Fld.Link.PLANT_CAP = false ∨ s.link.mismatch) ∧
       (decisionOf (zeros 28)).flags.testBit 1 = false ∧
       s.now ≤ nearTime s.now (decisionOf (zeros 28)).apply ∧
       (let t := s.advanceTo (sec 1)
        nearTime t.now (decisionOf (zeros 28)).apply < t.now)) ∧
    (∀ x ∈ [(true, 200), (false, 3)], claimGe x (false, 3)) ∧ claimGe (false, 4) (false, 3) = false ∧
    (linked.onLink fun l => { l with gen := 1 }).link.gen = 1 := by
  decide +kernel

/-- PD port 1 as its timers and events find it. -/
def pdC (f : PdCh → PdCh) : PdCh := ((pd f).onPdCh 1 fun c => { c with out := [] }).pdCh 1

theorem witness_PdTimersRun_edges :
    ((pd id).sys.fwReady ∧ (pd id).flag Fld.Pd.PRESENT 1) ∧
    ((pdC fun c => { c with st := .attachWaitSnk }).rpSeen = none ∧ (pdC fun c => { c with st := .attachWaitSrc }).rdSeen = none) ∧
    (setField Fld.Pd.ROLE 4 1 (pd id)).fld Fld.Pd.ROLE 1 = 4 ∧ (setField Fld.Pd.ROLE 3 1 (pd id)).fld Fld.Pd.ROLE 1 = 3 ∧
    ((pdC fun c => { c with st := .tryWaitSnk, cc1 := .rp 3 }).st = .tryWaitSnk ∧ (pdC fun c => { c with cc1 := .rp 3 }).rpSeen.isSome) ∧
    (pdC fun c => { c with st := .tryWaitSrc, cc1 := .rd }).rdSeen.isSome ∧ (pdC fun c => { c with limited := true }).limited ∧
    ((pd fun c => { c with st := .errorRecovery }).heldErr 1 = false) ∧
    (let c := pdC fun c => { c with st := .attachedSrc, source := true, cc1 := .open_, cc2 := .open_ }
     c.attached ∧ c.source ∧ c.cc1 = .open_ ∧ c.cc2 = .open_) ∧
    (let c := pdC fun c => { c with st := .attachedSnk, cc1 := .open_, cc2 := .rd }
     c.attached ∧ c.source = false ∧ c.vbusLow = false ∧ 3669 < 3670 ∧ ∀ n ∈ List.range 4, (if c.flip then c.cc2 else c.cc1) ≠ .rp n) ∧
    (ctrlType 0x0041 = some 1 ∧ ctrlType 0x1041 ≠ some 1 ∧ ctrlType 0x0043 ≠ some 1) ∧ message.sop = 0 ∧
    (∀ x ∈ [0x0041, 0x0241], 0x0041 / 512 % 8 = x / 512 % 8 ↔ x = 0x0041) ∧
    (let n := (pd id).fld Fld.Pd.N_RETRY_20 1
     message.header / 64 % 4 = 1 ∧ message.tries < n ∧ ¬({ message with tries := n } : PdTx).tries < n) ∧
    ((pdC fun c => { c with ams := some 5, tx := some { message with sent := false } }).source = false) ∧
    (armed 4).kind = 4 ∧ (pdC fun c => { c with run := some (armed 2), phase := 5 }).phase = 5 := by
  decide +kernel

theorem witness_PdPowerEventsRun_edges :
    ((pdC fun c => { c with st := .attachedSnk }).attached ∧ (pdC fun c => { c with st := .attachedSnk }).typeC = false) ∧
    (∀ h ∈ [HrPhase.rampDown, .discharge, .restore], (pdC fun c => { c with hr := h }).hr = h) ∧
    ((pdC fun c => { c with phase := 4 }).hr = .none ∧ (pdC fun c => { c with phase := 4, conv := true }).conv) ∧
    (∀ v ∈ [8550, 9450], 95 * 9000 ≤ 100 * v ∧ 100 * v ≤ 105 * 9000) ∧ (∀ v ∈ [8549, 9451], ¬(95 * 9000 ≤ 100 * v ∧ 100 * v ≤ 105 * 9000)) ∧
    (∀ x ∈ [(7, false), (8, true), (120, true), (121, false)], decide (8 ≤ x.1 ∧ x.1 ≤ 120) = x.2) ∧
    (∀ x ∈ [(6000, false), (6001, true)], decide (11 * 5000 + 5000 < 10 * x.1) = x.2) ∧
    (∀ x ∈ [(7499, 9, false), (3750, 10, true), (7500, 0, true)],
      decide ((5 * 3000 ≤ 4 * x.1 ∧ 10 ≤ x.2.1) ∨ 7500 ≤ x.1) = x.2.2) ∧
    (∀ x ∈ [(5750, false), (5751, true)], decide (115 * 5000 < 100 * x.1) = x.2) ∧
    (let c := pdC fun c => { c with st := .attachedSnk, cc1 := .rp 2 }
     c.st = .attachedSnk ∧ c.source = false ∧ (if c.flip then c.cc2 else c.cc1) = .rp 2 ∧ c.tx = none) ∧
    (pdC fun c => { c with phase := 6 }).phase = 6 := by
  decide +kernel

/-- A PD command of port 1 that waits, alone. -/
def pdWaiting (op : Nat) (own : List Byte) : State :=
  (pd fun c => { c with st := .attachedSnk }).onHif fun h => { h with waits := [{ waits op with left := 2, data := own }] }

theorem witness_PdCommandsRun_edges :
    inst.single 0x0E (u [2, 0] 0 2) = none ∧
    (∀ p ∈ [act1 0, act1 10, ([1, 0, 1, 1] : List Byte), [1, 0, 1]], ¬(p.length = 4 ∧ 1 ≤ u p 2 1 ∧ u p 2 1 ≤ 9 ∧ u p 3 1 = 0)) ∧
    ((pd id).pdCh 1).attached = false ∧ powerParams [] = false ∧ txParams [] = false ∧
    (∀ s ∈ [pdWaiting 0x0E01 [1], pdWaiting 0x0E02 (txParam 0)], s.hif.waits.length = 1 ∧ (s.pdCh 1).idle ∧
      ∀ w ∈ s.hif.waits, w.left.testBit 1) ∧
    (pdWaiting 0x0E01 [1]).pdRefuse 1 1 = st.ok ∧ (pdWaiting 0x0E02 []).txRefuse 0 1 = false ∧
    message.ams = false ∧ ((pd id).pdCh 1).armed = none ∧
    (let s := pd fun c => { c with st := .attachedSnk, vTarget := 5000 }
     (s.pdCh 1).attached ∧ (s.pdCh 1).typeC = false ∧ (s.pdCh 1).vTarget = 5000 ∧ (s.pdCh 1).run = none) := by
  decide +kernel

/-- The sequencer's pins with their bank supplied, or not. -/
def bank (on : Bool) : State := live.onSys fun y => { y with vioHost := on }

theorem witness_SequencerRuns_edges :
    (let s := (seqIn .wait).onSeq fun q => { q with trans := List.replicate 9 5 }
     s.seq.trans.length = 9 ∧ s.seq.trans.head?.getD 0 ≤ s.seq.trans.getLast?.getD 0 + us (10 * u (seqStepOf s.seq.table s.seq.step) 8 2)) ∧
    ((bank true).sys.vioHost ∧ (bank false).sys.vioHost = false) ∧
    (let f := (bank true).fld Fld.Seq.SEQ_IN_FILT_US
     f ≤ f ∧ ¬f ≤ f - 1) ∧
    ((live.onSeq fun q => { q with fltPin := true, fltOwn := false }).seq.fltPin) ∧
    ((live.onSeq fun q => { q with deferred := true, fltOwn := false }).seq.deferred) ∧
    (let s := setField Fld.Seq.AUTO_SEQ 1 0 inst
     s.flag Fld.Seq.AUTO_SEQ ∧ s.seq.st = .idle ∧ s.vBus < 44000 ∧ s.fltLow = false ∧ (telAt 96 44000 s).vBus = 44000 ∧
       (telAt 96 57600 s).vBus = 57600 ∧ 57600 < (telAt 96 57601 s).vBus) ∧
    (let s := setField Fld.Seq.EN 1 15 (inst.onSeq fun q => { q with em := upd q.em 15 fun e => { e with count := 1 } })
     s.flag Fld.Seq.EN 15 ∧ (∀ f ∈ [1, 2], decide ((setField Fld.Seq.FILT f 15 s).fld Fld.Seq.FILT 15 ≤ ((s.seq.em)[15]).count) = decide (f = 1))) ∧
    (∀ a ∈ [0, 1, 2], (setField Fld.Seq.ACTION a 15 inst).fld Fld.Seq.ACTION 15 = a) ∧
    (let s := live.onSeq fun q => { q with wdArm := some 5, wdEdge := some 5 }
     let least := 5 + ms (s.fld Fld.Seq.WD_MIN_MS)
     let most := 5 + ms (s.fld Fld.Seq.WD_MAX_MS)
     s.sys.vioHost ∧ least ≤ most ∧ (s.advanceTo least).now = least ∧ (s.advanceTo most).now = most) ∧
    (let s := live.onSeq fun q => { q with wdArm := some 5 }
     s.seq.wdEdge = none ∧ (s.advanceTo (5 + ms (s.fld Fld.Seq.WD_START_MS))).now ≤ 5 + ms (s.fld Fld.Seq.WD_START_MS)) ∧
    ((inst.onHif fun h => { h with waits := [waits 0x0F02] }).hif.waits = [waits 0x0F02] ∧ (waits 0x0F02).started = 0) ∧
    ((seqIn .wait).seq.st ≠ .idle ∧ ((seqIn .wait).onSeq fun q => { q with st := .held }).seq.st = .held) := by
  decide +kernel

/-- Unit 4's present entry waits for phase 31's trigger. -/
def trigged (t : Option Nat) : State :=
  setField (Fld.Meas.TRIG_SRC (inst.adc 4).pos) 31 4 ((dom .on).onUnit 4 fun a => { a with tMiss := t })

theorem witness_MeasurementRuns_edges :
    ((∀ k : Fin 8, inst.unitOn k) ∧ inst.unitOn 9 = false) ∧ ((trigged none).waitsTrig 4 ∧ inst.waitsTrig 7 = false) ∧
    (let s := trigged (some 5)
     (s.adc 4).tMiss = some 5 ∧ (s.advanceTo ((s.adc 4).tPos + us 20 + s.convTime 4)).now < 5 + sec 60) ∧
    (let s := (trigged (some 5)).advanceTo (5 + sec 60)
     5 + sec 60 ≤ (s.advanceTo ((s.adc 4).tPos + us 20 + s.convTime 4)).now) ∧
    (∀ x ∈ [(255, 255, false), (255, 256, true), (256, 0, true)],
      decide (256 ≤ (inst.onMeas fun m => { m with triadOff := (m.triadOff.set 0 x.1).set 2 x.2.1 }).meas.triadOff[0] ∨
        256 ≤ (inst.onMeas fun m => { m with triadOff := (m.triadOff.set 0 x.1).set 2 x.2.1 }).meas.triadOff[2]) = x.2.2) ∧
    ((inst.onUnit 6 fun a => { a with st := .noConverter }).adc 6).st = .noConverter ∧
    (∀ x ∈ [((live.onSys fun y => { y with vioPwm := true }), true), (live, false)], x.1.sys.vioPwm = x.2) ∧
    (∀ d ∈ [(10000 : Int), -10000], |d| ≤ 10000) ∧ (∀ d ∈ [(10001 : Int), -10001], 10000 < |d|) ∧
    (inst.meas.corr 3 1 = 0 ∧ |inst.meas.corr 3 1 + 10000| ≤ 30000) ∧
    (∀ p ∈ [[0x08, 0], [0x12, 0], ([7, 1] : List Byte), []], ¬(p.length = 2 ∧ u p 1 1 = 0 ∧ (u p 0 1 < 8 ∨ u p 0 1 = 0x10 ∨ u p 0 1 = 0x11))) ∧
    ¬(inst.flag Fld.Meas.DIAG_EN ∧ inst.fld Fld.Meas.DIAG_UNIT = 7) ∧
    (∀ p ∈ [[0, 0, 2, 0], ([0, 0, 0, 1] : List Byte), []], ¬(p.length = 4 ∧ u p 2 1 < 2 ∧ u p 3 1 = 0)) ∧ inst.admits ho 0x1003 1 := by
  decide +kernel

theorem witness_ThermalRuns_edges :
    (∀ x ∈ [(0, 1), (1, 2), (2, 3)], (recent (sec 3599) (sec 3600) (List.replicate x.1 0)).length = x.2) ∧
    (hotCtrl.zoneAt 1500 3 ∧ hotCtrl.ctrlDown = false) ∧
    ((hotCtrl.onTherm fun h => { h with zone := upd h.zone 0 fun _ => { shut := true, coolSince := none } }).ctrlDown ∧
      (hotCtrl.onTherm fun h => { h with zone := upd h.zone 0 fun _ => { shut := true, coolSince := none } }).zoneAt 1500 3) ∧
    ((setField Fld.Therm.FITTED 0 3 inst).flag Fld.Therm.FITTED 3 = false ∧ inst.fanSource 3 = none ∧
      (∀ t ∈ hotCtrl.fanSource 3, t = 1500) ∧ hotCtrl.therm.step = 0) ∧
    (fan3 true).therm.fan[3].stalled ∧ (let s := fan3 false
     sec (s.fld Fld.Therm.STALL_S 3) ≤ sec (s.fld Fld.Therm.STALL_S 3) ∧ 0 < s.fld Fld.Therm.STALL_S 3) := by
  decide +kernel

theorem witness_RecorderRuns_edges :
    ((setField Fld.Skb.HIST_EN 0 0 inst).flag Fld.Skb.HIST_EN = false ∧ (setField Fld.Skb.HIST_EN 1 0 inst).flag Fld.Skb.HIST_EN) ∧
    inst.skb.histQ.length < 1024 ∧
    (let s := rec fun k => { k with running := some ⟨.capture 0, none⟩ }
     s.skb.running = some ⟨.capture 0, none⟩ ∧
       (∀ n ∈ [1, 2, 3], ((s.onSkb fun k => { k with running := none, failRun := List.replicate (n - 1) 7 }).onSkb
         (Skb.fail (s.skb.opBlock (.capture 0)))).skb.failRun.length = n)) ∧
    (let s := rec fun k => { k with scrub := true }
     s.skb.scrub ∧ s.sys.mode = .running ∧ s.sys.nandBar = false) ∧
    (rec fun k => { k with scrub := true, scrubPos := 16191 }).skb.scrubPos = 16191 ∧
    (568 ≤ 568 ∧ 568 < 569 ∧ 24 ≤ 24 ∧ 24 < 25) ∧
    (rec fun k => { k with failed := true }).skb.failed ∧
    (let s := inst.onHif fun h => { h with waits := [waits 0x1205] }
     s.hif.waits = [waits 0x1205]) ∧
    (∀ p ∈ [[16, 0x5A], ([15, 0] : List Byte), []], ¬(p.length = 2 ∧ u p 0 1 < 16 ∧ u p 1 1 = 0x5A)) ∧
    (let p : List Byte := [1, 2, 0, 0] ++ zeros 8
     ¬u p 1 1 ≤ 1) ∧ inst.skbData 9 0 0 1 = none := by
  decide +kernel

/-- Handlers that run, are suspended and wait. -/
def handlers (susp queue : List QEntry) : State :=
  inst.onFlt fun f => { f with running := some (entry 4 9 0), susp := susp, queue := queue }

theorem witness_FaultsAndImagesRun_edges :
    (∀ x ∈ [(([] : List QEntry), ([] : List QEntry)), ([], [entry 1 0 0]), ([entry 1 0 0], []), ([entry 1 0 0], [entry 2 1 0]),
      ([entry 2 1 0], [entry 2 0 0])], (handlers x.1 x.2).handling ∧ (handlers x.1 x.2).flt.running = some (entry 4 9 0) ∧
        (handlers x.1 x.2).flt.susp = x.1 ∧ (handlers x.1 x.2).flt.queue = x.2) ∧
    (∀ n ∈ [256, 16777473], ¬(257 ≤ n ∧ n ≤ 16777472)) ∧
    (let s := inst.onImg fun i => { i with booted := some 1 }
     s.img.booted = some (fin 2 1)) ∧ (inst.onSys fun y => { y with nandBar := true }).sys.nandBar ∧ inst.img.download = 0 ∧
    (let p : List Byte := toLE 4 256 ++ toLE 2 2 ++ [7, 7]
     ¬(u p 0 4 = (loading (zeros 256)).img.received ∧ u p 0 4 + u p 4 2 ≤ (loading (zeros 256)).img.total)) ∧
    (let p : List Byte := toLE 4 256 ++ toLE 2 1 ++ [7]
     u p 0 4 = (loading (zeros 256)).img.received ∧ u p 0 4 + u p 4 2 ≤ (loading (zeros 256)).img.total) ∧
    ((loading fwImage).onSkb fun k => { k with failed := true }).skb.failed := by
  decide +kernel

/-- R42–R44: no bank supply leaves every output of the bank at high impedance; with it the level is driven. -/
theorem test_pins_without_supply :
    (let s := (live.onSys fun y => { y with vioHost := false, vioPwm := false, rstOut := true }).onSeq fun q =>
      { q with seqOut := true, fltOwn := true }
     s.seqOutPin = .hiZ ∧ s.seqFltPin = .hiZ ∧ s.rstOutPin = .hiZ ∧ s.irqPin = .hiZ ∧ s.pwmPin 1 0 false = .hiZ ∧
       s.fanPin 0 = .hiZ ∧ s.tbOutPin 0 = .hiZ ∧ s.syncOutPin 0 = .hiZ ∧
       s.stringPins 0 .high .low = ((.hiZ, .hiZ), .hiZ, .hiZ) ∧ s.pdPins 1 .high .low = ((.hiZ, .hiZ), .hiZ, .hiZ)) ∧
    (let s := (live.onSys fun y => { y with vioHost := true, rstOut := true }).onSeq fun q =>
      { q with seqOut := true, fltOwn := true }
     s.seqOutPin = .high ∧ s.seqFltPin = .low ∧ s.rstOutPin = .low) ∧
    (∀ p ∈ List.range 32, State.reset.pwmPin p 0 false = .hiZ) := by
  decide +kernel

/-- R156, R159: a bridge with dead times of 100 ns and an on-time of 500 ns; a gate that is on sees reverse current above
+100 mV. -/
theorem test_dead_times :
    bridgeAt 100 100 500 99 = .off ∧ bridgeAt 100 100 500 100 = .high ∧ bridgeAt 100 100 500 599 = .off ∧
    bridgeAt 100 100 500 600 = .low ∧ srReverse true 100 = false ∧ srReverse true 101 ∧ srReverse false 101 = false := by
  decide +kernel

/-- R167: K28.5 and D21.5 in 8b/10b, D0.0 at both disparities, and a bit error; a heartbeat that a receiver hears after a
silence. -/
theorem test_symbols :
    sendSym false kBeat = 0b0011111010 ∧ sendSym true kBeat = 0b1100000101 ∧ sendSym false (.d 0xB5) = 0b1010101010 ∧
    sendSym false (.d 0) = 0b1001110100 ∧ sendSym true (.d 0) = 0b0110001011 ∧ symOf false 0b0011111011 = .bad ∧
    beatOf (hear none (send false (beatSyms 5 1111))).1 = some (5, 1111) := by
  decide +kernel

/-! ## Witnesses: conditions of further clauses -/

theorem witness_ResetsRun_refusals :
    ∀ p ∈ [[0, 0x5A], [3, 0x5A], [1, 0], [2, 0], ([1] : List Byte)],
      inst.admits ho 0x0110 (if u p 0 1 = 2 then 2 else 1) ∧ (p.length ≠ 2 ∨ (u p 0 1 ≠ 1 ∧ u p 0 1 ≠ 2) ∨ u p 1 1 ≠ 0x5A) := by
  decide +kernel

theorem witness_MailboxAndSpiRun_options :
    let s := live.onHif fun h => { h with spi := { h.spi with reply := [1] } }
    (s.hif.optNext.map (·.2) ≠ some Itf.spi) ∧
    ((s.onHif fun h => { h with optNext := some (h.opt, .spi) }).hif.optNext.map (·.2) = some Itf.spi) := by
  decide +kernel

theorem witness_PmbusReadsRun_closed :
    (State.reset.pmUp = false ∧ State.reset.i2cUp = false) ∧
    (∃ s : State, s.pmUp = false ∧ s.i2cUp) ∧ (0x04 : Byte) ∉ pmCommands ∧ (0x9A : Byte) ∈ pmCommands ∧
    (∃ s : State, s.pmUp ∧ s.sys.mode ≠ .running) ∧ ∃ s : State, s.pmUp ∧ s.hif.opt.pec :=
  ⟨by decide +kernel, ⟨live.onHif fun h => { h with opt := { h.opt with options := 2 } }, by decide +kernel⟩, by decide, by decide,
    ⟨inMode .hold, by decide +kernel⟩, live.onHif fun h => { h with opt := { h.opt with pec := true } }, by decide +kernel⟩

/-- The window with PEC required. -/
def pec : State := live.onHif fun h => { h with opt := { h.opt with pec := true } }

theorem witness_PmbusWritesRun_cases :
    ((inMode .hold).sys.mode ≠ .running ∧ live.sys.mode = .running) ∧
    (∀ w ∈ [[], [7, 0], ([0] : List Byte)], pec.hif.opt.pec ∧ pec.sys.mode = .running ∧
      (w = [] ∨ byte (crc8 ([pec.pmAddr false, 0x00] ++ w.dropLast)) ≠ w.getLastD 0)) ∧
    (let w : List Byte := [7, byte (crc8 [pec.pmAddr false, 0x00, 7])]
     byte (crc8 ([pec.pmAddr false, 0x00] ++ w.dropLast)) = w.getLastD 0 ∧ w.dropLast.length = 1) ∧
    (live.hif.opt.pec = false ∧ ([] : List Byte).length < 1 ∧ 1 < [(1 : Byte), 2].length) ∧
    ((live.onHif fun h => { h with pmProtect := 0x80 }).hif.pmOpen 0x00 = false ∧ live.hif.pmOpen 0x00) := by
  decide +kernel

/-- The packet of a NOP for this node, with its FLAGS, as the only segment that node 2 sends. -/
def nopSeg (flags : Byte) : List Byte := [byte linked.nodeAddr, 2, 0, 0x80, 7] ++ [0x5A, flags, 0, 1, 0, 0, 0, 0]

theorem witness_PacketEventsRun_frames :
    (linked.flag Fld.Link.LINK_EN ∧ (linked.linkPort 1).used ∧ frameBody sofCommand 10 [] = none) ∧
    (∀ n ∈ [(0 : Byte), 1], let f := frameOf sofCommand (nopSeg n)
      frameBody sofCommand (10 + u f 5 1) f = some (nopSeg n) ∧ u (nopSeg n) 0 1 = linked.nodeAddr ∧
      (assemble linked.link.asm 2 0 0x80 ((nopSeg n).drop 5)).2 = some ((nopSeg n).drop 5) ∧
      (packetOf ((nopSeg n).drop 5)).flags.testBit 0 = (n = 1)) ∧
    (assemble linked.link.asm 2 0 1 [0]).2 = none := by
  decide +kernel

theorem witness_SessionsRun_refusals :
    (ownEntry { ho with itf := .link } = false ∧ ownEntry { ho with fanned := true } = false) ∧
    (∀ o ∈ [{ ho with itf := .link }, { ho with fanned := true }], ∀ op ∈ [0x0210, 0x0211, 0x0212], inst.admits o op 0) ∧
    (inst.hif.lockout = none ∧ ([] : List Byte).length ≠ 1 ∧ (zeros 31).length ≠ 32 ∧ [(0 : Byte)] ≠ []) := by
  decide +kernel

theorem witness_HostOptionsRun_refusals :
    ∀ p ∈ [[2, 0, 8, 0], [0, 8, 8, 0], [0, 0, 7, 0], [0, 0, 0x78, 0], [0, 0, byte (0x40 + inst.sys.addr), 0],
      [0, 0, byte (0x48 + inst.sys.addr), 0], [0, 0, 8, 1], ([] : List Byte)],
      p.length ≠ 4 ∨ 1 < u p 0 1 ∨ 8 ≤ u p 1 1 ∨ u p 2 1 < 0x08 ∨ 0x77 < u p 2 1 ∨
        u p 2 1 = 0x40 + inst.sys.addr ∨ u p 2 1 = 0x48 + inst.sys.addr ∨ u p 3 1 ≠ 0 := by
  decide +kernel

theorem witness_EaselCommandsRun_privileges :
    (∀ p ∈ [writeWalk, ([] : List Byte)], inst.admits ho 0x07E0 (writePriv 0x07 p)) ∧ inst.writeParam 0x07 [] = false ∧
    inst.admits ho 0x07E2 (inst.discardPriv 0x07 (inst.sel 0x07 1)) := by
  decide +kernel

/-- A commit armed in domain 15's record, and one in its entries of the phase table. -/
def twoCommits : State :=
  (live.onCopy .dom0 15 fun c => { c with armed := [batch] }).onCopy .dom1 0 fun c =>
    { c with armed := [{ batch with since := 1, own := 15 }] }

theorem witness_EaselLandsRun_domains :
    ((twoCommits.copy .dom0 15).pendL ++ (twoCommits.copy .dom0 15).armed ≠ [] ∧
      (twoCommits.copy .dom1 0).pendL ++ (twoCommits.copy .dom1 0).armed ≠ []) ∧
    (∃ x ∈ (twoCommits.copy .dom0 15).armed ++ (twoCommits.copy .dom1 0).armed.filter (fun x => x.own = 15), x.since = 1) ∧
    (live.copy .dom0 15).armed ++ (live.copy .dom1 0).armed.filter (fun x => x.own = 15) = [] ∧
    Both (fun s => (s.copy .dom0 15).armed ≠ [] ∧ (s.copy .dom0 15).pendL = []) :=
  ⟨by decide +kernel, by decide +kernel, by decide +kernel, both twoCommits live (by decide +kernel) (by decide +kernel)⟩

theorem witness_PaletteRuns_refusals :
    (∀ op ∈ [0x0602, 0x0603, 0x0604], inst.admits ho op 2) ∧ inst.admits ho 0x0606 0 ∧
    inst.pal.stagedBank.st ≠ .valid ∧ (∀ p ∈ [[2], ([] : List Byte)], p.length ≠ 1 ∨ 1 < u p 0 1) ∧
    (∀ n ∈ [0, 4081], let p := toLE 4 0 ++ toLE 2 n
      p.length ≠ 6 + u p 4 2 ∨ u p 4 2 = 0 ∨ 4080 < u p 4 2) ∧
    (inst.pal.opened = none ∧ ((opening 24).onSys fun y => { y with nandBar := true }).sys.nandBar) ∧
    (∀ p ∈ [[2, 0, 0, 0, 0, 1, 0], [0, 0, 0, 0, 0, 0, 0], [0, 0, 0, 0, 0, 0xF6, 0x0F], [1, 0, 0, 0, 0, 1, 0], ([] : List Byte)],
      let bs := if u p 0 1 = 0 then inst.bankBytes inst.pal.active else inst.pal.stagedBank.bytes
      p.length ≠ 7 ∨ 1 < u p 0 1 ∨ u p 5 2 = 0 ∨ 4085 < u p 5 2 ∨ bs.length < u p 1 4 + u p 5 2) ∧
    ¬(2 : Nat) < 2 := by
  decide +kernel

/-- Section 1 in OFF with no link, its qualification begun 9 ticks after the timebase's start. -/
def selfStart (auto : Option Nat) : State := (sect .off).onRectCh 1 fun c => { c with qualFrom := some 9, autoAt := auto, qualMs := 1 }

theorem witness_RectStatesRun_starts :
    (((selfStart none).rectCh 1).qualFrom = some 9 ∧ ((selfStart none).rectCh 1).autoAt = none ∧ (selfStart none).mayAuto 1) ∧
    (((sect .off).rectCh 1).qualFrom = none ∧ ((selfStart (some 9)).rectCh 1).autoAt = some 9 ∧ (sect .run).mayAuto 1 = false) ∧
    ((selfStart (some 9)).mayAuto 1 ∧ ((selfStart (some (9 + ms 1))).till (9 + ms 1)).qualMet 1 ∧
      ((selfStart (some 10)).till 10).qualMet 1 = false) ∧
    ((selfStart none).sys.por = false ∧ ((selfStart none).onSys fun y => { y with por := true }).sys.por) ∧
    (let m := (sect .lost).secF Fld.Rect.BULK_MIN_MV 1
     ((sect .lost).rectCh 1).st = .lost ∧ ((sect .lost).rectCh 1).runOn ∧ m - 1 < m) := by
  decide +kernel

/-- Section 1 delivering, its predictor armed. -/
def predicting : State := (sect .run).onRectCh 1 fun c => { c with armed := true, devSince := some 9, half := 1000000, shareBad := some 9 }

theorem witness_RectTripsRun_predictions :
    (predicting.predicts 1 ∧ (predicting.rectCh 1).devSince = some 9 ∧ (predicting.rectCh 1).half ≠ 0) ∧
    (((sect .run).rectCh 1).devSince = none ∧ ((sect .run).rectCh 1).predicted = none ∧ (sect .run).predicts 1 = false) ∧
    (predicting.onRectCh 1 fun c => { c with predicted := some 9 }).predicts 1 = false ∧
    (∀ n ∈ [14, 15], decide (15 ≤ ((predicting.onRectCh 1 fun c => { c with guardRun := n }).rectCh 1).guardRun) = decide (n = 15)) ∧
    ((predicting.rectCh 1).switching ∧ (predicting.rectCh 1).shareBad = some 9 ∧ ((sect .run).rectCh 1).shareBad = none) ∧
    Both (fun s => s.ctrlDown = false) := by
  refine ⟨by decide +kernel, by decide +kernel, by decide +kernel, by decide +kernel, by decide +kernel,
    both live (live.onTherm fun h => { h with zone := upd h.zone 0 fun _ => { shut := true, coolSince := none } }) ?_ ?_⟩ <;>
    decide +kernel

/-- The line of some symbols, heard by section 1's mains die. -/
def atMains (ys : List Sym) (s : State) : List Sym × List (List Sym) × List Sym :=
  let r := s.hears 1 true (send false ys)
  (r.1, splitBeats r.1.length r.1)

theorem witness_BarrierFramesRun_lines :
    ((bar id).rectCh 1).powered ∧
    (atMains [kIdle, kIdle] (bar id)).2 = ([], []) ∧ barFrame [] = none ∧
    (let p : List Byte := [2]
     barFrame (atMains (frameSyms 0x04 p) (bar id)).2.2 = some (0x04, p) ∧ ¬p.length < 1 ∧ p.length < 2 ∧ (0x04 : Nat) ≠ 0x05) ∧
    (atMains ([kStart] ++ beatSyms 5 1111 ++ [kEnd]) (bar id)).2 = ([beatSyms 5 1111], [kStart, kEnd]) ∧
    (beatOf ((atMains [kIdle] (bar id)).1.filter fun y => y ≠ kIdle) = none ∧
      beatOf ((atMains (beatSyms 5 1111 ++ [kIdle]) (bar id)).1.filter fun y => y ≠ kIdle) = some (5, 1111)) ∧
    (hear none [0b0011111010, 0b1100000101]).1 = [kBeat, kBeat] := by
  decide +kernel

/-- Section 1 in a state, its link up. -/
def joined (x : RState) : State := (sect x).onBar 1 fun b => { b with link := .up }

theorem witness_BarrierFramesRun_cases :
    (let b := (bar fun b => { b with rxHeard := true, seqRx := 5 }).rectCh 1 |>.bar
     Barrier.follows b.seqRx b.rxHeard 6 true ∧ Barrier.between b.seqRx b.rxHeard 6 = 0 ∧
       Barrier.between b.seqRx b.rxHeard 8 = 2 ∧ Barrier.follows b.seqRx b.rxHeard 5 true = false) ∧
    (∀ n ∈ [1, 2, 3, 4, 5, (0 : Byte), 6], u [n] 0 1 = n.toNat) ∧
    ((joined .autonomous).startAllowed 1 ∧ ((joined .autonomous).rectCh 1).st = .autonomous) ∧
    ((sect .off).startAllowed 1 = false ∨ ((sect .off).rectCh 1).st ≠ .autonomous ∧ ((sect .off).rectCh 1).st ≠ .qualify) ∧
    (let s := (joined .qualify).onRectCh 1 fun c => { c with qualDone := some 5 }
     (s.rectCh 1).st = .qualify ∧ (s.rectCh 1).qualDone.isSome ∧ s.startAllowed 1) ∧
    ((bar fun b => { b with link := .establishing, initAck := true }).rectCh 1).bar.initAck ∧
    (∀ n ∈ [7, 8], let b := ((bar fun b => { b with awaiting := some (1, 0), attempts := n }).rectCh 1).bar
      b.awaiting.isSome ∧ decide (8 ≤ b.attempts) = decide (n = 8)) := by
  decide +kernel

theorem witness_StringEventsRun_tests :
    (let s := (string .test).onStrCh 1 fun c => { c with eodSince := some 9 }
     (s.strCh 1).eodSince = some 9 ∧ ((s.strCh 1).st = .connected ∨ (s.strCh 1).st = .test)) ∧
    (((string .test).strCh 1).eodSince = none ∧ ((string .connected).strCh 1).st ≠ .test) ∧
    (let s := string .test
     let low := s.fld Fld.Chg.CELLS 1 * s.fld Fld.Chg.EOD_MV_CELL 1
     (s.strCh 1).test.end_ = 0 ∧ (telAt 99 low s).strV 1 ≤ low ∧ ¬(telAt 99 (low + 1) s).strV 1 ≤ low) ∧
    (let s := (string .test).onStrCh 1 fun c => { c with test := { c.test with end_ := 2, value := 0 } }
     (s.strCh 1).test.end_ = 2 ∧ (s.strCh 1).test.value ≤ (s.strCh 1).test.mah) ∧
    (let s := ((string .test).onStrCh 1 fun c => { c with test := { c.test with end_ := 1, value := 7 } }).onGaugeCh 1 fun g =>
       { g with rep := some 699 }
     (s.strCh 1).test.end_ = 1 ∧ (s.gaugeCh 1).rep = some 699 ∧ 699 / 100 < (s.strCh 1).test.value ∧ ¬700 / 100 < (s.strCh 1).test.value) ∧
    Both (fun s => s.busMains = false) ∧ Both (fun s => (s.strCh (1 - 1)).standby = false) := by
  refine ⟨by decide +kernel, by decide +kernel, by decide +kernel, by decide +kernel, by decide +kernel,
    both inst (string .test) ?_ ?_, both inst (string .test) ?_ ?_⟩ <;> decide +kernel

theorem witness_SupplyCommandsRun_acts :
    (∀ x ∈ [RState.run, .latched, .lost], ((sect x).flag Fld.Rect.PRESENT 1 ∧ ((sect x).rectCh 1).st = x ∧
      (sect x).therm.mainsLatch = false)) ∧
    (∀ x ∈ [AState.latched, .fault, .disabled], (aux x).flag Fld.Bus.PRESENT 1 ∧ ((aux x).auxCh 1).st = x) ∧
    ((string .connected).flag Fld.Chg.CHG_EN 1 ∧ ¬((charger .run 1).kind 1 = 6 ∧ ((charger .run 1).strCh 1).chg = .run)) ∧
    (((string .test).strCh 1).st = .test ∧ ((string .test).strCh 1).st ≠ .absent ∧ ((string .test).gaugeCh 1).learnState = 0) ∧
    (∀ n ∈ [1, 2, 3, (4 : Byte)], u [n] 0 1 = n.toNat) := by
  decide +kernel

theorem witness_DomainStatesRun_limits :
    let s := dom .softStart
    (s.domCh 15).st = .softStart ∧ s.domRef 15 ≤ (s.domCh 15).ref.goal ∧ s.flag Fld.Dom.WIN_MODE 15 = false := by
  decide +kernel

theorem witness_DomainRegulationRuns_sync :
    (let s := live.onSys fun y => { y with vioPwm := true }
     s.sys.vioPwm ∧ 50 ≤ 50 ∧ 500 ≤ 500 ∧ 49 < 50 ∧ 500 < 501) ∧
    (live.onDom fun d => { d with syncLost := true }).dom.syncLost ∧
    (let s := (setField Fld.Dom.SYNC_SRC 1 0 inst).onDom fun d => { d with syncPeriod := 20000 }
     s.flag Fld.Dom.SYNC_SRC ∧ s.dom.syncLost = false ∧ s.dom.syncPeriod ≠ 0) ∧
    (∀ sel, inst.sel 0x0B 15 = some sel → ∃ k ∈ maskBits 16 sel.mask, k ≠ 0 ∧ (inst.domCh k).st ≠ .on) ∧
    (let s := dom .on
     s.sel 0x0B 15 = some ⟨0, 2 ^ 15⟩ ∧ ∀ k ∈ maskBits 16 (2 ^ 15), k = 0 ∨ (s.domCh k).st = .on) ∧
    (∀ n ∈ [5, (7 : Byte)], 5 ≤ u [n] 0 1 ∧ u [n] 0 1 ≤ 7) ∧ (dom .off).ctrlDown = false := by
  refine ⟨by decide +kernel, by decide +kernel, by decide +kernel, fun sel h => ?_, by decide +kernel, by decide +kernel,
    by decide +kernel⟩
  have e : inst.sel 0x0B 15 = some ⟨0, 2 ^ 15⟩ := by decide +kernel
  rw [e] at h
  cases h
  exact ⟨15, by decide, by decide, by decide +kernel⟩

/-- A whole share frame with SEQ 7, with `n` in its FLIGHT field. -/
def share (n : Nat) : List Byte := frameOf sofShare (shareBytes 7 ShareFig.zero n)

/-- A node between the root and port 1, with frame 7 out on it. -/
def passing : State := (portUse .away).onLink fun l => { l with role := 1, outSeq := some 7, everSeen := true }

theorem witness_LinkFramesRun_shares :
    (∃ x, (frameBody sofShare 32 (share 5)).map shareOf = some x ∧ x.1 = 7 ∧ x.2.2 = 5) ∧
    (frameBody sofShare 32 []).map shareOf = none ∧
    (passing.flag Fld.Link.LINK_EN ∧ (passing.linkPort 1).line = .up2 ∧ ¬(passing.link.role = 2 ∧ passing.link.yielding = false) ∧
      (passing.linkPort 1).use = .away ∧ passing.link.outSeq = some 7) ∧
    (((portUse .toRoot).linkPort 1).use = .toRoot ∧ (portUse .toRoot).link.awayPorts = []) ∧
    (let s := (portUse .toRoot).onPort 2 fun p => { p with line := .up2, use := .away }
     (s.linkPort 1).use = .toRoot ∧ s.link.awayPorts ≠ []) ∧
    (let s := (portUse .standby).onLink fun l => { l with seen := true, seq := 7 }
     (s.linkPort 1).use = .standby ∧ s.link.seen ∧ s.link.seq = 7 ∧ ¬((s.linkPort 1).use = .away ∧ s.link.outSeq.isSome)) ∧
    (let s := portUse .standby
     s.link.seen = false ∧ (s.linkPort 1).use ≠ .toRoot ∧ (s.linkPort 1).use ≠ .away) ∧
    (let s := (portUse .toRoot).onLink fun l => { l with role := 2 }
     s.link.role = 2 ∧ s.link.yielding = false ∧ (s.linkPort 1).use ≠ .away) := by
  refine ⟨⟨(7, ShareFig.zero, 5), by decide +kernel⟩, ?_⟩
  decide +kernel

theorem witness_LinkFramesRun_returns :
    (let s := flying
     let t0 := 5
     let late (x : Nat × ShareFig × Nat) : Prop := x.2.2 = (t0 - s.sharePeriod) % 2 ^ 32
     let own (x : Nat × ShareFig × Nat) : Prop := x.1 = 7 ∧ x.2.2 = t0 % 2 ^ 32
     s.link.flight = some (7, t0, true) ∧ s.link.role = 2 ∧ (s.linkPort 1).used ∧ late (8, ShareFig.zero, 0) ∧
       (¬late (7, ShareFig.zero, 9) ∧ ¬own (7, ShareFig.zero, 9)) ∧ (¬late (7, ShareFig.zero, 5) ∧ own (7, ShareFig.zero, 5)) ∧
       (∀ q ∈ s.link.awayPorts, q = 1 ∨ ∃ z ∈ s.link.merge, z.1 = q) ∧ mergeFig (s.link.branch 1 none) = none ∧
       mergeFig (s.link.branch 1 (some ShareFig.zero)) = some (ShareFig.zero.add ShareFig.zero)) ∧
    (let s := flying.onPort 2 fun p => { p with line := .up2, use := .away }
     ¬∀ q ∈ s.link.awayPorts, q = 1 ∨ ∃ z ∈ s.link.merge, z.1 = q) ∧
    (flying.onLink fun l => { l with flight := some (7, 5, false) }).link.flight = some (7, 5, false) ∧
    ((setField Fld.Link.LINK_EN 0 0 inst).flag Fld.Link.LINK_EN = false ∧ (inst.linkPort 2).used = false) := by
  decide +kernel

/-- An event frame's TYPE is the one that it was built with. -/
theorem event_type (n : Nat) (h : frameBody sofEvent 16 (event n) = some (eventBody n 3 0 0 0)) (m : Nat)
    (k : u (eventBody n 3 0 0 0) 0 1 ≠ m) : ∀ b, frameBody sofEvent 16 (event n) = some b → u b 0 1 ≠ m := by
  intro b e
  rw [h] at e
  cases e
  exact k

theorem witness_LinkFramesRun_events :
    (∃ n ∈ List.range 28, (decisionOf ((zeros 28).set n 2)).flags.testBit 1) ∧
    (let s := (setField Fld.Link.PLANT_CAP 1 0 linked).onPal fun q => { q with plant := some 0 }
     ¬(s.link.role = 2 ∨ s.flag Fld.Link.PLANT_CAP = false ∨ s.link.mismatch) ∧ s.pal.plant.isSome) ∧
    (linked.link.role ≠ 2 ∧ ∀ x ∈ linked.link.best, claimGe (false, 3) x) ∧
    (let s := node fun l => { l with best := some (true, 9) }
     s.link.role ≠ 2 ∧ s.link.best = some (true, 9) ∧ claimGe (false, 3) (true, 9) = false) ∧
    (let s := node fun l => { l with role := 2 }
     s.link.role = 2 ∧ claimGe (true, 3) s.ownClaim ∧ claimGe (false, 2) s.ownClaim = false ∧ s.link.yielding = false ∧
       (s.onLink fun l => { l with yielding := true }).link.yielding) ∧
    ((portUse .toRoot).flag Fld.Link.LINK_EN ∧ ((portUse .toRoot).linkPort 1).line ≠ .down ∧ ((portUse .away).linkPort 1).use ≠ .toRoot) ∧
    (∀ b, frameBody sofEvent 16 (event 1) = some b → u b 0 1 ≠ 2) ∧ ∀ b, frameBody sofEvent 16 (event 2) = some b → u b 0 1 ≠ 7 := by
  refine ⟨by decide +kernel, by decide +kernel, by decide +kernel, by decide +kernel, by decide +kernel, by decide +kernel,
    event_type 1 (by decide +kernel) 2 (by decide), event_type 2 (by decide +kernel) 7 (by decide)⟩

theorem witness_PdTimersRun_detach :
    (let c := pdC fun c => { c with st := .attachedSnk, cc1 := .open_ }
     c.attached ∧ c.source = false ∧ c.swapping = false ∧ c.frs = false ∧ c.hr = .none ∧
       ∀ n ∈ List.range 4, (if c.flip then c.cc2 else c.cc1) ≠ .rp n) ∧
    (pdC fun c => { c with st := .attachedSnk, cc1 := .rp 1 }).cc1 = .rp 1 ∧
    (pdC fun c => { c with run := some (armed 2), phase := 3 }).swapping ∧ (pdC fun c => { c with frs := true }).frs ∧
    (∀ x ∈ [TcState.disabled, .errorRecovery, .unattachedSnk, .unattachedSrc], (pdC fun c => { c with st := x }).st = x) ∧
    (let c := pdC fun c => { c with run := some { armed 1 with epr := true }, phase := 3 }
     c.run = some { armed 1 with epr := true } ∧ c.phase = 3) ∧
    Seen (fun _ c => c.run = none ∧ c.resp = none ∧ c.ams = none ∧ c.tx = none) :=
  ⟨by decide +kernel, by decide +kernel, by decide +kernel, by decide +kernel, by decide +kernel, by decide +kernel,
    pd id, by decide +kernel⟩

theorem witness_PdPowerEventsRun_cases :
    ((pdC fun c => { c with dschg := true }).dschg ∧ (pdC id).dschg = false ∧ (pdC id).phase ≠ 4 ∧ (pdC id).hr = .none) ∧
    ((pdC fun c => { c with frs := true, source := true }).frs ∧ (pdC id).frs = false) ∧
    (let c := pdC fun c => { c with st := .attachedSnk, tx := some { message with sent := false } }
     c.st = .attachedSnk ∧ c.source = false ∧ c.tx = some { message with sent := false }) ∧
    ((if (pdC id).flip then CcPin.open_ else .rp 3) = .rp 3) ∧
    (pdC fun c => { c with st := .attachedSrc, source := true }).source := by
  decide +kernel

theorem witness_AbsentPdPortsRest_states :
    (inst.onSys fun y => { y with fwReady := false }).sys.fwReady = false ∧
    (setField Fld.Pd.PRESENT 0 1 inst).flag Fld.Pd.PRESENT 1 = false := by
  decide +kernel

theorem witness_PdCommandsRun_disabled :
    ((pd fun c => { c with st := .disabled }).pdCh 1).st = .disabled ∧ ((pd id).pdCh 1).st ≠ .disabled := by
  decide +kernel

theorem witness_SequencerRuns_ticks :
    (let f := (bank true).fld Fld.Seq.SEQ_IN_FILT_US
     (bank true).sys.vioHost ∧ f ≤ f ∧ (bank false).sys.vioHost = false ∧ 2 ≤ 2 ∧ ¬2 ≤ 1) ∧
    ((seqIn .wait).seq.lost = [] ∧ (seqIn .wait).seq.fltDue = false ∧ (seqIn .wait).seq.startDue = none) ∧
    (let s := telAt 96 50000 ((setField Fld.Seq.AUTO_SEQ 1 0 inst).onSeq fun q => { q with deferred := true, fltPin := true })
     s.flag Fld.Seq.AUTO_SEQ ∧ s.seq.deferred ∧ s.seq.st = .idle ∧ s.sys.fwReady ∧ s.sys.mode ≠ .coldReset ∧ 44000 ≤ s.vBus ∧
       s.vBus ≤ 57600 ∧ s.fltLow = false ∧ s.ctrlDown = false) ∧
    (inst.seq.deferred = false ∧ (setField Fld.Seq.AUTO_SEQ 0 0 inst).flag Fld.Seq.AUTO_SEQ = false) ∧
    (let t := (seqIn .wait).seq.table
     seqKind t ≠ 1 ∧ u (seqStepOf t 0) 14 1 ≠ 1 ∧ seqKind [0, 1] = 1) ∧
    (let w := { waits 0x0F01 with data := [0, 0] ++ zeros 4 ++ [1, 1] }
     w.started = 0 ∧ u w.own 1 1 = 1 ∧ u ({ w with data := [0, 0] ++ zeros 4 ++ [1, 0] } : Wait).own 1 1 ≠ 1 ∧
       inst.startRefuse 1 = false ∧ (seqIn .wait).startRefuse 0) := by
  decide +kernel

theorem witness_MeasurementRuns_triggers :
    ((trigged none).waitsTrig 4 ∧ ((trigged none).adc 4).event = none ∧ (trigged none).unitOn 4) ∧
    (let s := (trigged none).onUnit 4 fun a => { a with event := some 7 }
     s.waitsTrig 4 ∧ (s.adc 4).event = some 7) ∧ (inst.unitOn 7 ∧ inst.waitsTrig 7 = false) ∧
    (let s := trigged none
     let a := s.adc 4
     a.event = none ∧ s.fld (Fld.Meas.TRIG_SRC a.pos) 4 = 31 ∧ s.flag (Fld.Meas.TRIG a.pos) 4 ∧ s.now ≤ a.tPos + us 20 ∧
       s.fld (Fld.Meas.TRIG_SRC a.pos) 4 ≠ 30) ∧
    (let s := inst.onMeas fun m => { m with triadOff := m.triadOff.set 0 256 }
     256 ≤ s.meas.triadOff[0] ∧ ((s.onMeas fun m => { m with triadOff := Vector.replicate 3 0 }).raise 0x100A 6).unitIn 6) ∧
    ((inst.onUnit 6 fun a => { a with st := .noConverter }).unitIn 6 = false) := by
  decide +kernel

theorem witness_MeasurementRuns_captures :
    (let s := setField Fld.Meas.MODE 2 7 (setField Fld.Meas.INPUT 0 7 (live.onSys fun y => { y with vioPwm := true }))
     s.fld Fld.Meas.MODE 7 = 2 ∧ s.fld Fld.Meas.INPUT 7 ≤ 4 ∧ s.sys.vioPwm ∧ s.fld Fld.Meas.FILT_TICKS 7 ≤ s.fld Fld.Meas.FILT_TICKS 7) ∧
    (let s := setField Fld.Meas.MODE 2 7 (setField Fld.Meas.INPUT 5 7 live)
     ¬s.fld Fld.Meas.INPUT 7 ≤ 4 ∧ s.sys.vioHost) ∧
    (let s := inst.onCc 3 fun c => { c with level := true, rises := 1, rise := 5 }
     (s.meas.cc[3]).level ∧ 0 < (s.meas.cc[3]).rises ∧ (s.meas.cc[3]).rise = 5) := by
  decide +kernel

theorem witness_MeasurementRuns_passes :
    (let s := cal .idle
     s.sys.mode = .running ∧ s.flag Fld.Meas.CAL_EN ∧ s.passCalled = false ∧ s.meas.calDue = some 5 ∧
       (s.onMeas fun m => { m with calDue := none }).meas.calDue = none) ∧
    (∃ t, hotCtrl.dieTemp = some t ∧ 10 * (hotCtrl.fld Fld.Meas.CAL_DELTA_C : Int) < |t - hotCtrl.meas.tPass|) ∧
    (∃ w ∈ (inst.onHif fun h => { h with waits := [waits 0x1004] }).hif.waits, w.op = 0x1004) :=
  ⟨by decide +kernel, ⟨1500, by decide +kernel⟩, by decide +kernel⟩

theorem witness_RecorderRuns_ops :
    Both (fun s => s.skb.evBuf ≠ [] ∧ ∀ j ∈ s.skb.running, j.op ≠ .events) ∧
    (∀ op ∈ [NandOp.capture 0, .varnish 1 [7] 0, .varnish 1 [7] 1], ∀ n ∈ [0, 2],
      let s := rec fun k => { k with running := some ⟨op, none⟩, failRun := List.replicate n 7 }
      let t := (s.onSkb fun k => { k with running := none }).onSkb (Skb.fail (s.skb.opBlock op))
      s.skb.running = some ⟨op, none⟩ ∧ decide (3 ≤ t.skb.failRun.length) = decide (n = 2)) ∧
    ((rec fun k => { k with running := some ⟨.events, some ⟨ho, 0x1207, []⟩⟩ }).skb.running.isSome) ∧
    (let s := (rec fun k => { k with scrub := true }).onSys fun y => { y with mode := .hold }
     s.skb.scrub ∧ s.sys.mode ≠ .running) := by
  refine ⟨both (rec fun k => { k with evBuf := [zeros 64] }) inst ?_ ?_, ?_⟩ <;> decide +kernel

theorem witness_FaultsAndImagesRun_activate :
    (∀ p ∈ [[2, 0], [0, 2], ([1] : List Byte), []], ¬(p.length = 2 ∧ u p 0 1 ≤ 1 ∧ u p 1 1 ≤ 1)) ∧
    (let s := (loading []).onImg fun i => { i with area := upd i.area 1 fun a => { a with st := .valid } }
     s.admits ho 0x1404 2 ∧ (s.img.area[fin 2 1]).st = .valid) ∧ ((loading []).img.area[fin 2 1]).st ≠ .valid ∧
    (∀ n ∈ [(0 : Byte), 1], u [1, n] 1 1 = n.toNat) ∧
    (let s := (loading (fwImage.set 12 1)).onImg fun i => { i with booted := some 1, rollback := 0xFFFFFFFF }
     s.img.booted = some 1 ∧ u (s.img.area[1]).bytes 12 4 ≤ s.img.rollback) := by
  decide +kernel

end Sys2Proof.Tests
end

section
/-! SUPPORT. The bits of a record's field: what is read of them, what a write puts there and what it leaves; O59. -/

namespace Sys2Proof.Machine

/-! ## Little-endian bytes (R6) -/

theorem leNat_lt (bs : List Byte) : leNat bs < 2 ^ (8 * bs.length) := by
  induction bs with
  | nil => simp [leNat]
  | cons b bs ih =>
    have hb : b.toNat < 256 := b.isLt
    have hpow : 2 ^ (8 * (b :: bs).length) = 256 * 2 ^ (8 * bs.length) := by
      rw [List.length_cons, Nat.mul_succ, Nat.add_comm, Nat.pow_add]
    rw [leNat, hpow]
    omega

theorem leNat_toLE (n v : Nat) : leNat (toLE n v) = v % 2 ^ (8 * n) := by
  induction n generalizing v with
  | zero => simp [toLE, leNat, Nat.mod_one]
  | succ n ih =>
    have hpow : 2 ^ (8 * (n + 1)) = 256 * 2 ^ (8 * n) := by rw [Nat.mul_succ, Nat.add_comm, Nat.pow_add]
    rw [toLE, leNat, ih, hpow, Nat.mod_mul, BitVec.toNat_ofNat]

theorem u_lt (bs : List Byte) (off n : Nat) : u bs off n < 2 ^ (8 * n) :=
  (leNat_lt _).trans_le <| Nat.pow_le_pow_right (by decide) <| Nat.mul_le_mul_left 8 <| List.length_take_le _ _

/-- Bytes put at an offset are what is read there. -/
theorem u_splice {bs ps : List Byte} {off n : Nat} (hoff : off ≤ bs.length) (hps : ps.length = n) (tl : List Byte) :
    u (bs.take off ++ ps ++ tl) off n = leNat ps := by
  have htake : (bs.take off).length = off := List.length_take_of_le hoff
  rw [u, sliceBytes, List.append_assoc, List.drop_left' htake, List.take_left' hps]

/-! ## The bits of a value -/

/-- The value `x` with its `w` bits from bit `lo` replaced by the low bits of `v`, as `Field.set` computes it. -/
def replaceBits (lo w v x : Nat) : Nat := x - x / 2 ^ lo % 2 ^ w * 2 ^ lo + v % 2 ^ w * 2 ^ lo

/-- The parts of the new value: what stood above the field, the field, what stood below it. -/
theorem replaceBits_eq (lo w v x : Nat) :
    replaceBits lo w v x = 2 ^ lo * (2 ^ w * (x / 2 ^ lo / 2 ^ w) + v % 2 ^ w) + x % 2 ^ lo := by
  have hx : x = 2 ^ lo * (2 ^ w * (x / 2 ^ lo / 2 ^ w) + x / 2 ^ lo % 2 ^ w) + x % 2 ^ lo := by
    rw [Nat.div_add_mod, Nat.div_add_mod]
  rw [Nat.mul_add] at hx ⊢
  rw [replaceBits, Nat.mul_comm _ (2 ^ lo), Nat.mul_comm _ (2 ^ lo)]
  omega

theorem testBit_replaceBits (lo w v x j : Nat) :
    (replaceBits lo w v x).testBit j = if lo ≤ j ∧ j < lo + w then v.testBit (j - lo) else x.testBit j := by
  have hlow : x % 2 ^ lo < 2 ^ lo := Nat.mod_lt _ (Nat.two_pow_pos lo)
  have hfld : v % 2 ^ w < 2 ^ w := Nat.mod_lt _ (Nat.two_pow_pos w)
  rw [replaceBits_eq, Nat.testBit_two_pow_mul_add _ hlow, Nat.testBit_two_pow_mul_add _ hfld]
  rcases Nat.lt_or_ge j lo with below | hlo
  · simp [below, Nat.not_le.mpr below, Nat.testBit_mod_two_pow]
  rcases Nat.lt_or_ge j (lo + w) with inside | above
  · have hw : j - lo < w := by omega
    simp [hlo, inside, hw, Nat.not_lt.mpr hlo, Nat.testBit_mod_two_pow]
  · have hw : ¬ j - lo < w := by omega
    have hj : lo + (w + (j - lo - w)) = j := by omega
    simp [hw, hj, Nat.not_lt.mpr hlo, Nat.not_lt.mpr above, Nat.testBit_div_two_pow, Nat.add_comm]

/-- The replaced bits read back. -/
theorem replaceBits_div_mod (lo w v x : Nat) : replaceBits lo w v x / 2 ^ lo % 2 ^ w = v % 2 ^ w := by
  have hlow : x % 2 ^ lo < 2 ^ lo := Nat.mod_lt _ (Nat.two_pow_pos lo)
  rw [replaceBits_eq, Nat.mul_add_div (Nat.two_pow_pos lo), Nat.div_eq_of_lt hlow, Nat.add_zero, Nat.mul_add_mod, Nat.mod_mod]

/-- A replacement within the low `k` bits leaves the value within them. -/
theorem replaceBits_lt {lo w v x k : Nat} (hx : x < 2 ^ k) (hk : lo + w ≤ k) : replaceBits lo w v x < 2 ^ k := by
  refine Nat.lt_pow_two_of_testBit _ fun j hj => ?_
  have hout : ¬ (lo ≤ j ∧ j < lo + w) := by omega
  rw [testBit_replaceBits, if_neg hout]
  exact Nat.testBit_lt_two_pow (hx.trans_le (Nat.pow_le_pow_right (by decide) hj))

/-! ## A write of a field -/

theorem Field.set_eq (f : Field) (v : Nat) (bs : List Byte) :
    f.set v bs = bs.take f.off ++ toLE f.nbytes (replaceBits f.lo f.width v (u bs f.off f.nbytes)) ++
      bs.drop (f.off + f.nbytes) := rfl

/-- The field lies within the bytes that it spans. -/
theorem Field.lo_add_width_le (f : Field) : f.lo + f.width ≤ 8 * f.nbytes := by
  rw [Field.nbytes]
  omega

/-- The value of the field's bytes after a write. -/
theorem Field.u_set (f : Field) (v : Nat) {bs : List Byte} (h : f.off + f.nbytes ≤ bs.length) :
    u (f.set v bs) f.off f.nbytes = replaceBits f.lo f.width v (u bs f.off f.nbytes) := by
  rw [f.set_eq, u_splice (by omega) (length_toLE _ _), leNat_toLE,
    Nat.mod_eq_of_lt (replaceBits_lt (u_lt _ _ _) f.lo_add_width_le)]

theorem Field.getRaw_set (f : Field) (v : Nat) {bs : List Byte} (h : f.off + f.nbytes ≤ bs.length) :
    f.getRaw (f.set v bs) = v % 2 ^ f.width := by
  rw [Field.getRaw, f.u_set v h, replaceBits_div_mod]

theorem Field.length_set (f : Field) (v : Nat) {bs : List Byte} (h : f.off + f.nbytes ≤ bs.length) :
    (f.set v bs).length = bs.length := by
  simp only [f.set_eq, List.length_append, List.length_take, length_toLE, List.length_drop]
  omega

/-- A write leaves the bytes outside the field's. -/
theorem Field.getElem?_set (f : Field) (v : Nat) {bs : List Byte} (h : f.off + f.nbytes ≤ bs.length) {j : Nat}
    (hj : j < f.off ∨ f.off + f.nbytes ≤ j) : (f.set v bs)[j]? = bs[j]? := by
  have htake : (bs.take f.off).length = f.off := List.length_take_of_le (by omega)
  rw [f.set_eq]
  generalize replaceBits _ _ _ _ = w
  have hpre : (bs.take f.off ++ toLE f.nbytes w).length = f.off + f.nbytes := by
    rw [List.length_append, htake, length_toLE]
  rcases hj with before | after
  · rw [List.append_assoc, List.getElem?_append_left (by omega), List.getElem?_take_of_lt before]
  · rw [List.getElem?_append_right (by omega), hpre, List.getElem?_drop, Nat.add_sub_cancel' after]

/-- A write leaves the bits of the field's own bytes that are not the field's. -/
theorem Field.testBit_u_set (f : Field) (v : Nat) {bs : List Byte} (h : f.off + f.nbytes ≤ bs.length) {j : Nat}
    (hj : j < f.lo ∨ f.lo + f.width ≤ j) :
    (u (f.set v bs) f.off f.nbytes).testBit j = (u bs f.off f.nbytes).testBit j := by
  have hout : ¬ (f.lo ≤ j ∧ j < f.lo + f.width) := by omega
  rw [f.u_set v h, testBit_replaceBits, if_neg hout]

/-- Settles O59: a write puts the replaced value in the field's bytes (`Field.u_set`) and keeps the bytes around them. -/
theorem fieldsReadBack : Obligations.FieldsReadBack :=
  fun f v _ h =>
    ⟨f.getRaw_set v h, f.length_set v h, fun _ hj => f.getElem?_set v h hj, fun _ hj => f.testBit_u_set v h hj⟩

end Sys2Proof.Machine
end

section
/-! SUPPORT. Power-on reset, the keep supply, HK12 and the straps; O17. -/

namespace Sys2Proof.Machine

/-! ## What a cut NAND program leaves (R260, R469) -/

/-- It leaves the system block and the firmware images as they are, whatever was being programmed. -/
theorem State.tear_leaves (s : State) : s.tear.sys = s.sys ∧ s.tear.img = s.img := by
  cases hrun : s.skb.running with
  | none => simp only [State.tear, hrun, and_self]
  | some job =>
    cases hop : job.op with
    | store area slot =>
      simp only [State.tear, hrun, hop]
      split <;> exact ⟨rfl, rfl⟩
    | _ => simp [State.tear, hrun, hop, State.onItem]

/-! ## What power-on reset leaves (R49) -/

theorem State.powerOn_domCh (mv : Nat) (s : State) (k : Fin 16) : (s.powerOn mv).domCh k = DomCh.reset := by
  simp [State.powerOn, State.domCh, State.reset, Dom.reset]

theorem State.powerOn_portCh_st (mv : Nat) (s : State) (n : Fin 24) : ((s.powerOn mv).portCh n).st = .off := by
  simp [State.powerOn, State.portCh, PortCh.reset]

theorem powerOnReset_leaves (mv : Nat) (s : State) :
    let t := s.powerOn mv
    t.sys.por ∧ t.sys.rstOut ∧ t.now = 0 ∧ t.sys.keepMv = mv ∧ t.sys.mode = .bootRom ∧
      t.sys.bootRecs = s.sys.bootRecs ∧ t.img.active = s.img.active ∧ t.skb.evRing = s.tear.skb.evRing ∧
      (∀ k : Fin 16, (t.domCh k).st = .off) ∧ (∀ n : Fin 24, (t.portCh n).st = .off) ∧ t.flt.held = 0 :=
  ⟨rfl, rfl, rfl, rfl, rfl, (congrArg Sys.bootRecs s.tear_leaves.1 :), (congrArg Img.active s.tear_leaves.2 :), rfl,
    fun k => congrArg DomCh.st (s.powerOn_domCh mv k), s.powerOn_portCh_st mv, rfl⟩

/-! ## The keep supply (R16, R19) -/

theorem keepThresholdCross_por {s : State} {mv : Nat} (h : 4500 ≤ mv) (por : s.sys.por) :
    Goes (.keepThresholdCross mv) s (s.onSys fun y => { y with keepMv := mv }) :=
  congrArg _ ((if_neg (Nat.not_lt.2 h)).trans (if_pos por))

theorem keepThresholdCross_up {s : State} {mv : Nat} (h : 4500 ≤ mv) (up : s.sys.por = false) :
    Goes (.keepThresholdCross mv) s (s.setKeep mv).pump := by
  show execKeepThresholdCross mv s = _
  simp only [execKeepThresholdCross, if_neg (Nat.not_lt.2 h), if_neg (ne_true_of_eq_false up)]

/-! ## The bank supplies (R44) -/

theorem bankSupplyChange_host (v : Bool) (s : State) :
    let t := s.onSys fun y => { y with vioHost := v, tVioHost := if v ∧ y.vioHost = false then s.now else y.tVioHost }
    Goes (.bankSupplyChange true v) s (if v = false ∧ s.sys.rstLow then t.pinRelease else t) := by
  refine congrArg Host.Outcome.next ?_
  cases v with
  | false => simp
  | true =>
    simp only [Bool.and_false, Bool.false_and, Bool.false_eq_true, if_true, if_false, Bool.true_and, Bool.not_true,
      Bool.not_eq_eq_eq_not, Bool.true_eq_false, false_and, true_and]
    rfl

/-- Settles O17: power-on reset by what it leaves (`powerOnReset_leaves`), the keep supply and the banks by their cases, and
each of the others as a guarded effect. -/
theorem powerEventsRun : Obligations.PowerEventsRun := by
  intro s
  exact ⟨fun mv => ⟨s.powerOn mv, rfl, rfl, powerOnReset_leaves mv s⟩, fun _ => fires_ite rfl, fires_ite rfl, fires_ite rfl,
    fires_ite rfl, fun _ h => congrArg _ (if_pos h), fun _ => keepThresholdCross_por,
    fun _ h up => ⟨keepThresholdCross_up h up, rfl⟩, fun _ _ => fires_ite rfl, fun v => bankSupplyChange_host v s,
    fun _ => rfl⟩

end Sys2Proof.Machine
end

section
/-! SUPPORT. When the two ticks come and the order in which they act; O23. -/

namespace Sys2Proof.Machine

/-! ## The next multiple of a period (R22) -/

theorem nextTick_mod {p : Nat} (hp : 0 < p) (now : Nat) (last : Option Nat) : nextTick p now last % p = 0 := by
  have period : max 1 p = p := max_eq_right hp
  unfold nextTick
  rw [period]
  cases last with
  | none => exact Nat.mul_mod_left _ _
  | some t =>
    dsimp only
    split <;> exact Nat.mul_mod_left _ _

theorem le_nextTick (p now : Nat) (last : Option Nat) : now ≤ nextTick p now last := by
  unfold nextTick
  generalize hq : max 1 p = q
  have hq0 : 0 < q := by omega
  have first : now ≤ (now + q - 1) / q * q := by
    have := Nat.lt_div_mul_add hq0 (a := now + q - 1)
    omega
  cases last with
  | none => exact first
  | some t =>
    dsimp only
    split
    · exact first
    · have := Nat.lt_div_mul_add hq0 (a := t)
      rw [Nat.succ_mul]
      omega

/-- Settles O23: outside power-on reset each tick runs its body in the order of R22, and the 10 µs tick moves the timebase to
a multiple of 10 µs that is not before it (`nextTick_mod`, `le_nextTick`). -/
theorem ticksRun : Obligations.TicksRun := by
  intro s
  refine ⟨fun por => ⟨congrArg _ (if_pos por), congrArg _ (if_pos por)⟩, fun up => ?_, fun up => ?_,
    fun _ b c _ => ⟨rfl, fun h => if_neg (ne_true_of_eq_false h), fun h => if_pos h, rfl⟩⟩
  · have reached : (s.advanceTo (nextTick 1000 s.now s.sys.tTick)).now = nextTick 1000 s.now s.sys.tTick :=
      max_eq_right (le_nextTick _ _ _)
    refine ⟨?_, ?_, ?_⟩
    · show execTick10us s = _
      simp only [execTick10us, if_neg (ne_true_of_eq_false up)]
    · rw [reached]
      exact nextTick_mod (by decide) _ _
    · exact le_max_left _ _
  · show execShareTick s = _
    simp only [execShareTick, if_neg (ne_true_of_eq_false up)]

end Sys2Proof.Machine
end

section
/-! SUPPORT. What the barrier carries: heartbeats, frames, and what each TYPE does; O37. -/

namespace Sys2Proof.Machine

/-- A change of a channel depends on the channel alone. -/
theorem State.onRectCh_congr {s : State} {k : Nat} {f g : RectCh → RectCh} (h : f (s.rectCh k) = g (s.rectCh k)) :
    s.onRectCh k f = s.onRectCh k g := by
  rw [State.rectCh] at h
  simp only [State.onRectCh, State.onRect, upd, h]

/-- A change of a channel's link depends on the link alone. -/
theorem State.onBar_congr {s : State} {k : Nat} {f g : Barrier → Barrier} (h : f (s.rectCh k).bar = g (s.rectCh k).bar) :
    s.onBar k f = s.onBar k g :=
  State.onRectCh_congr (congrArg (fun b => { s.rectCh k with bar := b }) h)

@[simp] theorem State.onBar_rectCh (s : State) (k : Nat) (f : Barrier → Barrier) :
    (s.onBar k f).rectCh k = { s.rectCh k with bar := f (s.rectCh k).bar } :=
  s.onRectCh_rectCh k _

/-! ## Heartbeats (R169) -/

theorem State.beat_of_none (s : State) (k : Nat) (m : Bool) {ys : List Sym} (h : beatOf ys = none) :
    s.beat k m ys = if m then s.beatMains k false 0 0 else s.beatControl k false 0 0 := by
  simp only [State.beat, h, Option.getD_none, Option.isSome_none]

theorem State.beat_of_some (s : State) (k : Nat) (m : Bool) {ys : List Sym} {q v : Nat} (h : beatOf ys = some (q, v)) :
    s.beat k m ys = if m then s.beatMains k true q v else s.beatControl k true q v := by
  simp only [State.beat, h, Option.getD_some, Option.isSome_some]

theorem barrierHeartbeat_unpowered {s : State} {k : Fin 2} (m : Bool) (line : List Nat) (h : (s.rectCh k).powered = false) :
    Goes (.barrierHeartbeat k m line) s s :=
  congrArg _ (if_pos (by simp [h]))

theorem barrierHeartbeat_powered {s : State} {k : Fin 2} (m : Bool) (line : List Nat) (h : (s.rectCh k).powered) :
    Goes (.barrierHeartbeat k m line) s
      ((s.hears k m line).2.beat k m ((s.hears k m line).1.filter fun y => y ≠ kIdle)) :=
  congrArg _ (if_neg (by simp [h]))

/-- R169: a good heartbeat as the section takes it: its SEQ, the run of good ones and the LLC period command. -/
def Barrier.took (q v : Nat) (b : Barrier) : Barrier :=
  { b with
    seqTx := q, txHeard := true, goodMains := Barrier.runOf b.seqTx b.txHeard q b.goodMains, cmdPeriod := v }

section
variable {s : State} {k : Nat} {ok : Bool} {q : Nat} (v : Nat)

theorem State.beatControl_bad (h : Barrier.follows (s.rectCh k).bar.seqRx (s.rectCh k).bar.rxHeard q ok = false) :
    s.beatControl k ok q v = s.onBar k fun b =>
      { b with goodRun := 0, hbBad := satAdd 0xFFFFFFFF b.hbBad 1, badSince := b.badSince + 1 } :=
  State.onBar_congr (if_neg (by simp [h]))

theorem State.beatControl_good (h : Barrier.follows (s.rectCh k).bar.seqRx (s.rectCh k).bar.rxHeard q ok) :
    let gap := Barrier.between (s.rectCh k).bar.seqRx (s.rectCh k).bar.rxHeard q
    s.beatControl k ok q v = s.onBar k fun b =>
      { b with
        seqRx := q, rxHeard := true, goodRun := if gap = 0 then b.goodRun + 1 else 1, tGood := s.now, period := v
        hbBad := satAdd 0xFFFFFFFF b.hbBad (gap - b.badSince), badSince := 0
        link := if b.link = .down then .establishing else b.link } :=
  State.onBar_congr (if_pos h)

/-- With the LLC running, the heartbeat's note is all that happens: the stage's boundaries come with its periods. -/
theorem State.beatMains_running {g : RectCh → RectCh}
    (h : (let c := s.rectCh k
      if Barrier.follows c.bar.seqTx c.bar.txHeard q ok then { c with bar := (c.bar.took q v).copy (!c.pfc) (!c.llc) }
      else { c with bar := { c.bar with goodMains := 0 } }) = g (s.rectCh k))
    (llc : (g (s.rectCh k)).llc) : s.beatMains k ok q v = s.onRectCh k g := by
  refine (if_pos ?_).trans (State.onRectCh_congr h)
  rw [State.onRectCh_rectCh]
  exact (congrArg RectCh.llc h).trans llc

theorem State.beatMains_bad (h : Barrier.follows (s.rectCh k).bar.seqTx (s.rectCh k).bar.txHeard q ok = false)
    (llc : (s.rectCh k).llc) : s.beatMains k ok q v = s.onBar k fun b => { b with goodMains := 0 } :=
  State.beatMains_running v (if_neg (by simp [h])) llc

theorem State.beatMains_good (h : Barrier.follows (s.rectCh k).bar.seqTx (s.rectCh k).bar.txHeard q ok)
    (llc : (s.rectCh k).llc) :
    s.beatMains k ok q v = s.onRectCh k fun c => { c with bar := (c.bar.took q v).copy (!c.pfc) false } :=
  State.beatMains_running v ((if_pos h).trans (by simp only [llc, Bool.not_true])) llc

end

/-! ## Frames (R168) -/

section
variable {s : State} {k type len : Nat} {line : List Nat} {act : List Byte → State → State}

/-- What a side has of a line once the idle fill and the heartbeats in it are taken out. -/
def State.framed (s : State) (k type : Nat) (line : List Nat) : List (List Sym) × List Sym :=
  let ys := (s.hears k (type < 0x80) line).1
  splitBeats ys.length ys

/-- The state after the heartbeats inserted in a frame. -/
def State.beaten (s : State) (k type : Nat) (line : List Nat) : State :=
  (s.hears k (type < 0x80) line).2.each (s.framed k type line).1 (State.beat k (type < 0x80))

theorem State.frame_unpowered (h : (s.rectCh k).powered = false) : s.frame k type len line act = s :=
  if_pos (by simp [h])

theorem State.frame_bad (h : (s.rectCh k).powered) (hx : barFrame (s.framed k type line).2 = none) :
    s.frame k type len line act =
      (s.beaten k type line).onBar k fun b => { b with frameErr := satAdd 0xFFFFFFFF b.frameErr 1 } := by
  rw [State.framed] at hx
  simp only [State.frame, h, hx]
  rfl

theorem State.frame_good (h : (s.rectCh k).powered) {y : Nat} {p : List Byte}
    (hx : barFrame (s.framed k type line).2 = some (y, p)) :
    s.frame k type len line act =
      if y = type ∧ len ≤ p.length then act p (s.beaten k type line) else s.beaten k type line := by
  rw [State.framed] at hx
  simp only [State.frame, h, hx]
  rfl

end

/-! ## COMMAND (R151, R168) -/

theorem State.command_start (s : State) (k : Nat) :
    s.command k 1 =
      let t := s.onBar k fun b => b.sent s.now 4 0
      if (s.rectCh k).st = .qualify ∧ (s.rectCh k).qualDone.isSome ∧ t.startAllowed k then
        (t.onRectCh k fun c => { c with ordered := true }).qualTry k
      else if (s.rectCh k).st = .autonomous ∧ t.startAllowed k then
        (t.onRectCh k fun c => { c with ordered := true }).autoTry k
      else t := by
  simp only [State.command, State.onBar_rectCh, if_true]

theorem State.command_stop (s : State) (k : Nat) :
    s.command k 2 = (s.onBar k fun b => b.sent s.now 4 0).onRectCh k fun c =>
      if (s.rectCh k).llc then { c with stopDue := true } else c.gatesStop :=
   State.onRectCh_congr (f := fun c => if c.llc then { c with stopDue := true } else c.gatesStop)
    (by simp only [State.onBar_rectCh])

theorem State.command_none (s : State) (k : Nat) {c : Nat} (h : c = 0 ∨ 5 < c) :
    s.command k c = s.onBar k fun b => b.sent s.now 4 0 := by
  have unknown : c ≠ 1 ∧ c ≠ 2 ∧ c ≠ 3 ∧ c ≠ 4 ∧ c ≠ 5 := by omega
  simp only [State.command, unknown, if_false]

/-- What each code of COMMAND does, after the frame's note that it awaits its ACK. -/
theorem State.command_does (s : State) (k c : Nat) :
    let t := s.onBar k fun b => b.sent s.now 4 0
    (c = 1 → (s.rectCh k).st = .qualify → (s.rectCh k).qualDone.isSome → t.startAllowed k →
      s.command k c = (t.onRectCh k fun c => { c with ordered := true }).qualTry k) ∧
    (c = 1 → (s.rectCh k).st = .autonomous → t.startAllowed k →
      s.command k c = (t.onRectCh k fun c => { c with ordered := true }).autoTry k) ∧
    (c = 1 → (t.startAllowed k = false ∨ ((s.rectCh k).st ≠ .autonomous ∧
      ((s.rectCh k).st ≠ .qualify ∨ (s.rectCh k).qualDone = none))) → s.command k c = t) ∧
    (c = 2 → (s.rectCh k).llc → s.command k c = t.onRectCh k fun c => { c with stopDue := true }) ∧
    (c = 2 → (s.rectCh k).llc = false → s.command k c = t.onRectCh k RectCh.gatesStop) ∧
    (c = 3 → s.command k c = t.onRectCh k fun c => { c with relay := false }) ∧
    (c = 4 → s.command k c = t.onRectCh k fun c => { c with ordered := false, autoAt := none }) ∧
    (c = 5 →
      s.command k c = (t.fltGone k).onRectCh k fun c => { c with srOff := false, bar := { c.bar with flt := false } }) ∧
    (c = 0 ∨ 5 < c → s.command k c = t) := by
  intro t
  refine ⟨?_, ?_, ?_, ?_, ?_, fun h => h ▸ rfl, fun h => h ▸ rfl, fun h => h ▸ rfl, s.command_none k⟩
  · rintro rfl hst hdone hgo
    rw [s.command_start]
    exact if_pos ⟨hst, hdone, hgo⟩
  · rintro rfl hst hgo
    rw [s.command_start]
    exact (if_neg (by simp [hst])).trans (if_pos ⟨hst, hgo⟩)
  · rintro rfl hbar
    have barred : ¬t.startAllowed k ∨
        (s.rectCh k).st ≠ .autonomous ∧ ¬((s.rectCh k).st = .qualify ∧ (s.rectCh k).qualDone.isSome) := by
      simpa [imp_iff_not_or] using hbar
    rw [s.command_start]
    exact (if_neg (by tauto)).trans (if_neg (by tauto))
  · rintro rfl llc
    simp only [s.command_stop, llc, if_true, t]
  · rintro rfl llc
    simp only [s.command_stop, llc, Bool.false_eq_true, if_false, t]

/-- Settles O37: the frames by what a side has of a line (`State.frame_good`), the heartbeats by side and by whether each
follows the last, and each TYPE by the effect of its row, COMMAND's code by code (`State.command_does`). -/
theorem barrierFramesRun : Obligations.BarrierFramesRun := by
  intro s k
  refine ⟨fun type len line act => ?frame, fun m line => ?beat, fun ok q v => ?side, fun _ => ⟨_, rfl, fun _ _ => rfl⟩,
    fun _ => ⟨_, rfl, fun _ _ => rfl⟩, fun _ => ⟨_, rfl, fun _ _ => rfl⟩,
    fun _ => ⟨_, rfl, fun p r => r.command_does k (u p 0 1)⟩, fun _ => ⟨_, rfl, fun _ _ => rfl⟩,
    fun _ => ⟨_, rfl, fun _ _ => rfl⟩, fun _ => ⟨_, rfl, fun p t => ?hello⟩, fun _ => ⟨_, rfl, fun _ _ => rfl⟩,
    fun _ => ⟨_, rfl, fun _ _ => rfl⟩, fun _ => ⟨_, rfl, fun p t => ?ack⟩, fun _ => ⟨_, rfl, fun p t => ?fault⟩,
    ?silence, fun _ => fires_ite rfl, fires_ite rfl⟩
  case frame =>
    exact ⟨State.frame_unpowered, State.frame_bad, fun h p hx hlen => (State.frame_good h hx).trans (if_pos ⟨rfl, hlen⟩),
      fun h y p hx hno => (State.frame_good h hx).trans (if_neg (by omega))⟩
  case beat =>
    exact ⟨barrierHeartbeat_unpowered m line,
      fun h => ⟨fun hb => State.beat_of_none _ k m hb ▸ barrierHeartbeat_powered m line h,
        fun q v hb => State.beat_of_some _ k m hb ▸ barrierHeartbeat_powered m line h⟩, rfl, rfl⟩
  case side => exact ⟨State.beatControl_bad v, State.beatControl_good v, State.beatMains_bad v, State.beatMains_good v⟩
  case hello =>
    exact if_congr (and_congr_right' (or_congr_right (by simp [Barrier.counted])))
      (if_congr (or_congr_right (by rw [Bool.not_eq_true']; rfl)) rfl rfl) rfl
  case ack =>
    -- The ACK of a frame leaves the note of what has landed.
    refine if_congr (and_congr_right' (and_congr_right' ?_)) rfl rfl
    rw [State.onBar_rectCh]
    dsimp only
    split <;> rfl
  case fault =>
    have shown := t.onRectCh_rectCh k fun c =>
      { c with bulk := u p 2 4, rms := u p 6 4, iOut := Sys2Proof.i p 10 4 }
    exact if_congr (by rw [shown]) rfl (if_congr (and_congr_right' (by rw [shown]; rfl)) rfl rfl)
  case silence => exact fires_ite_not rfl (not_or.trans (and_congr_right' (by simp)))

end Sys2Proof.Machine
end

section
/-! SUPPORT. The events of the bus and of the auxiliary inputs, where each acts; O38. -/

namespace Sys2Proof.Machine

/-- An event with two ways of being out of place. -/
theorem fires_ite_not_ite {c : Instr} {s t : State} {g a b : Prop} [Decidable a] [Decidable b]
    (h : exec c s = .next (if a then s else if b then s else t)) (e : ¬a ∧ ¬b ↔ g) : Fires c s g t := by
  refine fires_ite_not (b := a ∨ b) ?_ (not_or.trans e)
  rw [h]
  by_cases ha : a <;> simp [ha]

variable (s : State) (k : Nat)

/-! ## The edges of an input's window (R190, R193) -/

theorem State.auxExit_of_running (ov : Bool) (h : (s.auxCh k).running) :
    s.auxExit k ov = ((s.onAuxCh k fun c => { c with inWin := false }).auxTo k .absent).raise
      (if ov then 0x0811 else 0x0810) k := by
  simp only [AuxCh.running, Bool.or_eq_true, decide_eq_true_eq] at h
  rcases h with (h | h) | h <;> simp only [State.auxExit, State.onAuxCh_auxCh, h]

theorem State.auxExit_of_waiting (ov : Bool) (h : (s.auxCh k).st ∈ [AState.delay, .qualified, .ready, .matching]) :
    s.auxExit k ov = (s.onAuxCh k fun c => { c with inWin := false }).auxTo k .absent := by
  simp only [List.mem_cons, List.not_mem_nil, or_false] at h
  rcases h with h | h | h | h <;> simp only [State.auxExit, State.onAuxCh_auxCh, h]

theorem State.auxExit_of_out (ov : Bool) (h : (s.auxCh k).st ∈ [AState.off, .disabled, .absent, .fault, .latched]) :
    s.auxExit k ov = s.onAuxCh k fun c => { c with inWin := false } := by
  simp only [List.mem_cons, List.not_mem_nil, or_false] at h
  rcases h with h | h | h | h | h <;> simp only [State.auxExit, State.onAuxCh_auxCh, h]

theorem State.auxEnter_eq :
    s.auxEnter k =
      let t := s.onAuxCh k fun c => { c with inWin := true }
      if (s.auxCh k).st = .absent ∧ s.ctrlDown = false ∧ s.sys.fwReady then t.auxTo k .delay else t := by
  simp only [State.auxEnter, State.onAuxCh_auxCh, Bool.not_eq_true']
  rfl

theorem auxWindowExit_above {s : State} {k : Fin 2} {v held : Nat} (h : s.fld Fld.Bus.OV_MV k < v) :
    Goes (.auxWindowExit k v held) s (s.auxExit k true) :=
  congrArg Host.Outcome.next (if_pos h)

theorem auxWindowExit_under {s : State} {k : Fin 2} {v held : Nat} (h : ¬s.fld Fld.Bus.OV_MV k < v)
    (hv : v < s.fld Fld.Bus.UV_MV k ∧ s.fld Fld.Bus.UV_FILT_US k ≤ held) :
    Goes (.auxWindowExit k v held) s (s.auxExit k false) :=
  congrArg Host.Outcome.next ((if_neg h).trans (if_pos hv))

theorem auxWindowExit_inside {s : State} {k : Fin 2} {v held : Nat} (h : ¬s.fld Fld.Bus.OV_MV k < v)
    (hv : ¬(v < s.fld Fld.Bus.UV_MV k ∧ s.fld Fld.Bus.UV_FILT_US k ≤ held)) : Goes (.auxWindowExit k v held) s s :=
  congrArg Host.Outcome.next ((if_neg h).trans (if_neg hv))

/-- An exit whose effect does not depend on the side on which the voltage left. -/
theorem auxWindowExit_either {s t : State} {k : Fin 2} {v held : Nat} (ht : ∀ ov, s.auxExit k ov = t)
    (h : s.fld Fld.Bus.OV_MV k < v ∨ (v < s.fld Fld.Bus.UV_MV k ∧ s.fld Fld.Bus.UV_FILT_US k ≤ held)) :
    Goes (.auxWindowExit k v held) s t := by
  by_cases above : s.fld Fld.Bus.OV_MV k < v
  · exact ht true ▸ auxWindowExit_above above
  · exact ht false ▸ auxWindowExit_under above (h.resolve_left above)

/-! ## Currents and trips (R191, R193) -/

theorem State.auxLimit_walkIn {s : State} {k : Nat} (h : (s.auxCh k).st = .walkIn) :
    s.auxLimit k = (s.auxCh k).walk / (100 * max 1 (s.auxCh k).vin) := by
  simp only [State.auxLimit, h]

theorem State.auxTrip_eq (code : Nat) :
    s.auxTrip k code =
      let trips := recent s.now (sec 600) (s.auxCh k).trips
      let r := s.onAuxCh k fun c => { c with trips := trips }
      if trips.length < 4 then (r.auxTo k .fault).raise code k else ((r.auxTo k .latched).raise code k).raise 0x0815 k := by
  simp only [State.auxTrip, ← not_lt, ite_not]

theorem auxSoaTrip_cold {s : State} {k : Fin 2} (held : Nat) (h : (s.auxCh k).st = .coldConnect) :
    Goes (.auxSoaTrip k held) s ((s.advanceTo ((s.auxCh k).tState + ms (s.fld Fld.Bus.SOA_MS k))).auxTrip k 0x0812) :=
  congrArg Host.Outcome.next (if_pos h)

theorem auxSoaTrip_on {s : State} {k : Fin 2} (held : Nat) (h : (s.auxCh k).st ≠ .coldConnect) :
    Fires (.auxSoaTrip k held) s ((s.auxCh k).st = .on ∧ s.fld Fld.Bus.SOA_MS k ≤ held) (s.auxTrip k 0x0812) :=
  fires_ite (congrArg Host.Outcome.next (if_neg h))

/-! ## The break before make (R194) -/

theorem bbmGapDone_fires {s : State} {k : Fin 2} {t : Nat} (h : (s.auxCh (1 - k.val)).tOff = some t) :
    Fires (.bbmGapDone k) s ((s.auxCh (1 - k.val)).running = false)
      ((s.advanceTo (t + us (s.fld Fld.Bus.BBM_GAP_US))).onAuxCh k fun c => { c with gap := true }) := by
  refine fires_ite_not (b := (s.auxCh (1 - k.val)).running) ?_ Bool.eq_false_iff.symm
  show execBbmGapDone k s = _
  simp only [execBbmGapDone, h]

theorem bbmGapDone_never_off {s : State} {k : Fin 2} (h : (s.auxCh (1 - k.val)).tOff = none) : Goes (.bbmGapDone k) s s := by
  show execBbmGapDone k s = _
  simp only [execBbmGapDone, h]

/-- Settles O38: the exit from the window by the state that it finds, the trips by their count (`State.auxTrip_eq`), and each
of the others as a guarded effect. -/
theorem busEventsRun : Obligations.BusEventsRun := by
  intro s k
  refine ⟨fun _ _ => fires_ite rfl, fun _ => fires_ite_not_ite rfl ?busWindow, fun _ => s.auxEnter_eq k ▸ fires_ite rfl,
    ?windowExit, fires_ite rfl, Fires.congr ?matched (fires_ite rfl), fun _ _ => Fires.congr ?walkedIn (fires_ite rfl),
    fun _ => fires_ite rfl, ?trips, fires_ite rfl, fun _ h => bbmGapDone_fires h, bbmGapDone_never_off⟩
  case busWindow => exact and_congr (by omega) Bool.eq_false_iff.symm
  case windowExit =>
    intro t v held above under
    exact ⟨fun h hr => s.auxExit_of_running k true hr ▸ auxWindowExit_above h,
      fun h hv hr => s.auxExit_of_running k false hr ▸ auxWindowExit_under h hv,
      fun h hst => auxWindowExit_either (fun ov => s.auxExit_of_waiting k ov hst) h,
      fun h hst => auxWindowExit_either (fun ov => s.auxExit_of_out k ov hst) h, auxWindowExit_inside⟩
  case matched => simp
  case walkedIn => exact and_congr_right fun h => by rw [State.auxLimit_walkIn h]
  case trips =>
    intro trips trip
    have trip_eq (code : Nat) (t : State) : t.auxTrip k code = trip code t := t.auxTrip_eq k code
    simp only [← trip_eq]
    exact ⟨auxSoaTrip_cold, auxSoaTrip_on, fun _ => fires_ite rfl, fun _ _ => fires_ite rfl⟩

end Sys2Proof.Machine
end

section
/-! SUPPORT. The events of a battery string, its trips and the ends of its test; O39. -/

namespace Sys2Proof.Machine

/-! ## Trips and the end of discharge (R212, R217, R234) -/

theorem State.strTrip_eq (s : State) (k code : Nat) :
    s.strTrip k code =
      let trips := recent s.now (sec 600) (s.strCh k).trips
      let noted := s.onStrCh k fun c => { c with trips := trips }
      State.testLeave k (s.strCh k).st
        (if trips.length < 4 then (noted.strTo k .fault true).raise code k
          else ((noted.strTo k .latched true).raise code k).raise 0x090F k) := by
  by_cases h : 4 ≤ (recent s.now (sec 600) (s.strCh k).trips).length
  · simp only [State.strTrip, if_pos h, if_neg (not_lt.2 h)]
  · simp only [State.strTrip, if_neg h, if_pos (not_le.1 h)]

theorem stringOvertempTrip_fires {s : State} {k : Fin 2} {t : Int} (h : s.tBat k = some t) :
    Fires (.stringOvertempTrip k) s ((s.strCh k).running ∧ s.fldI Fld.Chg.TMAX_BAT k < t) (s.strTrip k 0x0909) := by
  refine Fires.congr ?_ (fires_ite rfl)
  simp [h]

theorem stringOvertempTrip_blind {s : State} {k : Fin 2} (h : s.tBat k = none) : Goes (.stringOvertempTrip k) s s := by
  show execStringOvertempTrip k s = _
  simp [execStringOvertempTrip, h]

theorem endOfDischarge_fires {s : State} {k : Fin 2} {t : Nat} (h : (s.strCh k).eodSince = some t) :
    Fires (.endOfDischarge k) s ((s.strCh k).st = .connected ∨ (s.strCh k).st = .test)
      (((s.advanceTo (t + sec 10)).strEod k).gaugeSnap k) := by
  refine fires_ite ?_
  show execEndOfDischarge k s = _
  simp only [execEndOfDischarge, h]

theorem endOfDischarge_not_due {s : State} {k : Fin 2} (h : (s.strCh k).eodSince = none) : Goes (.endOfDischarge k) s s := by
  show execEndOfDischarge k s = _
  simp only [execEndOfDischarge, h]

/-! ## Safety pins and temperature sensors (R214, R215) -/

theorem chgOkDeassert_raises {s : State} {k : Fin 2} (h : (s.strCh k).st ≠ .absent) :
    Goes (.chgOkDeassert k) s
      ((s.onStrCh k fun c => { c with chgPin := false, tChg := s.now, chgOk := false, iChg := 0 }).raise 0x090C k) :=
  congrArg Host.Outcome.next (if_pos (decide_eq_true h))

theorem chgOkDeassert_absent {s : State} {k : Fin 2} (h : (s.strCh k).st = .absent) :
    Goes (.chgOkDeassert k) s (s.onStrCh k fun c => { c with chgPin := false, tChg := s.now, chgOk := false, iChg := 0 }) :=
  congrArg Host.Outcome.next (if_neg (by simp [h]))

theorem ntcRecover_good {s : State} {k j : Fin 2} {t : Nat} (h : ((s.strCh k).ntc[j]).goodSince = some t) :
    Goes (.ntcRecover k j) s ((s.advanceTo (t + sec 10)).onStrCh k fun c =>
      { c with ntc := upd c.ntc j fun _ => { faulted := false, goodSince := none } }) := by
  show execNtcRecover k j s = _
  simp only [execNtcRecover, h]

theorem ntcRecover_bad {s : State} {k j : Fin 2} (h : ((s.strCh k).ntc[j]).goodSince = none) : Goes (.ntcRecover k j) s s := by
  show execNtcRecover k j s = _
  simp only [execNtcRecover, h]

/-! ## The ends of a test (R233) -/

theorem State.testEmpty_iff (s : State) (k : Nat) :
    s.testEmpty k ↔ (s.strCh k).test.end_ = 0 ∧ s.strV k ≤ s.fld Fld.Chg.CELLS k * s.fld Fld.Chg.EOD_MV_CELL k := by
  simp [State.testEmpty, State.packEod]

theorem State.testReached_iff (s : State) (k : Nat) :
    s.testReached k ↔
      ((s.strCh k).test.end_ = 1 ∧ ∃ r, (s.gaugeCh k).rep = some r ∧ r / 100 < (s.strCh k).test.value) ∨
        ((s.strCh k).test.end_ = 2 ∧ (s.strCh k).test.value ≤ (s.strCh k).test.mah) := by
  simp only [State.testReached, Bool.or_eq_true, Bool.and_eq_true, decide_eq_true_eq]
  cases (s.gaugeCh k).rep <;> simp

/-- The SOC and the charge end a test that was not to run dry. -/
theorem State.not_testEmpty_of_testReached {s : State} {k : Nat} (h : s.testReached k) : ¬s.testEmpty k := by
  rw [State.testReached_iff] at h
  rw [State.testEmpty_iff]
  omega

theorem State.testEnd_of_test {s : State} {k : Nat} (h : (s.strCh k).st = .test) (cause : Nat) :
    s.testEnd k cause = (s.strTo k .connected false).testOver k cause :=
  if_pos h

/-- What each cause does to a string that is in its test. -/
theorem stringTestEnd_of_test {s : State} {k : Fin 2} (h : (s.strCh k).st = .test) :
    Goes (.stringTestEnd k 0) s
        (if s.testEmpty k then (s.testEnd k 0).gaugeSnap k else if s.testReached k then s.testEnd k 0 else s) ∧
      Goes (.stringTestEnd k 1) s ((s.advanceTo ((s.strCh k).test.t0 + sec (60 * (s.strCh k).test.maxMin))).testEnd k 1) ∧
      Fires (.stringTestEnd k 2) s (s.busMains = false) (s.testEnd k 2) ∧
      Fires (.stringTestEnd k 3) s ((s.strCh (1 - k.val)).standby = false) (s.testEnd k 3) := by
  have running : ¬(s.strCh k).st ≠ .test := not_not.2 h
  exact ⟨congrArg _ (if_neg running), congrArg _ (if_neg running),
    fires_ite_not (congrArg _ (if_neg running)) Bool.eq_false_iff.symm,
    fires_ite_not (congrArg _ (if_neg running)) Bool.eq_false_iff.symm⟩

/-- Settles O39: the trips by their count (`State.strTrip_eq`), the ends of a test by the causes that hold
(`stringTestEnd_of_test`), and each of the others as a guarded effect. -/
theorem stringEventsRun : Obligations.StringEventsRun := by
  intro s k
  refine ⟨fun _ => fires_ite rfl, fires_ite rfl, chgOkDeassert_raises, chgOkDeassert_absent, rfl, rfl, rfl,
    fun _ _ => ntcRecover_good, fun _ => ntcRecover_bad, fires_ite rfl, ?_, fun _ _ => fires_ite rfl,
    ⟨fun _ => endOfDischarge_fires, endOfDischarge_not_due⟩, fun _ h => congrArg _ (if_pos h), ?_⟩
  · intro trips noted trip
    have trip_eq (code : Nat) (t : State) : t.strTrip k code = trip code t := t.strTrip_eq k code
    simp only [← trip_eq]
    exact ⟨fires_ite rfl, fun _ => fires_ite rfl, fun _ => stringOvertempTrip_fires, stringOvertempTrip_blind⟩
  · intro h test ends empty reached
    obtain ⟨byEnd, byTime, byBus, byOther⟩ := stringTestEnd_of_test h
    have ends_eq (cause : Nat) (t : State) (ht : (t.strCh k).st = .test) : t.testEnd k cause = ends cause t :=
      State.testEnd_of_test ht cause
    have empty_iff : s.testEmpty k ↔ empty := s.testEmpty_iff k
    have reached_iff : s.testReached k ↔ reached := s.testReached_iff k
    rw [← empty_iff, ← reached_iff, ← ends_eq 0 s h, ← ends_eq 1 (s.advanceTo (test.t0 + sec (60 * test.maxMin))) h,
      ← ends_eq 2 s h, ← ends_eq 3 s h]
    refine ⟨fun he => ?_, fun hr => ?_, fun he hr => ?_, byTime, byBus, byOther⟩
    · rwa [if_pos he] at byEnd
    · rwa [if_neg (State.not_testEmpty_of_testReached hr), if_pos hr] at byEnd
    · rwa [if_neg he, if_neg hr] at byEnd

end Sys2Proof.Machine
end

section
/-! SUPPORT. The answers of a command's own checks (R114), and a channel's number as its index. -/

namespace Sys2Proof.Machine

@[simp] theorem fin_coe {n : Nat} [NeZero n] (k : Fin n) : fin n k.val = k := Fin.ext (fin_val k.isLt)

variable {s : State} {o : Origin} {op priv chk : Nat} {act : State → Res × State}

/-- A command whose own check gives `code` is answered with it, and does nothing. -/
theorem State.run_answers {code : Nat} (h : s.admits o op priv) (k : chk = code) (n : code ≠ st.ok) :
    s.run o op priv chk act = s.answer o op code [] := by
  subst k
  exact State.run_rejected h n

/-- A command that passes its checks and does not end at once leaves what its act leaves. -/
theorem State.run_waits {t : State} (h : s.admits o op priv) (k : chk = st.ok) (e : act (s.accepted o priv) = (.later, t)) :
    s.run o op priv chk act = t := by
  rw [State.run_admitted h k, e]
  rfl

theorem paramState_bad {b : Bool} (c : Bool) (h : b = false) : paramState b c = st.badParam := by
  subst h
  rfl

theorem paramState_state {b c : Bool} (h : b = true) (k : c = false) : paramState b c = st.state := by
  subst h k
  rfl

theorem paramState_ok {b c : Bool} (h : b = true) (k : c = true) : paramState b c = st.ok := by
  subst h k
  rfl

/-- A command that waits once its checks of parameters and of state are passed. -/
theorem waits_checked {c : Instr} {t : State} {b k : Bool} {good barred : Prop}
    (run : exec c s = .next (s.run o op priv (paramState b k) act)) (waits : act (s.accepted o priv) = (.later, t))
    (hb : b = true ↔ good) (hk : k = false ↔ barred) (h : s.admits o op priv) :
    (¬good → Goes c s (s.answer o op st.badParam [])) ∧ (good → barred → Goes c s (s.answer o op st.state [])) ∧
      (good → ¬barred → Goes c s t) := by
  refine ⟨fun bad => ?_, fun g no => ?_, fun g can => ?_⟩
  · exact run.trans (congrArg _ (State.run_answers h (paramState_bad k (Bool.eq_false_iff.2 (mt hb.1 bad))) (by decide)))
  · exact run.trans (congrArg _ (State.run_answers h (paramState_state (hb.2 g) (hk.2 no)) (by decide)))
  · exact run.trans (congrArg _ (State.run_waits h (paramState_ok (hb.2 g) (Bool.eq_true_of_not_eq_false (mt hk.1 can))) waits))

end Sys2Proof.Machine
end

section
/-! SUPPORT. What resets the device: RST_N, the processors' own restarts, a cold reset's end and RESET; O19. -/

namespace Sys2Proof.Machine

/-! ## RST_N low (R44, R60) -/

/-- What RST_N low starts, by the mode that it finds. -/
def State.pinHold (s : State) : Mode → State
  | .running => (s.enterHold 2 false).onSys fun y => { y with pinRestart := true }
  | .hold | .holdOnly =>
    s.onSys fun y => { y with mode := .hold, tHold := y.time, cause := 2, tReset := y.time, pinRestart := true }
  | .bootRom | .bootLoader => (s.dropOwed.bootAgain 2).onHif Hif.bootEntry
  | .coldReset => s

theorem pinResetAssert_fires (s : State) :
    Fires .pinResetAssert s (s.sys.por = false ∧ s.sys.rstLow = false ∧ s.sys.vioHost)
      ((s.onSys fun y => { y with rstLow := true }).pinHold s.sys.mode) :=
  fires_ite_not rfl (by simp)

theorem pinResetAssert_finds {s : State} {m : Mode} (up : s.sys.por = false) (high : s.sys.rstLow = false)
    (bank : s.sys.vioHost) (h : s.sys.mode = m) :
    Goes .pinResetAssert s ((s.onSys fun y => { y with rstLow := true }).pinHold m) :=
  h ▸ (pinResetAssert_fires s).1 ⟨up, high, bank⟩

theorem pinResetAssert_unheeded {s : State} (h : s.sys.por ∨ s.sys.rstLow ∨ s.sys.vioHost = false) :
    Goes .pinResetAssert s s :=
  (pinResetAssert_fires s).2 fun ⟨up, high, bank⟩ => by simp [up, high, bank] at h

/-! ## RESET (R62) -/

section
variable {s : State} {o : Origin} {p : List Byte} (admitted : s.admits o 0x0110 (if u p 0 1 = 2 then 2 else 1))
include admitted

theorem reset_admitted (len : p.length = 2) (kind : u p 0 1 = 1 ∨ u p 0 1 = 2) (key : u p 1 1 = 0x5A) :
    Goes (.reset o p) s (((s.accepted o (if u p 0 1 = 2 then 2 else 1)).onSys fun y =>
      { y with resetDue := some (u p 0 1, o.itf) }).finish o 0x0110 st.ok []).serveReset :=
  congrArg (fun t : State => Host.Outcome.next t.serveReset)
    (State.run_done admitted (param_ok (decide_eq_true ⟨len, kind, key⟩)) rfl (by decide))

theorem reset_rejected (bad : p.length ≠ 2 ∨ (u p 0 1 ≠ 1 ∧ u p 0 1 ≠ 2) ∨ u p 1 1 ≠ 0x5A) :
    Goes (.reset o p) s (s.answer o 0x0110 st.badParam []).serveReset :=
  congrArg (fun t : State => Host.Outcome.next t.serveReset)
    (State.run_answers admitted (param_bad (decide_eq_false (by omega))) (by decide))

end

/-- Settles O19: RST_N low by the mode that it finds (`State.pinHold`), RESET by its check, and each of the others as a guarded
effect. -/
theorem resetsRun : Obligations.ResetsRun := by
  intro s
  exact ⟨pinResetAssert_unheeded, pinResetAssert_finds, pinResetAssert_finds,
    fun up high bank h =>
      ⟨_, h.elim (pinResetAssert_finds up high bank) (pinResetAssert_finds up high bank), rfl, rfl, rfl, rfl⟩,
    fun up high bank h => h.elim (pinResetAssert_finds up high bank) (pinResetAssert_finds up high bank), rfl, rfl, rfl,
    fires_ite rfl, fires_ite_not rfl (by simp), fun _ _ => reset_admitted, fun _ _ => reset_rejected⟩

end Sys2Proof.Machine
end

section
/-! SUPPORT. The shutdown of a zone of the control die and its end, and the fans' duty; O53. -/

namespace Sys2Proof.Machine

/-! ## The shutdown of a zone (R441, R443) -/

theorem thermalShutdown_fires (s : State) (z : Fin 4) :
    Fires (.thermalShutdown z) s (s.zoneAt 1500 z ∧ (s.therm.zone[fin 5 z.val]).shut = false) (s.ctrlHeat z) :=
  Fires.congr (by simp) (fires_ite rfl)

/-- R443: an entry of zone `z` into shutdown, counted over the lifetime. -/
def State.heatCounted (s : State) (z : Nat) (latch : Bool) : State :=
  let r := s.onTherm fun h => { h with zone := upd h.zone (fin 5 z) fun _ => { shut := true, coolSince := none } }
  (r.onTherm fun h =>
    { h with
      ctrlIn := recent s.now (sec 3600) s.therm.ctrlIn, ctrlLatch := latch
      life := (satAdd 0xFFFF h.life.1 1, satAdd 0xFFFF h.life.2.1 (if latch then 1 else 0), h.life.2.2) }).ctrlStop.raise 0x1102

section
variable {s : State} {z : Nat}

theorem State.ctrlHeat_down (h : s.ctrlDown) :
    s.ctrlHeat z =
      s.onTherm fun h => { h with zone := upd h.zone (fin 5 z) fun _ => { shut := true, coolSince := none } } :=
  if_pos h

theorem State.ctrlHeat_up (h : s.ctrlDown = false) :
    s.ctrlHeat z =
      let latch : Bool := 3 ≤ (recent s.now (sec 3600) s.therm.ctrlIn).length
      let t := if latch then (s.heatCounted z latch).raise 0x1104 else s.heatCounted z latch
      t.vWrite 4 t.therm.item :=
  if_neg (ne_true_of_eq_false h)

theorem State.ctrlHeat_counts (h : s.ctrlDown = false) (few : (recent s.now (sec 3600) s.therm.ctrlIn).length < 3) :
    s.ctrlHeat z = (s.heatCounted z false).vWrite 4 (s.heatCounted z false).therm.item := by
  rw [State.ctrlHeat_up h, decide_eq_false (Nat.not_le.2 few)]
  rfl

theorem State.ctrlHeat_latches (h : s.ctrlDown = false) (third : 3 ≤ (recent s.now (sec 3600) s.therm.ctrlIn).length) :
    s.ctrlHeat z =
      ((s.heatCounted z true).raise 0x1104).vWrite 4 ((s.heatCounted z true).raise 0x1104).therm.item := by
  rw [State.ctrlHeat_up h, decide_eq_true third]
  rfl

end

/-! ## Its end (R442) -/

theorem thermalShutdownEnd_out {s : State} {z : Fin 5}
    (h : (s.therm.zone[z]).shut = false ∨ (s.therm.zone[z]).coolSince = none) : Goes (.thermalShutdownEnd z) s s := by
  show execThermalShutdownEnd z s = _
  rcases h with shut | since
  · simp only [execThermalShutdownEnd, shut]
  · cases shut : (s.therm.zone[z]).shut <;> simp only [execThermalShutdownEnd, shut, since]

/-- What 100 ms below 125.0 °C leave of a zone's shutdown, before what it releases. -/
def State.zoneCooled (s : State) (z : Fin 5) (t : Nat) : State :=
  (s.advanceTo (t + ms 100)).onTherm fun h => { h with zone := upd h.zone z fun _ => { shut := false, coolSince := none } }

theorem thermalShutdownEnd_cooled {s : State} {z : Fin 5} {t : Nat} (shut : (s.therm.zone[z]).shut)
    (since : (s.therm.zone[z]).coolSince = some t) :
    Goes (.thermalShutdownEnd z) s
      (let r := s.zoneCooled z t
       if (if z.val = 4 then s.therm.mainsLatch else s.therm.ctrlLatch) then r
       else if z.val = 4 ∨ (r.raise 0x1103).ctrlDown then r.raise 0x1103 else (r.raise 0x1103).ctrlRelease) := by
  show execThermalShutdownEnd z s = _
  simp only [execThermalShutdownEnd, shut, since]
  rfl

/-! ## The fans (R449) -/

section
variable {s : State} {m : Fin 4}

/-- A change of a fan depends on the fan alone. -/
theorem State.onFan_congr {f g : Fan → Fan} (h : f (s.therm.fan[m]) = g (s.therm.fan[m])) :
    (s.onTherm fun x => { x with fan := upd x.fan m f }) = s.onTherm fun x => { x with fan := upd x.fan m g } := by
  simp only [State.onTherm, upd, h]

theorem State.fanUpdate_absent (h : s.flag Fld.Therm.FITTED m = false) :
    s.fanUpdate m = (s.onTherm fun h =>
      { h with fan := upd h.fan m fun f => { f with duty := 0, forced := false, stalled := false } }).fanDrive m 0 1 := by
  simp only [State.fanUpdate, h, Bool.not_false, if_true, fin_coe]

/-- The temperature that a fan's duty goes by: it falls behind its source by the hysteresis. -/
def State.fanUsed (s : State) (m : Fin 4) (t : Int) : Int :=
  max t (min (s.therm.fan[m]).tUsed (t + s.fldI Fld.Therm.HYST m))

/-- A fan that is fitted runs at full duty while it is forced, and by its temperature otherwise. -/
theorem State.fanUpdate_fitted (h : s.flag Fld.Therm.FITTED m) :
    s.fanUpdate m =
      let t := (s.fanSource m).getD (s.therm.fan[m]).tSrc
      let forced : Bool := 1 ≤ s.therm.step || (s.therm.fan[m]).stalled || (s.fanSource m).isNone
      let den := if forced then 1 else s.fanSpan m
      let num := if forced then 100 else s.fanDuty m (s.fanUsed m t)
      (s.onTherm fun h => { h with fan := upd h.fan m fun f =>
        { f with duty := num / max 1 den, forced := forced, tUsed := s.fanUsed m t, tSrc := t } }).fanDrive m num den := by
  simp only [State.fanUpdate, State.fanUsed, h, Bool.not_true, Bool.false_eq_true, if_false, fin_coe]

theorem State.fanUpdate_forced {t : Int} (h : s.flag Fld.Therm.FITTED m) (src : s.fanSource m = some t)
    (forced : 1 ≤ s.therm.step ∨ (s.therm.fan[m]).stalled) :
    s.fanUpdate m = (s.onTherm fun h => { h with fan := upd h.fan m fun f =>
      { f with duty := 100, forced := true, tUsed := s.fanUsed m t, tSrc := t } }).fanDrive m 100 1 := by
  have on : (decide (1 ≤ s.therm.step) || (s.therm.fan[m]).stalled) = true := by simpa using forced
  simp only [State.fanUpdate_fitted h, src, on, Bool.true_or, Option.getD_some, if_true, Nat.max_self, Nat.div_one]

theorem State.fanUpdate_free {t : Int} (h : s.flag Fld.Therm.FITTED m) (src : s.fanSource m = some t)
    (cool : s.therm.step = 0) (turns : (s.therm.fan[m]).stalled = false) :
    s.fanUpdate m = (s.onTherm fun h => { h with fan := upd h.fan m fun f =>
      { f with
        duty := s.fanDuty m (s.fanUsed m t) / max 1 (s.fanSpan m), forced := false, tUsed := s.fanUsed m t
        tSrc := t } }).fanDrive m (s.fanDuty m (s.fanUsed m t)) (s.fanSpan m) := by
  have off : decide (1 ≤ s.therm.step) = false := by simp [cool]
  simp only [State.fanUpdate_fitted h, src, off, turns, Option.isNone_some, Bool.or_false, Option.getD_some,
    Bool.false_eq_true, if_false]

/-- A fan whose source reads nothing keeps the source's last reading. -/
theorem State.fanUpdate_blind (h : s.flag Fld.Therm.FITTED m) (src : s.fanSource m = none) :
    s.fanUpdate m = (s.onTherm fun h => { h with fan := upd h.fan m fun f =>
      { f with duty := 100, forced := true, tUsed := s.fanUsed m (s.therm.fan[m]).tSrc } }).fanDrive m 100 1 := by
  simp only [State.fanUpdate_fitted h, src, Option.isNone_none, Bool.or_true, Option.getD_none, if_true, Nat.max_self,
    Nat.div_one]
  exact congrArg (State.fanDrive m 100 1) (State.onFan_congr rfl)

end

/-- Settles O53: the shutdown of a zone by the entries that it finds (`State.ctrlHeat_up`), its end by the latch, the fans by
what forces them (`State.fanUpdate_fitted`), and each of the others as a guarded effect. -/
theorem thermalRuns : Obligations.ThermalRuns := by
  intro s
  refine ⟨fun temps => ?window, fun z => ?shutdown, fun _ => thermalShutdownEnd_out, fun z t shut since => ?cooled,
    fires_ite rfl, fun m => ?fan, fun m held => ⟨Fires.congr (by simp) (fires_ite rfl), fires_ite rfl⟩⟩
  case window =>
    show execThermalWindow temps s = _
    simp only [execThermalWindow, State.thermalWindow]
  case shutdown =>
    obtain ⟨enters, stays⟩ := thermalShutdown_fires s z
    exact ⟨stays, fun hot down => State.ctrlHeat_down down ▸ enters hot,
      fun hot up few => State.ctrlHeat_counts up few ▸ enters hot,
      fun hot up third => State.ctrlHeat_latches up third ▸ enters hot⟩
  case cooled =>
    have ends := thermalShutdownEnd_cooled shut since
    exact ⟨fun latched => ends.trans (congrArg _ (if_pos latched)),
      fun free => ends.trans (congrArg _ (if_neg (ne_true_of_eq_false free)))⟩
  case fan =>
    exact ⟨State.fanUpdate_absent, fun _ => State.fanUpdate_forced, fun _ => State.fanUpdate_free,
      fun fitted blind => ⟨_, State.fanUpdate_blind fitted blind⟩⟩

end Sys2Proof.Machine
end

section
/-! SUPPORT. A raise leaves the sequencer as it is, whatever handler, card or hold mode it brings (R483–R489). -/

namespace Sys2Proof.Machine

variable (s : State) (code ch sev : Nat) (p : FaultParam) (cap : Bool) (e : QEntry)

@[simp] theorem State.setLast_seq : (s.setLast code ch sev).seq = s.seq := by
  unfold State.setLast
  repeat' split
  all_goals rfl

@[simp] theorem State.trigger_seq (chan evSeq : Nat) : (s.trigger code chan evSeq).2.seq = s.seq := by
  unfold State.trigger
  dsimp only
  repeat' split
  all_goals rfl

@[simp] theorem State.flood_seq (type value : Nat) : (s.flood type code value).seq = s.seq := by
  unfold State.flood State.sendOn
  split <;> rfl

@[simp] theorem State.irq_seq (blk : Nat) : (s.irq blk).seq = s.seq := rfl

@[simp] theorem State.log_seq (x : Entry) : (s.log x).seq = s.seq := rfl

@[simp] theorem State.card_seq (evSeq : Nat) (payload : List Byte) : (s.card code ch sev evSeq payload).seq = s.seq := rfl

@[simp] theorem State.record_seq : (s.record code ch sev p cap).2.seq = s.seq := by
  unfold State.record
  simp only [State.onFlt_seq, apply_ite State.seq, State.flood_seq, State.irq_seq, State.card_seq, State.log_seq, ite_self]
  split <;> simp

@[simp] theorem State.placeHeld_seq : (s.placeHeld e).seq = s.seq := by
  unfold State.placeHeld
  split <;> simp

@[simp] theorem State.raiseHeld_seq : (s.raiseHeld code ch sev p).seq = s.seq := by
  simp [State.raiseHeld, apply_ite State.seq]

@[simp] theorem State.holdCore_seq (cause : Nat) (counted : Bool) : (s.holdCore cause counted).seq = s.seq := rfl

@[simp] theorem State.holdLimit_seq : s.holdLimit.seq = s.seq := by
  simp [State.holdLimit, apply_ite State.seq]

@[simp] theorem State.enterHold_seq (cause : Nat) (counted : Bool) : (s.enterHold cause counted).seq = s.seq := by
  simp [State.enterHold, apply_ite State.seq]

@[simp] theorem State.place_seq : (s.place e).seq = s.seq := by
  unfold State.place
  split
  · simp
  · split <;> simp

@[simp] theorem State.raise_seq : (s.raise code ch).seq = s.seq := by
  unfold State.raise State.raiseWith
  split <;> simp [apply_ite State.seq]

end Sys2Proof.Machine
end

section
/-! SUPPORT. What an edge of a pin reaches: the capture channels, and nothing else (R44, R419). -/

namespace Sys2Proof.Machine

/-- `t` differs from `s` at most in the capture/compare channels. -/
def OnlyCaptures (s t : State) : Prop := t = { s with meas := { s.meas with cc := t.meas.cc } }

theorem OnlyCaptures.trans {s t r : State} (a : OnlyCaptures s t) (b : OnlyCaptures t r) : OnlyCaptures s r := by
  unfold OnlyCaptures at *
  rw [b, a]

theorem State.capture_only (s : State) (k : Nat) (rising : Bool) (held : Nat) : OnlyCaptures s (s.capture k rising held) := by
  unfold State.capture OnlyCaptures
  extract_lets
  split <;> rfl

theorem State.each_only {α : Type} {f : α → State → State} (hf : ∀ x s, OnlyCaptures s (f x s)) (xs : List α)
    (s : State) : OnlyCaptures s (s.each xs f) := by
  induction xs generalizing s with
  | nil => rfl
  | cons x xs ih => exact (hf x s).trans (ih (f x s))

variable (s : State) (input : Nat) (rising : Bool) (held : Nat)

theorem State.pinEdge_only : OnlyCaptures s (s.pinEdge input rising held) :=
  State.each_only (fun k s => s.capture_only k rising held) _ s

@[simp] theorem State.pinEdge_seq : (s.pinEdge input rising held).seq = s.seq :=
  (congrArg State.seq (s.pinEdge_only input rising held) :)

@[simp] theorem State.pinEdge_sys : (s.pinEdge input rising held).sys = s.sys :=
  (congrArg State.sys (s.pinEdge_only input rising held) :)

@[simp] theorem State.pinEdge_cfg : (s.pinEdge input rising held).cfg = s.cfg :=
  (congrArg State.cfg (s.pinEdge_only input rising held) :)

theorem State.pinEdge_now : (s.pinEdge input rising held).now = s.now :=
  congrArg Sys.time (s.pinEdge_sys input rising held)

@[simp] theorem State.pinEdge_tach : (s.pinEdge input rising held).meas.tach = s.meas.tach :=
  (congrArg (fun t : State => t.meas.tach) (s.pinEdge_only input rising held) :)

/-- The live values are those of the copies. -/
theorem State.fld_congr {s t : State} (h : t.cfg = s.cfg) (f : Field) (ch : Nat) : t.fld f ch = s.fld f ch := by
  simp only [State.fld, State.copy, h]

@[simp] theorem State.pinEdge_fld (f : Field) (ch : Nat) : (s.pinEdge input rising held).fld f ch = s.fld f ch :=
  State.fld_congr (s.pinEdge_cfg input rising held) f ch

end Sys2Proof.Machine
end

section
/-! SUPPORT. The sequencer's steps, its pins, the monitors, the watchdog input and the block's commands; O51. -/

namespace Sys2Proof.Machine

/-! ## Steps (R386, R388, R389) -/

theorem seqStepSettled_due {s : State} {t : Nat} (h : s.seq.settleSince = some t) :
    Fires .seqStepSettled s ((s.seq.st = .running ∧ s.seq.phase = .wait) ∧ s.seq.cond)
      (s.advanceTo (tickUp (t + us (10 * u (seqStepOf s.seq.table s.seq.step) 8 2)))).seqDelay := by
  refine Fires.congr and_assoc.symm (fires_ite ?_)
  show execSeqStepSettled s = _
  simp only [execSeqStepSettled, h]

theorem seqStepSettled_idle {s : State} (h : s.seq.settleSince = none) : Goes .seqStepSettled s s := by
  show execSeqStepSettled s = _
  simp only [execSeqStepSettled, h]

theorem seqMemberLost_fires (s : State) (j : Fin 32) :
    let t := seqStepOf s.seq.table j.val
    Fires (.seqMemberLost j) s (s.seq.st = .running ∧ j.val < s.seq.step ∧ s.stepBad t ≠ (0, 0))
      (((s.onSeq fun q => { q with bad := s.stepBad t }).raise 0x0F04).onSeq fun q =>
        { q with
          bad := s.seq.bad
          lost := if seqKind s.seq.table ≠ 1 ∧ u t 14 1 ≠ 1 then q.lost ++ [j.val] else q.lost }) := by
  refine fires_ite ?_
  show execSeqMemberLost j s = _
  simp only [execSeqMemberLost, State.raise_seq, State.onSeq_seq, Bool.and_eq_true, decide_eq_true_eq]

/-! ## The cascade pins (R392, R393) -/

theorem seqInChange_fires (s : State) (level : Bool) (held : Nat) :
    let r := s.pinEdge 5 level (us held)
    Goes (.seqInChange level held) s
      (if s.sys.vioHost ∧ s.fld Fld.Seq.SEQ_IN_FILT_US ≤ held then (r.onSeq fun q => { q with seqIn := level }).seqEval
        else r) := by
  show execSeqInChange level held s = _
  simp only [execSeqInChange, State.pinEdge_sys, State.pinEdge_fld]

/-- The fall of SEQ_FLT_N as the capture channels see it: once, where the pin was high. -/
def State.fltFalls (s : State) (low : Nat) : State := if s.seq.fltPin then s.pinEdge 7 false (us low) else s

@[simp] theorem State.fltFalls_seq (s : State) (low : Nat) : (s.fltFalls low).seq = s.seq := by
  unfold State.fltFalls
  split <;> simp

@[simp] theorem State.fltFalls_sys (s : State) (low : Nat) : (s.fltFalls low).sys = s.sys := by
  unfold State.fltFalls
  split <;> simp

theorem seqFltSensed_eq (s : State) (low : Nat) :
    let t := (s.fltFalls low).onSeq fun q => { q with fltPin := false }
    Goes (.seqFltSensed low) s
      (if s.sys.vioHost ∧ 2 ≤ low then
        if s.seq.fltPin ∧ s.seq.fltOwn = false then (t.raise 0x0F05).onSeq fun q => { q with fltDue := true } else t
      else s.fltFalls low) := by
  show Host.Outcome.next
    (let t := (s.fltFalls low).onSeq fun q => { q with fltPin := false }
     if !(s.fltFalls low).sys.vioHost ∨ low < 2 then s.fltFalls low
     else if s.seq.fltPin ∧ !t.seq.fltOwn then (t.raise 0x0F05).onSeq fun q => { q with fltDue := true } else t) = _
  have unheeded : (s.sys.vioHost = false ∨ low < 2) ↔ ¬(s.sys.vioHost ∧ 2 ≤ low) := by
    rw [not_and_or, Nat.not_le, Bool.not_eq_true]
  simp only [State.fltFalls_sys, State.onSeq_seq, State.fltFalls_seq, Bool.not_eq_true',
    unheeded, ite_not]

/-! ## The tick (R383, R385) -/

theorem State.seqTick_quiet {s : State} (lost : s.seq.lost = []) (flt : s.seq.fltDue = false) (start : s.seq.startDue = none) :
    let r := s.onSeq fun q => { q with lost := [] }
    s.seqTick =
      if r.powerUpGo then
        ((r.onSeq fun q => { q with deferred := false }).seqBegin (s.fld Fld.Seq.PWRUP_INST)).seqEval.wdTick
      else r.seqEval.wdTick := by
  simp only [State.seqTick, lost, State.lostAct, ite_self, State.onSeq_seq, flt, start, Bool.false_eq_true, if_false]
  split <;> rfl

theorem State.powerUpGo_iff (s : State) :
    s.powerUpGo ↔ s.seq.deferred ∧ s.seq.st = .idle ∧ s.sys.fwReady ∧ s.sys.mode ≠ .coldReset ∧ 44000 ≤ s.vBus ∧
      s.vBus ≤ 57600 ∧ s.fltLow = false ∧ s.ctrlDown = false := by
  simp [State.powerUpGo, State.mayPowerUp, State.busUp, and_assoc]

/-! ## The monitors (R394) -/

theorem State.emTurns_iff (s : State) (m : Fin 16) :
    s.emTurns m ↔ s.flag Fld.Seq.EN m ∧ s.fld Fld.Seq.FILT m ≤ (s.seq.em[m]).count := by
  simp [State.emTurns]

/-- A monitor's flag as its exit sets it, and the rail's voltage for the fault's card. -/
def State.emOut (s : State) (m : Fin 16) : State :=
  s.onSeq fun q =>
    { q with em := upd q.em m fun e => { e with out := true, count := 0 }, emFault := m.val, emValue := (s.seq.em[m]).vRail }

/-- What the exit brings, by the monitor's ACTION. -/
def State.emAct (s : State) (m : Fin 16) (action : Nat) : State :=
  let r := (s.emOut m).raise (if action = 0 then 0x0F06 else 0x0F07) m
  (if action = 2 then r.fltAssert else r).seqEval

theorem State.emAct_other (s : State) (m : Fin 16) {action : Nat} (h : action ≠ 0) (k : action ≠ 2) :
    s.emAct m action = ((s.emOut m).raise 0x0F07 m).seqEval := by
  simp only [State.emAct, if_neg h, if_neg k]

theorem emWindowExit_fires (s : State) (m : Fin 16) :
    Fires (.emWindowExit m) s
      ((s.flag Fld.Seq.EN m ∧ s.fld Fld.Seq.FILT m ≤ (s.seq.em[m]).count) ∧ (s.seq.em[m]).out = false)
      (s.emAct m (s.fld Fld.Seq.ACTION m)) :=
  Fires.congr (by rw [State.emTurns_iff, Bool.not_eq_true']) (fires_ite rfl)

/-! ## The watchdog input (R396, R397) -/

theorem State.wdExpire_eq (s : State) :
    s.wdExpire =
      let r := (s.onSeq fun q =>
        { q with wdArm := none, wdEdge := none, pulse := some s.now, expiries := satAdd 0xFFFF q.expiries 1 }).raise 0x0F08
      let inst := r.fld Fld.Seq.WD_SEQ
      let kind := seqKind (r.seqTable inst)
      if inst = 0xFF ∨ r.hasTable 0x06 inst = false then r
      else if kind = 1 ∨ (r.seq.st = .idle ∧ ¬(kind = 0 ∧ r.fltLow)) then
        r.onSeq fun q => { q with startDue := some (inst, kind = 1) }
      else r := by
  simp only [State.wdExpire, Bool.not_eq_true', decide_eq_false_iff_not]

/-- R396: an edge at `now` comes sooner after the last one than WD_MIN_MS. -/
def State.wdEarly (s : State) (now : Nat) : Bool :=
  match s.seq.wdEdge with
  | some e => now < e + ms (s.fld Fld.Seq.WD_MIN_MS)
  | none => false

/-- A WDI edge at `t` as the capture channels see it. -/
def State.wdArrives (s : State) (t : Nat) : State := (s.advanceTo t).pinEdge 6 true (us 1)

section
variable {s : State} {t a e now : Nat}

theorem wdiEdge_ignored (h : s.seq.wdArm = none ∨ s.sys.vioHost = false) : Goes (.wdiEdge t) s (s.wdArrives t) := by
  refine congrArg Host.Outcome.next (if_pos ?_)
  rw [State.pinEdge_seq, State.pinEdge_sys, Option.isNone_iff_eq_none, Bool.not_eq_true']
  exact h

theorem wdiEdge_heeded (arm : s.seq.wdArm = some a) (bank : s.sys.vioHost) :
    Goes (.wdiEdge t) s
      (if s.wdEarly (s.wdArrives t).now ∨ s.wdLimit < (s.wdArrives t).now then (s.wdArrives t).wdExpire
        else (s.wdArrives t).onSeq fun q => { q with wdEdge := some (s.wdArrives t).now }) := by
  have seq : (s.wdArrives t).seq = s.seq := State.pinEdge_seq ..
  have sys : (s.wdArrives t).sys = (s.advanceTo t).sys := State.pinEdge_sys ..
  have fld (f : Field) (ch : Nat) : (s.wdArrives t).fld f ch = s.fld f ch := State.pinEdge_fld ..
  have early : (s.wdArrives t).wdEarly (s.wdArrives t).now = s.wdEarly (s.wdArrives t).now := by
    simp only [State.wdEarly, seq, fld]
  have limit : (s.wdArrives t).wdLimit = s.wdLimit := by simp only [State.wdLimit, seq, fld]
  have heeded : ¬((s.wdArrives t).seq.wdArm.isNone ∨ !(s.wdArrives t).sys.vioHost) := by
    simp [seq, sys, arm, bank, State.advanceTo]
  rw [← early, ← limit]
  exact congrArg Host.Outcome.next (if_neg heeded)

theorem wdiEdge_notes (arm : s.seq.wdArm = some a) (bank : s.sys.vioHost) (early : s.wdEarly (s.wdArrives t).now = false)
    (late : (s.wdArrives t).now ≤ s.wdLimit) :
    Goes (.wdiEdge t) s ((s.wdArrives t).onSeq fun q => { q with wdEdge := some (s.wdArrives t).now }) :=
  (wdiEdge_heeded arm bank).trans (congrArg _ (if_neg (by simp [early, late])))

theorem wdiEdge_expires (arm : s.seq.wdArm = some a) (bank : s.sys.vioHost)
    (h : s.wdEarly (s.wdArrives t).now ∨ s.wdLimit < (s.wdArrives t).now) :
    Goes (.wdiEdge t) s (s.wdArrives t).wdExpire :=
  (wdiEdge_heeded arm bank).trans (congrArg _ (if_pos h))

theorem State.wdEarly_first (h : s.seq.wdEdge = none) : s.wdEarly now = false := by simp only [State.wdEarly, h]

theorem State.wdEarly_next (h : s.seq.wdEdge = some e) :
    s.wdEarly now = decide (now < e + ms (s.fld Fld.Seq.WD_MIN_MS)) := by
  simp only [State.wdEarly, h]

theorem State.wdLimit_first (arm : s.seq.wdArm = some a) (h : s.seq.wdEdge = none) :
    s.wdLimit = a + ms (s.fld Fld.Seq.WD_START_MS) := by
  simp only [State.wdLimit, arm, h, Option.getD_some]

theorem State.wdLimit_next (h : s.seq.wdEdge = some e) : s.wdLimit = e + ms (s.fld Fld.Seq.WD_MAX_MS) := by
  simp only [State.wdLimit, h]

theorem wdiExpiry_unarmed (h : s.seq.wdArm = none) : Goes .wdiExpiry s s :=
  congrArg Host.Outcome.next (if_pos (by rw [h]; rfl))

theorem wdiExpiry_armed (h : s.seq.wdArm = some a) : Goes .wdiExpiry s (s.advanceTo s.wdLimit).wdExpire :=
  congrArg Host.Outcome.next (if_neg (by simp [h]))

theorem rstPulseEnd_idle (h : s.seq.pulse = none) : Goes .rstPulseEnd s s := by
  show execRstPulseEnd s = _
  simp only [execRstPulseEnd, h]

theorem rstPulseEnd_pulse (h : s.seq.pulse = some t) :
    Goes .rstPulseEnd s
      ((s.advanceTo (t + ms (s.fld Fld.Seq.RST_PULSE_MS))).onSeq fun q => { q with pulse := none }).wdTick := by
  show execRstPulseEnd s = _
  simp only [execRstPulseEnd, h]

end

/-! ## The commands (R401, R402, R404) -/

theorem State.startRefuse_iff (s : State) (inst : Nat) :
    s.startRefuse inst ↔ s.ctrlDown ∨ (seqKind (s.seqTable inst) = 0 ∧ s.fltLow) ∨
      (seqKind (s.seqTable inst) ≠ 1 ∧ s.seq.st ≠ .idle) := by
  simp [State.startRefuse, or_assoc]

theorem State.seqCtlRefuse_iff (s : State) (a : Nat) :
    s.seqCtlRefuse a ↔ (a = 1 ∧ s.seq.st = .idle) ∨ (a = 2 ∧ s.seq.st ≠ .held) := by
  simp [State.seqCtlRefuse]

theorem State.onHif_erase {s : State} {w : Wait} (only : s.hif.waits = [w]) :
    (s.onHif fun h => { h with waits := h.waits.erase w }) = s.onHif fun h => { h with waits := [] } := by
  simp only [State.onHif, only, List.erase_cons_head]

/-- The tick with one command of the block waiting. -/
theorem State.seqServe_one {s : State} {w : Wait} (only : s.hif.waits = [w]) (new : w.started = 0)
    (mine : w.op = 0x0F01 ∨ w.op = 0x0F02) :
    s.seqServe =
      let t := s.onHif fun h => { h with waits := [] }
      let inst := u w.own 0 1
      if w.op = 0x0F02 then (t.seqControl inst).2.finish w.o w.op (t.seqControl inst).1 []
      else if s.startRefuse inst then t.finish w.o w.op st.state []
      else if u w.own 1 1 = 1 then (t.seqBegin inst).finish w.o w.op st.ok [0, byte (t.seqBegin inst).seq.step]
      else (s.seqPreempt.onHif fun h => { h with waits := h.waits.replace w (w.start 0) }).seqBegin inst := by
  have taken : s.hif.waits.filter (fun w => (w.op = 0x0F01 || w.op = 0x0F02) && w.started = 0) = [w] := by
    simpa [only, new] using mine
  have waits : ¬w ∉ s.hif.waits := by simp [only]
  rw [State.seqServe, taken, List.foldl_cons, List.foldl_nil, if_neg waits, State.onHif_erase only]

section
variable {s : State} {o : Origin} {p : List Byte}

theorem emStatus_bad (h : s.admits o 0x0F04 0) (bad : p ≠ []) :
    Goes (.emStatus o p) s (s.answer o 0x0F04 st.badParam []) :=
  congrArg Host.Outcome.next (State.run_answers h (param_bad (List.isEmpty_eq_false_iff.2 bad)) (by decide))

theorem emStatus_replies (h : s.admits o 0x0F04 0) (none_ : p = []) :
    Replies (.emStatus o p) s
      ((s.accepted o 0).onSeq fun q => { q with em := q.em.map fun e => { e with mn := e.vRail, mx := e.vRail, fresh := true } })
      o 0x0F04 st.ok
      (s.seq.em.toList.flatMap fun e => toLE 4 e.vRail ++ toLE 2 (min 0xFFFF (e.mn / 10)) ++ toLE 2 (min 0xFFFF (e.mx / 10))) :=
  congrArg Host.Outcome.next (State.run_done h (param_ok (List.isEmpty_iff.2 none_)) rfl (by decide))

end

/-- Settles O51: the pins by what their edges reach (`State.pinEdge_only`), the watchdog by its limits (`State.wdLimit`), the
tick with one command of the block waiting (`State.seqServe_one`), the commands by their checks, and each of the others as a
guarded effect. -/
theorem sequencerRuns : Obligations.SequencerRuns := by
  intro s m o p
  refine ⟨?steps, seqMemberLost_fires s, ?seqIn, ?seqFlt, fires_ite rfl, ?tick, ?monitor, ?watchdog, rstPulseEnd_idle,
    fun _ => rstPulseEnd_pulse, ?start, ?control, ?serve, ?stop, ?resume, ?release, ?emStatus⟩
  case steps =>
    exact ⟨fun _ => seqStepSettled_due, seqStepSettled_idle, fires_ite rfl, fires_ite rfl,
      Fires.congr (by simp [Seq.chatters, and_assoc]) (fires_ite rfl)⟩
  case seqIn =>
    intro level held r heeded
    have fires := seqInChange_fires s level held
    exact ⟨fun h => fires.trans (congrArg _ (if_pos h)), fun h => fires.trans (congrArg _ (if_neg h))⟩
  case seqFlt =>
    intro low r t heeded
    have sensed := seqFltSensed_eq s low
    refine ⟨fun h => sensed.trans (congrArg _ (if_neg h)),
      fun h fell own => sensed.trans (congrArg _ ((if_pos h).trans (if_pos ⟨fell, own⟩))),
      fun h still => sensed.trans (congrArg _ ((if_pos h).trans (if_neg ?_)))⟩
    rintro ⟨fell, own⟩
    simp [fell, own] at still
  case tick =>
    refine ⟨fun h => if_neg (ne_true_of_eq_false h), fun h => if_pos h, fun lost flt start => ?_⟩
    intro r go
    have quiet := State.seqTick_quiet lost flt start
    have go_iff : r.powerUpGo ↔ go := r.powerUpGo_iff
    exact ⟨fun h => quiet.trans (if_pos (go_iff.2 h)), fun h => quiet.trans (if_neg (mt go_iff.1 h))⟩
  case monitor =>
    intro e turns r
    obtain ⟨exits, stays⟩ := emWindowExit_fires s m
    have acts (action : Nat) (h : turns) (out : e.out = false) (a : s.fld Fld.Seq.ACTION m = action) :
        Goes (.emWindowExit m) s (s.emAct m action) := a ▸ exits ⟨h, out⟩
    exact ⟨fun h => stays fun ⟨within, out⟩ => h.elim (fun h => h within) (ne_true_of_eq_false out), acts 0, acts 2,
      fun h out a b => s.emAct_other m a b ▸ exits ⟨h, out⟩,
      Fires.congr (and_congr_left' (s.emTurns_iff m)) (fires_ite rfl)⟩
  case watchdog =>
    intro expired
    have expired_eq (t : State) : t.wdExpire = expired t := t.wdExpire_eq
    simp only [← expired_eq]
    refine ⟨fun t => ⟨wdiEdge_ignored, fun a arm bank => ⟨fun first le => ?_, fun first lt => ?_, fun e edge => ⟨?_, ?_⟩⟩⟩,
      wdiExpiry_unarmed, fun a arm => ⟨fun first => ?_, fun e edge => ?_⟩⟩
    · exact wdiEdge_notes arm bank (State.wdEarly_first first) (le.trans_eq (State.wdLimit_first arm first).symm)
    · exact wdiEdge_expires arm bank (.inr ((State.wdLimit_first arm first).trans_lt lt))
    · exact fun ge le => wdiEdge_notes arm bank ((State.wdEarly_next edge).trans (decide_eq_false (Nat.not_lt.2 ge)))
        (le.trans_eq (State.wdLimit_next edge).symm)
    · exact fun h => wdiEdge_expires arm bank (h.imp (fun lt => (State.wdEarly_next edge).trans (decide_eq_true lt))
        (State.wdLimit_next edge).trans_lt)
    · exact State.wdLimit_first arm first ▸ wdiExpiry_armed arm
    · exact State.wdLimit_next edge ▸ wdiExpiry_armed arm
  case start =>
    intro admitted inst good kind busy
    have busy_iff : (!s.startRefuse inst) = false ↔ busy := by
      rw [Bool.not_eq_false']
      exact s.startRefuse_iff inst
    exact waits_checked rfl rfl decide_eq_true_iff busy_iff admitted
  case control =>
    intro admitted a good idle
    have idle_iff : (!s.seqCtlRefuse a) = false ↔ idle := by
      rw [Bool.not_eq_false']
      exact s.seqCtlRefuse_iff a
    exact waits_checked rfl rfl decide_eq_true_iff idle_iff admitted
  case serve =>
    intro w only new t
    have served (h : w.op = 0x0F01 ∨ w.op = 0x0F02) := State.seqServe_one only new h
    have start (h : w.op = 0x0F01) : w.op ≠ 0x0F02 := by rw [h]; decide
    refine ⟨fun h => ?_, fun h go force => ?_, fun h go wait => ?_, fun h busy => ?_⟩
    · exact h ▸ (served (.inr h)).trans (if_pos h)
    · exact h ▸ (served (.inl h)).trans ((if_neg (start h)).trans ((if_neg (ne_true_of_eq_false go)).trans (if_pos force)))
    · exact (served (.inl h)).trans ((if_neg (start h)).trans ((if_neg (ne_true_of_eq_false go)).trans (if_neg wait)))
    · exact h ▸ (served (.inl h)).trans ((if_neg (start h)).trans (if_pos busy))
  case stop => exact fun h => by simp [State.seqControl, State.seqCtlRefuse, h]
  case resume => exact fun h => by simp [State.seqControl, State.seqCtlRefuse, h]
  case release => rfl
  case emStatus => exact fun admitted => ⟨emStatus_bad admitted, emStatus_replies admitted⟩

end Sys2Proof.Machine
end

section
/-! SUPPORT. Conversions, the triad, the counters and tachometers, the calibration pass and the commands of measurement; O52. -/

namespace Sys2Proof.Machine

/-- A change of a unit depends on the unit alone. -/
theorem State.onUnit_congr {s : State} {k : Nat} {f g : AdcUnit → AdcUnit} (h : f (s.adc k) = g (s.adc k)) :
    s.onUnit k f = s.onUnit k g := by
  rw [State.adc] at h
  simp only [State.onUnit, State.onMeas, upd, h]

/-! ## Conversions (R408–R410) -/

/-- The conversion of a unit's present entry that has sampled from `start` on. -/
def State.convertFrom (s : State) (k : Nat) (v : Int) (spares : List Int) (d : Bool) (start : Nat) : State :=
  let untrig := s.entryTrig k (s.adc k).pos && !s.waitsTrig k
  (s.advanceTo (start + s.convTime k)).convert k v spares untrig untrig d

section
variable {s : State} {k : Fin 10} {v : Int} {spares : List Int} {d : Bool}

theorem adcConversion_stays (h : s.unitOn k = false ∨ (s.waitsTrig k ∧ (s.adc k).event = none)) :
    Goes (.adcConversion k v spares d) s s :=
  congrArg Host.Outcome.next (if_pos (by simpa using h))

theorem adcConversion_converts (on : s.unitOn k) (h : ¬(s.waitsTrig k ∧ (s.adc k).event = none)) :
    Goes (.adcConversion k v spares d) s
      (s.convertFrom k v spares d
        (if s.waitsTrig k then (s.adc k).event.getD (s.adc k).tPos + s.fld (Fld.Meas.DELAY (s.adc k).pos) k + 3
          else (s.adc k).tPos)) :=
  congrArg Host.Outcome.next (if_neg (by simpa [on] using h))

theorem adcConversion_untriggered (on : s.unitOn k) (h : s.waitsTrig k = false) :
    Goes (.adcConversion k v spares d) s (s.convertFrom k v spares d (s.adc k).tPos) := by
  have converts := adcConversion_converts (v := v) (spares := spares) (d := d) on (by simp [h])
  rwa [if_neg (ne_true_of_eq_false h)] at converts

theorem adcConversion_triggered {t : Nat} (on : s.unitOn k) (h : s.waitsTrig k) (event : (s.adc k).event = some t) :
    Goes (.adcConversion k v spares d) s
      (s.convertFrom k v spares d (t + s.fld (Fld.Meas.DELAY (s.adc k).pos) k + 3)) := by
  have converts := adcConversion_converts (v := v) (spares := spares) (d := d) on (by simp [event])
  rwa [if_pos h, event] at converts

end

/-! ## Misses of a trigger (R409) -/

/-- The instant of a miss: the entry has waited 20 µs and converted. -/
def State.missAt (s : State) (k : Nat) : State := s.advanceTo ((s.adc k).tPos + us 20 + s.convTime k)

/-- A miss is counted, with the time of the last raise. -/
def State.missCounted (s : State) (k : Nat) (t : Option Nat) : State :=
  s.onUnit k fun a => { a with trigMisses := satAdd 0xFFFF a.trigMisses 1, tMiss := t }

theorem State.missCounted_eq (s : State) (k : Nat) (again : Bool) :
    s.missCounted k (if again then (s.adc k).tMiss else some s.now) = s.onUnit k fun a =>
      { a with trigMisses := satAdd 0xFFFF a.trigMisses 1, tMiss := if again then a.tMiss else some s.now } :=
  State.onUnit_congr rfl

/-- A miss within 60 s of the last raise, which raises nothing. -/
def State.missAgain (s : State) (k : Nat) : Bool :=
  match (s.adc k).tMiss with
  | some t => s.now < t + sec 60
  | none => false

/-- What a miss leaves: the count, the raise, and the entry's conversion. -/
def State.missed (s : State) (k : Fin 8) (v : Int) (spares : List Int) : State :=
  let t := s.missCounted k (if s.missAgain k then (s.adc k).tMiss else some s.now)
  (if s.missAgain k then t else t.raise 0x1007 k).convert k v spares true false true

theorem triggerMiss_fires (s : State) (k : Fin 8) (v : Int) (spares : List Int) :
    Fires (.triggerMiss k v spares) s (s.waitsTrig k ∧ (s.adc k).event = none) ((s.missAt k).missed k v spares) := by
  refine Fires.congr (and_congr_right' Option.isNone_iff_eq_none) (fires_ite ?_)
  rw [State.missed, State.missCounted_eq]
  rfl

section
variable {s : State} {k : Fin 8} {v : Int} {spares : List Int}

theorem State.missed_raises (h : s.missAgain k = false) :
    s.missed k v spares = ((s.missCounted k (some s.now)).raise 0x1007 k).convert k v spares true false true := by
  simp only [State.missed, h, Bool.false_eq_true, if_false]

theorem State.missed_again {t : Nat} (last : (s.adc k).tMiss = some t) (h : s.now < t + sec 60) :
    s.missed k v spares = (s.missCounted k (some t)).convert k v spares true false true := by
  have again : s.missAgain k = true := by simp only [State.missAgain, last, h, decide_true]
  simp only [State.missed, again, last, if_true]

theorem State.missAgain_first (h : (s.adc k).tMiss = none) : s.missAgain k = false := by simp only [State.missAgain, h]

theorem State.missAgain_late {t : Nat} (last : (s.adc k).tMiss = some t) (h : t + sec 60 ≤ s.now) :
    s.missAgain k = false := by
  simp only [State.missAgain, last, decide_eq_false (Nat.not_lt.2 h)]

end

/-! ## The triad (R415) -/

/-- The counts of the triad start again. -/
def State.triadClear (s : State) : State := s.onMeas fun m => { m with triadOff := Vector.replicate 3 0 }

section
variable {s : State} {t : SelfTest}

theorem triadDisagree_agrees (a : s.meas.triadOff[0] < 256) (b : s.meas.triadOff[1] < 256) (c : s.meas.triadOff[2] < 256) :
    Goes (.triadDisagree t) s s :=
  congrArg Host.Outcome.next ((if_neg (Nat.not_le.2 a)).trans (if_neg (by omega)))

theorem triadDisagree_spare (a : s.meas.triadOff[0] < 256) (h : 256 ≤ s.meas.triadOff[1] ∨ 256 ≤ s.meas.triadOff[2]) :
    Goes (.triadDisagree t) s (s.triadClear.raise 0x100A) :=
  congrArg Host.Outcome.next ((if_neg (Nat.not_le.2 a)).trans (if_pos h))

theorem triadDisagree_unit (a : 256 ≤ s.meas.triadOff[0]) :
    Goes (.triadDisagree t) s
      (let r := s.triadClear.raise 0x100A 6
       if r.unitIn 6 then r.onUnit 6 fun a => { a with test := some t } else r) :=
  congrArg Host.Outcome.next (if_pos a)

end

/-! ## Counters, captures and tachometers (R409, R418–R420) -/

theorem captureEdge_fires (s : State) (k : Fin 8) (rising : Bool) (held : Nat) :
    Fires (.captureEdge k rising held) s
      (s.fld Fld.Meas.MODE k = 2 ∧ s.fld Fld.Meas.FILT_TICKS k ≤ held ∧
        (if s.fld Fld.Meas.INPUT k ≤ 4 then s.sys.vioPwm else s.sys.vioHost) = true)
      (s.onCc k (Cc.edge ((s.now - held) % 2 ^ 32) rising)) :=
  fires_ite rfl

/-- What an edge at `t` leaves of a capture channel; a rising edge that has counted counts once. -/
theorem Cc.edge_eq (t : Nat) (rising : Bool) :
    Cc.edge t rising = fun c =>
      let diff (b : Nat) : Nat := (t + 2 ^ 32 - b % 2 ^ 32) % 2 ^ 32
      if rising then
        if c.level ∧ 0 < c.rises ∧ c.rise = t then c
        else { c with prevRise := c.rise, rise := t, periodCap := diff c.rise, rises := min 2 (c.rises + 1), level := true }
      else { c with fall := t, width := diff c.rise, widthOk := c.widthOk || 0 < c.rises, level := false } := by
  funext c
  cases rising <;> simp [Cc.edge, and_assoc]

/-- An entry waits for an event of source `src`, within its 20 µs. -/
abbrev State.awaits (s : State) (src : Nat) (k : Fin 8) : Prop :=
  (s.adc k).event = none ∧ s.fld (Fld.Meas.TRIG_SRC (s.adc k).pos) k = src ∧ s.flag (Fld.Meas.TRIG (s.adc k).pos) k ∧
    s.now ≤ (s.adc k).tPos + us 20

theorem State.adcTrigger_adc (s : State) (src : Nat) (k : Fin 8) :
    (s.adcTrigger src).adc k = if s.awaits src k then { s.adc k with event := some s.now } else s.adc k := by
  have val : (fin 10 k.val).val = k.val := fin_val (by omega)
  simp [State.adcTrigger, State.adc, val, State.awaits, and_assoc]

section
variable {s : State} {m : Fin 4}

theorem tachEdge_unpowered (h : s.sys.vioPwm = false) : Goes (.tachEdge m) s s :=
  congrArg Host.Outcome.next (if_pos (by rw [h]; rfl))

theorem tachEdge_powered (h : s.sys.vioPwm) :
    Goes (.tachEdge m) s
      (let rpm := match (s.meas.tach[m]).tLast with
         | some t => 6000000000 / max 1 ((s.now - t) * s.fld (Fld.Meas.TACH_PPR m))
         | none => (s.meas.tach[m]).rpm
       ((s.pinEdge m false 0).onMeas fun x =>
          { x with tach := upd x.tach m fun _ => { tLast := some s.now, rpm := rpm } }).measure (204 + m) (Int.ofNat rpm)) := by
  show execTachEdge m s = _
  cases last : (s.meas.tach[m]).tLast <;> simp only [execTachEdge, h, last, Bool.not_true, Bool.false_eq_true,
    if_false, State.pinEdge_tach, State.pinEdge_now, State.pinEdge_fld]

/-- No edge for 1 s: the tachometer reads 0. -/
def State.tachStop (s : State) (m : Fin 4) : State :=
  (s.onMeas fun x => { x with tach := upd x.tach m fun t => { t with rpm := 0 } }).measure (204 + m) 0

theorem tachTimeout_never (h : (s.meas.tach[m]).tLast = none) : Goes (.tachTimeout m) s (s.tachStop m) := by
  show execTachTimeout m s = _
  simp only [execTachTimeout, h]
  rfl

theorem tachTimeout_late {t : Nat} (h : (s.meas.tach[m]).tLast = some t) :
    Goes (.tachTimeout m) s ((s.advanceTo (t + sec 1)).tachStop m) := by
  show execTachTimeout m s = _
  simp only [execTachTimeout, h]
  rfl

end

/-! ## The calibration pass (R423–R427) -/

theorem State.passCalled_iff (s : State) :
    s.passCalled ↔ (∃ t, s.dieTemp = some t ∧ 10 * (s.fld Fld.Meas.CAL_DELTA_C : Int) < |t - s.meas.tPass|) ∨
      ∃ w ∈ s.hif.waits, w.op = 0x1004 := by
  cases h : s.dieTemp <;> simp [State.passCalled, h]

section
variable {s : State} {tests : SelfTests} (free : s.sys.mode = .running ∧ s.meas.cal = .idle ∧ s.flag Fld.Meas.CAL_EN)
include free

theorem calPassStart_called (h : s.passCalled) : Goes (.calPassStart tests) s (s.calStart tests) :=
  congrArg Host.Outcome.next ((if_pos free).trans (if_pos h))

theorem calPassStart_due {t : Nat} (h : ¬s.passCalled) (due : s.meas.calDue = some t) :
    Goes (.calPassStart tests) s ((s.advanceTo t).calStart tests) := by
  refine congrArg Host.Outcome.next ((if_pos free).trans ((if_neg h).trans ?_))
  simp only [due]

theorem calPassStart_waits (h : ¬s.passCalled) (due : s.meas.calDue = none) : Goes (.calPassStart tests) s s := by
  refine congrArg Host.Outcome.next ((if_pos free).trans ((if_neg h).trans ?_))
  simp only [due]

end

theorem calPassStart_barred {s : State} {tests : SelfTests}
    (h : ¬(s.sys.mode = .running ∧ s.meas.cal = .idle ∧ s.flag Fld.Meas.CAL_EN)) : Goes (.calPassStart tests) s s :=
  congrArg Host.Outcome.next (if_neg h)

section
variable {s : State} {unit gain : Nat} {d : Int}

theorem State.gainJudge_accepts (h : |d| ≤ 10000) (k : |s.meas.corr unit (gain + 1) + d| ≤ 30000) :
    s.gainJudge (unit, gain, d) = s.onMeas fun m =>
      { m with landing := m.landing ++ [(unit, gain + 1, s.meas.corr unit (gain + 1) + d)] } :=
  (if_neg (not_lt.2 h)).trans (if_neg (not_lt.2 k))

theorem State.gainJudge_jumps (h : 10000 < |d|) : s.gainJudge (unit, gain, d) = s.raise 0x1005 (elemUnit unit) :=
  if_pos h

theorem State.gainJudge_fails (h : |d| ≤ 10000) (k : 30000 < |s.meas.corr unit (gain + 1) + d|) (own : unit < 10) :
    s.gainJudge (unit, gain, d) = s.unitFail unit :=
  (if_neg (not_lt.2 h)).trans ((if_pos k).trans (if_pos own))

end

/-! ## The commands of measurement (R411, R433–R435) -/

section
variable {s : State} {o : Origin} {p : List Byte}

/-- CAL_RUN is barred where a pass runs or waits, and where none may start (R435). -/
theorem State.calRun_barred_iff (s : State) :
    (s.meas.cal = .idle && s.flag Fld.Meas.CAL_EN && s.sys.mode = .running &&
        !(s.hif.waits.any fun w => w.op = 0x1004)) = false ↔
      ¬(s.meas.cal = .idle ∧ s.flag Fld.Meas.CAL_EN ∧ s.sys.mode = .running ∧ ∀ w ∈ s.hif.waits, w.op ≠ 0x1004) := by
  rw [← Bool.not_eq_true]
  simp [and_assoc]

/-- What MEAS_PEEK names: a unit, or a half of the timebase. -/
abbrev peekGood (p : List Byte) : Prop :=
  p.length = 2 ∧ u p 1 1 = 0 ∧ (u p 0 1 < 8 ∨ u p 0 1 = 0x10 ∨ u p 0 1 = 0x11)

theorem measPeek_bad (h : s.admits o 0x1002 0) (bad : ¬peekGood p) :
    Goes (.measPeek o p) s (s.answer o 0x1002 st.badParam []) :=
  congrArg Host.Outcome.next (State.run_answers h (paramState_bad _ (by simpa [or_assoc] using bad)) (by decide))

theorem measPeek_closed (h : s.admits o 0x1002 0) (good : peekGood p) (unit : u p 0 1 < 8)
    (closed : ¬(s.flag Fld.Meas.DIAG_EN ∧ s.fld Fld.Meas.DIAG_UNIT = u p 0 1)) :
    Goes (.measPeek o p) s (s.answer o 0x1002 st.state []) :=
  congrArg Host.Outcome.next (State.run_answers h
    (paramState_state (by simpa [or_assoc] using good) (by simpa [unit] using closed)) (by decide))

theorem measPeek_diag (h : s.admits o 0x1002 0) (good : peekGood p) (unit : u p 0 1 < 8)
    (opened : s.flag Fld.Meas.DIAG_EN ∧ s.fld Fld.Meas.DIAG_UNIT = u p 0 1) :
    Replies (.measPeek o p) s
      ((s.accepted o 0).onMeas fun m => { m with diag := { m.diag with overrun := false }, diagRead := true }) o 0x1002 st.ok
      (toLE 4 s.meas.diag.word) :=
  congrArg Host.Outcome.next (State.run_done h
    (paramState_ok (by simpa [or_assoc] using good) (by simp [opened])) (if_pos (decide_eq_true unit)) (by decide))

theorem measPeek_time (h : s.admits o 0x1002 0) (good : peekGood p) (time : 8 ≤ u p 0 1) :
    Replies (.measPeek o p) s (s.accepted o 0) o 0x1002 st.ok (toLE 4 (if u p 0 1 = 0x10 then s.now else s.now / 2 ^ 32)) :=
  congrArg Host.Outcome.next (State.run_done h
    (paramState_ok (by simpa [or_assoc] using good) (by simp [Nat.not_lt.2 time]))
    (if_neg (by simpa using time)) (by decide))

/-- What TELEM_READ names: a channel of R412, and whether its statistics restart. -/
abbrev telemGood (p : List Byte) : Prop := p.length = 4 ∧ u p 2 1 < 2 ∧ u p 3 1 = 0 ∧ telNamed (u p 0 2)

/-- A read of a channel draws the free values of R434, whether they show or not. -/
theorem telemRead_keeps (once : u p 2 1 = 0) (h : s.admits o 0x1003 0) :
    (¬telemGood p → Goes (.telemRead o p) s (s.answer o 0x1003 st.badParam [])) ∧
    (telemGood p → Replies (.telemRead o p) s (s.accepted o 0).drew.drew.drew o 0x1003 st.ok (s.telReport (u p 0 2))) := by
  have keeps : bitOf (u p 2 1) 0 = false := by rw [once]; rfl
  have run : execTelemRead o p s = .next (s.run o 0x1003 0 (param (telemGood p)) fun s =>
      (.done st.ok (s.telReport (u p 0 2)), s.drew.drew.drew)) := by
    simp only [execTelemRead, keeps, Bool.false_eq_true, if_false]
  exact ⟨fun bad => run.trans (congrArg _ (State.run_answers h (param_bad (decide_eq_false bad)) (by decide))),
    fun good => run.trans (congrArg _ (State.run_done h (param_ok (decide_eq_true good)) rfl (by decide)))⟩

theorem telemRead_restarts (once : u p 2 1 = 1) (h : s.admits o 0x1003 1) :
    (¬telemGood p → Goes (.telemRead o p) s (s.answer o 0x1003 st.badParam [])) ∧
    (telemGood p → Replies (.telemRead o p) s
      ((s.accepted o 1).drew.drew.drew.onMeas fun m =>
        { m with tel := upd m.tel (fin 256 (u p 0 2)) (Tel.restart s.now) }) o 0x1003 st.ok (s.telReport (u p 0 2))) := by
  have restarts : bitOf (u p 2 1) 0 = true := by rw [once]; rfl
  have run : execTelemRead o p s = .next (s.run o 0x1003 1 (param (telemGood p)) fun s =>
      (.done st.ok (s.telReport (u p 0 2)),
        s.drew.drew.drew.onMeas fun m => { m with tel := upd m.tel (fin 256 (u p 0 2)) (Tel.restart s.now) })) := by
    simp only [execTelemRead, restarts, if_true]
    rfl
  exact ⟨fun bad => run.trans (congrArg _ (State.run_answers h (param_bad (decide_eq_false bad)) (by decide))),
    fun good => run.trans (congrArg _ (State.run_done h (param_ok (decide_eq_true good)) rfl (by decide)))⟩

end

/-- Settles O52: the conversions and the misses of a trigger by what the entry waits for, the pass by its stages, the commands
by their checks, and each of the others as a guarded effect. -/
theorem measurementRuns : Obligations.MeasurementRuns := by
  intro s o p
  refine ⟨fun k v spares d => ?conversion, fun k v spares => ?miss, fun t => ?triad, fun k rising held => ?capture,
    fun _ => fires_ite rfl, fun _ => fires_ite rfl, fun src k => ?trigger, fun _ => ⟨tachEdge_unpowered, tachEdge_powered⟩,
    fun _ => ⟨tachTimeout_never, fun _ => tachTimeout_late⟩, fun tests => ?pass, fires_ite rfl,
    fun _ _ _ => ⟨State.gainJudge_accepts, State.gainJudge_jumps, State.gainJudge_fails⟩, fires_ite rfl,
    Fires.congr (and_congr_right' List.isEmpty_iff) (fires_ite rfl), fun h => ?calRun,
    fun h => ⟨measPeek_bad h, measPeek_closed h, measPeek_diag h, measPeek_time h⟩, telemRead_keeps, telemRead_restarts⟩
  case conversion =>
    exact ⟨adcConversion_stays, adcConversion_untriggered, fun _ => adcConversion_triggered⟩
  case miss =>
    obtain ⟨misses, stays⟩ := triggerMiss_fires s k v spares
    have becomes {t : State} (missed : s.waitsTrig k ∧ (s.adc k).event = none) (h : (s.missAt k).missed k v spares = t) :
        Goes (.triggerMiss k v spares) s t := h ▸ misses missed
    exact ⟨stays, fun missed first => becomes missed (State.missed_raises (State.missAgain_first first)),
      fun t missed last late => becomes missed (State.missed_raises (State.missAgain_late last late)),
      fun t missed last soon => becomes missed (State.missed_again last soon)⟩
  case triad =>
    exact ⟨triadDisagree_agrees, triadDisagree_spare, fun far =>
      ⟨fun out => (triadDisagree_unit far).trans (congrArg _ (if_neg (ne_true_of_eq_false out))),
        fun within => (triadDisagree_unit far).trans (congrArg _ (if_pos within))⟩⟩
  case capture =>
    have fires := captureEdge_fires s k rising held
    rwa [Cc.edge_eq] at fires
  case trigger =>
    have given := s.adcTrigger_adc src k
    exact ⟨fun waits => congrArg AdcUnit.event (given.trans (if_pos waits)), fun none_ => given.trans (if_neg none_)⟩
  case calRun =>
    intro able
    obtain ⟨bad, state, waits⟩ :=
      waits_checked (c := .calRun o p) rfl rfl List.isEmpty_iff s.calRun_barred_iff h
    exact ⟨bad, state, fun none_ can => waits none_ (not_not_intro can)⟩
  case pass =>
    intro free moved asked
    have called_iff : s.passCalled ↔ moved ∨ asked := s.passCalled_iff
    have idle (still : ¬moved) (unasked : ¬asked) : ¬s.passCalled := fun h => (called_iff.1 h).elim still unasked
    exact ⟨calPassStart_barred, fun f called => calPassStart_called f (called_iff.2 called),
      fun t f still unasked due => calPassStart_due f (idle still unasked) due,
      fun f still unasked due => calPassStart_waits f (idle still unasked) due⟩

end Sys2Proof.Machine
end

section
/-! SUPPORT. What every command keeps, by the lemmas of its arm of `exec`, and the slots of the boot records; O7. -/

namespace Sys2Proof.Machine

/-- Every command keeps what `Keep` says: the queue and the OTP identity, the fault queue's order and the bound of R64. -/
theorem exec_keep {s t : State} (c : Instr) (h : Keep s t) : Keeps s (exec c t) :=
  match c with
  | .powerOnReset _ => execPowerOnReset_keep h
  | .porRelease _ => execPorRelease_keep h
  | .hk12Good => execHk12Good_keep h
  | .hk12Timeout => execHk12Timeout_keep h
  | .hk12Retry => execHk12Retry_keep h
  | .keepThresholdCross _ => execKeepThresholdCross_keep h
  | .strapSample _ _ => execStrapSample_keep h
  | .bootImageSelect => execBootImageSelect_keep h
  | .firmwareReady _ _ _ => execFirmwareReady_keep h
  | .rstOutRelease => execRstOutRelease_keep h
  | .pinResetAssert => execPinResetAssert_keep h
  | .pinResetRelease => execPinResetRelease_keep h
  | .reset _ _ => execReset_keep h
  | .coldResetSeqDone => execColdResetSeqDone_keep h
  | .resetCause _ _ => execResetCause_keep h
  | .d0BootRecord _ _ => execD0BootRecord_keep h
  | .keepReservoir _ _ => execKeepReservoir_keep h
  | .lockstepMismatch => execLockstepMismatch_keep h
  | .fwWatchdogExpiry => execFwWatchdogExpiry_keep h
  | .firmwareRestart => execFirmwareRestart_keep h
  | .hostWdWrite _ _ => execHostWdWrite_keep h
  | .hostWdExpiry => execHostWdExpiry_keep h
  | .crystalFail => execCrystalFail_keep h
  | .tick10us => execTick10us_keep h
  | .shareTick => execShareTick_keep h
  | .sectionPowerUp _ => execSectionPowerUp_keep h
  | .autonomousStart _ => execAutonomousStart_keep h
  | .autonomousTimeout _ => execAutonomousTimeout_keep h
  | .autonomousRetry _ => execAutonomousRetry_keep h
  | .registerWrite _ => execRegisterWrite_keep h
  | .timeSnapRead _ _ => execTimeSnapRead_keep h
  | .irqFlagsClear _ _ => execIrqFlagsClear_keep h
  | .i2cWake => execI2cWake_keep h
  | .i2cSleep => execI2cSleep_keep h
  | .smbusTimeout => execSmbusTimeout_keep h
  | .submitMore => execSubmitMore_keep h
  | .submitLast => execSubmitLast_keep h
  | .release => execRelease_keep h
  | .abort => execAbort_keep h
  | .alertResponse _ => execAlertResponse_keep h
  | .hostNotify _ => execHostNotify_keep h
  | .hostNotifyRetry _ => execHostNotifyRetry_keep h
  | .regWrite _ => execRegWrite_keep h
  | .regRead _ _ => execRegRead_keep h
  | .pktWrite _ _ => execPktWrite_keep h
  | .pktRead _ => execPktRead_keep h
  | .streamRead _ => execStreamRead_keep h
  | .page _ => execPage_keep h
  | .operation _ => execOperation_keep h
  | .onOffConfig _ => execOnOffConfig_keep h
  | .clearFaults _ => execClearFaults_keep h
  | .writeProtect _ => execWriteProtect_keep h
  | .capability _ => execCapability_keep h
  | .voutMode _ => execVoutMode_keep h
  | .voutCommand _ => execVoutCommand_keep h
  | .voutMarginHigh _ => execVoutMarginHigh_keep h
  | .voutMarginLow _ => execVoutMarginLow_keep h
  | .voutTransitionRate _ => execVoutTransitionRate_keep h
  | .statusByte _ => execStatusByte_keep h
  | .statusWord _ => execStatusWord_keep h
  | .statusVout _ => execStatusVout_keep h
  | .statusIout _ => execStatusIout_keep h
  | .statusCml _ => execStatusCml_keep h
  | .readVout _ => execReadVout_keep h
  | .readIout _ => execReadIout_keep h
  | .readTemperature1 _ => execReadTemperature1_keep h
  | .pmbusRevision _ => execPmbusRevision_keep h
  | .mfrId _ => execMfrId_keep h
  | .mfrModel _ => execMfrModel_keep h
  | .hifConfig _ _ => execHifConfig_keep h
  | .hifStatus _ _ => execHifStatus_keep h
  | .remoteReply _ _ => execRemoteReply_keep h
  | .forwardTimeout => execForwardTimeout_keep h
  | .segmentHoldExpiry _ => execSegmentHoldExpiry_keep h
  | .nop _ _ => execNop_keep h
  | .sysStatus _ _ => execSysStatus_keep h
  | .privChallenge _ _ => execPrivChallenge_keep h
  | .privResponse _ _ => execPrivResponse_keep h
  | .privDrop _ _ => execPrivDrop_keep h
  | .privLockoutEnd => execPrivLockoutEnd_keep h
  | .privSessionTimeout _ => execPrivSessionTimeout_keep h
  | .nodeGroups _ _ => execNodeGroups_keep h
  | .easelWrite _ _ _ => execEaselWrite_keep h
  | .easelCommit _ _ _ => execEaselCommit_keep h
  | .easelDiscard _ _ _ => execEaselDiscard_keep h
  | .easelRead _ _ _ => execEaselRead_keep h
  | .easelStatus _ _ _ => execEaselStatus_keep h
  | .commitLand _ _ _ => execCommitLand_keep h
  | .lValueLand _ _ _ => execLValueLand_keep h
  | .commitTimeout => execCommitTimeout_keep h
  | .multiCommit _ _ => execMultiCommit_keep h
  | .easelSave _ _ => execEaselSave_keep h
  | .palBegin _ _ => execPalBegin_keep h
  | .palData _ _ => execPalData_keep h
  | .palEnd _ _ => execPalEnd_keep h
  | .palSwitch _ _ => execPalSwitch_keep h
  | .palStatus _ _ => execPalStatus_keep h
  | .palRead _ _ => execPalRead_keep h
  | .paletteAdopt _ _ => execPaletteAdopt_keep h
  | .palSwitchTimeout => execPalSwitchTimeout_keep h
  | .sectionPowerLoss _ => execSectionPowerLoss_keep h
  | .barrierHeartbeat _ _ _ => execBarrierHeartbeat_keep h
  | .barrierSilence _ => execBarrierSilence_keep h
  | .barrierEstablished _ _ => execBarrierEstablished_keep h
  | .init _ _ => execInit_keep h
  | .config _ _ => execConfig_keep h
  | .commit _ _ => execCommit_keep h
  | .command _ _ => execCommand_keep h
  | .time _ _ => execTime_keep h
  | .srTiming _ _ => execSrTiming_keep h
  | .hello _ _ => execHello_keep h
  | .status _ _ => execStatus_keep h
  | .halfCycle _ _ => execHalfCycle_keep h
  | .ack _ _ => execAck_keep h
  | .faultFrame _ _ => execFaultFrame_keep h
  | .barrierResend _ => execBarrierResend_keep h
  | .fltLine _ => execFltLine_keep h
  | .dropLine _ => execDropLine_keep h
  | .stopLine _ => execStopLine_keep h
  | .stopRelease _ => execStopRelease_keep h
  | .halfCycleEnd _ _ _ _ => execHalfCycleEnd_keep h
  | .qualTimerExpiry _ => execQualTimerExpiry_keep h
  | .prechargeTimeout _ => execPrechargeTimeout_keep h
  | .relaySettled _ => execRelaySettled_keep h
  | .pfcRampDone _ _ => execPfcRampDone_keep h
  | .llcStartDone _ _ => execLlcStartDone_keep h
  | .llcSsTimeout _ => execLlcSsTimeout_keep h
  | .walkInDone _ => execWalkInDone_keep h
  | .dropoutPredicted _ => execDropoutPredicted_keep h
  | .zcLateExpiry _ => execZcLateExpiry_keep h
  | .predictionTimeout _ => execPredictionTimeout_keep h
  | .bulkMinReached _ _ => execBulkMinReached_keep h
  | .linePeakLimit _ _ => execLinePeakLimit_keep h
  | .bulkOvLimit _ _ => execBulkOvLimit_keep h
  | .bulkOvTrip _ _ => execBulkOvTrip_keep h
  | .pfcOcTrip _ => execPfcOcTrip_keep h
  | .llcOcTrip _ => execLlcOcTrip_keep h
  | .capacitiveModeTrip _ => execCapacitiveModeTrip_keep h
  | .mainsThermalTrip => execMainsThermalTrip_keep h
  | .busOvStop _ => execBusOvStop_keep h
  | .srReverseDisable _ => execSrReverseDisable_keep h
  | .shareToleranceFault _ => execShareToleranceFault_keep h
  | .rectControl _ _ => execRectControl_keep h
  | .rectStatus _ _ => execRectStatus_keep h
  | .barrierStatus _ _ => execBarrierStatus_keep h
  | .busUndervoltage _ _ => execBusUndervoltage_keep h
  | .busWindowExit _ => execBusWindowExit_keep h
  | .auxWindowEnter _ _ => execAuxWindowEnter_keep h
  | .auxWindowExit _ _ _ => execAuxWindowExit_keep h
  | .auxInsertDone _ => execAuxInsertDone_keep h
  | .auxMatchDone _ => execAuxMatchDone_keep h
  | .auxWalkInDone _ _ _ => execAuxWalkInDone_keep h
  | .coldConnectDone _ _ => execColdConnectDone_keep h
  | .auxSoaTrip _ _ => execAuxSoaTrip_keep h
  | .auxFastTrip _ _ => execAuxFastTrip_keep h
  | .auxReverseTrip _ _ _ => execAuxReverseTrip_keep h
  | .auxRetry _ => execAuxRetry_keep h
  | .bbmGapDone _ => execBbmGapDone_keep h
  | .busStatus _ _ => execBusStatus_keep h
  | .auxControl _ _ => execAuxControl_keep h
  | .stringMatchDone _ _ => execStringMatchDone_keep h
  | .stringMatchTimeout _ => execStringMatchTimeout_keep h
  | .stringColdDone _ => execStringColdDone_keep h
  | .chgOkDeassert _ => execChgOkDeassert_keep h
  | .chgOkAssert _ => execChgOkAssert_keep h
  | .dsgOkDeassert _ => execDsgOkDeassert_keep h
  | .dsgOkAssert _ => execDsgOkAssert_keep h
  | .ntcRecover _ _ => execNtcRecover_keep h
  | .endOfDischarge _ => execEndOfDischarge_keep h
  | .stringRetry _ => execStringRetry_keep h
  | .stringFastTrip _ _ => execStringFastTrip_keep h
  | .stringOvertempTrip _ => execStringOvertempTrip_keep h
  | .packOvervoltage _ _ _ => execPackOvervoltage_keep h
  | .chargerTick => execChargerTick_keep h
  | .prechargeTimerExpiry _ => execPrechargeTimerExpiry_keep h
  | .cccvTimerExpiry _ => execCccvTimerExpiry_keep h
  | .wallTimerExpiry _ => execWallTimerExpiry_keep h
  | .chargeResume _ => execChargeResume_keep h
  | .stringTestEnd _ _ => execStringTestEnd_keep h
  | .stringControl _ _ => execStringControl_keep h
  | .chgControl _ _ => execChgControl_keep h
  | .stringTest _ _ => execStringTest_keep h
  | .chgStatus _ _ => execChgStatus_keep h
  | .gaugeUpdate _ => execGaugeUpdate_keep h
  | .gaugeStateSave _ => execGaugeStateSave_keep h
  | .varnishRetry => execVarnishRetry_keep h
  | .gaugeStatus _ _ => execGaugeStatus_keep h
  | .gaugeReset _ _ => execGaugeReset_keep h
  | .gaugeSetFcc _ _ => execGaugeSetFcc_keep h
  | .domainInputReady _ => execDomainInputReady_keep h
  | .domainInputLost _ => execDomainInputLost_keep h
  | .domainCheckDone _ _ => execDomainCheckDone_keep h
  | .softStartDone _ => execSoftStartDone_keep h
  | .domainSsTimeout _ => execDomainSsTimeout_keep h
  | .domainOv _ _ _ => execDomainOv_keep h
  | .domainUv _ _ _ => execDomainUv_keep h
  | .remoteSenseFault _ => execRemoteSenseFault_keep h
  | .domainOcTrip _ => execDomainOcTrip_keep h
  | .domainRetry _ => execDomainRetry_keep h
  | .referenceArrived _ => execReferenceArrived_keep h
  | .softStopDone _ => execSoftStopDone_keep h
  | .loadRelease _ => execLoadRelease_keep h
  | .loadReleaseEnd _ _ => execLoadReleaseEnd_keep h
  | .phaseFail _ _ => execPhaseFail_keep h
  | .syncLost => execSyncLost_keep h
  | .syncRelock _ _ => execSyncRelock_keep h
  | .domControl _ _ => execDomControl_keep h
  | .domVout _ _ => execDomVout_keep h
  | .domStatus _ _ => execDomStatus_keep h
  | .phaseStatus _ _ => execPhaseStatus_keep h
  | .meteringSlot _ => execMeteringSlot_keep h
  | .portWindowEnter _ => execPortWindowEnter_keep h
  | .portWindowExit _ => execPortWindowExit_keep h
  | .portInsertDone _ => execPortInsertDone_keep h
  | .portCheckPass _ _ => execPortCheckPass_keep h
  | .portSwitchShort _ _ => execPortSwitchShort_keep h
  | .portInrushDone _ _ => execPortInrushDone_keep h
  | .portSoaTrip _ => execPortSoaTrip_keep h
  | .portFastTrip _ _ => execPortFastTrip_keep h
  | .portReverseCurrent _ _ _ => execPortReverseCurrent_keep h
  | .portRetry _ => execPortRetry_keep h
  | .portUnshed => execPortUnshed_keep h
  | .portControl _ _ => execPortControl_keep h
  | .portStatus _ _ => execPortStatus_keep h
  | .portMeter _ _ => execPortMeter_keep h
  | .linkTrainSwitch _ => execLinkTrainSwitch_keep h
  | .linkPortUp _ _ => execLinkPortUp_keep h
  | .linkPortDown _ _ _ => execLinkPortDown_keep h
  | .shareFrame _ _ _ => execShareFrame_keep h
  | .shareFrameReturn _ _ _ => execShareFrameReturn_keep h
  | .decisionFrame _ _ _ => execDecisionFrame_keep h
  | .sharePeriodMissed => execSharePeriodMissed_keep h
  | .rootElection => execRootElection_keep h
  | .faultEvent _ _ => execFaultEvent_keep h
  | .dropEvent _ _ => execDropEvent_keep h
  | .dropClearEvent _ _ => execDropClearEvent_keep h
  | .breakEvent _ _ => execBreakEvent_keep h
  | .rootClaim _ _ => execRootClaim_keep h
  | .gen1Event _ _ => execGen1Event_keep h
  | .ident _ _ _ _ => execIdent_keep h
  | .commandFrame _ _ => execCommandFrame_keep h
  | .ringRestore => execRingRestore_keep h
  | .linkStatus _ _ => execLinkStatus_keep h
  | .nodeTable _ _ => execNodeTable_keep h
  | .enumerate _ _ => execEnumerate_keep h
  | .capStatus _ _ => execCapStatus_keep h
  | .ccDebounceDone _ => execCcDebounceDone_keep h
  | .pdDebounceDone _ => execPdDebounceDone_keep h
  | .drpToggle _ => execDrpToggle_keep h
  | .errorRecoveryDone _ => execErrorRecoveryDone_keep h
  | .pdDetach _ _ _ => execPdDetach_keep h
  | .pdMessageReceived _ _ _ _ => execPdMessageReceived_keep h
  | .crcReceiveTimeout _ => execCrcReceiveTimeout_keep h
  | .sinkTxWaitDone _ => execSinkTxWaitDone_keep h
  | .amsTimeout _ => execAmsTimeout_keep h
  | .senderResponseExpiry _ => execSenderResponseExpiry_keep h
  | .psTransitionExpiry _ => execPsTransitionExpiry_keep h
  | .psSourceTimeout _ => execPsSourceTimeout_keep h
  | .hardResetReceived _ => execHardResetReceived_keep h
  | .psHardResetDone _ => execPsHardResetDone_keep h
  | .safe0vTimeout _ => execSafe0vTimeout_keep h
  | .srcRecoverDone _ => execSrcRecoverDone_keep h
  | .sinkHardResetWaitEnd _ => execSinkHardResetWaitEnd_keep h
  | .srcTransitionDone _ => execSrcTransitionDone_keep h
  | .sourceChangeDone _ _ _ => execSourceChangeDone_keep h
  | .srcSettleTimeout _ => execSrcSettleTimeout_keep h
  | .frsSignalReceived _ _ => execFrsSignalReceived_keep h
  | .frsVbusDrop _ _ => execFrsVbusDrop_keep h
  | .sourceLimitRestored _ => execSourceLimitRestored_keep h
  | .pdSrcOv _ _ => execPdSrcOv_keep h
  | .pdSrcOc _ _ _ => execPdSrcOc_keep h
  | .pdSinkOv _ _ => execPdSinkOv_keep h
  | .ccOv _ _ => execCcOv_keep h
  | .vconnOc _ _ _ => execVconnOc_keep h
  | .pdControl _ _ => execPdControl_keep h
  | .pdTx _ _ => execPdTx_keep h
  | .pdEvent _ _ => execPdEvent_keep h
  | .pdPower _ _ => execPdPower_keep h
  | .pdSwap _ _ => execPdSwap_keep h
  | .pdStatus _ _ => execPdStatus_keep h
  | .seqStepSettled => execSeqStepSettled_keep h
  | .seqStepTimeout => execSeqStepTimeout_keep h
  | .seqDelayDone => execSeqDelayDone_keep h
  | .seqChatter => execSeqChatter_keep h
  | .seqMemberLost _ => execSeqMemberLost_keep h
  | .seqInChange _ _ => execSeqInChange_keep h
  | .seqFltSensed _ => execSeqFltSensed_keep h
  | .emWindowExit _ => execEmWindowExit_keep h
  | .emWindowEnter _ => execEmWindowEnter_keep h
  | .wdiEdge _ => execWdiEdge_keep h
  | .wdiExpiry => execWdiExpiry_keep h
  | .rstPulseEnd => execRstPulseEnd_keep h
  | .seqStart _ _ => execSeqStart_keep h
  | .seqControl _ _ => execSeqControl_keep h
  | .seqStatus _ _ => execSeqStatus_keep h
  | .emStatus _ _ => execEmStatus_keep h
  | .adcConversion _ _ _ _ => execAdcConversion_keep h
  | .triggerMiss _ _ _ => execTriggerMiss_keep h
  | .triadDisagree _ => execTriadDisagree_keep h
  | .calPassStart _ => execCalPassStart_keep h
  | .calPassComputed => execCalPassComputed_keep h
  | .calPassTimeout => execCalPassTimeout_keep h
  | .calPassAccepted => execCalPassAccepted_keep h
  | .captureEdge _ _ _ => execCaptureEdge_keep h
  | .tachEdge _ => execTachEdge_keep h
  | .tachTimeout _ => execTachTimeout_keep h
  | .adcStatus _ _ => execAdcStatus_keep h
  | .measPeek _ _ => execMeasPeek_keep h
  | .telemRead _ _ => execTelemRead_keep h
  | .calRun _ _ => execCalRun_keep h
  | .calStatus _ _ => execCalStatus_keep h
  | .ccStatus _ _ => execCcStatus_keep h
  | .thermalWindow _ => execThermalWindow_keep h
  | .thermalShutdown _ => execThermalShutdown_keep h
  | .thermalShutdownEnd _ => execThermalShutdownEnd_keep h
  | .fanUpdate => execFanUpdate_keep h
  | .fanStall _ _ => execFanStall_keep h
  | .fanStallClear _ _ => execFanStallClear_keep h
  | .thermalStatus _ _ => execThermalStatus_keep h
  | .fanStatus _ _ => execFanStatus_keep h
  | .historyRecord => execHistoryRecord_keep h
  | .eventFlush => execEventFlush_keep h
  | .nandOpDone _ => execNandOpDone_keep h
  | .nandTimeout => execNandTimeout_keep h
  | .captureFreeze => execCaptureFreeze_keep h
  | .captureCommit => execCaptureCommit_keep h
  | .scrubStart => execScrubStart_keep h
  | .scrubSlice _ _ _ _ _ => execScrubSlice_keep h
  | .streamTimeout => execStreamTimeout_keep h
  | .skbStatus _ _ => execSkbStatus_keep h
  | .skbRead _ _ => execSkbRead_keep h
  | .skbStreamStop _ _ => execSkbStreamStop_keep h
  | .skbCaptureInfo _ _ => execSkbCaptureInfo_keep h
  | .skbTrigger _ _ => execSkbTrigger_keep h
  | .skbMark _ _ => execSkbMark_keep h
  | .skbClear _ _ => execSkbClear_keep h
  | .faultRaise _ _ => execFaultRaise_keep h
  | .handlerComplete => execHandlerComplete_keep h
  | .imgBegin _ _ => execImgBegin_keep h
  | .imgData _ _ => execImgData_keep h
  | .imgEnd _ _ => execImgEnd_keep h
  | .imgActivate _ _ => execImgActivate_keep h
  | .imgConfirm _ _ => execImgConfirm_keep h
  | .imgStatus _ _ => execImgStatus_keep h
  | .faultStatus _ _ => execFaultStatus_keep h
  | .faultActive _ _ => execFaultActive_keep h
  | .bankSupplyChange _ _ => execBankSupplyChange_keep h
  | .spiUnknownInstruction _ => execSpiUnknownInstruction_keep h
  | .pmbusUnsupportedCommand _ _ => execPmbusUnsupportedCommand_keep h
  | .converterPeriodEnd _ => execConverterPeriodEnd_keep h
  | .domainPwmPeriod _ _ _ _ _ => execDomainPwmPeriod_keep h
  | .bulkDropConfirmation _ _ => execBulkDropConfirmation_keep h
  | .bulkOvRelease _ _ => execBulkOvRelease_keep h
  | .domainUvClear _ _ _ => execDomainUvClear_keep h
  | .domainTripCountClear _ => execDomainTripCountClear_keep h
  | .portTripCountClear _ => execPortTripCountClear_keep h
  | .ccStateChange _ _ _ => execCcStateChange_keep h
  | .vbusLevelReached _ _ => execVbusLevelReached_keep h
  | .bistCarrierEnd _ => execBistCarrierEnd_keep h
  | .seqFltReleased => execSeqFltReleased_keep h
  | .ccCounterWrap _ => execCcCounterWrap_keep h
  | .ccCompareMatch _ => execCcCompareMatch_keep h
  | .captureSample => execCaptureSample_keep h

/-- R64: no step takes the boot records beyond the slots: `Keep` bounds what an idle step and every command leave. -/
theorem step_slots {s t : State} (h : step s = .next t) (slots : s.sys.bootRecs.length ≤ 4) : t.sys.bootRecs.length ≤ 4 := by
  unfold step at h
  split at h
  case h_1 =>
    cases h
    exact (State.idle_keep (Keep.refl s)).slots slots
  case h_2 c rest _ => exact (exec_keep c (Keep.refl { s with pending := rest }) t h).slots slots

/-- Settles O7: an idle step and every command keep the bound (`State.idle_keep`, `exec_keep`). -/
theorem bootRecordsStayInSlots : Obligations.BootRecordsStayInSlots :=
  fun _ _ slots h => step_slots h slots

end Sys2Proof.Machine
end

section
/-! SUPPORT. A report's meaning is `State.report`, a command's is `State.run` with its privilege; O10 and O11. -/

namespace Sys2Proof.Machine

variable {o : Origin} {p : List Byte} {c : Instr} {op priv : Nat}

/-- A report's meaning is `State.report`, whatever its checks and its table. -/
def IsReported (o : Origin) (c : Instr) : Prop :=
  ∀ s : State, ∃ (op chk : Nat) (data : State → List Byte), exec c s = .next (s.report o op chk data)

theorem easelRead_reported (blk : Nat) : IsReported o (.easelRead o blk p) := by
  intro s
  by_cases outside : blk ∉ easelBlocks
  · exact ⟨_, st.badOpcode, fun _ => [], congrArg _ (if_pos outside)⟩
  · exact ⟨_, _, _, congrArg _ (if_neg outside)⟩

theorem easelStatus_reported (blk : Nat) : IsReported o (.easelStatus o blk p) := by
  intro s
  by_cases outside : blk ∉ easelBlocks
  · exact ⟨_, st.badOpcode, fun _ => [], congrArg _ (if_pos outside)⟩
  · exact ⟨_, _, _, congrArg _ (if_neg outside)⟩

theorem isReported_of_isReport (h : IsReport o p c) : IsReported o c := by
  obtain ⟨blk, rfl | rfl⟩ | h := h
  · exact easelRead_reported blk
  · exact easelStatus_reported blk
  · revert c
    simp only [List.forall_mem_cons, List.not_mem_nil, false_imp_iff, implies_true, and_true]
    repeat' apply And.intro
    all_goals exact fun _ => ⟨_, _, _, rfl⟩

/-- Settles O10: a report's meaning is `State.report` (`isReported_of_isReport`), which changes the interface only. -/
theorem reportsChangeOnlyTheInterface : Obligations.ReportsChangeOnlyTheInterface := by
  intro o p c s t report goes
  obtain ⟨op, chk, data, run⟩ := isReported_of_isReport report s
  cases run.symm.trans goes
  exact State.report_only (OnlyHif.refl s)

/-- R114: the opcodes of the commands with a check of privilege of their own. -/
abbrev privChecked : List Nat := [0x0112, 0x0210, 0x0301]

/-- R114: the meaning of a command that is not admitted is `State.run` with the command's own check. -/
def IsRun (c : Instr) (s : State) (o : Origin) (op priv : Nat) : Prop :=
  ¬s.admits o op priv → ∃ chk act, exec c s = .next (s.run o op priv chk act) ∧ (chk = st.notPermitted → op ∈ privChecked)

section
variable {s : State} {chk : Nat} {act : State → Res × State} {a b : Bool}

theorem isRun_of_permits (run : exec c s = .next (s.run o op priv chk act)) (h : chk ≠ st.notPermitted) :
    IsRun c s o op priv :=
  fun _ => ⟨chk, act, run, fun k => absurd k h⟩

theorem param_permits : param a ≠ st.notPermitted := by cases a <;> decide

theorem isRun_of_param (run : exec c s = .next (s.run o op priv (param a) act)) : IsRun c s o op priv :=
  isRun_of_permits run param_permits

theorem isRun_of_paramState (run : exec c s = .next (s.run o op priv (paramState a b) act)) : IsRun c s o op priv :=
  isRun_of_permits run (by cases a <;> cases b <;> decide)

theorem isRun_of_privChecked (run : exec c s = .next (s.run o op priv chk act)) (h : op ∈ privChecked) :
    IsRun c s o op priv :=
  fun _ => ⟨chk, act, run, fun _ => h⟩

theorem privResponse_isRun : IsRun (.privResponse o p) s o 0x0211 0 := fun barred =>
  have run : exec (.privResponse o p) s = .next (s.run o 0x0211 0 (param _) _) :=
    congrArg _ (if_neg fun h => barred ⟨h.1, h.2.1⟩)
  isRun_of_param run barred

theorem palData_isRun : IsRun (.palData o p) s o 0x0602 2 := by
  refine isRun_of_permits rfl ?_
  split
  · decide
  · split
    · decide
    · exact param_permits

theorem imgData_isRun : IsRun (.imgData o p) s o 0x1402 2 := by
  refine isRun_of_permits rfl ?_
  repeat' split
  all_goals decide

theorem isRun_of_isCommand (h : IsCommand o p c op priv) : IsRun c s o op priv := by
  unfold IsCommand at h
  dsimp only at h
  repeat' obtain ⟨rfl, rfl, rfl⟩ | h := h
  any_goals exact isRun_of_param rfl
  any_goals exact isRun_of_paramState rfl
  any_goals exact palData_isRun
  any_goals exact imgData_isRun
  any_goals exact privResponse_isRun
  · exact isRun_of_privChecked rfl (.head _)
  · exact isRun_of_privChecked rfl (.tail _ (.head _))
  · exact isRun_of_privChecked rfl (.tail _ (.tail _ (.head _)))
  · obtain ⟨rfl, rfl⟩ := ‹op = 0x1406 ∧ priv = 0›
    exact isRun_of_param rfl

/-- R114: where a command's own check of privilege fails, it says so whatever the FLAGS are. -/
theorem State.run_unpermitted (h : s.lets o op priv) :
    s.run o op priv st.notPermitted act = s.answer o op st.notPermitted [] := by
  unfold State.run
  rw [if_neg (not_not.2 h), if_neg fun k => k.2 rfl, if_pos (by decide)]

end

/-- Settles O11: a command that is not admitted is `State.run` (`isRun_of_isCommand`), which answers by the device's checks
where they fail, and otherwise by FLAGS or by the command's own check of privilege. -/
theorem turnedAwayCommandsDoNothing : Obligations.TurnedAwayCommandsDoNothing := by
  intro o p c op priv s command
  have only (status : Nat) : OnlyHif s (s.answer o op status []) := State.answer_only (OnlyHif.refl s)
  refine ⟨fun barred => ?_, fun lets malformed => ?_⟩
  · obtain ⟨chk, act, run, -⟩ := isRun_of_isCommand command fun h => barred h.1
    exact ⟨_, run.trans (congrArg _ (State.run_refused barred)), rfl, only _⟩
  · obtain ⟨chk, act, run, own⟩ := isRun_of_isCommand command fun h => Bool.false_ne_true (malformed.symm.trans h.2)
    by_cases denied : chk = st.notPermitted
    · subst denied
      exact ⟨_, _, .inr ⟨rfl, own rfl⟩, run.trans (congrArg _ (State.run_unpermitted lets)), rfl, only _⟩
    · exact ⟨_, _, .inl rfl, run.trans (congrArg _ (State.run_malformed lets malformed denied)), rfl, only _⟩

end Sys2Proof.Machine
end

section
/-! SUPPORT. The level of a session, what the acceptance of a command reloads, and what reset leaves; O12, O13 and O3. -/

namespace Sys2Proof.Machine

/-- R118: with the device running the session's level decides. -/
theorem State.gate_running {s : State} (h : s.sys.mode = .running) (o : Origin) (op priv : Nat) :
    s.gate o op priv = if s.level o < priv then st.notPermitted else st.ok := by
  simp only [State.gate, h]

/-- Settles O12: the gate by the device's mode. -/
theorem privilegeDecides : Obligations.PrivilegeDecides := by
  intro s o op priv
  refine ⟨fun running below => ?_, fun running enough => ?_, fun closed => ?_⟩
  · rw [State.gate_running running, if_pos below]
  · exact (State.gate_running running o op priv).trans (if_neg (Nat.not_lt.2 enough))
  · rcases closed with mode | mode | mode | mode <;> simp only [State.gate, mode]

/-- R69, R71: above Observe an acceptance reloads the watchdog, and of the system block nothing else changes. -/
theorem State.accepted_sys {priv : Nat} (h : 1 ≤ priv) (s : State) (o : Origin) :
    (s.accepted o priv).sys = Sys.reload s.sys := by
  simp only [State.accepted, if_pos h]
  split <;> rfl

/-- Settles O13: the reload by `State.accepted_sys`, the session's time by its interface. -/
theorem acceptanceReloadsTheWatchdog : Obligations.AcceptanceReloadsTheWatchdog := by
  intro s o
  refine ⟨s.accepted_observe o, fun priv above => State.accepted_sys above s o, fun itf => ?_, fun itf => ?_⟩
  all_goals
    simp only [State.accepted, itf]
    rfl

/-- Settles O3: each value as the reset state of its block gives it. -/
theorem resetValues : Obligations.ResetValues := by
  unfold Obligations.ResetValues
  decide

end Sys2Proof.Machine
end

section
/-! SUPPORT. The reports without parameters: how many bytes each table has, and where its fields stand; O15. -/

namespace Sys2Proof.Machine

/-- Entries of one length fill their table. -/
theorem length_flatMap_entries {α : Type} {f : α → List Byte} {n : Nat} (h : ∀ x, (f x).length = n) (xs : List α) :
    (xs.flatMap f).length = n * xs.length := by
  simp only [List.length_flatMap, h, List.map_const', List.sum_replicate, smul_eq_mul, Nat.mul_comm]

variable {s : State} {o : Origin} {c : Instr} {op n : Nat} {data : State → List Byte} {d : List Byte}

/-- A report that asks for no parameters, and got none. -/
theorem reports_table (run : exec c s = .next (s.report o op st.ok data)) (table : data s = d) (len : d.length = n) :
    Reports c s o op n d :=
  fun admitted => ⟨len, run.trans (congrArg _ (table ▸ State.report_admitted admitted rfl))⟩

theorem State.length_busStatus : s.busStatus.length = 60 := by
  unfold State.busStatus
  simp only [List.length_append, length_toLE, length_toLEi]

theorem State.length_meterTable : ((List.range 24).flatMap s.meterEntry).length = 576 := by
  refine length_flatMap_entries (n := 24) (fun k => ?_) _
  simp only [State.meterEntry, List.length_append, length_toLE, length_toLEi]

theorem State.length_linkStatus : s.linkStatus.length = 40 := by
  simp only [State.linkStatus, List.length_append, length_toLE, List.length_map, List.length_range]

theorem State.length_capStatus : s.capStatus.length = 52 := by
  simp only [State.capStatus, List.length_append, length_toLE]

theorem State.length_seqStatus : s.seqStatus.length = 24 := by
  simp only [State.seqStatus, List.length_append, length_toLE]

theorem State.length_adcStatus : s.adcStatus.length = 80 := by
  refine length_flatMap_entries (n := 8) (fun k => ?_) _
  simp only [List.length_append, length_toLE, List.length_cons, List.length_nil]

theorem State.length_thermalStatus : s.thermalStatus.length = 68 := by
  simp only [State.thermalStatus, List.length_append, length_toLE, length_toLEi,
    length_flatMap_entries (n := 2) fun _ => length_toLEi _ _, List.length_range]

theorem State.length_fanTable : ((List.range 4).flatMap s.fanEntry).length = 32 := by
  refine length_flatMap_entries (n := 8) (fun k => ?_) _
  simp only [State.fanEntry, List.length_append, length_toLE, length_toLEi]

theorem easelStatus_reports {blk : Nat} (h : blk ∈ easelBlocks) : ∃ d,
    Reports (.easelStatus o blk []) s o (256 * blk + 0xE4) 14 d ∧
      sliceBytes d 0 2 = toLE 2 s.cfg.gen[fin 21 blk] ∧
      sliceBytes d 6 8 = toLE 4 (s.statusMask blk fun c => c.stagedB) ++ toLE 4 (s.armedMask blk) :=
  ⟨_, reports_table (congrArg _ (if_neg (not_not.2 h))) rfl rfl, rfl, rfl⟩

theorem nodeTable_reports : ∃ d,
    Reports (.nodeTable o []) s o 0x0D02 (1 + 4 * s.link.table.length) d ∧ d.head? = some (byte s.link.table.length) := by
  have sorted : (s.link.table.mergeSort fun a b => a.addr ≤ b.addr).length = s.link.table.length := List.length_mergeSort _
  refine ⟨_, reports_table rfl rfl ?_, congrArg (fun n => some (byte n)) sorted⟩
  rw [List.length_cons, length_flatMap_entries (n := 4) fun _ => rfl, sorted, Nat.add_comm]

theorem faultActive_reports : ∃ d,
    Reports (.faultActive o []) s o 0x1302 (2 + 16 * min 255 s.flt.active.length) d ∧
      sliceBytes d 0 2 = [byte (min 255 s.flt.active.length), 0] := by
  refine ⟨_, reports_table rfl rfl ?_, congrArg (fun n => [byte n, 0]) List.length_take⟩
  rw [List.length_append, length_flatMap_entries (n := 16) fun _ => rfl, List.length_take]
  rfl

/-- Settles O15: each report by its table's length (`reports_table`), its fields where the table has them. -/
theorem reportsReplyWithTheirTable : Obligations.ReportsReplyWithTheirTable := by
  intro o s
  refine ⟨reports_table rfl rfl ?sys, ⟨_, reports_table rfl rfl rfl, rfl, rfl⟩, reports_table rfl rfl rfl,
    fun _ inside => easelStatus_reports inside, ⟨_, reports_table rfl rfl rfl, rfl, rfl⟩,
    reports_table rfl rfl State.length_busStatus, reports_table rfl rfl State.length_meterTable,
    reports_table rfl rfl State.length_linkStatus, nodeTable_reports, reports_table rfl rfl State.length_capStatus,
    reports_table rfl rfl State.length_seqStatus, reports_table rfl rfl State.length_adcStatus, reports_table rfl rfl rfl,
    reports_table rfl rfl State.length_thermalStatus, reports_table rfl rfl State.length_fanTable,
    reports_table rfl rfl ?faults, faultActive_reports, ⟨_, reports_table rfl rfl rfl, rfl⟩⟩
  case sys => simp only [List.length_append, List.length_cons, List.length_nil, length_toLE, length_padTo]
  case faults =>
    simp only [List.length_append, List.length_cons, List.length_nil, length_toLE,
      length_flatMap_entries fun _ => length_toLE 4 _, Vector.length_toList]

end Sys2Proof.Machine
end

section
/-! SUPPORT. The choice of an image, firmware ready, and the release of RST_OUT_N and of RST_N; O18 and O20. -/

namespace Sys2Proof.Machine

variable {s : State}

/-! ## The boot ROM's choice (R54, R55) -/

theorem State.bootTry_accepts {k : Fin 2} {next : State → State} (h : s.bootVerdict k = some 0) :
    s.bootTry k next = s.bootAccept k := by
  simp only [State.bootTry, h]

theorem State.bootTry_empty {k : Fin 2} {next : State → State} (h : s.bootVerdict k = none) : s.bootTry k next = next s := by
  simp only [State.bootTry, h]

/-! ## Firmware ready (R56, R66) -/

theorem firmwareReady_hold (tests : SelfTests) (n : Nat) (ok : Bool) (high : s.sys.rstLow = false) (h : s.sys.mode = .hold) :
    Goes (.firmwareReady tests n ok) s (s.holdReady tests n ok) := by
  show execFirmwareReady tests n ok s = _
  simp only [execFirmwareReady, high, h, Bool.false_eq_true, if_false]

theorem firmwareReady_boot (tests : SelfTests) (n : Nat) (ok : Bool) (high : s.sys.rstLow = false) (h : s.sys.mode = .bootRom)
    (hk : s.sys.hk = .good) (booted : s.img.booted.isSome) :
    Goes (.firmwareReady tests n ok) s (s.bootReady tests n) := by
  show execFirmwareReady tests n ok s = _
  simp only [execFirmwareReady, high, h, hk, booted, Bool.false_eq_true, if_false, and_self, if_true]

theorem firmwareReady_unheeded (tests : SelfTests) (n : Nat) (ok : Bool) (h : s.sys.rstLow ∨ s.sys.mode = .running ∨
    s.sys.mode = .bootLoader ∨ s.sys.mode = .holdOnly ∨ s.sys.mode = .coldReset) :
    Goes (.firmwareReady tests n ok) s s := by
  show execFirmwareReady tests n ok s = _
  unfold execFirmwareReady
  rcases h with low | mode | mode | mode | mode
  · rw [if_pos low]
  all_goals simp only [mode, ite_self]

/-! ## The release of RST_OUT_N (R61) -/

theorem rstOutRelease_runs {t : Nat} (d0 : s.sys.d0InWin = some t) (low : s.sys.rstOut) :
    Goes .rstOutRelease s
      ((s.advanceTo (max t s.sys.tRstOut + ms 20)).onSys fun y => { y with rstOut := false }) := by
  show execRstOutRelease s = _
  simp only [execRstOutRelease, d0, low, if_true]

theorem rstOutRelease_unheeded (h : s.sys.d0InWin = none ∨ s.sys.rstOut = false) : Goes .rstOutRelease s s := by
  show execRstOutRelease s = _
  unfold execRstOutRelease
  split
  next t d0 =>
    have high : s.sys.rstOut = false := h.resolve_left (by simp [d0])
    rw [if_neg (ne_true_of_eq_false high)]
  next => rfl

/-- Settles O18: the choice by the verdicts on the two areas, firmware ready by the mode that it finds. -/
theorem bootEventsRun : Obligations.BootEventsRun := by
  intro s
  refine ⟨Fires.congr (by simp) (fires_ite rfl), ⟨State.bootTry_accepts, fun active other => ?_, fun active other => ?_⟩,
    firmwareReady_hold, firmwareReady_boot, firmwareReady_unheeded,
    fun t d0 low => ⟨_, rstOutRelease_runs d0 low, rfl, rfl, rfl⟩, rstOutRelease_unheeded⟩
  · exact (State.bootTry_empty active).trans (State.bootTry_accepts other)
  · exact (State.bootTry_empty active).trans (State.bootTry_empty other)

/-! ## The release of RST_N (R60, R489, R519) -/

/-- What the release of RST_N resets, whatever the mode. -/
def State.pinFreed (s : State) : State :=
  (((s.onSys fun y => { y with rstLow := false, strapDue := true, wdTimeout := 0x3C }).onHif Hif.pinReset).onSkb
    fun k => { k with stream := none }).dropQueue

/-- What the release of RST_N starts, by the mode that it finds. -/
def State.pinResume (s : State) : Mode → State
  | .hold | .holdOnly =>
    (s.onSys fun y => { y with holds := y.holds.map fun h => (h.1, false), otherTried := false }).settle fun a => a.code = 0x0104
  | .bootRom | .bootLoader => s.bootAgain 2
  | .coldReset => if s.seq.coldDue then s else s.coldBoot
  | .running => s

theorem pinResetRelease_finds {m : Mode} (low : s.sys.rstLow) (up : s.sys.por = false) (h : s.sys.mode = m) :
    Goes .pinResetRelease s (s.pinFreed.pinResume m) := by
  subst h
  exact congrArg _ (if_neg (by simp [low, up]))

/-- Settles O20: the release by the mode that it finds (`State.pinResume`). -/
theorem pinResetReleaseRuns : Obligations.PinResetReleaseRuns := by
  intro s
  exact ⟨fun h => congrArg _ (if_pos (by simpa using h)), fun low up =>
    ⟨pinResetRelease_finds low up, fun h => h.elim (pinResetRelease_finds low up) (pinResetRelease_finds low up),
      pinResetRelease_finds low up, fun h => h.elim (pinResetRelease_finds low up) (pinResetRelease_finds low up), rfl, rfl,
      rfl, rfl⟩⟩

end Sys2Proof.Machine
end

section
/-! SUPPORT. The boot records' bytes, the reservoir's capacity, and the host-contact watchdog; O21 and O22. -/

namespace Sys2Proof.Machine

/-! ## Little-endian bytes (R6) -/

/-- The bytes of a value read from bytes are those bytes. -/
theorem toLE_leNat (bs : List Byte) : toLE bs.length (leNat bs) = bs := by
  induction bs with
  | nil => rfl
  | cons b bs ih =>
    have low : byte (leNat (b :: bs)) = b := by
      apply BitVec.eq_of_toNat_eq
      rw [leNat, BitVec.toNat_ofNat, Nat.add_mul_mod_self_left, Nat.mod_eq_of_lt b.isLt]
    have high : leNat (b :: bs) / 256 = leNat bs := by
      rw [leNat, Nat.add_mul_div_left _ _ (by decide), Nat.div_eq_of_lt b.isLt, Nat.zero_add]
    rw [List.length_cons, toLE, low, high, ih]

theorem toLE_u {bs : List Byte} {off n : Nat} (h : off + n ≤ bs.length) : toLE n (u bs off n) = sliceBytes bs off n := by
  have len : (sliceBytes bs off n).length = n := by
    rw [sliceBytes, List.length_take, List.length_drop]
    omega
  have bytes := toLE_leNat (sliceBytes bs off n)
  rwa [len] at bytes

/-- The bytes from an offset on, after those of a field there. -/
theorem slice_append_drop (bs : List Byte) (off n : Nat) : sliceBytes bs off n ++ bs.drop (off + n) = bs.drop off := by
  rw [sliceBytes, ← List.drop_drop, List.take_append_drop]

/-! ## Boot records (R64) -/

theorem bootRecOf_bytes {p : List Byte} (h : bootRecOk p) : (bootRecOf p).bytes = p := by
  simp only [bootRecOk, Bool.and_eq_true, decide_eq_true_eq] at h
  obtain ⟨⟨⟨len, -⟩, -⟩, spare⟩ := h
  have last : toLE 1 (u p 14 1) ++ toLE 1 (u p 15 1) = p.drop 14 := by
    rw [toLE_u (by omega), toLE_u (by omega), ← slice_append_drop p 14 1, ← slice_append_drop p 15 1,
      List.drop_of_length_le (by omega : p.length ≤ 15 + 1), List.append_nil]
  calc (bootRecOf p).bytes
    _ = toLE 4 (u p 0 4) ++ toLE 2 (u p 4 2) ++ toLE 2 (u p 6 2) ++ toLE 2 (u p 8 2) ++ toLE 4 (u p 10 4) ++
          (toLE 1 (u p 14 1) ++ toLE 1 (u p 15 1)) := by rw [spare]; rfl
    _ = p := by
      rw [last, toLE_u (by omega), toLE_u (by omega), toLE_u (by omega), toLE_u (by omega), toLE_u (by omega)]
      simp only [List.append_assoc, slice_append_drop p 10 4, slice_append_drop p 8 2, slice_append_drop p 6 2,
        slice_append_drop p 4 2, slice_append_drop p 0 4, List.drop_zero]

section
variable {s : State} {o : Origin} {p : List Byte}

theorem d0BootRecord_run : exec (.d0BootRecord o p) s = .next (s.run o 0x0112 2
    (if !bootRecOk p then st.badParam else if 4 ≤ s.sys.bootRecs.length then st.notPermitted else st.ok) fun s =>
      (.done st.ok [], s.onSys fun y => { y with bootRecs := y.bootRecs ++ [bootRecOf p] })) := rfl

theorem d0BootRecord_writes (admitted : s.admits o 0x0112 2) (good : bootRecOk p) (room : s.sys.bootRecs.length < 4) :
    Replies (.d0BootRecord o p) s ((s.accepted o 2).onSys fun y => { y with bootRecs := y.bootRecs ++ [bootRecOf p] })
      o 0x0112 st.ok [] :=
  d0BootRecord_run.trans
    (congrArg _ (State.run_done admitted (by rw [good, if_neg (by decide), if_neg (by omega)]) rfl (by decide)))

theorem d0BootRecord_full (admitted : s.admits o 0x0112 2) (good : bootRecOk p) (full : 4 ≤ s.sys.bootRecs.length) :
    Goes (.d0BootRecord o p) s (s.answer o 0x0112 st.notPermitted []) :=
  d0BootRecord_run.trans
    (congrArg _ (State.run_answers admitted (by rw [good, if_neg (by decide), if_pos full]) (by decide)))

theorem d0BootRecord_bad (admitted : s.admits o 0x0112 2) (bad : bootRecOk p = false) :
    Goes (.d0BootRecord o p) s (s.answer o 0x0112 st.badParam []) :=
  d0BootRecord_run.trans (congrArg _ (State.run_answers admitted (by rw [bad]; rfl) (by decide)))

/-! ## The reservoir's capacity (R65) -/

variable (admitted : s.admits o 0x0113 2)
include admitted

theorem keepReservoir_reads (len : p.length = 8) (spare : u p 4 4 = 0) (read : u p 0 4 = 0) :
    Replies (.keepReservoir o p) s (s.accepted o 2) o 0x0113 st.ok (toLE 4 s.sys.cUf) :=
  congrArg _ (State.run_done admitted (param_ok (decide_eq_true ⟨len, spare, .inl read⟩)) (if_pos read) (by decide))

theorem keepReservoir_writes (len : p.length = 8) (spare : u p 4 4 = 0) (low : 470 ≤ u p 0 4) (high : u p 0 4 ≤ 100000) :
    Goes (.keepReservoir o p) s (((((s.accepted o 2).onSys fun y => { y with cUf := u p 0 4 }).gateWatch).await o 0x0113 0 0
      []).vWrite 5 (toLE 4 (u p 0 4))) :=
  congrArg _ (State.run_waits admitted (param_ok (decide_eq_true ⟨len, spare, .inr ⟨low, high⟩⟩)) (if_neg (by omega)))

theorem keepReservoir_bad
    (bad : p.length ≠ 8 ∨ u p 4 4 ≠ 0 ∨ (0 < u p 0 4 ∧ u p 0 4 < 470) ∨ 100000 < u p 0 4) :
    Goes (.keepReservoir o p) s (s.answer o 0x0113 st.badParam []) :=
  congrArg _ (State.run_answers admitted (param_bad (decide_eq_false (by omega))) (by decide))

end

/-- Settles O21: each command by its checks, the record's bytes by `bootRecOf_bytes`. -/
theorem bootRecordsRun : Obligations.BootRecordsRun := fun _ _ _ =>
  ⟨d0BootRecord_writes, decide_eq_true rfl, bootRecOf_bytes, d0BootRecord_full, d0BootRecord_bad, keepReservoir_reads,
    keepReservoir_writes, keepReservoir_bad⟩

/-! ## The host-contact watchdog (R69, R70) -/

/-- Settles O22: the writes where the interface is live, the expiry where the watchdog runs. -/
theorem hostWatchdogRuns : Obligations.HostWatchdogRuns := by
  intro s
  exact ⟨fun _ => ⟨rfl, rfl⟩, fun _ => fires_ite rfl, fun _ => fires_ite_not rfl (by simp), fun _ => rfl,
    Fires.congr (by simp) (fires_ite rfl)⟩

end Sys2Proof.Machine
end

section
/-! SUPPORT. A channel's state machine: its own starts, its qualification and its walk-in; O35. -/

namespace Sys2Proof.Machine

variable {s : State} {k : Fin 2} {t : Nat}

/-! ## A section's power (R57) -/

theorem State.onTherm_onRectCh_rest (s : State) (g : Therm → Therm) (j : Nat) (f : RectCh → RectCh) :
    (s.onTherm g).onRectCh j f =
      { s with rect := ((s.onTherm g).onRectCh j f).rect, therm := ((s.onTherm g).onRectCh j f).therm } := rfl

theorem State.onTherm_rectCh (s : State) (g : Therm → Therm) (j : Nat) : (s.onTherm g).rectCh j = s.rectCh j := rfl

theorem State.sectionUp_leaves (s : State) (k : Fin 2) :
    let u := s.sectionUp k
    u = { s with rect := u.rect, therm := u.therm } ∧ (u.rectCh k).powered ∧ (u.rectCh k).bar.link = .down ∧
      (u.rectCh k).bar.secRec = recDefaults .rect0 ∧ (u.rectCh k).st = (s.rectCh k).st := by
  unfold State.sectionUp
  refine ⟨State.onTherm_onRectCh_rest _ _ _ _, ?_⟩
  simp only [State.onRectCh_rectCh, State.onTherm_rectCh, Barrier.reset, and_self]

/-! ## Autonomous starts (R57, R58) -/

theorem State.mayAuto_eq (s : State) (k : Fin 2) :
    s.mayAuto k =
      ((s.rectCh k).st = .off ∧ (s.rectCh k).powered ∧ (s.rectCh k).bar.link ≠ .up ∧ s.flag Fld.Rect.PRESENT k : Bool) := by
  simp only [State.mayAuto, Bool.decide_and, Bool.decide_eq_true, Bool.and_assoc]

@[simp] theorem State.till_por (s : State) (t : Nat) : (s.till t).sys.por = s.sys.por := by
  unfold State.till
  split <;> rfl

@[simp] theorem State.till_rectCh (s : State) (t j : Nat) : (s.till t).rectCh j = s.rectCh j := by
  unfold State.till
  split <;> rfl

theorem autonomousStart_starts (qual : (s.rectCh k).qualFrom = some t) (first : (s.rectCh k).autoAt = none)
    (may : s.mayAuto k) :
    let r := s.till (t + (ms (s.rectCh k).qualMs - (s.rectCh k).qualRan))
    Goes (.autonomousStart k) s ((if s.sys.por then
      r.onRectCh k fun c => { c with qualRan := max c.qualRan (ms (s.rectCh k).qualMs) } else r).autoStart k) := by
  show execAutonomousStart k s = _
  simp only [execAutonomousStart, qual, first, may, if_true, State.till_por]
  split
  · refine congrArg (fun r : State => Host.Outcome.next (r.autoStart k)) (State.onRectCh_congr ?_)
    rw [State.till_rectCh]
  · rfl

theorem autonomousStart_unheeded
    (h : (s.rectCh k).qualFrom = none ∨ (s.rectCh k).autoAt ≠ none ∨ s.mayAuto k = false) :
    Goes (.autonomousStart k) s s := by
  show execAutonomousStart k s = _
  unfold execAutonomousStart
  dsimp only
  split
  next qual first =>
    have barred : s.mayAuto k = false := by simpa [qual, first] using h
    rw [if_neg (ne_true_of_eq_false barred)]
  next => rfl

theorem autonomousRetry_tries (due : (s.rectCh k).autoAt = some t) (may : s.mayAuto k) :
    Goes (.autonomousRetry k) s (if (s.till t).qualMet k then (s.till t).autoStart k
      else (s.till t).onRectCh k fun c => { c with autoAt := none }) := by
  show execAutonomousRetry k s = _
  simp only [execAutonomousRetry, due, may, if_true]

theorem autonomousRetry_unheeded (h : (s.rectCh k).autoAt = none ∨ s.mayAuto k = false) :
    Goes (.autonomousRetry k) s s := by
  show execAutonomousRetry k s = _
  unfold execAutonomousRetry
  split
  next due =>
    have barred : s.mayAuto k = false := h.resolve_left (by simp [due])
    rw [if_neg (ne_true_of_eq_false barred)]
  next => rfl

/-! ## Qualification (R151, R153) -/

theorem qualTimerExpiry_ends (st : (s.rectCh k).st = .qualify) (from_ : (s.rectCh k).qualFrom = some t)
    (runs : (s.rectCh k).qualDone = none) :
    Goes (.qualTimerExpiry k) s
      (let s := s.advanceTo (t + ms (s.rectCh k).qualMs)
       (s.onRectCh k fun c => { c with qualDone := some s.now }).qualTry k) := by
  show execQualTimerExpiry k s = _
  simp only [execQualTimerExpiry, st, from_, runs]

theorem prechargeTimeout_ends (st : (s.rectCh k).st = .qualify) (done : (s.rectCh k).qualDone = some t)
    (low : (s.rectCh k).precharged = false) :
    Goes (.prechargeTimeout k) s (((s.advanceTo (t + ms 500)).rectTo k .listen).raise 0x0704 k) := by
  show execPrechargeTimeout k s = _
  simp only [execPrechargeTimeout, st, done, low, Bool.false_eq_true, if_false]

theorem qualify_unheeded (st : (s.rectCh k).st ≠ .qualify) :
    Goes (.qualTimerExpiry k) s s ∧ Goes (.prechargeTimeout k) s s := by
  refine ⟨?_, ?_⟩
  · show execQualTimerExpiry k s = _
    unfold execQualTimerExpiry
    split
    · contradiction
    · rfl
  · show execPrechargeTimeout k s = _
    unfold execPrechargeTimeout
    split
    · contradiction
    · rfl

/-! ## Soft start and walk-in (R155, R162, R199) -/

theorem State.auxInUse_isNone_iff (s : State) : s.auxInUse.isNone ↔ ∀ j : Fin 2, (s.auxCh j).running = false := by
  simp [State.auxInUse, List.range_succ, Fin.forall_fin_two]

theorem State.walkJudge_eq (s : State) (k : Nat) :
    s.walkJudge k = if (s.rectCh k).st = .walkIn ∧ (s.rectCh k).softOff = false ∧ 100000 * s.pMax k ≤ (s.rectCh k).walk then
      (s.rectTo k .run).readyBack else s := by
  simp only [State.walkJudge, Bool.not_eq_true']

theorem walkInDone_fires : Fires (.walkInDone k) s ((s.rectCh k).st = .walkIn ∧ (s.rectCh k).softOff = false)
    (let c := s.rectCh k
     let rate := max 1 (s.fld Fld.Rect.WALKIN_W_S)
     let t := s.advanceTo (c.tWalk + ((100000 * s.pMax k - c.walk) * s.walkers + rate - 1) / rate)
     let r := t.onRectCh k (t.walkStep k)
     if (r.rectCh k).st = .walkIn ∧ (r.rectCh k).softOff = false ∧ 100000 * r.pMax k ≤ (r.rectCh k).walk then
       (r.rectTo k .run).readyBack else r) := by
  simp only [← State.walkJudge_eq]
  exact Fires.congr (and_congr_right' (by rw [Bool.not_eq_true'])) (fires_ite rfl)

/-- Settles O35: each event as a guarded effect, those that end a time by the value that holds it. -/
theorem rectStatesRun : Obligations.RectStatesRun := by
  intro s k
  refine ⟨fun now => ⟨rfl, rfl, rfl, rfl, rfl, rfl, rfl, rfl, rfl, rfl, rfl, ?enter⟩, fires_ite_not rfl (by simp),
    s.sectionUp_leaves k, fires_ite rfl, fun _ => autonomousStart_starts, autonomousStart_unheeded, s.mayAuto_eq k, rfl,
    fires_ite rfl, fun t due may => ⟨fun met => ?met, fun unmet => ?unmet⟩, autonomousRetry_unheeded,
    fun _ _ _ => fires_ite rfl, fun _ => qualTimerExpiry_ends, fun _ => prechargeTimeout_ends, qualify_unheeded,
    fires_ite rfl, fun _ => fires_ite rfl,
    fun _ => Fires.congr (and_congr_right' (and_congr_right' s.auxInUse_isNone_iff)) (fires_ite rfl), fires_ite rfl,
    walkInDone_fires, fun _ => fires_ite rfl⟩
  case enter =>
    simp only [List.forall_mem_cons, List.not_mem_nil, false_imp_iff, implies_true, and_true]
    exact ⟨⟨rfl, rfl, rfl, rfl, rfl⟩, ⟨rfl, rfl, rfl, rfl, rfl⟩, ⟨rfl, rfl, rfl, rfl, rfl⟩, ⟨rfl, rfl, rfl, rfl, rfl⟩⟩
  case met => exact (autonomousRetry_tries due may).trans (congrArg _ (if_pos met))
  case unmet => exact (autonomousRetry_tries due may).trans (congrArg _ (if_neg (ne_true_of_eq_false unmet)))

end Sys2Proof.Machine
end

section
/-! SUPPORT. The charger's tick and its timers, the gauge's update and the deferred varnish values; O40. -/

namespace Sys2Proof.Machine

variable {s : State} {k : Nat} {t : Nat}

/-! ## The charger's tick (R66, R219) -/

theorem State.chgTick_rests (h : s.sys.mode ≠ .running ∨ s.sys.fwReady = false) (k : Nat) : s.chgTick k = s :=
  if_pos (h.imp_right fun out => by rw [out]; rfl)

theorem chargerTick_rests (h : s.sys.mode ≠ .running ∨ s.sys.fwReady = false) : Goes .chargerTick s s.chgJudge := by
  have both : s.each [0, 1] State.chgTick = s := by
    show (s.chgTick 0).chgTick 1 = s
    rw [State.chgTick_rests h, State.chgTick_rests h]
  exact congrArg (fun r : State => Host.Outcome.next r.chgJudge) both

theorem State.chgTick_runs (running : s.sys.mode = .running) (ready : s.sys.fwReady) :
    s.chgTick k =
      (let c0 := s.strCh k
       let s := ((s.boundary .chg0 k .main).palCharger k).adopt 1 k
       let s := s.onStrCh k fun c => { c with safe := s.sys.safe }
       let s := (s.chgEnable k).serve 0x0902 k fun own s => s.chgAct k own
       let s := (((s.bandStep k).count k).expire k).suspendTick k
       let c := s.strCh k
       let s := if c.chg = .run ∧ c0.chg = .run ∧ c.ps = c0.ps ∧ c.tPs = c0.tPs then s.exits k else s
       (s.target k).testTick k) :=
  if_neg (by simp [running, ready])

/-! ## The timers (R227–R229) -/

theorem State.onStrCh_fld (s : State) (k : Nat) (g : StrCh → StrCh) (f : Field) (ch : Nat) :
    (s.onStrCh k g).fld f ch = s.fld f ch :=
  State.fld_congr rfl f ch

/-- R227, R228: with neither the precharge timer nor the wall timer over, the equivalent time decides. -/
theorem State.expire_eq (run : (s.strCh k).chg = .run) (pre : (s.strCh k).tPre < 60 * s.fld Fld.Chg.PRE_TIMER_MIN k)
    (wall : (s.strCh k).tWall < 180 * s.fld Fld.Chg.CCCV_TIMER_MIN k)
    (due : 60000000 * s.fld Fld.Chg.CCCV_TIMER_MIN k ≤ (s.strCh k).tEq) : s.expire k = s.eqExpire k := by
  simp only [State.expire, run, ne_eq, not_true_eq_false, if_false, if_neg (Nat.not_le.2 pre), if_neg (Nat.not_le.2 wall),
    if_pos due]

/-- R227, R228: a charge that has been resumed once latches, and so does one that the heat did not hold back; another is
suspended. -/
theorem State.eqExpire_eq (s : State) (k : Nat) :
    s.eqExpire k = if (s.strCh k).resumeUsed then s.chgLatch k 0x0906
      else if 1800 < ((s.strCh k).therm.filter id).length then
        (s.onStrCh k fun c => { c.noCharge with chg := .suspended, bandExp := c.band, resumeFor := 0 }).raise 0x0905 k
      else s.chgLatch k 0x0904 := by
  simp only [State.eqExpire, decide_eq_true_eq]

/-- The string's equivalent time brought to the end of the constant-current and constant-voltage timer. -/
def State.eqFull (s : State) (k : Nat) : State :=
  s.onStrCh k fun c => { c with tEq := max c.tEq (60000000 * s.fld Fld.Chg.CCCV_TIMER_MIN k) }

theorem State.eqFull_expire (run : ((s.eqFull k).strCh k).chg = .run)
    (pre : ((s.eqFull k).strCh k).tPre < 60 * s.fld Fld.Chg.PRE_TIMER_MIN k)
    (wall : ((s.eqFull k).strCh k).tWall < 180 * s.fld Fld.Chg.CCCV_TIMER_MIN k) :
    (s.eqFull k).expire k = (s.eqFull k).eqExpire k := by
  have due : 60000000 * s.fld Fld.Chg.CCCV_TIMER_MIN k ≤ ((s.eqFull k).strCh k).tEq := by
    rw [State.eqFull, State.onStrCh_strCh]
    exact le_max_right _ _
  have fld (f : Field) : (s.eqFull k).fld f k = s.fld f k := s.onStrCh_fld k _ f k
  exact State.expire_eq run (by rwa [fld]) (by rwa [fld]) (by rwa [fld])

/-! ## Deferred varnish values (R261) -/

/-- The deferred values written one by one, those items without one passed due. -/
theorem State.each_deferred (items : List VItem) (s : State) :
    (s.each items fun x s => match x.deferred with | some d => s.vWrite x.id d | none => s) =
      (items.filterMap fun x => x.deferred.map fun d => (x.id, d)).foldl (fun s x => s.vWrite x.1 x.2) s := by
  rw [List.foldl_filterMap]
  refine congrArg (fun f => items.foldl f s) (funext fun s => funext fun x => ?_)
  dsimp only
  cases x.deferred <;> rfl

theorem varnishRetry_waits (h : s.varn.openSince = none) : Goes .varnishRetry s s := by
  show execVarnishRetry s = _
  simp only [execVarnishRetry, h]

theorem varnishRetry_writes (h : s.varn.openSince = some t) :
    Goes .varnishRetry s ((s.varn.items.filterMap fun x => x.deferred.map fun d => (x.id, d)).foldl
      (fun s x => s.vWrite x.1 x.2) (s.advanceTo (t + sec 10))) := by
  rw [← State.each_deferred]
  show execVarnishRetry s = _
  simp only [execVarnishRetry, h]
  rfl

/-- Settles O40: the tick by the device's mode, each timer and the gauge's events as guarded effects. -/
theorem chargerAndGaugeRun : Obligations.ChargerAndGaugeRun := by
  intro s k
  exact ⟨chargerTick_rests, State.chgTick_runs, rfl, ⟨Fires.congr and_assoc.symm (fires_ite rfl),
    ⟨Fires.congr and_assoc.symm (fires_ite rfl), fun run pre wall =>
      (State.eqFull_expire (s := s) run pre wall).trans (State.eqExpire_eq _ _)⟩, Fires.congr and_assoc.symm (fires_ite rfl)⟩,
    fires_ite rfl, fires_ite_not rfl not_not, fires_ite rfl, varnishRetry_waits, fun _ => varnishRetry_writes⟩

end Sys2Proof.Machine
end

section
/-! SUPPORT. A step on an empty queue; O2. -/

namespace Sys2Proof.Machine

variable {s : State}

theorem step_idle (h : s.pending = []) : step s = .next s.idle := by
  rw [step, h]

theorem State.idle_por (h : s.sys.por) : s.idle = s := if_pos h

theorem State.idle_up (h : s.sys.por = false) : s.idle = s.onSys fun y => { y with time := y.time + 1 } :=
  if_neg (ne_true_of_eq_false h)

/-- Settles O2: in power-on reset the block stays as it is, and outside it the timebase counts. -/
theorem stepIdles : Obligations.StepIdles := by
  intro s empty
  refine ⟨s.idle, step_idle empty, ?_⟩
  cases por : s.sys.por with
  | true =>
    rw [State.idle_por por]
    exact ⟨rfl, rfl, rfl⟩
  | false =>
    rw [State.idle_up por]
    exact ⟨rfl, rfl, rfl⟩

end Sys2Proof.Machine
end

section
/-! SUPPORT. The bytes of a register write on I2C and the flags that a write of IRQ_FLAGS clears; O25. -/

namespace Sys2Proof.Machine

/-! ## The flags that bytes name (R73, R84) -/

theorem testBit_leNat_cons (b : Byte) (bs : List Byte) (j : Nat) :
    (leNat (b :: bs)).testBit j = if j < 8 then b.toNat.testBit j else (leNat bs).testBit (j - 8) := by
  rw [leNat, Nat.add_comm]
  exact Nat.testBit_two_pow_mul_add _ b.isLt j

theorem byte_testBit_high {b : Byte} {j : Nat} (h : 8 ≤ j) : b.toNat.testBit j = false :=
  Nat.testBit_lt_two_pow (b.isLt.trans_le (Nat.pow_le_pow_right (by decide) h))

theorem pow_256 (i : Nat) : 256 ^ i = 2 ^ (8 * i) := (pow_mul 2 8 i).symm

/-- The first of bytes from byte `i` on, and those after it. -/
theorem testBit_leNat_cons_shift (b : Byte) (bs : List Byte) (i j : Nat) :
    (leNat (b :: bs) <<< (8 * i)).testBit j =
      ((b.toNat <<< (8 * i)).testBit j || (leNat bs <<< (8 * (i + 1))).testBit j) := by
  simp only [Nat.testBit_shiftLeft, testBit_leNat_cons]
  by_cases low : j - 8 * i < 8
  · simp [low, show ¬8 * (i + 1) ≤ j by omega]
  · simp [low, byte_testBit_high (Nat.le_of_not_lt low), show 8 * (i + 1) ≤ j by omega, show 8 * i ≤ j by omega,
      show j - 8 * i - 8 = j - 8 * (i + 1) by omega]

/-- R84: the bits set in bytes that begin at byte `i` of IRQ_FLAGS are flags that exist. -/
def FlagsExist (i : Nat) (ds : List Byte) : Prop := ∀ j, (leNat ds).testBit j → irqBits.testBit (8 * i + j)

theorem FlagsExist.head {i : Nat} {b : Byte} {ds : List Byte} (h : FlagsExist i (b :: ds)) :
    b.toNat &&& (irqBits / 256 ^ i % 256) = b.toNat := by
  refine Nat.eq_of_testBit_eq fun j => ?_
  have window : (irqBits / 256 ^ i % 256).testBit j = (decide (j < 8) && irqBits.testBit (8 * i + j)) := by
    rw [pow_256, Nat.add_comm (8 * i)]
    exact (Nat.testBit_mod_two_pow _ 8 j).trans (by rw [Nat.testBit_div_two_pow])
  rw [Nat.testBit_and, window]
  cases set : b.toNat.testBit j with
  | false => rfl
  | true =>
    have low : j < 8 := Nat.lt_of_not_le fun high => by simp [byte_testBit_high high] at set
    simp [low, h j (by rw [testBit_leNat_cons, if_pos low, set])]

theorem FlagsExist.tail {i : Nat} {b : Byte} {ds : List Byte} (h : FlagsExist i (b :: ds)) : FlagsExist (i + 1) ds := by
  intro j set
  have := h (j + 8) (by rwa [testBit_leNat_cons, if_neg (by omega), Nat.add_sub_cancel])
  rwa [show 8 * (i + 1) + j = 8 * i + (j + 8) by omega]

theorem flagsExist_of_and {ds : List Byte} (h : leNat ds &&& irqBits = leNat ds) : FlagsExist 0 ds := by
  intro j set
  rw [← h, Nat.testBit_and, Bool.and_eq_true] at set
  rw [Nat.mul_zero, Nat.zero_add]
  exact set.2

/-! ## A write of IRQ_FLAGS (R73, R84) -/

/-- A write that has come to byte `i` of IRQ_FLAGS with `n` bytes taken. -/
def RegWalk.atFlags (w : RegWalk) (h : Hif) (i n : Nat) : RegWalk := { w with h := h, ptr := 0x0C + i, taken := n }

variable {w : RegWalk} {h : Hif} {i n : Nat}

/-- One byte that names only flags that exist: it clears them, and the pointer goes on. -/
theorem RegWalk.byte_atFlags (spi : Bool) (ok : w.ok) (hi : i < 4) {v : Byte} {ds : List Byte} (known : FlagsExist i (v :: ds)) :
    (w.atFlags h i n).byte spi v = w.atFlags (h.clearIrq (v.toNat <<< (8 * i)) w.hw) (i + 1) (n + 1) := by
  have shift : v.toNat * 256 ^ i = v.toNat <<< (8 * i) := by rw [Nat.shiftLeft_eq, pow_256]
  have next : (0x0C + i + 1) % 256 = 0x0C + (i + 1) := Nat.mod_eq_of_lt (by omega)
  have here : 0x0C ≤ 0x0C + i ∧ 0x0C + i ≤ 0x0F := by omega
  simp only [RegWalk.atFlags, RegWalk.byte, ok, here, and_self, Nat.add_sub_cancel_left, known.head, shift, next,
    Bool.not_true, Bool.false_eq_true, ne_eq, not_true_eq_false, decide_false, if_true, if_false]

/-- The bytes in turn: a flag stays as they leave it, but for those that hardware sets meanwhile. -/
theorem RegWalk.foldl_atFlags (spi : Bool) (ok : w.ok) {ds : List Byte} (len : i + ds.length ≤ 4) (known : FlagsExist i ds) :
    ∃ t m, ds.foldl (RegWalk.byte spi) (w.atFlags h i n) = w.atFlags t (i + ds.length) m ∧
      ∀ j, (t.irq.testBit j || w.hw.testBit j) =
        ((h.irq.testBit j && !(leNat ds <<< (8 * i)).testBit j) || w.hw.testBit j) := by
  induction ds generalizing h i n with
  | nil => exact ⟨h, n, rfl, fun j => by simp [leNat]⟩
  | cons v ds ih =>
    rw [List.length_cons] at len
    obtain ⟨t, m, walked, bits⟩ := ih (h := h.clearIrq (v.toNat <<< (8 * i)) w.hw) (i := i + 1) (n := n + 1) (by omega)
      known.tail
    refine ⟨t, m, ?_, fun j => (bits j).trans ?_⟩
    · rw [List.foldl_cons, RegWalk.byte_atFlags spi ok (by omega) known, walked, List.length_cons, Nat.add_assoc,
        Nat.add_comm 1]
    · have kept : (h.clearIrq (v.toNat <<< (8 * i)) w.hw).irq = h.irq.ldiff (v.toNat <<< (8 * i)) ||| w.hw := rfl
      simp only [kept, testBit_leNat_cons_shift, Nat.testBit_or, Nat.testBit_ldiff]
      cases w.hw.testBit j <;> simp [Bool.and_assoc]

/-! ## A register write on I2C (R73, R80) -/

/-- What follows a write's address: the pointer and the data bytes, with their PEC where it is required (R80). -/
def State.sealed (s : State) (p : Byte) (ds : List Byte) : List Byte :=
  p :: if s.hif.opt.pec then ds ++ [byte (crc8 ([s.i2cAddr false, p] ++ ds))] else ds

/-- A write of which no byte is refused: each takes effect, and the pointer stays where they end. -/
theorem State.i2cWrite_ok {s : State} {hw : Nat} {p : Byte} {ds : List Byte}
    (walk : ds.foldl (RegWalk.byte false) ((s.i2cStart.drive []).hif.walk p.toNat hw) = w) (ok : w.ok) :
    s.i2cWrite hw (s.sealed p ds) =
      ((w.commit (s.i2cStart.drive [])).onHif fun h => { h with ptr := w.ptr }, w.act) := by
  have walkPec : (s.i2cStart.drive []).hif.walkPec p.toNat hw ds = w := by
    simp only [Hif.walkPec, walk, ok, true_or, if_true]
  have same : (s.i2cStart.drive []).hif.opt.pec = s.hif.opt.pec := rfl
  have addr : (s.i2cStart.drive []).i2cAddr false = s.i2cAddr false := rfl
  cases pec : s.hif.opt.pec with
  | false =>
    have plain : s.sealed p ds = p :: ds := by rw [State.sealed, pec]; rfl
    simp only [plain, State.i2cWrite, same, pec, walk, ok, Bool.false_eq_true, false_and, if_false, if_true]
  | true =>
    have crc : s.sealed p ds = (p :: ds) ++ [byte (crc8 (s.i2cAddr false :: p :: ds))] := by rw [State.sealed, pec]; rfl
    simp only [crc, State.i2cWrite, same, pec, walkPec, ok, addr, List.dropLast_concat, List.getLastD_concat, ne_eq,
      not_true_eq_false, and_false, if_false, if_true]

/-- A walk that leaves nothing for the boundary has had its effect. -/
theorem RegWalk.commit_none (s : State) (mask : w.mask = none) (attn : w.attn = none) (wd : w.wd = none) (page : w.page = none)
    (size : w.size = none) (len : w.len = none) : w.commit s = s.onHif fun _ => w.h := by
  simp only [RegWalk.commit, mask, attn, wd, page, size, len]

/-- Settles O25: the write by its bytes (`RegWalk.foldl_atFlags`), and what hardware sets after them. -/
theorem settingAFlagWins : Obligations.SettingAFlagWins := by
  intro s ds hw up len known
  obtain ⟨t, m, walked, bits⟩ := RegWalk.foldl_atFlags (w := (s.i2cStart.drive []).hif.walk 0x0C (hw &&& irqBits))
    (h := (s.i2cStart.drive []).hif) (i := 0) (n := 0) false rfl (by omega) (flagsExist_of_and known)
  have write := State.i2cWrite_ok (s := s) (p := 0x0C) walked rfl
  rw [RegWalk.commit_none _ rfl rfl rfl rfl rfl rfl] at write
  refine ⟨_, congrArg Host.Outcome.next ((if_pos up).trans (congrArg (fun r : State × Nat =>
    r.1.onHif (Hif.clearIrq · 0 (hw &&& irqBits))) write)), rfl, congrArg (0x0C + ·) (Nat.zero_add ds.length), fun j => ?_⟩
  show (t.irq.ldiff 0 ||| hw &&& irqBits).testBit j = _
  rw [← Nat.testBit_and, Nat.testBit_or, Nat.testBit_ldiff, Nat.zero_testBit, Bool.not_false, Bool.and_true]
  exact bits j

end Sys2Proof.Machine
end

section
/-! SUPPORT. A read on I2C, and the events of its bus; O24. -/

namespace Sys2Proof.Machine

variable {s : State} {ptr : Option Byte} {n : Nat}

/-! ## A read (R73, R80, R87) -/

theorem State.length_regBytes (s : State) (spi : Bool) (a n : Nat) : (s.regBytes spi a n).length = n := by
  rw [State.regBytes, List.length_map, List.length_range]

/-- Without PEC a read drives the bytes of the registers. -/
theorem State.withPec_off (h : s.hif.opt.pec = false) (pre data : List Byte) (len : Nat) (full : data.length ≤ n) :
    s.withPec pre data len n = data := by
  rw [State.withPec, h, if_neg (by simp), List.take_of_length_le full]

/-- The pointer at which a read starts. -/
def State.readFrom (s : State) (ptr : Option Byte) : Nat := (ptr.map fun p : Byte => p.toNat).getD s.hif.ptr

/-- A read as it begins: one that starts at TIME_SNAP latches the timebase. -/
def State.readStart (s : State) (ptr : Option Byte) : State :=
  if s.readFrom ptr = 0x1C then s.i2cStart.snapTime else s.i2cStart

/-- The register bytes that a read sends. -/
def State.readLen (s : State) (ptr : Option Byte) (n : Nat) : Nat :=
  if s.hif.opt.pec then min n (s.hif.blockLen (s.readFrom ptr)) else n

theorem State.readStart_optPec (s : State) (ptr : Option Byte) : (s.readStart ptr).hif.opt.pec = s.hif.opt.pec := by
  unfold State.readStart
  split <;> rfl

theorem State.readStart_blockLen (s : State) (ptr : Option Byte) (a : Nat) :
    (s.readStart ptr).hif.blockLen a = s.hif.blockLen a := by
  unfold State.readStart
  split <;> rfl

/-- A read drives its bytes and moves the pointer by those of registers. -/
theorem State.i2cRead_eq (s : State) (ptr : Option Byte) (n : Nat) : ∃ pre len,
    let r := s.readStart ptr
    s.i2cRead ptr n = (r.drive (r.withPec pre (r.regBytes false (s.readFrom ptr) (s.readLen ptr n)) len n)).onHif fun h =>
      { h with ptr := (s.readFrom ptr + s.readLen ptr n) % 256 } := by
  have sent : s.readLen ptr n =
      if (s.readStart ptr).hif.opt.pec then min n ((s.readStart ptr).hif.blockLen (s.readFrom ptr)) else n := by
    rw [State.readLen, State.readStart_optPec, State.readStart_blockLen]
  rw [sent]
  exact ⟨_, _, rfl⟩

theorem timeSnapRead_reads (up : s.i2cUp) (bytes : 1 ≤ n) :
    let r := s.readStart ptr
    ∃ t, Goes (.timeSnapRead ptr n) s t ∧
      t = { r with hif := { r.hif with ptr := (s.readFrom ptr + s.readLen ptr n) % 256, out := t.hif.out } } ∧
      (s.hif.opt.pec = false → t.hif.out = r.regBytes false (s.readFrom ptr) n) := by
  intro r
  obtain ⟨pre, len, read⟩ := s.i2cRead_eq ptr n
  refine ⟨s.i2cRead ptr n, congrArg _ (if_pos ⟨up, bytes⟩), ?_⟩
  rw [read]
  refine ⟨rfl, fun pec => ?_⟩
  have all : s.readLen ptr n = n := by rw [State.readLen, pec]; rfl
  rw [all]
  exact State.withPec_off ((s.readStart_optPec ptr).trans pec) _ _ _ (State.length_regBytes _ _ _ _).le

/-! ## The events of the bus (R78, R79, R92–R95) -/

theorem alertResponse_answers (up : s.i2cUp) (mode : s.hif.attnMode = 2) (alert : s.hif.alert) :
    Goes (.alertResponse true) s
      ((s.busStart.drive ([s.i2cAddr false] ++ if s.hif.opt.pec then [byte (crc8 [0x19, s.i2cAddr false])] else [])).onHif
        fun h => { h with alert := false }) :=
  congrArg _ (if_pos ⟨up, mode, alert, rfl⟩)

theorem alertResponse_unheeded {won : Bool}
    (h : s.i2cUp = false ∨ s.hif.attnMode ≠ 2 ∨ s.hif.alert = false ∨ won = false) :
    Goes (.alertResponse won) s (s.busStart.drive []) := by
  have out : ¬(s.i2cUp ∧ s.hif.attnMode = 2 ∧ s.hif.alert ∧ won) := by
    simpa [imp_iff_not_or] using h
  exact congrArg _ (if_neg out)

/-- Settles O24: a read by what it drives (`State.i2cRead_eq`), and each event of the bus as a guarded effect. -/
theorem i2cEventsRun : Obligations.I2cEventsRun := by
  intro s
  exact ⟨fun _ => fires_ite rfl, fun _ _ => timeSnapRead_reads,
    fun _ n out => congrArg _ (if_neg fun ⟨up, bytes⟩ => out.elim (ne_false_of_eq_true up) (by omega)),
    fun _ _ => fires_ite rfl, fires_ite rfl, Fires.congr (by simp) (fires_ite rfl), fires_ite rfl, alertResponse_answers,
    fun _ => alertResponse_unheeded, fun _ => fires_ite rfl, fun _ => fires_ite_not rfl Iff.rfl⟩

end Sys2Proof.Machine
end

section
/-! SUPPORT. What LEN of a PKT_WRITE can say, and a frame that says more; O26. -/

namespace Sys2Proof.Machine

/-- R97, R98: LEN goes over the bus as two bytes, so a frame is the same for lengths that differ by 2¹⁶. -/
theorem pktWrite_len_add (len : Nat) (bytes : List Byte) (s : State) :
    exec (.pktWrite (len + 65536) bytes) s = exec (.pktWrite len bytes) s := by
  have low : byte (len + 65536) = byte len :=
    BitVec.eq_of_toNat_eq (by rw [BitVec.toNat_ofNat, BitVec.toNat_ofNat]; omega)
  have high : byte ((len + 65536) / 256) = byte (len / 256) :=
    BitVec.eq_of_toNat_eq (by rw [BitVec.toNat_ofNat, BitVec.toNat_ofNat]; omega)
  have same : toLE 2 (len + 65536) = toLE 2 len := by rw [toLE, toLE, toLE, toLE, low, high]; rfl
  exact congrArg (fun f => Host.Outcome.next (s.spiTake (0x10 :: (f ++ bytes)))) same

/-- The reset state once the host's bank supply is there and power-on reset has ended: SPI answers. -/
def State.spiLive : State := State.reset.onSys fun y => { y with vioHost := true, por := false }

/-- The packet path takes ten zero bytes as a packet, whose CRC is bad: no frame has been discarded. -/
theorem spiLive_takes_packet :
    (((State.spiLive.spiFrame (zeros 12)).onHif fun h => { h with spi := { h.spi with running := true } }).hostPacket .spi
      (zeros 10)).packetEnd.hif.spiDiscards = 0 := by
  decide +kernel

theorem spiLive_discards : (State.spiLive.spiFrame (zeros 12)).spiDiscard.hif.spiDiscards = 1 := rfl

/-- Refutes O26: a PKT_WRITE whose LEN is given as 65,546, of ten bytes, is to be discarded as longer than 4,096; but LEN's two
bytes on the bus say 10 (`pktWrite_len_add`), and the packet is taken. The statement holds LEN to no two bytes (`Instr.wf`
does). -/
theorem not_mailboxAndSpiRun : ¬ Obligations.MailboxAndSpiRun := by
  intro h
  obtain ⟨-, -, -, -, -, taken, discarded, -⟩ := h State.spiLive
  have ten := taken 10 (zeros 10) rfl (by decide) (by decide) (by decide) rfl rfl
  have more := discarded 65546 (zeros 10) rfl (.inr (.inl (by decide)))
  have same := ten.symm.trans ((pktWrite_len_add 10 (zeros 10) State.spiLive).symm.trans more)
  have count := congrArg (fun t : State => t.hif.spiDiscards) (Host.Outcome.next.inj same)
  exact Nat.zero_ne_one (spiLive_takes_packet.symm.trans (count.trans spiLive_discards))

end Sys2Proof.Machine
end

section
/-! SUPPORT. The PMBus window, closed and open, and its reads; O27. -/

namespace Sys2Proof.Machine

variable {s : State} {cmd : Instr} {c : Byte} {w : Option (List Byte)} {bs : List Byte} {rd : State → State}
  {wr : List Byte → State → State}

/-! ## The window (R72, R78, R100) -/

/-- A command of the window while it is closed: its START has been on the bus, if the device listens there. -/
theorem pmbus_closed (run : exec cmd s = .next (s.pmbus w rd wr)) (closed : s.pmUp = false) :
    Goes cmd s (if s.i2cUp then s.busStart else s) := by
  rw [Goes, run, State.pmbus, closed]
  rfl

theorem pmbus_reads {t : State} (run : exec cmd s = .next (s.pmbus none rd wr)) (up : s.pmUp)
    (read : rd (s.i2cStart.drive []) = t) : Goes cmd s t := by
  rw [Goes, run, State.pmbus, up, ← read]
  rfl

theorem pmbus_writes {t : State} (run : exec cmd s = .next (s.pmbus (some bs) rd wr)) (up : s.pmUp)
    (write : wr bs (s.i2cStart.drive []) = t) : Goes cmd s t := by
  rw [Goes, run, State.pmbus, up, ← write]
  rfl

theorem pmbusUnsupported_run (h : c ∉ pmCommands) : exec (.pmbusUnsupportedCommand c w) s =
    .next (s.pmbus w (State.pmRefuse 7 false) fun bs s =>
      if s.sys.mode = .running ∧ s.pmPecBad c bs then s.pecBad else s.pmRefuse 7 (s.sys.mode = .running)) :=
  congrArg _ (if_neg h)

/-! ## Reads (R80, R100) -/

/-- A command of one domain refuses a page of all of them. -/
theorem State.pmRead_one (s : State) (c : Byte) (data : State → List Byte) :
    s.pmRead c false data = if s.hif.pmPage = 255 then s.pmRefuse 7 false else s.pmDrive c (data s) := by
  simp only [State.pmRead, Bool.not_false, true_and]

theorem pmbus_reads_one {t : State} {data : State → List Byte}
    (run : exec cmd s = .next (s.pmbus none (State.pmRead c false data) wr)) (up : s.pmUp)
    (read : (let r := s.i2cStart.drive []
      if r.hif.pmPage = 255 then r.pmRefuse 7 false else r.pmDrive c (data r)) = t) : Goes cmd s t :=
  pmbus_reads run up ((State.pmRead_one _ c data).trans read)

/-- Settles O27: a command with the window closed by `pmbus_closed`, each read by whether it needs a page of one domain, and the
writes of the commands that are only read. -/
theorem pmbusReadsRun : Obligations.PmbusReadsRun := by
  intro s
  refine ⟨fun w bs b closed => List.forall_mem_append.2 ⟨?listed, ?other⟩, fun up => ?opened⟩
  case listed =>
    simp only [List.forall_mem_cons, List.not_mem_nil, false_imp_iff, implies_true, and_true]
    and_intros <;> exact pmbus_closed rfl closed
  case other =>
    split
    next => exact List.forall_mem_nil _
    next unlisted => exact List.forall_mem_singleton.2 (pmbus_closed (pmbusUnsupported_run unlisted) closed)
  case opened =>
    exact ⟨pmbus_reads rfl up rfl, pmbus_reads rfl up rfl, pmbus_reads_one rfl up rfl,
      ⟨pmbus_reads_one rfl up rfl, pmbus_reads_one rfl up rfl, pmbus_reads_one rfl up rfl, pmbus_reads_one rfl up rfl⟩,
      pmbus_reads rfl up rfl, pmbus_reads rfl up rfl, pmbus_reads rfl up rfl, pmbus_reads rfl up rfl, pmbus_reads rfl up rfl,
      pmbus_reads_one rfl up rfl, pmbus_reads_one rfl up rfl, pmbus_reads_one rfl up rfl, pmbus_reads_one rfl up rfl,
      pmbus_reads_one rfl up rfl, pmbus_reads_one rfl up rfl, pmbus_reads_one rfl up rfl, pmbus_reads_one rfl up rfl,
      pmbus_reads_one rfl up rfl,
      fun _ => by and_intros <;> exact pmbus_writes rfl up rfl,
      fun _ unlisted => ⟨pmbus_reads (pmbusUnsupported_run unlisted) up rfl,
        fun _ => pmbus_writes (pmbusUnsupported_run unlisted) up rfl⟩⟩

end Sys2Proof.Machine
end

section
/-! SUPPORT. A write of the PMBus window, by what stops it, and what each command's write does; O28. -/

namespace Sys2Proof.Machine

/-! ## What stops a write (R80, R100, R101) -/

section
variable {s : State} {c : Byte} {n : Nat} {w : List Byte} {ok : Nat → State → Bool} {act : Nat → State → State}

/-- The data bytes of a write, without the PEC where it is required. -/
def State.pmData (s : State) (w : List Byte) : List Byte := if s.hif.opt.pec then w.dropLast else w

/-- R80: the PEC of a write is missing or wrong where it is required. -/
def State.PmBadPec (s : State) (c : Byte) (w : List Byte) : Prop :=
  s.hif.opt.pec ∧ (w = [] ∨ byte (crc8 ([s.pmAddr false, c] ++ s.pmData w)) ≠ w.getLastD 0)

theorem State.pmWrite_halted (h : s.sys.mode ≠ .running) : s.pmWrite c n w ok act = s := if_pos h

variable (running : s.sys.mode = .running)
include running

theorem State.pmWrite_badPec (bad : s.PmBadPec c w) : s.pmWrite c n w ok act = s.pecBad :=
  (if_neg (not_not.2 running)).trans (if_pos (by simpa [State.PmBadPec, State.pmData, List.isEmpty_iff] using bad))

variable (good : ¬s.PmBadPec c w)
include good

theorem State.pmWrite_checked : s.pmWrite c n w ok act =
    if (s.pmData w).length < n then s
    else if n < (s.pmData w).length ∨ !s.hif.pmOpen c ∨ !ok (leNat (s.pmData w)) s then s.pmRefuse 6 true
    else act (leNat (s.pmData w)) (s.onSys Sys.reload) :=
  (if_neg (not_not.2 running)).trans (if_neg (by simpa [State.PmBadPec, State.pmData, List.isEmpty_iff] using good))

theorem State.pmWrite_short (short : (s.pmData w).length < n) : s.pmWrite c n w ok act = s :=
  (State.pmWrite_checked running good).trans (if_pos short)

theorem State.pmWrite_refused (whole : n ≤ (s.pmData w).length)
    (bad : n < (s.pmData w).length ∨ s.hif.pmOpen c = false ∨ ok (leNat (s.pmData w)) s = false) :
    s.pmWrite c n w ok act = s.pmRefuse 6 true :=
  (State.pmWrite_checked running good).trans ((if_neg (Nat.not_lt.2 whole)).trans (if_pos (by simpa using bad)))

theorem State.pmWrite_accepted (len : (s.pmData w).length = n) (writable : s.hif.pmOpen c) (fits : ok (leNat (s.pmData w)) s) :
    s.pmWrite c n w ok act = act (leNat (s.pmData w)) (s.onSys Sys.reload) :=
  (State.pmWrite_checked running good).trans ((if_neg len.not_lt).trans (if_neg (by simp [len, writable, fits])))

end

/-! ## A write that the command takes -/

theorem Hif.pmOpen_unprotected {h : Hif} (c : Byte) (free : h.pmProtect = 0) : h.pmOpen c := by
  simp [Hif.pmOpen, free]

section
variable {s : State} (up : s.pmUp) (running : s.sys.mode = .running) (pec : s.hif.opt.pec = false)
include up running pec

theorem pmbusUnsupported_refuses {c : Byte} {bs : List Byte} (unlisted : c ∉ pmCommands) :
    Goes (.pmbusUnsupportedCommand c (some bs)) s ((s.i2cStart.drive []).pmRefuse 7 true) := by
  have good : (s.i2cStart.drive []).pmPecBad c bs = false := by
    have same : (s.i2cStart.drive []).hif.opt.pec = false := pec
    rw [State.pmPecBad, same, Bool.false_and]
  exact pmbus_writes (pmbusUnsupported_run unlisted) up ((if_neg (by simp [good])).trans
    (congrArg ((s.i2cStart.drive []).pmRefuse 7 ·) (decide_eq_true running)))

variable (free : s.hif.pmProtect = 0)
include free

/-- With PEC off and no write protection a command acts on a value of its length that it takes. -/
theorem pmbus_takes {cmd : Instr} {c : Byte} {n : Nat} {bs : List Byte} {rd : State → State} {ok : Nat → State → Bool}
    {act : Nat → State → State} {t : State}
    (run : exec cmd s = .next (s.pmbus (some bs) rd fun bs s => s.pmWrite c n bs ok act))
    (len : bs.length = n) (fits : ok (leNat bs) (s.i2cStart.drive []))
    (acts : act (leNat bs) ((s.i2cStart.drive []).onSys Sys.reload) = t) : Goes cmd s t := by
  have same : (s.i2cStart.drive []).hif.opt.pec = false := pec
  have data : (s.i2cStart.drive []).pmData bs = bs := by rw [State.pmData, same]; rfl
  have good : ¬(s.i2cStart.drive []).PmBadPec c bs := by simp [State.PmBadPec, same]
  refine pmbus_writes run up ?_
  rw [State.pmWrite_accepted (s := s.i2cStart.drive []) running good (data.symm ▸ len) (Hif.pmOpen_unprotected c free)
    (data.symm ▸ fits), data, acts]

theorem clearFaults_takes :
    Goes (.clearFaults []) s (((s.i2cStart.drive []).onSys Sys.reload).onPages fun _ => { vout := 0, iout := 0, cml := 0 }) :=
  pmbus_takes up running pec free rfl rfl rfl rfl

theorem page_takes (v : Byte) (fits : v.toNat < 16 ∨ v.toNat = 255) :
    Goes (.page (some [v])) s (((s.i2cStart.drive []).onSys Sys.reload).onHif fun h => { h with pmPage := v.toNat }) :=
  pmbus_takes up running pec free rfl rfl (decide_eq_true fits) rfl

theorem writeProtect_takes (v : Byte) (fits : v.toNat ∈ [0x00, 0x20, 0x40, 0x80]) :
    Goes (.writeProtect (some [v])) s (((s.i2cStart.drive []).onSys Sys.reload).onHif fun h => { h with pmProtect := v.toNat }) :=
  pmbus_takes up running pec free rfl rfl (decide_eq_true fits) rfl

theorem operation_takes (v : Byte) (a : Nat) (act : operationAct v.toNat = some a) (fits : v.toNat = 0x80 ∨ 0 ∉ s.hif.pmDoms) :
    let r := (s.i2cStart.drive []).onSys Sys.reload
    Goes (.operation (some [v])) s ((r.pmCommand 0x0B01 [byte a, 0] (r.domRefuse a)).domJudge) := by
  have value : leNat [v] = v.toNat := rfl
  refine pmbus_takes up running pec free rfl rfl ?_ ?_
  · show ((operationAct v.toNat).isSome && (decide (v.toNat = 0x80) || decide (0 ∉ s.hif.pmDoms))) = true
    simpa [act] using fits
  · simp only [value, act, Option.getD_some]

theorem voutCommand_takes (x y : Byte)
    (fits : ∀ k ∈ s.hif.pmDoms, let b := (s.copy .dom0 k).easel
      s.onRange k (s.ofUlin k (leNat [x, y])) ∧ Fld.Dom.MARGIN_LOW_MV.getRaw b ≤ s.ofUlin k (leNat [x, y]) ∧
        s.ofUlin k (leNat [x, y]) ≤ Fld.Dom.MARGIN_HIGH_MV.getRaw b) :
    let r := (s.i2cStart.drive []).onSys Sys.reload
    Goes (.voutCommand (some [x, y])) s (r.each r.hif.pmDoms fun k s =>
      ((s.writeVout (s.ofUlin k (leNat [x, y])) [k]).selWait pmOrigin 0x0B02 ⟨1, 2 ^ k⟩
        (toLE 4 (s.ofUlin k (leNat [x, y])) ++ [0, 0, 0]) fun _ => st.ok).2) := by
  refine pmbus_takes up running pec free rfl rfl ?_ rfl
  show (s.hif.pmDoms.all fun k => s.voutFits k (s.ofUlin k (leNat [x, y]))) = true
  exact List.all_eq_true.2 fun k selected => by simpa [State.voutFits, and_assoc] using fits k selected

theorem pmMargin_takes {cmd : Instr} {c : Byte} {f : Field} {x y : Byte}
    (run : exec cmd s = .next (s.pmMargin c f (some [x, y]))) (fits : s.pmFieldOk f fun k => s.ofUlin k (leNat [x, y])) :
    let r := (s.i2cStart.drive []).onSys Sys.reload
    Goes cmd s (r.pmField f fun k => r.ofUlin k (leNat [x, y])) :=
  pmbus_takes up running pec free run rfl fits rfl

theorem voutTransitionRate_takes (x y : Byte) (n : Nat) (rate : lin11Slew (leNat [x, y]) = some n)
    (fits : s.pmFieldOk Fld.Dom.SLEW fun _ => n) :
    let r := (s.i2cStart.drive []).onSys Sys.reload
    Goes (.voutTransitionRate (some [x, y])) s (r.pmField Fld.Dom.SLEW fun _ => n) := by
  refine pmbus_takes up running pec free rfl rfl ?_ ?_
  · show ((lin11Slew (leNat [x, y])).isSome && s.pmFieldOk Fld.Dom.SLEW fun _ => (lin11Slew (leNat [x, y])).getD 0) = true
    simpa only [rate, Option.isSome_some, Bool.true_and, Option.getD_some] using fits
  · simp only [rate, Option.getD_some]

end

/-- Settles O28: a write by what stops it (`State.pmWrite_checked`), and each command's write where nothing does. -/
theorem pmbusWritesRun : Obligations.PmbusWritesRun := by
  refine ⟨fun c n w ok act s => ⟨State.pmWrite_halted, State.pmWrite_badPec, State.pmWrite_short, State.pmWrite_refused,
    State.pmWrite_accepted⟩, fun s up bs => ?writes, fun s up running pec free => ?takes⟩
  case writes => and_intros <;> exact ⟨_, pmbus_writes rfl up rfl⟩
  case takes =>
    exact ⟨page_takes up running pec free, writeProtect_takes up running pec free, clearFaults_takes up running pec free,
      operation_takes up running pec free, voutCommand_takes up running pec free,
      fun _ _ => pmMargin_takes up running pec free rfl, fun _ _ => pmMargin_takes up running pec free rfl,
      voutTransitionRate_takes up running pec free, fun c bs => pmbusUnsupported_refuses up running pec,
      fun c unlisted => pmbus_reads (pmbusUnsupported_run unlisted) up rfl,
      fun c w listed => congrArg _ (if_pos listed)⟩

end Sys2Proof.Machine
end

section
/-! SUPPORT. The node's groups and the options of HIF_CONFIG; O31. -/

namespace Sys2Proof.Machine

variable {s : State} {o : Origin} {p : List Byte}

theorem nodeGroups_run : exec (.nodeGroups o p) s = .next (s.run o 0x0105 1 (param (p.length = 2 ∧ u p 0 2 < 2 ^ 15)) fun s =>
    (.done st.ok [], s.onSys fun y => { y with groups := u p 0 2 })) := rfl

theorem nodeGroups_sets (admitted : s.admits o 0x0105 1) (len : p.length = 2) (groups : u p 0 2 < 2 ^ 15) :
    Replies (.nodeGroups o p) s ((s.accepted o 1).onSys fun y => { y with groups := u p 0 2 }) o 0x0105 st.ok [] :=
  nodeGroups_run.trans
    (congrArg _ (State.run_done admitted (param_ok (decide_eq_true ⟨len, groups⟩)) rfl (by decide)))

theorem hifConfig_run : exec (.hifConfig o p) s = .next (s.run o 0x0201 1
    (param (p.length = 4 ∧ u p 0 1 ≤ 1 ∧ u p 1 1 < 8 ∧ 0x08 ≤ u p 2 1 ∧ u p 2 1 ≤ 0x77 ∧ u p 2 1 ≠ 0x40 + s.sys.addr ∧
      u p 2 1 ≠ 0x40 + s.sys.addr + 8 ∧ u p 3 1 = 0)) fun s =>
    (.done st.ok [], s.onHif fun h =>
      { h with optNext := some ({ pec := u p 0 1 = 1, options := u p 1 1, hnAddr := u p 2 1 }, o.itf) })).hifServe := rfl

section
variable (admitted : s.admits o 0x0201 1)
include admitted

theorem hifConfig_holds (len : p.length = 4) (pec : u p 0 1 ≤ 1) (options : u p 1 1 < 8) (low : 0x08 ≤ u p 2 1)
    (high : u p 2 1 ≤ 0x77) (own : u p 2 1 ≠ 0x40 + s.sys.addr) (window : u p 2 1 ≠ 0x48 + s.sys.addr) (spare : u p 3 1 = 0) :
    Goes (.hifConfig o p) s ((((s.accepted o 1).onHif fun h =>
      { h with optNext := some ({ pec := u p 0 1 = 1, options := u p 1 1, hnAddr := u p 2 1 }, o.itf) }).finish o 0x0201
        st.ok []).hifServe) :=
  hifConfig_run.trans (congrArg (fun t : State => Host.Outcome.next t.hifServe) (State.run_done admitted
    (param_ok (decide_eq_true ⟨len, pec, options, low, high, own, by omega, spare⟩)) rfl (by decide)))

theorem hifConfig_bad (bad : p.length ≠ 4 ∨ 1 < u p 0 1 ∨ 8 ≤ u p 1 1 ∨ u p 2 1 < 0x08 ∨ 0x77 < u p 2 1 ∨
    u p 2 1 = 0x40 + s.sys.addr ∨ u p 2 1 = 0x48 + s.sys.addr ∨ u p 3 1 ≠ 0) :
    Goes (.hifConfig o p) s (s.answer o 0x0201 st.badParam []).hifServe :=
  hifConfig_run.trans (congrArg (fun t : State => Host.Outcome.next t.hifServe) (State.run_answers admitted
    (param_bad (decide_eq_false (by omega))) (by decide)))

end

/-- Settles O31: each command by its checks. -/
theorem hostOptionsRun : Obligations.HostOptionsRun := fun _ _ _ =>
  ⟨obeys_run rfl fun _ => rfl, nodeGroups_sets, hifConfig_holds, hifConfig_bad⟩

end Sys2Proof.Machine
end

section
/-! SUPPORT. What a step takes from the queue, and what it leaves of the OTP; O8. -/

namespace Sys2Proof.Machine

variable {s t : State}

/-- What `Keep` says of the queue and of the OTP. -/
theorem Keep.otp_pending (h : Keep s t) : t.sys.otp = s.sys.otp ∧ t.pending = s.pending :=
  ⟨congrArg Prod.snd h.fixed, congrArg Prod.fst h.fixed⟩

/-- Settles O8: an idle step keeps the empty queue, and a command the queue's rest (`State.idle_keep`, `exec_keep`). -/
theorem identityStays : Obligations.IdentityStays := by
  intro s t h
  unfold step at h
  split at h
  case h_1 empty =>
    cases h
    have kept := (State.idle_keep (Keep.refl s)).otp_pending
    exact ⟨kept.1, by rw [kept.2, empty]; rfl⟩
  case h_2 c rest queue =>
    rw [queue]
    exact (exec_keep c (Keep.refl { s with pending := rest }) t h).otp_pending

end Sys2Proof.Machine
end

section
/-! SUPPORT. The fields of a packet's bytes and its two check sums; O57 and O56. -/

namespace Sys2Proof.Machine

/-! ## The CRC-16 (R106) -/

theorem crcBit_eq_ite (w p r : Nat) (b : Bool) :
    crcBit w p r b = if r.testBit (w - 1) = b then r * 2 % 2 ^ w else (r * 2 % 2 ^ w) ^^^ p := by
  simp only [crcBit, bne_iff_ne, ne_eq, ite_not]

theorem crcBit_lt {p : Nat} (hp : p < 2 ^ 16) (r : Nat) (b : Bool) : crcBit 16 p r b < 2 ^ 16 := by
  have shifted : r * 2 % 2 ^ 16 < 2 ^ 16 := Nat.mod_lt _ (by decide)
  rw [crcBit_eq_ite]
  split
  · exact shifted
  · exact Nat.xor_lt_two_pow shifted hp

theorem crc16_lt (bs : List Byte) : crc16 bs < 2 ^ 16 := by
  induction bs using List.reverseRecOn with
  | nil => decide
  | append_singleton bs b =>
    rw [crc16, List.foldl_append]
    exact crcBit_lt (by decide) _ _

theorem crc16_concat (bs : List Byte) (b : Byte) : crc16 (bs ++ [b]) = crcByte 16 0x1021 (crc16 bs) b := List.foldl_concat ..

/-! ## The CRC-32 (R130) -/

theorem crc32_concat (bs : List Byte) (b : Byte) :
    crc32 (bs ++ [b]) = crc32Byte (crc32 bs ^^^ 0xFFFFFFFF) b ^^^ 0xFFFFFFFF := by
  rw [crc32, crc32, Nat.xor_assoc, Nat.xor_self, Nat.xor_zero, List.foldl_concat]

/-! ## A packet's bytes (R104–R106) -/

theorem leNat_toLE_of_lt {n v : Nat} (h : v < 2 ^ (8 * n)) : leNat (toLE n v) = v :=
  (leNat_toLE n v).trans (Nat.mod_eq_of_lt h)

theorem length_packet (flags op : Nat) (tag : Byte) (dest : Nat) (params : List Byte) :
    (packet flags op tag dest params).length = 10 + params.length := by
  simp only [packet, List.length_append, List.length_cons, List.length_nil, length_toLE]
  omega

/-- The parameters stand after the eight bytes of the header. -/
theorem sliceBytes_packet (flags op : Nat) (tag : Byte) (dest : Nat) (params : List Byte) :
    sliceBytes (packet flags op tag dest params) 8 params.length = params :=
  List.take_left

/-- The length field holds the number of the parameters. -/
theorem u_packet_len (flags op : Nat) (tag : Byte) (dest : Nat) {params : List Byte} (h : params.length < 2 ^ 16) :
    u (packet flags op tag dest params) 6 2 = params.length :=
  leNat_toLE_of_lt (n := 2) h

theorem packetOf_packet {flags op dest : Nat} {params : List Byte} (hflags : flags < 2 ^ 8) (hop : op < 2 ^ 16)
    (hdest : dest < 2 ^ 8) (len : params.length < 2 ^ 16) (tag : Byte) :
    packetOf (packet flags op tag dest params) = { flags := flags, op := op, tag := tag, dest := dest, params := params } := by
  have first : u (packet flags op tag dest params) 1 1 = flags := leNat_toLE_of_lt (n := 1) hflags
  have second : u (packet flags op tag dest params) 2 2 = op := leNat_toLE_of_lt (n := 2) hop
  have fifth : u (packet flags op tag dest params) 5 1 = dest := leNat_toLE_of_lt (n := 1) hdest
  rw [packetOf, first, second, fifth, u_packet_len flags op tag dest len, sliceBytes_packet]
  rfl

theorem packetOk_iff (bs : List Byte) :
    packetOk bs ↔ bs.head? = some 0xA5 ∧ bs.length = 10 + u bs 6 2 ∧
      u bs (8 + u bs 6 2) 2 = crc16 (bs.take (8 + u bs 6 2)) := by
  simp only [packetOk, Bool.and_eq_true, decide_eq_true_eq]
  constructor
  · rintro ⟨⟨⟨-, sync⟩, len⟩, crc⟩
    rw [show bs.length - 2 = 8 + u bs 6 2 by omega] at crc
    exact ⟨sync, len, crc.symm⟩
  · rintro ⟨sync, len, crc⟩
    rw [show bs.length - 2 = 8 + u bs 6 2 by omega]
    exact ⟨⟨⟨by omega, sync⟩, len⟩, crc.symm⟩

theorem packetOk_packet (flags op : Nat) (tag : Byte) (dest : Nat) {params : List Byte} (len : params.length < 2 ^ 16) :
    packetOk (packet flags op tag dest params) := by
  rw [packetOk_iff, u_packet_len flags op tag dest len]
  refine ⟨rfl, length_packet .., ?_⟩
  let body := [0xA5, byte flags] ++ toLE 2 op ++ [tag, byte dest] ++ toLE 2 params.length ++ params
  have whole : packet flags op tag dest params = body ++ toLE 2 (crc16 body) := rfl
  have header : body.length = 8 + params.length := by
    have := length_packet flags op tag dest params
    rw [whole, List.length_append, length_toLE] at this
    omega
  rw [whole, u, sliceBytes, List.drop_left' header, List.take_left' header, List.take_of_length_le (length_toLE _ _).le]
  exact leNat_toLE_of_lt (crc16_lt body)

/-- Settles O57: the fields by `packetOf_packet`, the check by `packetOk_packet`. -/
theorem packetsReadBack : Obligations.PacketsReadBack := by
  intro flags op dest tag params hflags hop hdest hlen
  have len : params.length < 2 ^ 16 := by omega
  exact ⟨packetOf_packet hflags hop hdest len tag, packetOk_packet flags op tag dest len, length_packet ..⟩

/-- Settles O56: the values by evaluation, the steps by the byte that comes last. -/
theorem checkSums : Obligations.CheckSums := by
  refine ⟨by decide +kernel, by decide +kernel, rfl, rfl, crc16_concat, crc32_concat, crcBit_eq_ite 16 0x1021, fun _ => rfl,
    fun bs ok => ((packetOk_iff bs).1 ok).2, fun _ _ => rfl, fun _ _ => rfl⟩

end Sys2Proof.Machine
end

section
/-! SUPPORT. NOP; O14. -/

namespace Sys2Proof.Machine

/-- Settles O14: NOP is a report of no bytes. -/
theorem nopDoesNothing : Obligations.NopDoesNothing :=
  ⟨fun _ _ admitted => congrArg _ (State.report_admitted admitted rfl), fun _ _ _ admitted some =>
    congrArg _ (State.run_answers admitted (param_bad (List.isEmpty_eq_false_iff.2 some)) (by decide))⟩

end Sys2Proof.Machine
end

section
/-! SUPPORT. A raise for which the fault queue has room: of the ports and the configuration it changes the last fault of its
channel only (R483, R485). -/

namespace Sys2Proof.Machine

/-- The ports, the configuration and how many entries the fault queue holds. -/
def State.portView (s : State) : Feed × Cfg × Nat := (s.feed, s.cfg, s.flt.held)

@[simp] theorem State.onHif_portView (g : Hif → Hif) (s : State) : (s.onHif g).portView = s.portView := rfl

@[simp] theorem State.onSkb_portView (g : Skb → Skb) (s : State) : (s.onSkb g).portView = s.portView := rfl

/-! ## A record (R483) -/

section
variable (s : State) (code ch sev : Nat) (p : FaultParam) (cap : Bool)

@[simp] theorem State.trigger_portView (chan evSeq : Nat) : (s.trigger code chan evSeq).2.portView = s.portView := by
  unfold State.trigger
  dsimp only
  repeat' split
  all_goals rfl

@[simp] theorem State.flood_portView (type value : Nat) : (s.flood type code value).portView = s.portView := by
  unfold State.flood State.sendOn
  split <;> rfl

@[simp] theorem State.log_portView (x : Entry) : (s.log x).portView = s.portView := rfl

@[simp] theorem State.card_portView (evSeq : Nat) (payload : List Byte) :
    (s.card code ch sev evSeq payload).portView = s.portView := rfl

theorem State.record_portView : (s.record code ch sev p cap).2.portView = (s.setLast code ch sev).portView := by
  have counted (t : State) (g : Flt → Flt) (h : (g t.flt).held = t.flt.held) : (t.onFlt g).portView = t.portView :=
    congrArg (fun n => (t.feed, t.cfg, n)) h
  unfold State.record
  dsimp only
  rw [counted _ _ rfl]
  simp only [apply_ite State.portView, State.flood_portView, State.irq, State.onHif_portView, State.card_portView,
    State.log_portView, ite_self]
  split <;> simp

end

/-! ## Its place in the queue (R485–R488) -/

theorem Flt.held_insert (f : Flt) (e : QEntry) : Flt.held { f with queue := insertEntry e f.queue } = f.held + 1 := by
  simp only [Flt.held, insertEntry_length]
  omega

/-- A queue with room takes an entry. -/
theorem Flt.place_room {f : Flt} (room : f.held < 32) (e : QEntry) (idle : Bool) :
    ∃ g, f.place e idle = some g ∧ g.held ≤ f.held + 1 := by
  unfold Flt.place
  split
  · exact ⟨_, rfl, by simp [Flt.held]⟩
  · rw [if_neg (Nat.not_le.2 room)]
    split
    · exact ⟨_, rfl, (f.held_insert e).le⟩
    · split
      next free => exact ⟨_, rfl, by simp [Flt.held, free]; omega⟩
      next r busy =>
        split
        · exact ⟨_, rfl, by simp [Flt.held, busy]; omega⟩
        · exact ⟨_, rfl, (f.held_insert e).le⟩

section
variable {s : State} {feed : Feed} {cfg : Cfg} {n : Nat}

theorem State.place_room (view : s.portView = (feed, cfg, n)) (room : n < 32) (e : QEntry) :
    ∃ m ≤ n + 1, (s.place e).portView = (feed, cfg, m) := by
  obtain ⟨rfl, rfl, rfl⟩ := view
  unfold State.place State.placeHeld
  split
  · obtain ⟨g, placed, len⟩ := Flt.place_room room e true
    rw [placed]
    exact ⟨g.held, len, rfl⟩
  · obtain ⟨g, placed, len⟩ := Flt.place_room room e false
    rw [placed]
    exact ⟨g.held, len, rfl⟩

theorem State.setLast_rest (s : State) (code ch sev : Nat) :
    (s.setLast code ch sev).cfg = s.cfg ∧ (s.setLast code ch sev).flt = s.flt := by
  unfold State.setLast
  repeat' split
  all_goals exact ⟨rfl, rfl⟩

/-- R483: with room for two entries, its own and that of a missed capture, a raise changes the last fault of its channel. -/
theorem State.raise_room {code sev : Nat} (known : severity code = some sev) (room : s.flt.held ≤ 30) (ch : Nat) :
    (s.raise code ch).feed = (s.setLast code ch sev).feed ∧ (s.raise code ch).cfg = s.cfg := by
  have shown {t : State} (h : ∃ m, t.portView = ((s.setLast code ch sev).feed, s.cfg, m)) :
      t.feed = (s.setLast code ch sev).feed ∧ t.cfg = s.cfg := by
    obtain ⟨m, h⟩ := h
    exact ⟨congrArg Prod.fst h, congrArg (fun x => x.2.1) h⟩
  have own : (s.record code ch sev {} true).2.portView = ((s.setLast code ch sev).feed, s.cfg, s.flt.held) := by
    rw [State.record_portView, State.portView, (s.setLast_rest code ch sev).1, (s.setLast_rest code ch sev).2]
  have queued (e : QEntry) : ∃ m ≤ 31,
      (if 1 ≤ sev then (s.record code ch sev {} true).2.place e else (s.record code ch sev {} true).2).portView =
        ((s.setLast code ch sev).feed, s.cfg, m) := by
    split
    · obtain ⟨m, len, view⟩ := State.place_room own (by omega) e
      exact ⟨m, by omega, view⟩
    · exact ⟨_, by omega, own⟩
  apply shown
  simp only [State.raise, State.raiseWith, known]
  obtain ⟨m, len, view⟩ := queued ⟨code, ch, sev, s.skb.evSeq, s.now, 1⟩
  split
  · obtain ⟨m, -, view⟩ := State.place_room ((State.record_portView _ 0x1206 blockWide 1 {} false).trans view) (by omega)
      ⟨0x1206, blockWide, 1, _, _, 1⟩
    exact ⟨m, view⟩
  · exact ⟨m, view⟩

end

end Sys2Proof.Machine
end

section
/-! SUPPORT. A port that stops with no value of its record waiting to land, and reverse current on it; O60. -/

namespace Sys2Proof.Machine

variable {s : State}

/-! ## The replies of waiting commands change the interface only (R122) -/

theorem State.wake_only (p : Wait → Bool) (r : Wait → Nat × List Byte) (s : State) : OnlyHif s (s.wake p r) := by
  have replies (ws : List Wait) (t : State) (h : OnlyHif s t) :
      OnlyHif s (ws.foldl (fun s w => if w.mute then s else s.finish w.o w.op (r w).1 (r w).2) t) := by
    induction ws generalizing t with
    | nil => exact h
    | cons w ws ih => exact ih _ (OnlyHif.ite h (State.finish_only h))
  exact replies _ _ rfl

theorem State.judge_only (p : Wait → Bool) (j : Wait → Nat → Option Nat) (s : State) : OnlyHif s (s.judge p j) :=
  OnlyHif.trans (t := s.judgeMark p j) rfl (State.wake_only ..)

theorem State.wakeCommits_only (s : State) : OnlyHif s s.wakeCommits :=
  (State.onHif_only (State.judge_only _ _ s)).trans (State.wake_only ..)

theorem OnlyHif.feed {t : State} (h : OnlyHif s t) : t.feed = s.feed := (congrArg State.feed h :)

theorem OnlyHif.cfg {t : State} (h : OnlyHif s t) : t.cfg = s.cfg := (congrArg State.cfg h :)

/-! ## A stop (R123, R126) -/

theorem State.landStopped_feed1 (s : State) : (s.landStopped .feed1 0).feed = s.feed := by
  have set (c : RecCopy) : (s.setCopy .feed1 0 c).feed = s.feed := by
    unfold State.setCopy
    extract_lets
    split <;> rfl
  unfold State.landStopped
  extract_lets c
  split
  · rfl
  · rw [if_neg (by decide)]
    split
    · rfl
    · rw [(State.wakeCommits_only _).feed, set]

theorem State.settleStop_feed {n : Nat} (pend : (s.copy .feed0 n).pendL = []) (armed : (s.copy .feed0 n).armed = []) :
    (s.settleStop .feed0 n).feed = s.feed := by
  have rests : s.landStopped .feed0 n = s := if_pos (by rw [pend, armed]; rfl)
  rw [State.settleStop, rests]
  exact s.landStopped_feed1

theorem State.seqEval_feed (s : State) : s.seqEval.feed = s.feed := by
  unfold State.seqEval
  extract_lets
  split <;> rfl

/-- What a port takes with a state that it enters (R305). -/
def PortCh.enter (st : PState) (now : Nat) (c : PortCh) : PortCh :=
  { c with st := st, tState := now, held := if st = .shed then c.held else 0, restored := c.restored && st = .latched }

/-- R305: a running port that stops with nothing waiting to land. -/
theorem State.portTo_stop {n : Nat} {st : PState} (was : (s.portCh n).running) (stops : st ≠ .inrush ∧ st ≠ .on)
    (pend : (s.copy .feed0 n).pendL = []) (armed : (s.copy .feed0 n).armed = []) :
    (s.portTo n st).feed = (s.onPortCh n (PortCh.enter st s.now)).feed := by
  have out : ((s.onPortCh n (PortCh.enter st s.now)).portCh n).running = false := by
    rw [State.onPortCh_portCh]
    simp [PortCh.running, PortCh.enter, stops]
  have entered : s.portTo n st = ((s.onPortCh n (PortCh.enter st s.now)).settleStop .feed0 n).portJudge.seqEval := by
    have open_ : ¬(((s.onPortCh n (PortCh.enter st s.now)).portCh n).running ∧ !(s.portCh n).running) :=
      fun h => Bool.false_ne_true (out.symm.trans h.1)
    have close : (s.portCh n).running ∧ !((s.onPortCh n (PortCh.enter st s.now)).portCh n).running :=
      ⟨was, by rw [out]; rfl⟩
    exact congrArg (fun r : State => r.portJudge.seqEval) ((if_pos close).trans
      (congrArg (State.settleStop .feed0 n) (if_neg open_)))
  rw [entered, State.seqEval_feed, State.portJudge, (State.judge_only ..).feed]
  exact State.settleStop_feed pend armed

theorem State.portCh_congr {t : State} (h : t.feed = s.feed) (k : Nat) : t.portCh k = s.portCh k := by
  rw [State.portCh, State.portCh, h]

theorem severity_reverse : severity 0x0C07 = some 2 := by decide +kernel

/-- Settles O60: the fault changes the port's last fault (`State.raise_room`), and the port stops with nothing to land
(`State.portTo_stop`). -/
theorem reverseCurrentIsNoTrip : Obligations.ReverseCurrentIsNoTrip := by
  intro s n i held low long runs pend armed room
  have running : (s.portCh n).running := by simpa [PortCh.running] using runs
  obtain ⟨feed, cfg⟩ := State.raise_room severity_reverse room n.val
  have noted : (s.raise 0x0C07 n).feed = (s.onPortCh n fun c => { c with lastFault := 0x0C07 }).feed :=
    feed.trans (congrArg State.feed (if_pos n.isLt))
  have copies : (s.raise 0x0C07 n).copy .feed0 n = s.copy .feed0 n := by rw [State.copy, cfg]; rfl
  have own : (s.raise 0x0C07 n).portCh n = { s.portCh n with lastFault := 0x0C07 } :=
    (State.portCh_congr noted n).trans (s.onPortCh_portCh ..)
  have stopped := State.portTo_stop (s := s.raise 0x0C07 n) (n := n) (st := .delay) (by rw [own]; exact running)
    (by decide) (by rw [copies, pend]) (by rw [copies, armed])
  have left : ((s.raise 0x0C07 n).portTo n .delay).portCh n =
      PortCh.enter .delay (s.raise 0x0C07 n).now { s.portCh n with lastFault := 0x0C07 } := by
    rw [State.portCh_congr stopped, State.onPortCh_portCh, own]
  refine ⟨_, congrArg Host.Outcome.next (if_pos ⟨running, low, long⟩), ?_, ?_, ?_, fun m other => ?_⟩
  · rw [left]; rfl
  · rw [left]; rfl
  · rw [left]; rfl
  · have apart : m.val ≠ n.val := Fin.val_ne_of_ne other
    rw [State.portCh_congr stopped, State.onPortCh_portCh_ne _ _ m.isLt n.isLt apart, State.portCh_congr noted,
      State.onPortCh_portCh_ne _ _ m.isLt n.isLt apart]

end Sys2Proof.Machine
end

section
/-! SUPPORT. Challenge, response and drop by their checks, and the ends of a lockout and of a session's level; O30. -/

namespace Sys2Proof.Machine

variable {s : State} {o : Origin} {p : List Byte}

/-! ## PRIV_CHALLENGE (R119, R120) -/

section
variable (admitted : s.admits o 0x0210 0)
include admitted

theorem privChallenge_bad (bad : ownEntry o = false ∨ (s.hif.lockout = none ∧ p.length ≠ 1)) :
    Goes (.privChallenge o p) s (s.answer o 0x0210 st.badParam []) := by
  refine congrArg Host.Outcome.next (State.run_answers admitted ?_ (by decide))
  rcases bad with foreign | ⟨free, len⟩
  · rw [if_neg fun h => Bool.false_ne_true (foreign.symm.trans h.1)]
    exact param_bad (by rw [foreign]; rfl)
  · rw [if_neg (by simp [free, len])]
    exact param_bad (by simp [len])

theorem privChallenge_grants (own : ownEntry o) (free : s.hif.lockout = none) (len : p.length = 1) (install : u p 0 1 = 2) :
    Replies (.privChallenge o p) s ((s.onHif (Hif.setNonce o.itf (some (s.newNonce, s.now)))).drew) o 0x0210 st.ok
      s.newNonce := by
  refine congrArg Host.Outcome.next (State.run_done admitted ?_ rfl (by decide))
  rw [if_neg (by simp [free, install])]
  exact param_ok (by simp [own, len])

theorem privChallenge_denied (own : ownEntry o) (bars : s.hif.lockout.isSome ∨ (p.length = 1 ∧ u p 0 1 ≠ 2)) :
    Goes (.privChallenge o p) s (s.answer o 0x0210 st.notPermitted []) :=
  congrArg Host.Outcome.next (State.run_answers admitted (if_pos ⟨own, bars⟩) (by decide))

end

/-! ## PRIV_RESPONSE (R119, R120) -/

/-- The form of a response: of the session's own, with 32 bytes. -/
def responseFits (o : Origin) (p : List Byte) : Bool := ownEntry o && p.length = 32

/-- A response that is not a bad one of a good form runs. -/
theorem privResponse_runs (h : responseFits o p = false ∨ s.privOk o.itf p) : exec (.privResponse o p) s =
    .next (s.run o 0x0211 0 (param (responseFits o p)) fun t =>
      (.done st.ok [], (t.onHif (Hif.setNonce o.itf none)).privGrant o.itf)) :=
  congrArg Host.Outcome.next (if_neg fun ⟨_, _, fits, wrong⟩ => h.elim
    (fun unfit => Bool.false_ne_true (unfit.symm.trans fits)) fun right => by simp [right] at wrong)

section
variable (admitted : s.admits o 0x0211 0)
include admitted

theorem privResponse_bad (bad : ownEntry o = false ∨ p.length ≠ 32) :
    Goes (.privResponse o p) s (s.answer o 0x0211 st.badParam []) := by
  have unfit : responseFits o p = false := by simpa [responseFits, imp_iff_not_or] using bad
  exact (privResponse_runs (.inl unfit)).trans (congrArg _ (State.run_answers admitted (param_bad unfit) (by decide)))

theorem privResponse_grants (own : ownEntry o) (len : p.length = 32) (right : s.privOk o.itf p) :
    Replies (.privResponse o p) s ((s.onHif (Hif.setNonce o.itf none)).privGrant o.itf) o 0x0211 st.ok [] := by
  have fits : responseFits o p := by simp [responseFits, own, len]
  exact (privResponse_runs (.inr right)).trans (congrArg _ (State.run_done admitted (param_ok fits) rfl (by decide)))

theorem privResponse_fails (own : ownEntry o) (len : p.length = 32) (wrong : s.privOk o.itf p = false) :
    Goes (.privResponse o p) s ((s.onHif (Hif.setNonce o.itf none)).privFail.answer o 0x0211 st.notPermitted []) :=
  congrArg Host.Outcome.next (if_pos ⟨admitted.1, admitted.2, by simp [own, len], by simp [wrong]⟩)

end

/-! ## PRIV_DROP, and the end of a lockout (R119) -/

theorem privDrop_bad (admitted : s.admits o 0x0212 0) (bad : ownEntry o = false ∨ p ≠ []) :
    Goes (.privDrop o p) s (s.answer o 0x0212 st.badParam []) :=
  congrArg Host.Outcome.next (State.run_answers admitted (param_bad (by simpa [imp_iff_not_or] using bad)) (by decide))

theorem privDrop_drops (admitted : s.admits o 0x0212 0) (own : ownEntry o) (none_ : p = []) :
    Replies (.privDrop o p) s (s.onHif (Hif.setSession o.itf Session.reset)) o 0x0212 st.ok [] :=
  congrArg Host.Outcome.next (State.run_done admitted (param_ok (by simp [own, none_])) rfl (by decide))

theorem privLockoutEnd_ends {t : Nat} (h : s.hif.lockout = some t) :
    Goes .privLockoutEnd s ((s.advanceTo (t + sec 60)).onHif fun h => { h with lockout := none }) := by
  show execPrivLockoutEnd s = _
  simp only [execPrivLockoutEnd, h]

theorem privLockoutEnd_unheeded (h : s.hif.lockout = none) : Goes .privLockoutEnd s s := by
  show execPrivLockoutEnd s = _
  simp only [execPrivLockoutEnd, h]

/-- Settles O30: each command by its checks, the timers as guarded effects. -/
theorem sessionsRun : Obligations.SessionsRun :=
  ⟨fun _ _ _ foreign => ⟨fun h => privChallenge_bad h (.inl foreign), fun h => privResponse_bad h (.inl foreign),
      fun h => privDrop_bad h (.inl foreign)⟩,
    fun _ _ _ own => ⟨fun h free len => privChallenge_bad h (.inr ⟨free, len⟩), fun h len => privResponse_bad h (.inr len),
      fun h some => privDrop_bad h (.inr some), fun h => privChallenge_grants h own, fun h => privChallenge_denied h own,
      fun h => privResponse_grants h own, fun h len wrong => ⟨_, privResponse_fails h own len wrong, rfl⟩,
      fun h => privDrop_drops h own, fun _ => privLockoutEnd_ends, privLockoutEnd_unheeded,
      fun _ => fires_ite_not rfl Nat.not_lt⟩⟩

end Sys2Proof.Machine
end

section
/-! SUPPORT. Packets passed on, segments held and command frames; O29. -/

namespace Sys2Proof.Machine

variable {s : State}

/-! ## A packet that was passed on (R109, R110) -/

theorem forwardTimeout_none (h : s.hif.fwds = []) : Goes .forwardTimeout s s := by
  show execForwardTimeout s = _
  simp only [execForwardTimeout, h]

/-- The oldest packet passed on has come to its time, and is taken off the list. -/
def State.fwdExpired (s : State) (f : Fwd) (rest : List Fwd) : State :=
  (s.advanceTo (f.since + ms 250)).onHif fun h => { h with fwds := rest }

theorem forwardTimeout_some {f : Fwd} {rest : List Fwd} (h : s.hif.fwds = f :: rest) :
    let r := s.fwdExpired f rest
    Goes .forwardTimeout s
      (if f.o.fanned then
        r.collected { f with left := [], entries := f.entries ++ (f.left.filter (r.addressed f)).map fun a => (a, st.timeout) }
      else if f.o.noReply then (r.farAccepted f).noReply f.o else r.answer f.o f.op st.timeout []).packetEnd := by
  show execForwardTimeout s = _
  simp only [execForwardTimeout, h, State.fwdExpired]

/-! ## Segments (R113) -/

theorem State.onHif_congr {f g : Hif → Hif} (h : f s.hif = g s.hif) : s.onHif f = s.onHif g :=
  congrArg (fun x => { s with hif := x }) h

/-- The segments that have waited longest on an interface. -/
def State.segOldest (s : State) : Itf → Option Segs
  | .i2c => s.hif.segI2c
  | .spi => s.hif.segSpi
  | .link => s.hif.segLink.head?.map (·.2)

/-- An interface without its oldest segments. -/
def Hif.dropOldest (h : Hif) : Itf → Hif
  | .i2c => { h with segI2c := none }
  | .spi => { h with segSpi := none }
  | .link => { h with segLink := h.segLink.drop 1 }

theorem segmentHoldExpiry_some {itf : Itf} {g : Segs} (h : s.segOldest itf = some g) :
    Goes (.segmentHoldExpiry itf) s ((s.advanceTo (g.since + sec 1)).onHif (Hif.dropOldest · itf)) := by
  show execSegmentHoldExpiry itf s = _
  cases itf with
  | i2c | spi | link =>
    simp only [State.segOldest] at h
    simp only [execSegmentHoldExpiry, h]
    rfl

theorem segmentHoldExpiry_none {itf : Itf} (h : s.segOldest itf = none) : Goes (.segmentHoldExpiry itf) s s := by
  show execSegmentHoldExpiry itf s = _
  cases itf with
  | i2c | spi | link =>
    simp only [State.segOldest] at h
    simp only [execSegmentHoldExpiry, h]

theorem segmentHoldExpiry_link {g : Nat × Segs} {rest : List (Nat × Segs)} (h : s.hif.segLink = g :: rest) :
    Goes (.segmentHoldExpiry .link) s ((s.advanceTo (g.2.since + sec 1)).onHif fun h => { h with segLink := rest }) := by
  have oldest : s.segOldest .link = some g.2 := congrArg (fun l => l.head?.map (·.2)) h
  refine (segmentHoldExpiry_some oldest).trans (congrArg _ (State.onHif_congr ?_))
  show { s.hif with segLink := s.hif.segLink.drop 1 } = { s.hif with segLink := rest }
  rw [h, List.drop_one, List.tail_cons]

/-! ## Command frames (R339) -/

theorem State.sendOn_nodeAddr (s : State) (g : Nat → LinkPort → Bool) (f : List Byte) :
    (s.sendOn g f).nodeAddr = s.nodeAddr := by
  unfold State.sendOn
  split <;> rfl

section
variable {p : Fin 3} {f : List Byte}

theorem commandFrame_closed (h : s.flag Fld.Link.LINK_EN = false ∨ (s.linkPort p.val).used = false) :
    Goes (.commandFrame p f) s s :=
  congrArg Host.Outcome.next (if_pos (by simpa using h))

variable (enabled : s.flag Fld.Link.LINK_EN) (used : (s.linkPort p.val).used)
include enabled used

theorem commandFrame_bad (bad : frameBody sofCommand (10 + u f 5 1) f = none) :
    Goes (.commandFrame p f) s (s.onLink fun l => { l with asm := l.asm.filter fun a => a.src ≠ u f 2 1 }) := by
  refine congrArg Host.Outcome.next ((if_neg (by simp [enabled, used])).trans ?_)
  rw [bad]

variable {b : List Byte} (body : frameBody sofCommand (10 + u f 5 1) f = some b)
include body

theorem commandFrame_passes (node : u b 0 1 < 0xF0) (other : u b 0 1 ≠ s.nodeAddr) :
    Goes (.commandFrame p f) s (s.sendOn (fun q _ => q ≠ p.val) f) := by
  refine congrArg Host.Outcome.next ((if_neg (by simp [enabled, used])).trans ?_)
  rw [body]
  have sent : (if u b 0 1 = s.nodeAddr then s else s.sendOn (fun q _ => q ≠ p.val) f) = s.sendOn (fun q _ => q ≠ p.val) f :=
    if_neg other
  dsimp only
  rw [sent]
  exact if_pos ⟨(s.sendOn_nodeAddr _ f).symm ▸ other, by simp [Nat.not_le.2 node]⟩

/-- A frame for this node joins the others of its packet, whose last hands the packet over. -/
theorem commandFrame_joins (own : u b 0 1 = s.nodeAddr) :
    let r := assemble s.link.asm (u b 1 1) (u b 2 1) (u b 3 1) (b.drop 5)
    let t := s.onLink fun l => { l with asm := r.1 }
    Goes (.commandFrame p f) s (match r.2 with
      | none => t
      | some bs => (if (packetOf bs).flags.testBit 0 then t.remoteReply (u b 1 1) bs
          else t.linkPacket (u b 1 1) (u b 2 1) bs).packetEnd) := by
  refine congrArg Host.Outcome.next ((if_neg (by simp [enabled, used])).trans ?_)
  rw [body]
  simp only [own, if_true, ne_eq, not_true_eq_false, false_and, if_false] <;> rfl

end

/-- Settles O29: the timers by what they find waiting, the frames by whose they are. -/
theorem packetEventsRun : Obligations.PacketEventsRun := by
  intro s
  refine ⟨fun _ _ => rfl, forwardTimeout_none, fun f rest h single reply => ?answered, fun f rest h single quiet => ?quiet,
    fun f rest h fanned => ?fanned, fun _ => segmentHoldExpiry_some (itf := .i2c), fun _ => segmentHoldExpiry_some (itf := .spi),
    fun _ _ => segmentHoldExpiry_link, segmentHoldExpiry_none (itf := .i2c), segmentHoldExpiry_none (itf := .spi),
    fun h => segmentHoldExpiry_none (itf := .link) (congrArg (fun l => l.head?.map (·.2)) h),
    fun _ _ _ enabled used body => commandFrame_passes enabled used body, fun _ _ => commandFrame_bad,
    fun p f b enabled used body own => ?joined, fun _ _ => commandFrame_closed⟩
  case answered => exact (forwardTimeout_some h).trans (by simp [single, reply, State.fwdExpired])
  case quiet => exact (forwardTimeout_some h).trans (by simp [single, quiet, State.fwdExpired])
  case fanned => exact (forwardTimeout_some h).trans (by simp [fanned, State.fwdExpired])
  case joined =>
    have joins := commandFrame_joins enabled used body own
    exact ⟨fun open_ => joins.trans (by rw [open_]), fun bs whole reply => joins.trans (by rw [whole]; simp [reply]),
      fun bs whole request => joins.trans (by rw [whole]; simp [request])⟩

end Sys2Proof.Machine
end

section
/-! SUPPORT. What a selector picks, and what a command on it replies (R111, R112). -/

namespace Sys2Proof.Machine

/-! ## Selectors (R111) -/

/-- A selector's groups are configuration. -/
theorem State.sel_congr {s t : State} (h : t.cfg = s.cfg) (blk v : Nat) : t.sel blk v = s.sel blk v := by
  simp only [State.sel, State.group, State.fld_congr h]

@[simp] theorem State.accepted_sel (s : State) (o : Origin) (priv blk v : Nat) : (s.accepted o priv).sel blk v = s.sel blk v :=
  State.sel_congr (s.accepted_cfg o priv) blk v

theorem maskBits_two_pow {n k : Nat} (h : k < n) : maskBits n (2 ^ k) = [k] := by
  simp only [maskBits, Nat.testBit_two_pow, eq_comm (a := k)]
  rw [List.filter_eq, List.count_eq_one_of_mem List.nodup_range (List.mem_range.2 h), List.replicate_one]

/-! ## The reply (R112) -/

theorem selReply_ok (sel : Sel) (cause : Nat) (data : List Byte) : selReply sel 0 cause data = (st.ok, data) := rfl

theorem selReply_single {sel : Sel} {failed : Nat} (h : failed ≠ 0) (mode : sel.mode = 0) (cause : Nat) (data : List Byte) :
    selReply sel failed cause data = (cause, []) :=
  (if_neg h).trans (if_pos mode)

theorem selReply_many {sel : Sel} (mode : sel.mode ≠ 0) (failed cause : Nat) :
    selReply sel failed cause [] =
      (if failed = 0 then st.ok else st.partly, if failed = 0 then [] else toLE 4 failed ++ [byte cause]) := by
  rw [selReply, if_neg mode]
  split <;> rfl

section
variable {s : State} {act : Nat → State → Nat × State} {sel : Sel}

/-- An action on a single channel that takes it. -/
theorem State.selDo_single_ok {k : Nat} {t : State} (h : k < 32) (takes : act k s = (st.ok, t)) :
    s.selDo ⟨0, 2 ^ k⟩ act = (.done st.ok [], t) := by
  rw [State.selDo, State.perChannel, maskBits_two_pow h, List.foldl_cons, takes]
  rfl

/-- A single channel that refuses the action: its own status is the reply. -/
theorem State.selDo_single_refused {k status : Nat} (h : k < 32) (refuses : (act k s).1 = status) (n : status ≠ st.ok) :
    s.selDo ⟨0, 2 ^ k⟩ act = (.done status [], s) := by
  subst refuses
  have one : s.perChannel ⟨0, 2 ^ k⟩ act = (s, 0 ||| 2 ^ k, (act k s).1) := by
    rw [State.perChannel, maskBits_two_pow h, List.foldl_cons]
    exact if_neg n
  have reply : selReply ⟨0, 2 ^ k⟩ (0 ||| 2 ^ k) (act k s).1 [] = ((act k s).1, []) := selReply_single (by simp) rfl _ _
  simp only [State.selDo, one, reply]

/-- An action on several channels. -/
theorem State.selDo_many (h : sel.mode ≠ 0) : s.selDo sel act =
    let x := s.perChannel sel act
    (.done (if x.2.1 = 0 then st.ok else st.partly) (if x.2.1 = 0 then [] else toLE 4 x.2.1 ++ [byte x.2.2]), x.1) := by
  simp only [State.selDo, selReply_many h]

end

/-! ## An act that has ended (R105, R107) -/

theorem settled_done {s t : State} {o : Origin} {op status : Nat} {d : List Byte} (h : status ≠ st.state) :
    Settled s o op (.done status d, t) = t.finish o op status d :=
  if_neg h

theorem settled_state {s t : State} {o : Origin} {op : Nat} {d : List Byte} :
    Settled s o op (.done st.state d, t) = s.answer o op st.state [] := by
  rw [Settled, if_pos rfl]

end Sys2Proof.Machine
end

section
/-! SUPPORT. The commands of the easel by what their parameters name; O32. -/

namespace Sys2Proof.Machine

variable {s : State} {o : Origin} {p : List Byte} {blk : Nat}

/-! ## A block without an easel (R128) -/

theorem State.run_noEasel {op : Nat} {act : State → Res × State} (admitted : s.admits o op 0) :
    s.run o op 0 st.badOpcode act = s.answer o op st.badOpcode [] :=
  State.run_answers admitted rfl (by decide)

theorem easel_absent (absent : blk ∉ easelBlocks) :
    (s.admits o (256 * blk + 0xE0) 0 → Goes (.easelWrite o blk p) s (s.answer o (256 * blk + 0xE0) st.badOpcode [])) ∧
    (s.admits o (256 * blk + 0xE1) 0 → Goes (.easelCommit o blk p) s (s.answer o (256 * blk + 0xE1) st.badOpcode [])) ∧
    (s.admits o (256 * blk + 0xE2) 0 → Goes (.easelDiscard o blk p) s (s.answer o (256 * blk + 0xE2) st.badOpcode [])) ∧
    (s.admits o (256 * blk + 0xE3) 0 → Goes (.easelRead o blk p) s (s.answer o (256 * blk + 0xE3) st.badOpcode [])) := by
  and_intros <;> exact fun admitted => congrArg Host.Outcome.next ((if_pos absent).trans (State.run_noEasel admitted))

/-! ## EASEL_WRITE (R124) -/

/-- What a write does, once its form and its values are right. -/
def State.easelPut (s : State) (blk : Nat) (sel : Sel) (r : RecId) (vals : List (Field × Nat × Nat)) : Res × State :=
  if recWide r then
    if s.easelRefuse r 0 vals then (.done st.state [], s) else (.done st.ok [], (s.easelApply r 0 vals).bumpGen blk)
  else
    let x := s.selDo sel fun k s => if s.easelRefuse r k vals then (st.state, s) else (st.ok, s.easelApply r k vals)
    match x.1 with
    | .done status _ => (x.1, if status = st.state then x.2 else x.2.bumpGen blk)
    | .later => x

section
variable {sel : Sel} {r : RecId} {vals : List (Field × Nat × Nat)} {k : Nat}

theorem State.easelPut_wide_ok (wide : recWide r) (takes : s.easelRefuse r 0 vals = false) :
    s.easelPut blk sel r vals = (.done st.ok [], (s.easelApply r 0 vals).bumpGen blk) :=
  (if_pos wide).trans (if_neg (ne_true_of_eq_false takes))

theorem State.easelPut_wide_refused (wide : recWide r) (refuses : s.easelRefuse r 0 vals) :
    s.easelPut blk sel r vals = (.done st.state [], s) :=
  (if_pos wide).trans (if_pos refuses)

theorem State.easelPut_single_ok (h : k < 32) (own : recWide r = false) (takes : s.easelRefuse r k vals = false) :
    s.easelPut blk ⟨0, 2 ^ k⟩ r vals = (.done st.ok [], (s.easelApply r k vals).bumpGen blk) := by
  refine (if_neg (ne_true_of_eq_false own)).trans ?_
  rw [State.selDo_single_ok h (if_neg (ne_true_of_eq_false takes))]
  rfl

theorem State.easelPut_single_refused (h : k < 32) (own : recWide r = false) (refuses : s.easelRefuse r k vals) :
    s.easelPut blk ⟨0, 2 ^ k⟩ r vals = (.done st.state [], s) := by
  refine (if_neg (ne_true_of_eq_false own)).trans ?_
  rw [State.selDo_single_refused (status := st.state) h (by rw [if_pos refuses]) (by decide)]
  rfl

theorem State.easelPut_many (many : sel.mode ≠ 0) (own : recWide r = false) : s.easelPut blk sel r vals =
    let x := s.perChannel sel fun k s => if s.easelRefuse r k vals then (st.state, s) else (st.ok, s.easelApply r k vals)
    (.done (if x.2.1 = 0 then st.ok else st.partly) (if x.2.1 = 0 then [] else toLE 4 x.2.1 ++ [byte x.2.2]),
      x.1.bumpGen blk) := by
  refine (if_neg (ne_true_of_eq_false own)).trans ?_
  rw [State.selDo_many many]
  exact congrArg (Prod.mk _) (if_neg (by split <;> decide))

end

theorem easelWrite_bad (present : blk ∈ easelBlocks) (bad : s.writeParam blk p = false)
    (admitted : s.admits o (256 * blk + 0xE0) (writePriv blk p)) :
    Goes (.easelWrite o blk p) s (s.answer o (256 * blk + 0xE0) st.badParam []) :=
  congrArg Host.Outcome.next ((if_neg (not_not.2 present)).trans (State.run_answers admitted (param_bad bad) (by decide)))

theorem easelWrite_puts (present : blk ∈ easelBlocks) {r : RecId} {vs : List (Field × Nat × Nat)} {sel : Sel}
    (form : writeForm blk p = some (r, vs)) (fits : s.writeParam blk p) (picks : s.sel blk (u p 0 2) = some sel)
    (admitted : s.admits o (256 * blk + 0xE0) (writePriv blk p)) :
    Goes (.easelWrite o blk p) s (Settled s o (256 * blk + 0xE0)
      ((s.accepted o (writePriv blk p)).easelPut blk sel r (vs.filter fun x => x.1.cls ≠ .ro))) := by
  refine congrArg Host.Outcome.next ((if_neg (not_not.2 present)).trans ((State.run_admitted admitted (param_ok fits)).trans ?_))
  rw [form]
  simp only [State.accepted_sel, picks]
  rfl

/-! ## EASEL_COMMIT (R126) -/

section
variable (present : blk ∈ easelBlocks) (admitted : s.admits o (256 * blk + 0xE1) (s.commitPriv blk (s.sel blk (u p 0 2))))
include present admitted

/-- What a commit has done, before its reply. -/
def State.committed (s : State) (blk : Nat) (sel : Sel) : State :=
  (s.onCfg fun c => { c with commits := c.commits + 1 }).commitSel blk sel s.commitId

section
variable (len : p.length = 4) (named : (s.sel blk (u p 0 2)).isSome) (gen : s.genOk blk (u p 2 2))
include len named gen

/-- A commit that leaves no channel armed. -/
theorem easelCommit_done :
    let a := s.accepted o (s.commitPriv blk (s.sel blk (u p 0 2)))
    let r := a.committed blk ((s.sel blk (u p 0 2)).getD ⟨0, 0⟩)
    maskOf (r.armedOn blk a.commitId) = 0 → Replies (.easelCommit o blk p) s r o (256 * blk + 0xE1) st.ok [] :=
  fun none_ => congrArg Host.Outcome.next ((if_neg (not_not.2 present)).trans
    (State.run_done admitted (paramState_ok (decide_eq_true ⟨len, named⟩) gen) (if_pos none_) (by decide)))

/-- A commit that waits for the boundaries of the channels it leaves armed. -/
theorem easelCommit_waits :
    let a := s.accepted o (s.commitPriv blk (s.sel blk (u p 0 2)))
    let sel := (s.sel blk (u p 0 2)).getD ⟨0, 0⟩
    let r := a.committed blk sel
    let left := maskOf (r.armedOn blk a.commitId)
    left ≠ 0 → Goes (.easelCommit o blk p) s (r.awaitSel o (256 * blk + 0xE1) sel left 0 0 (toLE 4 a.commitId ++
      toLE 4 left ++ [byte (b2n ((a.toCommit blk sel).any fun x => !left.testBit x.2.2.1))])) :=
  fun some_ => congrArg Host.Outcome.next ((if_neg (not_not.2 present)).trans
    (State.run_waits admitted (paramState_ok (decide_eq_true ⟨len, named⟩) gen) (if_neg some_)))

end

theorem easelCommit_bad (bad : p.length ≠ 4 ∨ s.sel blk (u p 0 2) = none) :
    Goes (.easelCommit o blk p) s (s.answer o (256 * blk + 0xE1) st.badParam []) :=
  congrArg Host.Outcome.next ((if_neg (not_not.2 present)).trans (State.run_answers admitted
    (paramState_bad _ (decide_eq_false fun ⟨len, named⟩ => bad.elim (absurd len) fun none => by simp [none] at named)) (by decide)))

theorem easelCommit_late (len : p.length = 4) (named : (s.sel blk (u p 0 2)).isSome) (gen : s.genOk blk (u p 2 2) = false) :
    Goes (.easelCommit o blk p) s (s.answer o (256 * blk + 0xE1) st.state []) :=
  congrArg Host.Outcome.next ((if_neg (not_not.2 present)).trans (State.run_answers admitted
    (paramState_state (decide_eq_true ⟨len, named⟩) gen) (by decide)))

end

/-! ## EASEL_DISCARD and EASEL_READ (R127) -/

theorem easelDiscard_takes_back (present : blk ∈ easelBlocks)
    (admitted : s.admits o (256 * blk + 0xE2) (s.discardPriv blk (s.sel blk (u p 0 2)))) (len : p.length = 2)
    (named : (s.sel blk (u p 0 2)).isSome) :
    let a := s.accepted o (s.discardPriv blk (s.sel blk (u p 0 2)))
    Replies (.easelDiscard o blk p) s ((a.discardCopies blk ((s.sel blk (u p 0 2)).getD ⟨0, 0⟩)).withdraw blk a) o
      (256 * blk + 0xE2) st.ok [] :=
  congrArg Host.Outcome.next ((if_neg (not_not.2 present)).trans
    (State.run_done admitted (param_ok (decide_eq_true ⟨len, named⟩)) rfl (by decide)))

theorem easelDiscard_bad (present : blk ∈ easelBlocks)
    (admitted : s.admits o (256 * blk + 0xE2) (s.discardPriv blk (s.sel blk (u p 0 2))))
    (bad : p.length ≠ 2 ∨ s.sel blk (u p 0 2) = none) :
    Goes (.easelDiscard o blk p) s (s.answer o (256 * blk + 0xE2) st.badParam []) :=
  congrArg Host.Outcome.next ((if_neg (not_not.2 present)).trans (State.run_answers admitted
    (param_bad (decide_eq_false fun ⟨len, named⟩ => bad.elim (absurd len) fun none => by simp [none] at named)) (by decide)))

/-- The copy that an EASEL_READ names. -/
def State.easelAt (s : State) (blk : Nat) (p : List Byte) : Option (RecId × Nat) :=
  (recOf blk (u p 2 1)).bind fun r => (s.readSel blk r (u p 0 2)).map fun k => (r, k)

theorem State.easelAt_some {r : RecId} {k : Nat} (rec : recOf blk (u p 2 1) = some r)
    (picks : s.readSel blk r (u p 0 2) = some k) : s.easelAt blk p = some (r, k) := by
  rw [State.easelAt, rec, Option.bind_some, picks, Option.map_some]

section
variable (present : blk ∈ easelBlocks) (admitted : s.admits o (256 * blk + 0xE3) 0)
include present admitted

theorem easelRead_reads {r : RecId} {k : Nat} (rec : recOf blk (u p 2 1) = some r) (picks : s.readSel blk r (u p 0 2) = some k)
    (len : p.length = 8) (copy : u p 3 1 ≤ 1) (some_ : 1 ≤ u p 6 2) (few : u p 6 2 ≤ 4085)
    (inside : u p 4 2 + u p 6 2 ≤ recLen r) :
    Replies (.easelRead o blk p) s s o (256 * blk + 0xE3) st.ok
      (sliceBytes (if u p 3 1 = 1 then (s.copy r k).live else (s.copy r k).easel) (u p 4 2) (u p 6 2)) := by
  have at_ := State.easelAt_some rec picks
  have fits : ((s.easelAt blk p).map fun x => decide (u p 4 2 + u p 6 2 ≤ recLen x.1)).getD false = true := by
    rw [at_]
    exact decide_eq_true inside
  refine congrArg Host.Outcome.next ((if_neg (not_not.2 present)).trans
    ((State.report_admitted admitted (param_ok (decide_eq_true ⟨len, copy, some_, few, fits⟩))).trans ?_))
  refine congrArg (s.finish o (256 * blk + 0xE3) st.ok) ?_
  show (match s.easelAt blk p with | some x => _ | none => _) = _
  rw [at_]

theorem easelRead_bad (bad : p.length ≠ 8 ∨ 1 < u p 3 1 ∨ u p 6 2 = 0 ∨ 4085 < u p 6 2 ∨ recOf blk (u p 2 1) = none ∨
    ∃ r, recOf blk (u p 2 1) = some r ∧ (recLen r < u p 4 2 + u p 6 2 ∨ s.readSel blk r (u p 0 2) = none)) :
    Goes (.easelRead o blk p) s (s.answer o (256 * blk + 0xE3) st.badParam []) := by
  have unfit : ¬(p.length = 8 ∧ u p 3 1 ≤ 1 ∧ 1 ≤ u p 6 2 ∧ u p 6 2 ≤ 4085 ∧
      ((s.easelAt blk p).map fun x => decide (u p 4 2 + u p 6 2 ≤ recLen x.1)).getD false = true) := by
    rintro ⟨len, copy, some_, few, fits⟩
    rcases bad with bad | bad | bad | bad | bad | ⟨r, rec, bad | bad⟩
    · exact bad len
    · omega
    · omega
    · omega
    · simp [State.easelAt, bad] at fits
    · cases picks : s.readSel blk r (u p 0 2) with
      | none => simp [State.easelAt, rec, picks] at fits
      | some k =>
        simp [State.easelAt, rec, picks] at fits
        omega
    · simp [State.easelAt, rec, bad] at fits
  exact congrArg Host.Outcome.next ((if_neg (not_not.2 present)).trans
    (State.run_answers admitted (param_bad (decide_eq_false unfit)) (by decide)))

end

/-- Settles O32: a write by what it puts (`State.easelPut`), a commit by whether it leaves a channel armed, and the rest by
their checks. -/
theorem easelCommandsRun : Obligations.EaselCommandsRun := by
  intro s o p blk
  refine ⟨easel_absent, fun present => ⟨fun r vs sel form fits picks => ?writes, easelWrite_bad present, fun admitted => ?commits,
    fun admitted => ⟨easelDiscard_takes_back present admitted, easelDiscard_bad present admitted⟩,
    fun r k admitted => easelRead_reads present admitted, easelRead_bad present⟩⟩
  case writes =>
    intro op vals priv a admitted
    have puts := easelWrite_puts present form fits picks admitted
    refine ⟨fun wide takes => ?_, fun wide refuses => ?_, fun k h own one takes => ?_, fun k h own one refuses => ?_,
      fun own many => ?_⟩
    · rw [State.easelPut_wide_ok wide takes, settled_done (by decide)] at puts
      exact puts
    · rw [State.easelPut_wide_refused wide refuses, settled_state] at puts
      exact puts
    · rw [one, State.easelPut_single_ok h own takes, settled_done (by decide)] at puts
      exact puts
    · rw [one, State.easelPut_single_refused h own refuses, settled_state] at puts
      exact puts
    · rw [State.easelPut_many many own, settled_done (by split <;> decide)] at puts
      exact puts
  case commits =>
    exact ⟨easelCommit_done present admitted, easelCommit_waits present admitted, easelCommit_late present admitted,
      easelCommit_bad present admitted⟩

end Sys2Proof.Machine
end

section
/-! SUPPORT. What a write stages, what a boundary makes live, and what a stop and a discard leave of a copy (R123, R125–R127). -/

namespace Sys2Proof.Machine

/-! ## Values of class B (R123) -/

section
variable {s : State} {r : RecId} {ch : Nat} {vals : List (Field × Nat × Nat)}

theorem State.setCopy_live {c : RecCopy} (h : c.live = (s.copy r ch).live) : s.setCopy r ch c = s.onCopy r ch fun _ => c :=
  if_pos h

/-- Values of class B reach the easel, and nothing of them the live copy. -/
theorem State.easelApply_staged (classB : ∀ v ∈ vals, v.1.cls = .B) : s.easelApply r ch vals = s.onCopy r ch fun _ =>
    let c := s.copy r ch
    let idx := vals.map fun v => v.2.1
    { c with
      easel := applyVals r (vals.map fun v => v.2) c.easel, stagedB := c.stagedB ++ idx.filter fun i => i ∉ c.stagedB
      pendL := (c.pendL.map (Batch.drop idx)).filter fun y => !y.vals.isEmpty, armed := c.armed.map (Batch.drop idx) } := by
  have all : vals.filter (fun x => decide (x.1.cls = .B)) = vals := List.filter_eq_self.2 fun v h => decide_eq_true (classB v h)
  have none_ (q : Field × Nat × Nat → Bool) : vals.filter (fun x => decide (x.1.cls ≠ .B) && q x) = [] :=
    List.filter_eq_nil_iff.2 fun v h => by simp [classB v h]
  have later : vals.filter (fun x => decide (x.1.cls = .L) && s.fieldRuns r ch x.1) = [] :=
    List.filter_eq_nil_iff.2 fun v h => by simp [classB v h]
  unfold State.easelApply
  simp only [all, none_, later]
  exact State.setCopy_live rfl

end

/-! ## A boundary (R125) -/

section
variable {c : RecCopy} {x : Batch} {rest : List Batch} {r : RecId} {b : Bnd}

theorem RecCopy.land_oldest (none_ : c.pendL = []) (armed : c.armed = x :: rest) (due : x.due r b) :
    c.land r b = { c with live := applyVals r x.vals c.live, easel := applyVals r x.vals c.easel, armed := rest } := by
  simp [RecCopy.land, RecCopy.landIf, none_, armed, due]

theorem RecCopy.land_nothing (none_ : c.pendL = []) (unarmed : c.armed = []) : c.land r b = c := by
  cases c
  simp_all [RecCopy.land, RecCopy.landIf]

theorem RecCopy.land_value (one : c.pendL = [x]) (unarmed : c.armed = []) (due : x.due r b) :
    c.land r b = { c with live := applyVals r x.vals c.live, easel := applyVals r x.vals c.easel, pendL := [] } := by
  simp [RecCopy.land, RecCopy.landIf, one, unarmed, due]

theorem RecCopy.land_undue (one : c.pendL = [x]) (unarmed : c.armed = []) (early : x.due r b = false) :
    (c.land r b).live = c.live ∧ (c.land r b).pendL = [x.pass r b] := by
  simp [RecCopy.land, RecCopy.landIf, one, unarmed, early]

theorem RecCopy.discard_all (c : RecCopy) (r : RecId) :
    let d := c.discard r (fun _ => true) fun _ => true
    d.live = c.live ∧ d.pendL = c.pendL ∧ d.stagedB = [] ∧ d.armed = [] := by
  simp [RecCopy.discard]

end

/-! ## The oldest commit of a domain (R125, R296) -/

theorem Batch.older_refl (x : Batch) : x.older x := by simp [Batch.older]

theorem Batch.older_total {x y : Batch} (h : ¬x.older y) : y.older x := by
  simp only [Batch.older, Bool.or_eq_true, Bool.and_eq_true, decide_eq_true_eq] at h ⊢
  omega

theorem Batch.older_trans {x y z : Batch} (h : x.older y) (k : y.older z) : x.older z := by
  simp only [Batch.older, Bool.or_eq_true, Bool.and_eq_true, decide_eq_true_eq] at h k ⊢
  omega

/-- The older of a batch found so far and another. -/
def Batch.olderOf (m : Option Batch) (x : Batch) : Option Batch :=
  match m with
  | some y => if y.older x then some y else some x
  | none => some x

/-- The oldest of the batches found so far and those to come. -/
theorem Batch.foldl_olderOf (xs : List Batch) (m : Batch) :
    ∃ y ∈ m :: xs, xs.foldl Batch.olderOf (some m) = some y ∧ ∀ x ∈ m :: xs, y.older x := by
  induction xs generalizing m with
  | nil => exact ⟨m, List.mem_singleton_self m, rfl, fun x h => List.mem_singleton.1 h ▸ m.older_refl⟩
  | cons x xs ih =>
    rw [List.foldl_cons]
    by_cases first : m.older x
    · obtain ⟨y, mem, found, oldest⟩ := ih m
      refine ⟨y, ?_, by rw [Batch.olderOf, if_pos first, found], ?_⟩
      · simp only [List.mem_cons] at mem ⊢
        tauto
      · have hm := oldest m List.mem_cons_self
        simp only [List.mem_cons, forall_eq_or_imp] at oldest ⊢
        exact ⟨hm, Batch.older_trans hm first, oldest.2⟩
    · obtain ⟨y, mem, found, oldest⟩ := ih x
      refine ⟨y, ?_, by rw [Batch.olderOf, if_neg first, found], ?_⟩
      · simp only [List.mem_cons] at mem ⊢
        tauto
      · have hx := oldest x List.mem_cons_self
        simp only [List.mem_cons, forall_eq_or_imp] at oldest ⊢
        exact ⟨Batch.older_trans hx (Batch.older_total first), hx, oldest.2⟩

/-- The commits armed on a domain, in its record or in its entries of the phase table. -/
def State.domArmed (s : State) (k : Nat) : List Batch :=
  (s.copy .dom0 k).armed ++ (s.copy .dom1 0).armed.filter fun x => x.own = k

theorem State.domOldest_eq (s : State) (k : Nat) : s.domOldest k = (s.domArmed k).foldl Batch.olderOf none := rfl

theorem State.domOldest_oldest {s : State} {k : Nat} {x : Batch} (h : x ∈ s.domArmed k) :
    ∃ y ∈ s.domArmed k, s.domOldest k = some y ∧ y.older x := by
  rw [State.domOldest_eq]
  generalize s.domArmed k = cs at h ⊢
  cases cs with
  | nil => exact absurd h List.not_mem_nil
  | cons c cs =>
    obtain ⟨y, mem, found, oldest⟩ := Batch.foldl_olderOf cs c
    exact ⟨y, mem, found, oldest x h⟩

end Sys2Proof.Machine
end

section
/-! SUPPORT. The events of boundaries and of waiting commits, MULTI_COMMIT and EASEL_SAVE; O33. -/

namespace Sys2Proof.Machine

variable {s : State} {o : Origin} {p : List Byte}

/-! ## Boundaries (R125, R126) -/

section
variable {r : RecId} {ch : Nat} {b : Bnd}

/-- A boundary where something waits lands it. -/
theorem State.boundary_lands (h : (s.copy r ch).armed ≠ [] ∨ (s.copy r ch).pendL ≠ []) : s.boundary r ch b =
    ((s.setCopy r ch ((s.copy r ch).land r b)).landStopped r ch).wakeCommits :=
  if_neg (by simpa [imp_iff_not_or, or_comm] using h)

theorem State.boundaryOf_plain (h0 : r ≠ .dom0) (h1 : r ≠ .dom1) : s.boundaryOf r ch b = s.boundary r ch b :=
  if_neg (by simp [h0, h1])

/-- The events of a boundary act where what they land waits. -/
theorem commitLand_fires {at_ : Nat} (h : (if r = .dom1 then 0 else ch) = at_) :
    Fires (.commitLand r ch b) s ((s.copy r at_).armed ≠ []) (s.boundaryOf r ch b) := by
  subst h
  exact fires_ite_not rfl (by simp)

theorem lValueLand_fires {at_ : Nat} (h : (if r = .dom1 then 0 else ch) = at_) :
    Fires (.lValueLand r ch b) s ((s.copy r at_).pendL ≠ []) (s.boundaryOf r ch b) := by
  subst h
  exact fires_ite_not rfl (by simp)

theorem boundaries_fire (h0 : r ≠ .dom0) (h1 : r ≠ .dom1) :
    let c := s.copy r ch
    let t := ((s.setCopy r ch (c.land r b)).landStopped r ch).wakeCommits
    Fires (.commitLand r ch b) s (c.armed ≠ []) t ∧ Fires (.lValueLand r ch b) s (c.pendL ≠ []) t := by
  have commit := commitLand_fires (s := s) (ch := ch) (b := b) (if_neg h1)
  have value := lValueLand_fires (s := s) (ch := ch) (b := b) (if_neg h1)
  rw [State.boundaryOf_plain h0 h1] at commit value
  exact ⟨⟨fun some => State.boundary_lands (.inl some) ▸ commit.1 some, commit.2⟩,
    ⟨fun some => State.boundary_lands (.inr some) ▸ value.1 some, value.2⟩⟩

theorem State.domLand_both (own : (s.copy .dom0 ch).pendL ++ (s.copy .dom0 ch).armed ≠ [])
    (phases : (s.copy .dom1 0).pendL ++ (s.copy .dom1 0).armed ≠ []) :
    let c := s.copy .dom0 ch
    let d := s.copy .dom1 0
    let go (x : Batch) : Bool := x.id = 0 || (s.domOldest ch).map (·.id) = some x.id
    let t := (s.setCopy .dom0 ch (c.landIf go .dom0 .main)).setCopy .dom1 0 (d.landPhases fun x => x.own = ch && go x)
    s.domLand ch = ((t.landStopped .dom0 ch).calLand (t.elemDom ch)).wakeCommits := by
  have first : ¬((s.copy .dom0 ch).pendL.isEmpty && (s.copy .dom0 ch).armed.isEmpty) = true := by simpa using own
  have second : ¬((s.copy .dom1 0).pendL.isEmpty && (s.copy .dom1 0).armed.isEmpty) = true := by simpa using phases
  simp only [State.domLand, if_neg first, if_neg second]

end

/-! ## COMMIT_TIMEOUT (R126, R128) -/

theorem commitTimeout_none (h : s.hif.waits.find? Wait.isCommit = none) : Goes .commitTimeout s s := by
  show execCommitTimeout s = _
  simp only [execCommitTimeout, h]

theorem commitTimeout_some {w : Wait} (h : s.hif.waits.find? Wait.isCommit = some w) :
    let t := (s.advanceTo (w.since + sec 1)).onHif fun h => { h with waits := h.waits.erase w }
    Goes .commitTimeout s (State.raise 0x0302 (s := if w.op = 0x0301 then t.finish w.o w.op st.partly
        ((multiStatuses w.data).map fun b => if b = 0xFF then byte st.timeout else b)
      else t.finish w.o w.op st.timeout [])) := by
  show execCommitTimeout s = _
  simp only [execCommitTimeout, h]

/-! ## MULTI_COMMIT (R128) -/

/-- The first failing check of a MULTI_COMMIT. -/
def State.multiChk (s : State) (o : Origin) (p : List Byte) : Nat :=
  if p.length < 2 ∨ u p 0 1 < 1 ∨ 16 < u p 0 1 ∨ u p 1 1 ≠ 0 ∨ p.length ≠ 2 + 6 * u p 0 1 then st.badParam
  else (((List.range (u p 0 1)).map (s.multiCheck o p)).find? fun c => c ≠ st.ok).getD st.ok

section
variable (admitted : s.admits o 0x0301 1)
include admitted

theorem multiCommit_answers {code : Nat} (chk : s.multiChk o p = code) (n : code ≠ st.ok) :
    Goes (.multiCommit o p) s (s.answer o 0x0301 code []) :=
  congrArg Host.Outcome.next (State.run_answers admitted chk n)

theorem multiCommit_bad (bad : p.length ≠ 2 + 6 * u p 0 1 ∨ u p 0 1 = 0 ∨ 16 < u p 0 1 ∨ u p 1 1 ≠ 0) :
    Goes (.multiCommit o p) s (s.answer o 0x0301 st.badParam []) :=
  multiCommit_answers admitted (if_pos (by omega)) (by decide)

section
variable (len : p.length = 2 + 6 * u p 0 1) (some_ : 1 ≤ u p 0 1) (few : u p 0 1 ≤ 16) (spare : u p 1 1 = 0)
include len some_ few spare

omit admitted in
theorem State.multiChk_entries : s.multiChk o p =
    (((List.range (u p 0 1)).map (s.multiCheck o p)).find? fun c => c ≠ st.ok).getD st.ok :=
  if_neg (by omega)

theorem multiCommit_fails {c : Nat}
    (fails : ((List.range (u p 0 1)).map (s.multiCheck o p)).find? (fun c => c ≠ st.ok) = some c) :
    Goes (.multiCommit o p) s (s.answer o 0x0301 c []) := by
  have n : c ≠ st.ok := by simpa using List.find?_some fails
  exact multiCommit_answers admitted (by rw [State.multiChk_entries len some_ few spare, fails, Option.getD_some]) n

theorem multiCommit_waits (pass : ∀ e ∈ List.range (u p 0 1), s.multiCheck o p e = st.ok) :
    let n := u p 0 1
    let es := List.range n
    let blk (e : Nat) : Nat := u (multiEntry p e) 0 1
    let sel (e : Nat) : Sel := (s.sel (blk e) (u (multiEntry p e) 2 2)).getD ⟨0, 0⟩
    let priv := es.foldl (fun m e => max m (s.commitPriv (blk e) (s.sel (blk e) (u (multiEntry p e) 2 2)))) 1
    let a := (s.accepted o 1).accepted o priv
    let c := (a.onCfg fun c => { c with commits := c.commits + n }).each es fun e s =>
      s.commitSel (blk e) (sel e) (a.commitId + e)
    Goes (.multiCommit o p) s
      ((c.await o 0x0301 0 0 (toLE 4 a.commitId ++ es.flatMap fun e => [byte (blk e), 0xFF])).wakeCommits) := by
  have chk : s.multiChk o p = st.ok := by
    rw [State.multiChk_entries len some_ few spare, List.find?_eq_none.2 (by simpa using pass), Option.getD_none]
  exact congrArg Host.Outcome.next (State.run_waits admitted chk rfl)

end

end

/-! ## EASEL_SAVE (R128, R457) -/

section
variable (admitted : s.admits o 0x0302 2)
include admitted

theorem easelSave_bad (bad : p ≠ []) : Goes (.easelSave o p) s (s.answer o 0x0302 st.badParam []) :=
  congrArg Host.Outcome.next (State.run_answers admitted (paramState_bad _ (List.isEmpty_eq_false_iff.2 bad)) (by decide))

theorem easelSave_barred (none_ : p = []) (barred : s.sys.nandBar ∨ s.anyArmed) :
    Goes (.easelSave o p) s (s.answer o 0x0302 st.state []) :=
  congrArg Host.Outcome.next (State.run_answers admitted
    (paramState_state (List.isEmpty_iff.2 none_) (by simpa [imp_iff_not_or] using barred)) (by decide))

section
variable (none_ : p = []) (power : s.sys.nandBar = false) (unarmed : s.anyArmed = false)
include none_ power unarmed

omit admitted in
theorem easelSave_passes : paramState p.isEmpty (!s.sys.nandBar && !s.anyArmed) = st.ok :=
  paramState_ok (List.isEmpty_iff.2 none_) (by rw [power, unarmed]; rfl)

theorem easelSave_failed (failed : s.skb.failed) : Replies (.easelSave o p) s (s.accepted o 2) o 0x0302 st.timeout [] :=
  congrArg Host.Outcome.next (State.run_done admitted (easelSave_passes none_ power unarmed)
    (if_pos (by rwa [State.accepted_skb])) (by decide))

theorem easelSave_stores (works : s.skb.failed = false) :
    let a := s.accepted o 2
    let k := a.cfg.saveTarget
    let n := 1 + (a.cfg.save.toList.filterMap fun x => x.map (·.1)).foldl max 0
    Goes (.easelSave o p) s (((a.onCfg fun c => { c with save := upd c.save k fun _ => some (n, a.saveImage) }).enqueue
      (.store (4 + k.val) []) (some ⟨o, 0x0302, []⟩)).pump) :=
  congrArg Host.Outcome.next (State.run_waits admitted (easelSave_passes none_ power unarmed)
    (if_neg (by rw [State.accepted_skb, works]; decide)))

end

end

/-- Settles O33: a copy by what it is to land, a domain's oldest commit by its time (`Batch.older`), and each event and
command by its checks. -/
theorem easelLandsRun : Obligations.EaselLandsRun := by
  intro s o p r ch b
  refine ⟨fun c x rest => ⟨fun _ => State.easelApply_staged, RecCopy.land_oldest, RecCopy.land_nothing, RecCopy.land_value,
    RecCopy.land_undue, rfl, rfl, rfl, c.discard_all r⟩, boundaries_fire, ⟨commitLand_fires rfl, lValueLand_fires rfl,
    commitLand_fires rfl, lValueLand_fires rfl, State.domLand_both, ?none, fun x => State.domOldest_oldest⟩,
    commitTimeout_none, fun w h => ⟨fun other => ?single, fun multi => ?multi⟩, multiCommit_bad,
    fun admitted len some_ few spare => ⟨fun c => multiCommit_fails admitted len some_ few spare,
      multiCommit_waits admitted len some_ few spare⟩,
    fun admitted => ⟨easelSave_bad admitted, easelSave_barred admitted, easelSave_failed admitted, easelSave_stores admitted⟩⟩
  case none =>
    intro unarmed
    exact congrArg (List.foldl Batch.olderOf none) unarmed
  case single => exact (commitTimeout_some h).trans (by rw [if_neg other])
  case multi => exact (commitTimeout_some h).trans (by rw [if_pos multi])

end Sys2Proof.Machine
end

section
/-! SUPPORT. A command on the channels of a selector that waits for their boundary (R112, R122). -/

namespace Sys2Proof.Machine

/-! ## Masks -/

theorem maskOf_ne_zero {ks : List Nat} {k : Nat} (h : k ∈ ks) : maskOf ks ≠ 0 := by
  have grows (l : List Nat) (m : Nat) : m ≤ l.foldl (fun m k => m ||| 2 ^ k) m := by
    induction l generalizing m with
    | nil => exact Nat.le_refl m
    | cons j l ih => exact Nat.le_trans Nat.left_le_or (ih _)
  obtain ⟨l, r, rfl⟩ := List.append_of_mem h
  rw [maskOf, List.foldl_append, List.foldl_cons]
  have one : 0 < 2 ^ k := Nat.two_pow_pos k
  have bit : 2 ^ k ≤ l.foldl (fun m k => m ||| 2 ^ k) 0 ||| 2 ^ k := Nat.right_le_or
  have rest := grows r (l.foldl (fun m k => m ||| 2 ^ k) 0 ||| 2 ^ k)
  omega

theorem maskOf_eq_zero {ks : List Nat} : maskOf ks = 0 ↔ ks = [] := by
  refine ⟨fun zero => List.eq_nil_iff_forall_not_mem.2 fun k h => maskOf_ne_zero h zero, ?_⟩
  rintro rfl
  rfl

/-! ## The check, channel by channel -/

section
variable {s : State} {o : Origin} {op : Nat} {sel : Sel} {own : List Byte} {chk : Nat → Nat} {can : Nat → Bool}

/-- The cause of the first refusal, where a refusal is STATE. -/
theorem refusal_cause (refuses : ∀ k, chk k = if can k then st.ok else st.state) (ks : List Nat) :
    ((ks.filter fun k => !can k).head?.map chk).getD 0 = if (ks.filter fun k => !can k) = [] then 0 else st.state := by
  cases split : ks.filter fun k => !can k with
  | nil => rfl
  | cons k l =>
    have refused : k ∈ ks.filter fun k => !can k := split ▸ List.mem_cons_self
    have no : can k = false := by simpa using (List.mem_filter.1 refused).2
    rw [if_neg (List.cons_ne_nil k l), List.head?_cons, Option.map_some, Option.getD_some, refuses, no]
    rfl

/-- The channels that wait and those refused, where a refusal is STATE. -/
theorem State.selWait_eq (refuses : ∀ k, chk k = if can k then st.ok else st.state) :
    s.selWait o op sel own chk =
      let ks := maskBits 32 sel.mask
      let bad := ks.filter fun k => !can k
      let cause := if bad = [] then 0 else st.state
      if ks.any can then
        (.later, s.await o op (maskOf (ks.filter can)) (maskOf bad) ([byte sel.mode, byte cause] ++ zeros 4 ++ own))
      else (.done (selReply sel (maskOf bad) cause []).1 (selReply sel (maskOf bad) cause []).2, s) := by
  have takes (k : Nat) : decide (chk k = st.ok) = can k := by
    rw [refuses]
    cases can k <;> rfl
  have turns (k : Nat) : decide (chk k ≠ st.ok) = !can k := by rw [decide_not, takes]
  simp only [State.selWait, takes, turns, refusal_cause refuses]
  by_cases any : (maskBits 32 sel.mask).any can = true
  · obtain ⟨k, mem, yes⟩ := List.any_eq_true.1 any
    exact (if_neg (maskOf_ne_zero (List.mem_filter.2 ⟨mem, yes⟩))).trans (if_pos any).symm
  · have none : (maskBits 32 sel.mask).filter can = [] := by simpa [List.filter_eq_nil_iff] using any
    exact (if_pos (maskOf_eq_zero.2 none)).trans (if_neg any).symm

/-- One channel, which passes its check. -/
theorem State.selWait_one {k : Nat} (h : k < 32) (passes : chk k = st.ok) :
    s.selWait o op ⟨0, 2 ^ k⟩ own chk = (.later, s.await o op (2 ^ k) 0 ([0, 0] ++ zeros 4 ++ own)) := by
  simp [State.selWait, maskBits_two_pow h, passes, State.awaitSel]

end

/-! ## The command (R112, R114) -/

/-- A command on a selector: its parameters are checked, and then its channels; `post` is what it does at once. -/
theorem selects {s : State} {o : Origin} {op priv : Nat} {good : Prop} {sel : Option Sel} {own : List Byte} {can : Nat → Bool}
    {post : State → State} {c : Instr} {b : Bool} {act : State → Res × State} {chk : State → Nat → Nat}
    (runs : exec c s = .next (s.run o op priv (param b) act)) (checks : b = true ↔ good ∧ sel.isSome)
    (acts : ∀ t, act t = Prod.map id post (t.selWait o op (sel.getD ⟨0, 0⟩) own (chk t)))
    (refuses : ∀ k, chk (s.accepted o priv) k = if can k then st.ok else st.state) :
    Selects c s o op priv good sel own can post := by
  intro admitted
  refine ⟨fun bad => ?_, fun l picks fits => ?_⟩
  · have unfit : b = false := by
      by_contra h
      obtain ⟨fits, some_⟩ := checks.1 (eq_true_of_ne_false h)
      exact bad.elim (absurd fits) fun none => by simp [none] at some_
    exact runs.trans (congrArg Host.Outcome.next (State.run_answers admitted (param_bad unfit) (by decide)))
  · have good_ := param_ok (checks.2 ⟨fits, by rw [picks]; rfl⟩)
    have settles : exec c s = .next (Settled s o op (act (s.accepted o priv))) :=
      runs.trans (congrArg Host.Outcome.next (State.run_admitted admitted good_))
    rw [acts, picks, Option.getD_some, State.selWait_eq refuses] at settles
    intro ks bad
    have bads (none_ : ks.any can = false) (some_ : ks ≠ []) : bad ≠ [] := by
      rwa [show bad = ks from List.filter_eq_self.2 fun k mem => by simpa using List.any_eq_false.1 none_ k mem]
    refine ⟨fun any => settles.trans ?waits, fun none_ some_ one => settles.trans ?single,
      fun none_ some_ many => settles.trans ?several, fun empty => settles.trans ?none⟩
    case waits =>
      rw [if_pos any]
      rfl
    case single =>
      rw [if_neg (ne_true_of_eq_false none_), if_neg (bads none_ some_),
        selReply_single (mt maskOf_eq_zero.1 (bads none_ some_)) one]
      exact congrArg Host.Outcome.next settled_state
    case several =>
      rw [if_neg (ne_true_of_eq_false none_), if_neg (bads none_ some_), selReply_many many,
        if_neg (mt maskOf_eq_zero.1 (bads none_ some_)), if_neg (mt maskOf_eq_zero.1 (bads none_ some_))]
      exact congrArg Host.Outcome.next (settled_done (status := st.partly) (by decide))
    case none =>
      have nobody : maskBits 32 l.mask = [] := empty
      rw [nobody]
      exact congrArg Host.Outcome.next (settled_done (status := st.ok) (by decide))

/-! ## The refusals -/

theorem refusal_of {bad : Prop} [Decidable bad] {can : Bool} (h : decide bad = !can) :
    (if bad then st.state else st.ok) = if can then st.ok else st.state := by
  by_cases no : bad
  · rw [if_pos no, if_neg (by simpa [no] using h)]
  · rw [if_neg no, if_pos (by simpa [no] using h)]

section
variable (s : State)

theorem State.rectRefuse_eq (a k : Nat) : s.rectRefuse a k =
    if s.flag Fld.Rect.PRESENT k &&
      (if a = 1 then (s.rectCh k).st = .disabled
       else if a = 4 then ((s.rectCh k).st = .latched || (s.rectCh k).st = .lost) && !s.therm.mainsLatch
       else (s.rectCh k).st ≠ .off && (s.rectCh k).st ≠ .autonomous && (s.rectCh k).st ≠ .latched)
    then st.ok else st.state := by
  refine refusal_of ?_
  by_cases one : a = 1
  · simp [one]
  · by_cases four : a = 4
    · simp [four]
    · simp [one, four]

theorem State.auxRefuse_eq (a k : Nat) : s.auxRefuse a k =
    if s.flag Fld.Bus.PRESENT k &&
      (if a = 1 then (s.auxCh k).st = .disabled else a ≠ 3 || (s.auxCh k).st = .latched || (s.auxCh k).st = .fault)
    then st.ok else st.state := by
  rw [State.auxRefuse]
  cases s.flag Fld.Bus.PRESENT k with
  | false => rfl
  | true =>
    by_cases one : a = 1
    · simp [one]
    · by_cases three : a = 3
      · simp [three]
      · simp [one, three]

theorem State.strRefuse_eq (a force k : Nat) : s.strRefuse a force k =
    if (s.strCh k).st ≠ .absent &&
      (if a = 1 then (s.strCh k).st = .disabled
       else if a = 3 then (s.strCh k).st = .fault || (s.strCh k).st = .latched
       else !((s.strCh k).standby && s.standbys = 1 && s.bus.st = .outage) || force = 0x5A)
    then st.ok else st.state := by
  refine refusal_of ?_
  by_cases one : a = 1
  · simp [one]
  · by_cases three : a = 3
    · simp [three]
    · simp [one, three]

theorem State.chgRefuse_eq (a k : Nat) : s.chgRefuse a k =
    if (a ≠ 1 || s.flag Fld.Chg.CHG_EN k) && (a ≠ 3 || s.hasEq k) then st.ok else st.state :=
  refusal_of (by simp)

theorem State.gaugeRefuse_eq (k : Nat) :
    s.gaugeRefuse k = if decide ((s.strCh k).st ≠ .absent) then st.ok else st.state :=
  refusal_of (by simp)

end

/-! ## The commands on a selector -/

section
variable (s : State) (o : Origin) (p : List Byte)

theorem rectControl_selects :
    Selects (.rectControl o p) s o 0x0701 1 (p.length = 4 ∧ 1 ≤ u p 2 1 ∧ u p 2 1 ≤ 4 ∧ u p 3 1 = 0) (s.sel 0x07 (u p 0 2))
      [byte (u p 2 1)]
      (fun k => s.flag Fld.Rect.PRESENT k &&
        (if u p 2 1 = 1 then (s.rectCh k).st = .disabled
         else if u p 2 1 = 4 then ((s.rectCh k).st = .latched || (s.rectCh k).st = .lost) && !s.therm.mainsLatch
         else (s.rectCh k).st ≠ .off && (s.rectCh k).st ≠ .autonomous && (s.rectCh k).st ≠ .latched))
      (fun t => t.each ((List.range 2).filter fun k => !(t.rectCh k).llc) State.rectServe) := by
  refine selects (chk := fun t => t.rectRefuse (u p 2 1)) rfl (by simp only [decide_eq_true_iff, and_assoc]) (fun t => rfl)
    fun k => ?_
  rw [State.accepted_rest]
  exact s.rectRefuse_eq (u p 2 1) k

theorem auxControl_selects :
    Selects (.auxControl o p) s o 0x0802 1 (p.length = 4 ∧ 1 ≤ u p 2 1 ∧ u p 2 1 ≤ 3 ∧ u p 3 1 = 0) (s.sel 0x08 (u p 0 2))
      [byte (u p 2 1)]
      (fun k => s.flag Fld.Bus.PRESENT k &&
        (if u p 2 1 = 1 then (s.auxCh k).st = .disabled
         else u p 2 1 ≠ 3 || (s.auxCh k).st = .latched || (s.auxCh k).st = .fault)) := by
  refine selects (chk := fun t => t.auxRefuse (u p 2 1)) rfl (by simp only [decide_eq_true_iff, and_assoc]) (fun t => rfl)
    fun k => ?_
  rw [State.accepted_rest]
  exact s.auxRefuse_eq (u p 2 1) k

theorem stringControl_selects :
    Selects (.stringControl o p) s o 0x0901 1 (p.length = 4 ∧ 1 ≤ u p 2 1 ∧ u p 2 1 ≤ 3 ∧ (u p 3 1 = 0 ∨ u p 3 1 = 0x5A))
      (s.sel 0x09 (u p 0 2)) [byte (u p 2 1), byte (u p 3 1)]
      (fun k => (s.strCh k).st ≠ .absent &&
        (if u p 2 1 = 1 then (s.strCh k).st = .disabled
         else if u p 2 1 = 3 then (s.strCh k).st = .fault || (s.strCh k).st = .latched
         else !((s.strCh k).standby && s.standbys = 1 && s.bus.st = .outage) || u p 3 1 = 0x5A)) := by
  refine selects (chk := fun t => t.strRefuse (u p 2 1) (u p 3 1)) rfl (by simp only [decide_eq_true_iff, and_assoc])
    (fun t => rfl) fun k => ?_
  rw [State.accepted_rest]
  exact s.strRefuse_eq (u p 2 1) (u p 3 1) k

theorem chgControl_selects :
    Selects (.chgControl o p) s o 0x0902 1 (p.length = 4 ∧ 1 ≤ u p 2 1 ∧ u p 2 1 ≤ 4 ∧ u p 3 1 = 0) (s.sel 0x09 (u p 0 2))
      [byte (u p 2 1)]
      (fun k => (u p 2 1 ≠ 1 || s.flag Fld.Chg.CHG_EN k) && (u p 2 1 ≠ 3 || s.hasEq k)) := by
  refine selects (chk := fun t => t.chgRefuse (u p 2 1)) rfl (by simp only [decide_eq_true_iff, and_assoc]) (fun t => rfl)
    fun k => ?_
  rw [State.accepted_rest]
  exact s.chgRefuse_eq (u p 2 1) k

theorem gaugeReset_selects :
    Selects (.gaugeReset o p) s o 0x0A02 2 (p.length = 4 ∧ (u p 2 1 = 1 ∨ u p 2 1 = 2) ∧ u p 3 1 = 0) (s.sel 0x0A (u p 0 2))
      [byte (u p 2 1)] (fun k => (s.strCh k).st ≠ .absent) := by
  refine selects (chk := State.gaugeRefuse) rfl (by simp only [decide_eq_true_iff]; tauto) (fun t => rfl) fun k => ?_
  rw [State.accepted_rest]
  exact s.gaugeRefuse_eq k

end

/-! ## The commands on one channel -/

section
variable {s : State} {o : Origin} {p : List Byte}

/-- A command on the channel that it names, which passes its checks and waits. -/
theorem named_waits {c : Instr} {op priv k : Nat} {chk : State → Nat → Nat} {own : List Byte} {b : Nat} (small : k < 32)
    (runs : exec c s = .next (s.run o op priv b fun t => t.selWait o op ⟨0, 2 ^ k⟩ own (chk t)))
    (admitted : s.admits o op priv) (checks : b = st.ok) (passes : chk (s.accepted o priv) k = st.ok) :
    Waits c s (s.accepted o priv) o op (2 ^ k) 0 ([0, 0] ++ zeros 4 ++ own) :=
  runs.trans (congrArg Host.Outcome.next (State.run_waits admitted checks (State.selWait_one small passes)))

theorem stringTest_bad (admitted : s.admits o 0x0903 1) (bad : testParams p = false ∨ s.single 0x09 (u p 0 2) = none) :
    Goes (.stringTest o p) s (s.answer o 0x0903 st.badParam []) :=
  congrArg Host.Outcome.next (State.run_answers admitted (paramState_bad _ (decide_eq_false fun ⟨fits, named⟩ =>
    bad.elim (fun no => by simp [no] at fits) fun none => by simp [none] at named)) (by decide))

/-- STRING_TEST on the channel that it names. -/
theorem stringTest_named {k : Nat} (small : k < 32) (admitted : s.admits o 0x0903 1) (fits : testParams p)
    (named : s.single 0x09 (u p 0 2) = some k) :
    let can := if u p 2 1 = 1 then s.testOk k = true else (s.strCh k).st = .test
    (can → Waits (.stringTest o p) s (s.accepted o 1) o 0x0903 (2 ^ k) 0 ([0, 0] ++ zeros 4 ++ p.drop 2)) ∧
    (¬can → Goes (.stringTest o p) s (s.answer o 0x0903 st.state [])) := by
  intro can
  have runs : exec (.stringTest o p) s = .next (s.run o 0x0903 1 (paramState true (decide can)) fun t =>
      t.selWait o 0x0903 ⟨0, 2 ^ k⟩ (p.drop 2) fun _ => st.ok) := by
    show execStringTest o p s = _
    simp [execStringTest, named, fits, can]
  exact ⟨fun yes => named_waits small runs admitted (paramState_ok rfl (decide_eq_true yes)) rfl,
    fun no => runs.trans (congrArg Host.Outcome.next
      (State.run_answers admitted (paramState_state rfl (decide_eq_false no)) (by decide)))⟩

theorem gaugeSetFcc_unnamed (admitted : s.admits o 0x0A03 2) (none : s.single 0x0A (u p 0 2) = none) :
    Goes (.gaugeSetFcc o p) s (s.answer o 0x0A03 st.badParam []) :=
  congrArg Host.Outcome.next (State.run_answers admitted (paramState_bad _ (decide_eq_false fun ⟨_, named, _⟩ => by
    simp [none] at named)) (by decide))

/-- GAUGE_SET_FCC on the channel that it names. -/
theorem gaugeSetFcc_named {k : Nat} (small : k < 32) (admitted : s.admits o 0x0A03 2)
    (named : s.single 0x0A (u p 0 2) = some k) :
    let rated := s.fld Fld.Chg.RATED_MAH k
    let fits : Prop := p.length = 6 ∧ rated ≤ 2 * u p 2 4 ∧ 100 * u p 2 4 ≤ 110 * rated
    (¬fits → Goes (.gaugeSetFcc o p) s (s.answer o 0x0A03 st.badParam [])) ∧
    (fits → (s.strCh k).st = .absent → Goes (.gaugeSetFcc o p) s (s.answer o 0x0A03 st.state [])) ∧
    (fits → (s.strCh k).st ≠ .absent →
      Waits (.gaugeSetFcc o p) s (s.accepted o 2) o 0x0A03 (2 ^ k) 0 ([0, 0] ++ zeros 4 ++ toLE 4 (u p 2 4))) := by
  intro rated fits
  have runs : exec (.gaugeSetFcc o p) s = .next (s.run o 0x0A03 2 (paramState (decide fits) (s.gaugeRefuse k = st.ok)) fun t =>
      t.selWait o 0x0A03 ⟨0, 2 ^ k⟩ (toLE 4 (u p 2 4)) t.gaugeRefuse) := by
    show execGaugeSetFcc o p s = _
    simp only [execGaugeSetFcc, named, Option.isSome_some, Option.getD_some, true_and, fits, rated]
  have refuse : s.gaugeRefuse k = if (s.strCh k).st = .absent then st.state else st.ok := rfl
  refine ⟨fun no => runs.trans ?bad, fun yes gone => runs.trans ?absent, fun yes here => ?waits⟩
  case bad => exact congrArg Host.Outcome.next (State.run_answers admitted (paramState_bad _ (decide_eq_false no)) (by decide))
  case absent =>
    exact congrArg Host.Outcome.next (State.run_answers admitted
      (paramState_state (decide_eq_true yes) (by rw [refuse, if_pos gone]; rfl)) (by decide))
  case waits =>
    refine named_waits small runs admitted (paramState_ok (decide_eq_true yes) (by rw [refuse, if_neg here]; rfl)) ?_
    rw [State.accepted_rest]
    exact if_neg here

end

end Sys2Proof.Machine
end

section
/-! SUPPORT. The commands of the supplies, strings, chargers and gauges at their boundary; O41. -/

namespace Sys2Proof.Machine

/-! ## The boundary (R122) -/

section
variable {s : State} {op ch : Nat} {act : List Byte → State → Nat × State} {w : Wait}

/-- The boundary of a channel on which one command waits to act. -/
theorem State.serve_one (only : s.hif.waits = [w]) (mine : w.op = op) (left : w.left.testBit ch)
    (new : w.started.testBit ch = false) : s.serve op ch act =
      if (act w.own s).1 = st.ok then
        (act w.own s).2.onHif fun h => { h with waits := h.waits.replace w (w.start ch) }
      else s.onHif fun h => { h with waits := [w.mark ch (act w.own s).1] } := by
  have taken : s.hif.waits.filter (fun w => w.op = op && w.left.testBit ch && !w.started.testBit ch) = [w] := by
    simp [only, mine, left, new]
  have waits : w ∈ s.hif.waits := by simp [only]
  have refused (v : Wait) :
      (s.onHif fun h => { h with waits := h.waits.replace w v }) = s.onHif fun h => { h with waits := [v] } := by
    simp [State.onHif, only]
  rw [State.serve, State.serveAll, taken, List.foldl_cons, List.foldl_nil, if_pos waits]
  simp only [refused]

end

/-! ## What the commands do there (R177, R206, R237–R239, R266) -/

@[simp] theorem State.settleCh_rectCh (s : State) (blk ch k : Nat) : (s.settleCh blk ch).rectCh k = s.rectCh k := rfl

@[simp] theorem State.settleCh_strCh (s : State) (blk ch k : Nat) : (s.settleCh blk ch).strCh k = s.strCh k := rfl

/-- A channel set free listens to its primary side where it can. -/
theorem State.rectFree_eq (s : State) (k : Fin 2) :
    s.rectFree k = (s.onRectCh k fun c => { c with heldOff := false }).rectTo k
      (if (s.rectCh k).powered ∧ (s.rectCh k).bar.link = .up then .listen else .off) := by
  simp [State.rectFree, RectCh.linked]

section
variable {s : State} {k : Fin 2} {own : List Byte} {a : Nat}

/-! An action that the channel's own state lets through. -/

theorem State.rectAct_takes (asks : u own 0 1 = a) (lets : s.rectRefuse a k = st.ok) : s.rectAct k own =
    if a = 1 then (st.ok, s.rectFree k)
    else if a = 4 then
      let latched : Bool := (s.rectCh k).st = .latched
      let s := s.onRectCh k fun c => { c with srOff := false, trips := if latched then [] else c.trips }
      (st.ok, if latched then (s.settleCh 0x07 k).rectFree k else s)
    else (st.ok, s.rectDisable (a = 2) k) := by
  subst asks
  exact if_neg (not_not.2 lets)

theorem State.auxAct_takes (asks : u own 0 1 = a) (lets : s.auxRefuse a k = st.ok) : s.auxAct k own =
    if a = 1 then (st.ok, s.auxTo k (if (s.auxCh k).inWin && !s.ctrlDown then .delay else .absent))
    else if a = 2 then (st.ok, s.auxOpen k .disabled)
    else (st.ok, ((s.auxTo k (if s.ctrlDown then .absent else .delay)).onAuxCh k fun c => { c with trips := [] }).settleCh
      0x08 k) := by
  subst asks
  exact if_neg (not_not.2 lets)

theorem State.strAct_takes (asks : u own 0 1 = a) (lets : s.strRefuse a (u own 1 1) k = st.ok) : s.strAct k own =
    if a = 1 then (st.ok, s.strTo k .opened false)
    else if a = 2 then (st.ok, s.strDisconnect k)
    else (st.ok, ((s.onStrCh k fun c => { c with trips := [] }).strTo k .opened false).settleCh 0x09 k) := by
  subst asks
  exact if_neg (not_not.2 lets)

/-! What the channel's state lets through. -/

theorem State.rectRefuse_enable (present : s.flag Fld.Rect.PRESENT k) (off : (s.rectCh k).st = .disabled) :
    s.rectRefuse 1 k = st.ok := by
  simp [State.rectRefuse, present, off]

theorem State.rectRefuse_disable (present : s.flag Fld.Rect.PRESENT k) (runs : (s.rectCh k).st = .run) (h : a = 2 ∨ a = 3) :
    s.rectRefuse a k = st.ok := by
  rcases h with rfl | rfl <;> simp [State.rectRefuse, present, runs]

theorem State.rectRefuse_clear (present : s.flag Fld.Rect.PRESENT k) (h : (s.rectCh k).st = .latched ∨ (s.rectCh k).st = .lost)
    (cool : s.therm.mainsLatch = false) : s.rectRefuse 4 k = st.ok := by
  rcases h with h | h <;> simp [State.rectRefuse, present, h, cool]

/-- What RECT_CONTROL does at its boundary. -/
theorem State.rectAct_acts (present : s.flag Fld.Rect.PRESENT k) :
    ((s.rectCh k).st = .disabled → u own 0 1 = 1 → s.rectAct k own =
      (st.ok, (s.onRectCh k fun c => { c with heldOff := false }).rectTo k
        (if (s.rectCh k).powered ∧ (s.rectCh k).bar.link = .up then .listen else .off))) ∧
    ((s.rectCh k).st = .run → (s.rectCh k).softOff = false → u own 0 1 = 2 → s.rectAct k own = (st.ok, s.onRectCh k fun c =>
      { c with softOff := true, walk := 100000 * s.pAvail k, tWalk := s.now })) ∧
    ((s.rectCh k).st = .run → u own 0 1 = 3 → s.rectAct k own = (st.ok, s.rectTo k .disabled)) ∧
    ((s.rectCh k).st = .latched → s.therm.mainsLatch = false → u own 0 1 = 4 → s.rectAct k own =
      (st.ok, ((((s.onRectCh k fun c => { c with srOff := false, trips := [] }).settleCh 0x07 k).onRectCh k fun c =>
        { c with heldOff := false }).rectTo k
          (if (s.rectCh k).powered ∧ (s.rectCh k).bar.link = .up then .listen else .off)))) ∧
    ((s.rectCh k).st = .lost → s.therm.mainsLatch = false → u own 0 1 = 4 → s.rectAct k own =
      (st.ok, s.onRectCh k fun c => { c with srOff := false })) := by
  refine ⟨fun off asks => ?enable, fun runs new asks => ?soft, fun runs asks => ?hard, fun latched cool asks => ?latched,
    fun lost cool asks => ?lost⟩
  case enable =>
    rw [State.rectAct_takes asks (State.rectRefuse_enable present off), ← State.rectFree_eq]
    rfl
  case soft =>
    rw [State.rectAct_takes asks (State.rectRefuse_disable present runs (.inl rfl))]
    simp [State.rectDisable, runs, new, RectCh.delivers]
  case hard =>
    rw [State.rectAct_takes asks (State.rectRefuse_disable present runs (.inr rfl))]
    simp [State.rectDisable, runs]
  case latched =>
    rw [State.rectAct_takes asks (State.rectRefuse_clear present (.inl latched) cool)]
    simp [latched, State.rectFree_eq]
  case lost =>
    rw [State.rectAct_takes asks (State.rectRefuse_clear present (.inr lost) cool)]
    simp [lost]

/-- What AUX_CONTROL does at its boundary. -/
theorem State.auxAct_acts (present : s.flag Fld.Bus.PRESENT k) :
    ((s.auxCh k).st = .disabled → u own 0 1 = 1 →
      s.auxAct k own = (st.ok, s.auxTo k (if (s.auxCh k).inWin ∧ !s.ctrlDown then .delay else .absent))) ∧
    (u own 0 1 = 2 → s.auxAct k own = (st.ok, s.auxOpen k .disabled)) ∧
    ((s.auxCh k).st = .latched ∨ (s.auxCh k).st = .fault → u own 0 1 = 3 → s.auxAct k own = (st.ok,
      ((s.auxTo k (if s.ctrlDown then .absent else .delay)).onAuxCh k fun c => { c with trips := [] }).settleCh 0x08 k)) := by
  refine ⟨fun off asks => ?_, fun asks => ?_, fun held asks => ?_⟩
  · rw [State.auxAct_takes asks (by simp [State.auxRefuse, present, off])]
    simp
  · rw [State.auxAct_takes asks (by simp [State.auxRefuse, present])]
    rfl
  · rw [State.auxAct_takes asks (by simp [State.auxRefuse, present, held])]
    rfl

theorem State.strAct_enables (off : (s.strCh k).st = .disabled) (asks : u own 0 1 = 1) :
    s.strAct k own = (st.ok, s.strTo k .opened false) := by
  rw [State.strAct_takes asks (by simp [State.strRefuse, off])]
  rfl

/-- A faulted string is in hot standby no more: it may be disconnected without force. -/
theorem State.strRefuse_fault (fault : (s.strCh k).st = .fault) (h : a = 2 ∨ a = 3) (force : Nat) :
    s.strRefuse a force k = st.ok := by
  have idle : (s.strCh k).standby = false := by simp [StrCh.standby, fault]
  rcases h with rfl | rfl <;> simp [State.strRefuse, fault, idle]

/-- What STRING_CONTROL does on a faulted string. -/
theorem State.strAct_fault (fault : (s.strCh k).st = .fault) :
    (u own 0 1 = 2 → s.strAct k own = (st.ok, s.strTo k .disabled false)) ∧
    (u own 0 1 = 3 → s.strAct k own =
      (st.ok, ((s.onStrCh k fun c => { c with trips := [] }).strTo k .opened false).settleCh 0x09 k)) := by
  refine ⟨fun asks => ?_, fun asks => ?_⟩
  · rw [State.strAct_takes asks (State.strRefuse_fault fault (.inl rfl) _)]
    simp [State.strDisconnect, State.testLeave, fault]
  · rw [State.strAct_takes asks (State.strRefuse_fault fault (.inr rfl) _)]
    rfl

end

/-! What CHG_CONTROL, STRING_TEST and the gauge's commands do. -/

section
variable {s : State} {k : Fin 2} {own : List Byte}

theorem State.chgAct_off (asks : u own 0 1 = 2) :
    s.chgAct k own = (st.ok, s.onStrCh k fun c => { c.noCharge with chg := .disabled, byCmd := true }) := by
  simp [State.chgAct, State.chgRefuse, asks]

theorem State.chgAct_on (en : s.flag Fld.Chg.CHG_EN k) (asks : u own 0 1 = 1) : s.chgAct k own = (st.ok,
    let s := s.settleCh 0x09 k
    if (s.strCh k).chargeable then s.chgRun k
    else s.onStrCh k fun c => { (c.cycle.toInitial s.now (s.initialState k)).noCharge with chg := .idle, byCmd := false }) := by
  have lets : s.chgRefuse 1 k = st.ok := by simp [State.chgRefuse, en]
  rw [State.chgAct, asks, lets]
  rfl

theorem State.chgAct_equalise (has : s.hasEq k) (asks : u own 0 1 = 3) :
    s.chgAct k own = (st.ok, s.onStrCh k fun c => { c with eqReq := true }) := by
  simp [State.chgAct, State.chgRefuse, has, asks]

/-- The kind of the profile's entry in use follows that entry. -/
theorem State.kind_onStrCh {f : StrCh → StrCh} (same : (f (s.strCh k)).ps = (s.strCh k).ps) :
    (s.onStrCh k f).kind k = s.kind k := by
  show u (profEntry (s.profile k) ((s.onStrCh k f).strCh k).ps) 1 1 = _
  rw [State.onStrCh_strCh, same]
  rfl

theorem State.chgAct_no_equalise (asks : u own 0 1 = 4) (no : ¬((s.strCh k).chg = .run ∧ s.kind k = 6)) :
    s.chgAct k own = (st.ok, s.onStrCh k fun c => { c with eqReq := false }) := by
  have lets : s.chgRefuse 4 k = st.ok := by simp [State.chgRefuse]
  rw [State.chgAct, asks, lets, if_neg (by decide), if_neg (by decide), if_neg (by decide), if_neg (by decide)]
  refine if_neg ?_
  rwa [State.kind_onStrCh rfl]

theorem State.testAct_stop (runs : (s.strCh k).st = .test) (asks : u own 0 1 = 2) :
    s.testAct k own = (st.ok, s.testEnd k 1) := by
  simp [State.testAct, runs, asks]

theorem State.testAct_start (can : s.testOk k) (asks : u own 0 1 = 1) : s.testAct k own = (st.ok,
    (s.onStrCh k fun c => { c with test := { TestSt.none with
      state := 1, end_ := u own 1 1, pTest := u own 2 2, maxMin := u own 4 2, value := u own 6 4, t0 := s.now } }).strTo k
        .test false) :=
  (if_pos asks).trans (if_pos can)

theorem State.gaugeResetAct_forgets (here : (s.strCh k).st ≠ .absent) (start : (s.gaugeCh k).learnState ≠ 1)
    (wait : (s.gaugeCh k).learnState ≠ 2) : s.gaugeResetAct k own = (st.ok, (s.onGaugeCh k fun g =>
      if u own 0 1 = 1 then
        { g.forget s.now with fcc := s.fld Fld.Chg.RATED_MAH k, fccOwn := false, learnCount := 0, learntDue := false }
      else g.forget s.now).gaugeSave k) := by
  simp [State.gaugeResetAct, here, start, wait]

theorem State.gaugeFccAct_sets (here : (s.strCh k).st ≠ .absent) : s.gaugeFccAct k own = (st.ok,
    (s.onGaugeCh k fun g => { g with fcc := u own 0 4, fccOwn := true }).gaugeSave k) :=
  if_neg here

end

/-- Settles O41: the commands by their checks and their channels' (`selects`, `named_waits`), the boundary with one command
waiting (`State.serve_one`), and each act where the channel's own state lets it through. -/
theorem supplyCommandsRun : Obligations.SupplyCommandsRun := by
  intro s o p k
  refine ⟨rectControl_selects s o p, auxControl_selects s o p, stringControl_selects s o p, chgControl_selects s o p,
    gaugeReset_selects s o p, fun admitted => ⟨stringTest_bad admitted, stringTest_named (by omega) admitted⟩,
    fun admitted => ⟨gaugeSetFcc_unnamed admitted, gaugeSetFcc_named (by omega) admitted⟩,
    fun op ch act w only mine left new => ?serves, fun own => State.rectAct_acts, fun own => State.auxAct_acts,
    fun own => State.strAct_enables, fun own => State.strAct_fault, fun own => State.chgAct_off, fun own => State.chgAct_on,
    fun own => State.chgAct_equalise, fun own => State.chgAct_no_equalise, fun runs own => State.testAct_stop runs,
    fun here start wait own => State.gaugeResetAct_forgets here start wait, fun can own => State.testAct_start can,
    fun here own => State.gaugeFccAct_sets here⟩
  case serves =>
    rw [State.serve_one only mine left new]
    exact ⟨fun ok => if_pos ok, fun refused => if_neg refused⟩

end Sys2Proof.Machine
end

section
/-! SUPPORT. The commands of a PD port by their checks, and what they do at protocol idle; O50. -/

namespace Sys2Proof.Machine

/-! ## A command that names no port (R376–R380) -/

section
variable {s : State} {o : Origin} {p : List Byte} (none_ : s.single 0x0E (u p 0 2) = none)
include none_

theorem pdCommands_unnamed :
    (s.admits o 0x0E01 1 → Goes (.pdControl o p) s (s.answer o 0x0E01 st.badParam [])) ∧
    (s.admits o 0x0E02 1 → Goes (.pdTx o p) s (s.answer o 0x0E02 st.badParam [])) ∧
    (s.admits o 0x0E03 1 → Goes (.pdEvent o p) s (s.answer o 0x0E03 st.badParam [])) ∧
    (s.admits o 0x0E04 1 → Goes (.pdPower o p) s (s.answer o 0x0E04 st.badParam [])) ∧
    (s.admits o 0x0E05 1 → Goes (.pdSwap o p) s (s.answer o 0x0E05 st.badParam [])) := by
  have unnamed {q : Prop} : ¬(q ∧ (s.single 0x0E (u p 0 2)).isSome = true) := by simp [none_]
  refine ⟨fun h => congrArg Host.Outcome.next (State.run_answers h (paramState_bad _ (decide_eq_false ?_)) (by decide)),
    fun h => congrArg Host.Outcome.next (State.run_answers h (paramState_bad _ (decide_eq_false unnamed)) (by decide)),
    fun h => congrArg Host.Outcome.next (State.run_answers h (param_bad (decide_eq_false unnamed)) (by decide)),
    fun h => congrArg Host.Outcome.next (State.run_answers h (paramState_bad _ (decide_eq_false unnamed)) (by decide)),
    fun h => congrArg Host.Outcome.next (State.run_answers h (paramState_bad _ (decide_eq_false ?_)) (by decide))⟩
  all_goals
    rintro ⟨_, _, _, _, named⟩
    exact absurd (show _ ∧ _ from ⟨trivial, named⟩) unnamed

end

/-! ## The commands on the port that they name -/

theorem refused_or {bad : Prop} [Decidable bad] {rest : Nat} :
    (if bad then st.state else rest) = st.ok ↔ ¬bad ∧ rest = st.ok := by
  split <;> simp_all [st.state, st.ok]

theorem State.pdRefuse_iff (s : State) (act : Nat) (k : Nat) :
    s.pdRefuse act k = st.ok ↔ s.flag Fld.Pd.PRESENT k ∧ (6 ≤ act → (s.pdCh k).attached) ∧ (act = 7 → (s.pdCh k).vconnSrc) ∧
      (act = 8 → s.flag Fld.Pd.FRS_TX_EN k ∧ (s.pdCh k).source) ∧ (s.ctrlDown → act < 3 ∨ 5 < act) := by
  have split : (act < 3 ∨ 5 < act) ↔ (3 ≤ act → 5 < act) := by omega
  simp only [State.pdRefuse, refused_or, split]
  simp

section
variable {s : State} {o : Origin} {p : List Byte} {k : Fin 2} (named : s.single 0x0E (u p 0 2) = some k.val)
include named

theorem pdControl_checked (admitted : s.admits o 0x0E01 1) :
    let c := s.pdCh k
    let act := u p 2 1
    let good : Prop := p.length = 4 ∧ 1 ≤ act ∧ act ≤ 9 ∧ u p 3 1 = 0
    let can : Prop := s.flag Fld.Pd.PRESENT k ∧ (6 ≤ act → c.attached) ∧ (act = 7 → c.vconnSrc) ∧
      (act = 8 → s.flag Fld.Pd.FRS_TX_EN k ∧ c.source) ∧ (s.ctrlDown → act < 3 ∨ 5 < act)
    (¬good → Goes (.pdControl o p) s (s.answer o 0x0E01 st.badParam [])) ∧
    (good → ¬can → Goes (.pdControl o p) s (s.answer o 0x0E01 st.state [])) ∧
    (good → ¬¬can → Goes (.pdControl o p) s
      ((((s.accepted o 1).onPdCh k fun c => { c with out := [] }).await o 0x0E01 (2 ^ k.val) 0 [byte act]).pdIdle k)) := by
  intro c act good can
  have runs : exec (.pdControl o p) s = .next (s.run o 0x0E01 1 (paramState (decide good) (s.pdRefuse act k = st.ok))
      fun t => (.later, ((t.onPdCh k fun c => { c with out := [] }).await o 0x0E01 (2 ^ k.val) 0 [byte act]).pdIdle k)) := by
    show execPdControl o p s = _
    simp only [execPdControl, named, Option.isSome_some, Option.getD_some, and_true, good, act]
  exact waits_checked runs rfl decide_eq_true_iff (by rw [decide_eq_false_iff_not, State.pdRefuse_iff]) admitted

theorem pdTx_checked (admitted : s.admits o 0x0E02 1) :
    let c := s.pdCh k
    let can : Prop := c.attached ∧ c.typeC = false ∧ (u p 2 1 = 0 ∨ c.vconnSrc)
    (¬txParams p → Goes (.pdTx o p) s (s.answer o 0x0E02 st.badParam [])) ∧
    (txParams p → ¬can → Goes (.pdTx o p) s (s.answer o 0x0E02 st.state [])) ∧
    (txParams p → ¬¬can → Goes (.pdTx o p) s
      ((((s.accepted o 1).onPdCh k fun c => { c with out := [] }).await o 0x0E02 (2 ^ k.val) 0 (p.drop 2)).pdIdle k)) := by
  intro c can
  have runs : exec (.pdTx o p) s = .next (s.run o 0x0E02 1 (paramState (txParams p) (!s.txRefuse (u p 2 1) k))
      fun t => (.later, ((t.onPdCh k fun c => { c with out := [] }).await o 0x0E02 (2 ^ k.val) 0 (p.drop 2)).pdIdle k)) := by
    show execPdTx o p s = _
    simp only [execPdTx, named, Option.isSome_some, Option.getD_some, and_true, Bool.decide_eq_true]
  refine waits_checked runs rfl Iff.rfl ?_ admitted
  simp [State.txRefuse, can, c, or_iff_not_imp_left]

theorem pdEvent_checked (admitted : s.admits o 0x0E03 1) :
    let evs := fitEvents (maxData - 1) (s.pdCh k).queue
    (p.length ≠ 2 → Goes (.pdEvent o p) s (s.answer o 0x0E03 st.badParam [])) ∧
    (p.length = 2 → Replies (.pdEvent o p) s
      (((s.accepted o 1).onPdCh k fun c => { c with queue := c.queue.drop evs.length }).pdDrain k) o 0x0E03 st.ok
      (byte evs.length :: evs.flatten)) := by
  intro evs
  have runs : exec (.pdEvent o p) s = .next (s.run o 0x0E03 1 (param (p.length = 2)) fun t =>
      let evs := fitEvents (maxData - 1) (t.pdCh k).queue
      (.done st.ok (byte evs.length :: evs.flatten),
        (t.onPdCh k fun c => { c with queue := c.queue.drop evs.length }).pdDrain k)) := by
    show execPdEvent o p s = _
    simp only [execPdEvent, named, Option.isSome_some, Option.getD_some, and_true]
  have same : (s.accepted o 1).pdCh k = s.pdCh k := by rw [State.pdCh, State.accepted_pd, State.pdCh]
  refine ⟨fun bad => runs.trans (congrArg _ (State.run_answers admitted (param_bad (decide_eq_false bad)) (by decide))),
    fun good => runs.trans (congrArg _ (State.run_done admitted (param_ok (decide_eq_true good)) ?_ (by decide)))⟩
  simp only [same]
  rfl

/-- What PD_POWER asks for. -/
def powerOf (o : Origin) (p : List Byte) : Armed :=
  { kind := 1, epr := bitOf (u p 3 1) 0, v := u p 4 4, i := u p 8 4, p := u p 12 4, owed := some ⟨o, 0x0E04, []⟩ }

theorem pdPower_checked (admitted : s.admits o 0x0E04 1) :
    let c := s.pdCh k
    let can : Prop := c.attached ∧ c.typeC = false ∧ (u p 8 4 ≤ 3000 ∨ s.vconnIn) ∧
      (u p 2 1 = 1 ∨ (u p 4 4 = c.vTarget ∧ c.run = none))
    let t := (s.accepted o 1).pdArm k (powerOf o p)
    (¬powerParams p → Goes (.pdPower o p) s (s.answer o 0x0E04 st.badParam [])) ∧
    (powerParams p → ¬can → Goes (.pdPower o p) s (s.answer o 0x0E04 st.state [])) ∧
    (powerParams p → ¬¬can → Goes (.pdPower o p) s
      (if u p 2 1 = 1 then t
       else (t.onPdCh k fun c => { c with armed := none, run := some (powerOf o p) }).pdComplete k)) := by
  intro c can t
  have runs : exec (.pdPower o p) s = .next (s.run o 0x0E04 1 (paramState (powerParams p) (decide can)) fun t =>
      if u p 2 1 = 1 then (.later, t.pdArm k (powerOf o p))
      else (.later, ((t.pdArm k (powerOf o p)).onPdCh k fun c =>
        { c with armed := none, run := some (powerOf o p) }).pdComplete k)) := by
    show execPdPower o p s = _
    simp [execPdPower, named, powerOf, can, c, Bool.and_assoc, ← Option.isNone_iff_eq_none]
  refine waits_checked runs ?_ Iff.rfl decide_eq_false_iff_not admitted
  split <;> rfl

theorem pdSwap_checked (admitted : s.admits o 0x0E05 1) :
    let good : Prop := p.length = 4 ∧ 1 ≤ u p 2 1 ∧ u p 2 1 ≤ 4 ∧ u p 3 1 = 0
    let can : Prop := (s.pdCh k).attached ∧ (s.pdCh k).typeC = false
    (¬good → Goes (.pdSwap o p) s (s.answer o 0x0E05 st.badParam [])) ∧
    (good → ¬can → Goes (.pdSwap o p) s (s.answer o 0x0E05 st.state [])) ∧
    (good → ¬¬can → Goes (.pdSwap o p) s ((s.accepted o 1).pdArm k
      { kind := u p 2 1 + 1, epr := false, v := 0, i := 0, p := 0, owed := some ⟨o, 0x0E05, []⟩ })) := by
  intro good can
  have runs : exec (.pdSwap o p) s = .next (s.run o 0x0E05 1
      (paramState (decide good) ((s.pdCh k).attached && !(s.pdCh k).typeC)) fun t => (.later, t.pdArm k
        { kind := u p 2 1 + 1, epr := false, v := 0, i := 0, p := 0, owed := some ⟨o, 0x0E05, []⟩ })) := by
    show execPdSwap o p s = _
    simp only [execPdSwap, named, Option.isSome_some, Option.getD_some, and_true, good]
  exact waits_checked runs rfl decide_eq_true_iff (by simp [can]) admitted

end

/-! ## Protocol idle (R122) -/

section
variable {s : State} {k n : Nat} {w : Wait} (only : s.hif.waits = [w]) (mine : w.left.testBit k) (idle : (s.pdCh k).idle)
include only mine idle

/-- One command of the port waits at protocol idle. -/
theorem State.pdServe_one (served : w.op = 0x0E01 ∨ w.op = 0x0E02) : s.pdServe (n + 1) k =
    let t := s.onHif fun h => { h with waits := [] }
    let a := u w.data 0 1
    if w.op = 0x0E01 then
      if s.pdRefuse a k ≠ st.ok then (t.finish w.o w.op (s.pdRefuse a k) []).pdServe n k
      else ((t.pdControl k a).finish w.o w.op st.ok []).pdServe n k
    else if s.txRefuse a k then (t.finish w.o w.op st.state []).pdServe n k
    else t.pdBegin k (txOf w.data s.now ⟨w.o, w.op, []⟩) := by
  have found : s.hif.waits.find? (fun w => (w.op = 0x0E01 || w.op = 0x0E02) && w.left.testBit k) = some w := by
    simpa [only, mine, or_iff_not_imp_left] using served
  rw [State.pdServe, idle, found, ← State.onHif_erase only]
  rfl

/-- A PD_CONTROL that waits alone is done. -/
theorem State.pdServe_control (asks : w.op = 0x0E01) (lets : s.pdRefuse (u w.data 0 1) k = st.ok) :
    let t := s.onHif fun h => { h with waits := [] }
    s.pdServe (n + 1) k = ((t.pdControl k (u w.data 0 1)).finish w.o 0x0E01 st.ok []).pdServe n k := by
  refine (State.pdServe_one only mine idle (.inl asks)).trans ((if_pos asks).trans ((if_neg (not_not.2 lets)).trans ?_))
  rw [asks]

/-- A PD_TX that waits alone begins. -/
theorem State.pdServe_tx (asks : w.op = 0x0E02) (lets : s.txRefuse (u w.data 0 1) k = false) :
    let t := s.onHif fun h => { h with waits := [] }
    s.pdServe (n + 1) k = t.pdBegin k (txOf w.data s.now ⟨w.o, 0x0E02, []⟩) := by
  have other : w.op ≠ 0x0E01 := by rw [asks]; decide
  refine (State.pdServe_one only mine idle (.inr asks)).trans
    ((if_neg other).trans ((if_neg (ne_true_of_eq_false lets)).trans ?_))
  rw [asks]

end

/-! ## What is done there (R376, R377, R379) -/

section
variable (s : State) (k : Nat)

theorem State.pdControl_enable_idle (on : (s.pdCh k).st ≠ .disabled) : s.pdControl k 4 = s := if_neg on

theorem State.pdBegin_plain {x : PdTx} (plain : x.ams = false) : s.pdBegin k x = s.pdFire k x := by
  simp [State.pdBegin, plain]

theorem State.pdArm_first {x : Armed} (free : (s.pdCh k).armed = none) :
    s.pdArm k x = s.onPdCh k fun c => { c with armed := some x } := by
  rw [State.pdArm, free]
  rfl

end

/-- Settles O50: the commands by their checks (`waits_checked`), protocol idle with one command waiting, and what is done
there. -/
theorem pdCommandsRun : Obligations.PdCommandsRun := by
  intro s o p k
  refine ⟨pdCommands_unnamed, fun named => ?named,
    fun w n only mine idle => ⟨State.pdServe_control only mine idle, State.pdServe_tx only mine idle⟩,
    ⟨rfl, rfl, rfl, fun off => if_pos off, s.pdControl_enable_idle k, rfl, rfl, rfl, rfl, rfl⟩,
    fun x plain => s.pdBegin_plain k plain, fun x free => s.pdArm_first k free⟩
  refine ⟨fun h => ?control, fun h => ?tx, fun h => pdEvent_checked named h, fun h => ?power, fun h => ?swap⟩
  case control =>
    obtain ⟨bad, state, waits⟩ := pdControl_checked named h
    exact ⟨bad, state, fun good can => waits good (not_not_intro can)⟩
  case tx =>
    obtain ⟨bad, state, waits⟩ := pdTx_checked named h
    exact ⟨fun no => bad (ne_true_of_eq_false no), state, fun good can => waits good (not_not_intro can)⟩
  case power =>
    obtain ⟨bad, state, waits⟩ := pdPower_checked named h
    refine ⟨fun no => bad (ne_true_of_eq_false no), state, fun good can contract => ?_, fun good can now => ?_⟩
    · have arms := waits good (not_not_intro can)
      rwa [if_pos contract] at arms
    · have changes := waits good (not_not_intro can)
      rwa [if_neg (by omega)] at changes
  case swap =>
    obtain ⟨bad, state, waits⟩ := pdSwap_checked named h
    exact ⟨bad, state, fun good can => waits good (not_not_intro can)⟩

end Sys2Proof.Machine
end

section
/-! SUPPORT. The recorder's events and commands, and the converters' periods; O54. -/

namespace Sys2Proof.Machine

/-! ## History (R459) -/

/-- The end of the second of the timebase that runs. -/
def State.secondEnd (s : State) : State := s.advanceTo ((s.now + 99999999) / 100000000 * 100000000)

theorem historyRecord_runs {s : State} (runs : s.sys.por = false) : exec .historyRecord s = .next
    (if s.secondEnd.flag Fld.Skb.HIST_EN then s.secondEnd.histPut s.secondEnd.histRecord else s.secondEnd).histClear.pump :=
  congrArg Host.Outcome.next (if_neg (ne_true_of_eq_false runs))

theorem historyRecord_off {s : State} (runs : s.sys.por = false) (off : s.secondEnd.flag Fld.Skb.HIST_EN = false) :
    Goes .historyRecord s s.secondEnd.histClear.pump := by
  rw [Goes, historyRecord_runs runs, if_neg (ne_true_of_eq_false off)]

theorem historyRecord_on {s : State} (runs : s.sys.por = false) (on : s.secondEnd.flag Fld.Skb.HIST_EN) :
    Goes .historyRecord s (s.secondEnd.histPut s.secondEnd.histRecord).histClear.pump := by
  rw [Goes, historyRecord_runs runs, if_pos on]

/-- A record joins a queue that has room. -/
theorem State.histPut_room {s : State} (room : s.skb.histQ.length < 1024) (bs : List Byte) : s.histPut bs =
    (let t := s.onSkb fun k => { k with histSeq := k.histSeq + 1, histQ := k.histQ ++ [bs] }
     let queued (j : Job) : Bool := j.op = .history
     if s.skb.waiting.any queued ∨ s.skb.running.any queued then t else t.enqueue .history none) := by
  have free : decide (1024 ≤ s.skb.histQ.length) = false := decide_eq_false (by omega)
  rw [State.histPut, free]
  rfl

/-! ## The NAND (R462, R469, R471, R475) -/

section
variable {s : State}

theorem eventFlush_guard :
    ¬(s.skb.evBuf.isEmpty ∨ s.skb.running.any fun j => j.op = .events) ↔
      s.skb.evBuf ≠ [] ∧ ∀ j, s.skb.running = some j → j.op ≠ .events := by
  simp [Option.any_eq_true]

theorem State.nandDone_idle (idle : s.skb.running = none) (ok : Bool) : s.nandDone ok = s := by
  rw [State.nandDone, idle]

section
variable {op : NandOp}

theorem State.nandDone_silent (runs : s.skb.running = some ⟨op, none⟩) : s.nandDone true =
    ((((s.onSkb fun k => { k with running := none }).onSkb fun k => { k with failRun := [] }).opDone op).levelWear).pump := by
  rw [State.nandDone, runs]
  rfl

theorem State.nandDone_owed {w : Owed} (runs : s.skb.running = some ⟨op, some w⟩) : s.nandDone true =
    (((((s.onSkb fun k => { k with running := none }).onSkb fun k => { k with failRun := [] }).opDone op).finish w.o w.op st.ok
      w.params).levelWear).pump := by
  rw [State.nandDone, runs]
  rfl

/-- The state in which an operation has failed. -/
def State.opFailed (op : NandOp) (s : State) : State :=
  (s.onSkb fun k => { k with running := none }).onSkb (Skb.fail (s.skb.opBlock op))

variable {x : Option Owed} (runs : s.skb.running = some ⟨op, x⟩)
include runs

/-- A third block in a row fails the die. -/
theorem State.nandDone_third (third : 3 ≤ (s.opFailed op).skb.failRun.length) :
    s.nandDone false = ((s.opFailed op).onSkb fun k => { k with running := some ⟨op, x⟩ }).nandFail := by
  rw [State.nandDone, runs]
  exact (if_neg Bool.false_ne_true).trans (if_pos third)

section
variable (few : (s.opFailed op).skb.failRun.length < 3)
include few

/-- A block on which anything but a varnish copy fails is retired. -/
theorem State.nandDone_retires (other : ∀ id d n, op ≠ .varnish id d n) : s.nandDone false =
    (((s.opFailed op).onSkb fun k => { k with waiting := ⟨op, x⟩ :: k.waiting }).retire (s.skb.opBlock op)).pump := by
  rw [State.nandDone, runs]
  refine (if_neg Bool.false_ne_true).trans ((if_neg (Nat.not_le.2 few)).trans ?_)
  cases op with
  | varnish id d n => exact absurd rfl (other id d n)
  | card | capture | events | history | store | erase | move => rfl

/-- A varnish copy that has failed once is written again. -/
theorem State.nandDone_again {id : Nat} {d : List Byte} (first : op = .varnish id d 0) : s.nandDone false =
    ((((s.opFailed op).onSkb (Skb.skip 4)).onSkb fun k => { k with waiting := ⟨.varnish id d 1, x⟩ :: k.waiting }).pump) := by
  subst first
  rw [State.nandDone, runs]
  exact (if_neg Bool.false_ne_true).trans ((if_neg (Nat.not_le.2 few)).trans (if_pos rfl))

/-- A varnish copy that has failed twice is deferred. -/
theorem State.nandDone_defers {id n : Nat} {d : List Byte} (second : op = .varnish id d (n + 1)) : s.nandDone false =
    ((((s.opFailed op).onSkb (Skb.skip 4)).raise 0x12C3).deferNewer id d).pump := by
  subst second
  rw [State.nandDone, runs]
  exact (if_neg Bool.false_ne_true).trans ((if_neg (Nat.not_le.2 few)).trans (if_neg (Nat.succ_ne_zero n)))

end

end

end

/-! ## Captures (R466, R469) -/

section
variable {s : State}

theorem captureCommit_commits {n : Nat} {x : Option Owed} (runs : s.skb.running = some ⟨.capture n, x⟩) :
    Goes .captureCommit s (s.nandDone true) := by
  show execCaptureCommit s = _
  rw [execCaptureCommit, runs]

theorem captureCommit_idle (idle : s.skb.running = none) : Goes .captureCommit s s := by
  show execCaptureCommit s = _
  rw [execCaptureCommit, idle]

theorem captureFreeze_barred (none_ : ∀ a ∈ s.skb.areas, a.phase = .triggered → a.samples.length < 8192) :
    Goes .captureFreeze s s := by
  refine congrArg Host.Outcome.next (if_neg (Nat.not_lt.2 (List.findIdx_eq_length.2 fun a mem => ?_).ge))
  by_cases triggered : a.phase = .triggered
  · simp [triggered, none_ a mem triggered]
  · simp [triggered]

theorem captureSample_idle (none_ : s.skb.areas.find? Area.isRecording = none) : Goes .captureSample s s := by
  show execCaptureSample s = _
  rw [execCaptureSample, none_]

theorem captureSample_takes {a : Area} (some_ : s.skb.areas.find? Area.isRecording = some a) :
    let r := if a.samples.isEmpty then s else s.advanceTo (a.tLast + a.interval)
    Goes .captureSample s
      (r.onSkb fun k => { k with areas := k.areas.map fun x => if x.isRecording then r.areaSample x else x }) := by
  show execCaptureSample s = _
  rw [execCaptureSample, some_]

end

/-! ## The scrub (R474) -/

section
variable {s : State} {n bits : Nat} {worn : List (Fin 16192)} {lost : List (Fin 4 × Nat)} {last : Bool}

theorem scrubSlice_barred (barred : s.skb.scrub = false ∨ s.sys.mode ≠ .running ∨ 568 < n) :
    Goes (.scrubSlice n bits worn lost last) s s := by
  refine congrArg Host.Outcome.next (if_neg ?_)
  rintro ⟨scrubs, runs, fits⟩
  rcases barred with h | h | h
  · exact absurd scrubs (ne_true_of_eq_false h)
  · exact h runs
  · exact absurd fits (Nat.not_le.2 h)

theorem scrubSlice_reads (scrubs : s.skb.scrub) (runs : s.sys.mode = .running) (fits : n ≤ 568) :
    let t := s.advanceTo s.skb.tSlice
    let bad : List (Fin 16192) := if 24 < bits ∧ s.sys.nandBar = false then worn else []
    let r := t.onSkb fun k =>
      { k with
        scrubPos := k.scrubPos + n, eccRun := min 40 (max k.eccRun bits), tSlice := t.now + ms 100
        blk := bad.foldl (fun b l => b.relocate l.val) k.blk }
    let r := lost.foldl (fun s x => (s.onSkb (Skb.lose x)).raise 0x1204) r
    Goes (.scrubSlice n bits worn lost last) s
      (if last then r.onSkb fun k => { k with scrub := false, eccMax := k.eccRun, tScrub := r.now } else r) := by
  have able : s.skb.scrub ∧ s.sys.mode = .running ∧ n ≤ sliceSectors := ⟨scrubs, runs, fits⟩
  have bar : ((!(s.advanceTo s.skb.tSlice).sys.nandBar) = true) = (s.sys.nandBar = false) := Bool.not_eq_true' _
  refine congrArg Host.Outcome.next ((if_pos able).trans ?_)
  simp only [bar]
  rfl

end

/-! ## The commands (R479) -/

section
variable {s : State} {o : Origin} {p : List Byte}

theorem skbStatus_checked (admitted : s.admits o 0x1201 0) :
    (p ≠ [] → Goes (.skbStatus o p) s (s.answer o 0x1201 st.badParam [])) ∧
    (p = [] → Replies (.skbStatus o p) s (s.accepted o 0) o 0x1201 st.ok s.skbStatus) :=
  ⟨fun bad => congrArg Host.Outcome.next
      (State.run_answers admitted (param_bad (List.isEmpty_eq_false_iff.2 bad)) (by decide)),
    fun good => congrArg Host.Outcome.next (State.report_admitted admitted (param_ok (List.isEmpty_iff.2 good)))⟩

theorem skbStreamStop_checked (admitted : s.admits o 0x1203 0) :
    (p ≠ [] → Goes (.skbStreamStop o p) s (s.answer o 0x1203 st.badParam [])) ∧
    (p = [] → s.skb.stream = none → Goes (.skbStreamStop o p) s (s.answer o 0x1203 st.state [])) ∧
    (p = [] → s.skb.stream.isSome → Replies (.skbStreamStop o p) s
      ((s.accepted o 0).onSkb fun k => { k with stream := none }) o 0x1203 st.ok []) :=
  ⟨fun bad => congrArg Host.Outcome.next
      (State.run_answers admitted (paramState_bad _ (List.isEmpty_eq_false_iff.2 bad)) (by decide)),
    fun good none_ => congrArg Host.Outcome.next
      (State.run_answers admitted (paramState_state (List.isEmpty_iff.2 good) (by rw [none_]; rfl)) (by decide)),
    fun good some_ => congrArg Host.Outcome.next
      (State.run_done admitted (paramState_ok (List.isEmpty_iff.2 good) some_) rfl (by decide))⟩

theorem skbTrigger_checked (admitted : s.admits o 0x1205 1) :
    (p ≠ [] → Goes (.skbTrigger o p) s (s.answer o 0x1205 st.badParam [])) ∧
    (p = [] → s.flag Fld.Skb.CAP_EN = false → Goes (.skbTrigger o p) s (s.answer o 0x1205 st.state [])) ∧
    (p = [] → s.flag Fld.Skb.CAP_EN → Waits (.skbTrigger o p) s (s.accepted o 1) o 0x1205 0 0 []) := by
  obtain ⟨bad, state, waits⟩ := waits_checked (c := .skbTrigger o p) rfl rfl List.isEmpty_iff Iff.rfl admitted
  exact ⟨bad, state, fun good on => waits good (ne_false_of_eq_true on)⟩

/-- One SKB_TRIGGER waits at the tick. -/
theorem State.skbTriggers_one {w : Wait} (only : s.hif.waits = [w]) (mine : w.op = 0x1205) : s.skbTriggers =
    (s.raiseWith { force := true } 0x1211 blockWide).wake (fun w => w.op = 0x1205) fun _ => (st.ok, []) := by
  have found : s.hif.waits.filter (fun w => w.op = 0x1205) = [w] := by simp [only, mine]
  rw [State.skbTriggers, found]
  rfl

theorem skbMark_checked (admitted : s.admits o 0x1206 1) :
    (p.length ≠ 32 → Goes (.skbMark o p) s (s.answer o 0x1206 st.badParam [])) ∧
    (p.length = 32 → Replies (.skbMark o p) s ((s.accepted o 1).raiseWith { mark := some p } 0x1210 blockWide) o 0x1206 st.ok
      (toLE 4 s.skb.evSeq)) := by
  refine ⟨fun bad => congrArg Host.Outcome.next (State.run_answers admitted (param_bad (decide_eq_false bad)) (by decide)),
    fun good => congrArg Host.Outcome.next (State.run_done admitted (param_ok (decide_eq_true good)) ?_ (by decide))⟩
  rw [State.accepted_skb]

theorem skbClear_checked (admitted : s.admits o 0x1207 2) :
    let good : Prop := p.length = 2 ∧ u p 0 1 < 16 ∧ u p 1 1 = 0x5A
    (¬good → Goes (.skbClear o p) s (s.answer o 0x1207 st.badParam [])) ∧
    (good → s.skb.failed → Replies (.skbClear o p) s (s.accepted o 2) o 0x1207 st.timeout []) ∧
    (good → s.skb.failed = false → Goes (.skbClear o p) s
      (((s.accepted o 2).enqueue (.erase (u p 0 1)) (some ⟨o, 0x1207, []⟩)).pump)) := by
  intro good
  have same : (s.accepted o 2).skb.failed = s.skb.failed := by rw [State.accepted_skb]
  exact ⟨fun bad => congrArg Host.Outcome.next (State.run_answers admitted (param_bad (decide_eq_false bad)) (by decide)),
    fun yes dead => congrArg Host.Outcome.next
      (State.run_done admitted (param_ok (decide_eq_true yes)) (if_pos (same.trans dead)) (by decide)),
    fun yes live => congrArg Host.Outcome.next
      (State.run_waits admitted (param_ok (decide_eq_true yes)) (if_neg (ne_true_of_eq_false (same.trans live))))⟩

/-- What an SKB_READ of the bytes `bs` does: it opens a stream, or replies with them. -/
def State.skbReads (stream : Bool) (src first n : Nat) (bs : List Byte) (s : State) : Res × State :=
  if stream then
    let x : Stream :=
      { src := src, first := first, n := n, data := if 2 ≤ src then bs else [], pos := 0, total := bs.length }
    (.done st.ok (toLE 4 bs.length), s.onSkb fun k => { k with stream := some x, tStream := s.now })
  else (.done st.ok (toLE 4 bs.length ++ bs), s)

/-- SKB_READ by what it names. -/
theorem skbRead_checked (admitted : s.admits o 0x1202 0) :
    let good : Prop := p.length = 12 ∧ u p 1 1 ≤ 1 ∧ u p 3 1 = 0
    let data := s.skbData (u p 0 1) (u p 2 1) (u p 4 4) (u p 8 4)
    (¬good ∨ data = none → Goes (.skbRead o p) s (s.answer o 0x1202 st.badParam [])) ∧
    (∀ bs, good → data = some bs →
      (u p 1 1 = 0 → Replies (.skbRead o p) s (s.accepted o 0) o 0x1202 st.ok (toLE 4 bs.length ++ bs)) ∧
      (u p 1 1 = 1 → s.skb.stream.isSome → Goes (.skbRead o p) s (s.answer o 0x1202 st.state [])) ∧
      (u p 1 1 = 1 → s.skb.stream = none → Replies (.skbRead o p) s
        ((s.accepted o 0).onSkb fun k =>
          { k with
            stream := some
              { src := u p 0 1, first := u p 4 4, n := u p 8 4, data := if 2 ≤ u p 0 1 then bs else [], pos := 0
                total := bs.length }
            tStream := s.now })
        o 0x1202 st.ok (toLE 4 bs.length))) := by
  intro good data
  have runs : exec (.skbRead o p) s = .next (s.run o 0x1202 0
      (paramState (decide (p.length = 12 ∧ u p 1 1 ≤ 1 ∧ u p 3 1 = 0 ∧ data.isSome))
        (!decide (u p 1 1 = 1) || s.skb.stream.isNone))
      (State.skbReads (u p 1 1 = 1) (u p 0 1) (u p 4 4) (u p 8 4) (data.getD []))) := rfl
  refine ⟨fun bad => runs.trans ?bad, fun bs yes holds => ?reads⟩
  case bad =>
    have unfit : ¬(p.length = 12 ∧ u p 1 1 ≤ 1 ∧ u p 3 1 = 0 ∧ data.isSome) := by
      rintro ⟨len, kind, zero, some_⟩
      exact bad.elim (absurd ⟨len, kind, zero⟩) fun none_ => by simp [none_] at some_
    exact congrArg Host.Outcome.next (State.run_answers admitted (paramState_bad _ (decide_eq_false unfit)) (by decide))
  case reads =>
    obtain ⟨len, kind, zero⟩ := yes
    have fits : decide (p.length = 12 ∧ u p 1 1 ≤ 1 ∧ u p 3 1 = 0 ∧ data.isSome) = true :=
      decide_eq_true ⟨len, kind, zero, by simp [holds]⟩
    refine ⟨fun whole => runs.trans ?whole, fun stream open_ => runs.trans ?busy, fun stream free => runs.trans ?stream⟩
    case whole =>
      have no : decide (u p 1 1 = 1) = false := decide_eq_false (by omega)
      rw [holds, no]
      exact congrArg Host.Outcome.next (State.run_done admitted (paramState_ok (holds ▸ fits) rfl) rfl (by decide))
    case busy =>
      have busy : (!decide (u p 1 1 = 1) || s.skb.stream.isNone) = false := by simp [stream, open_]
      exact congrArg Host.Outcome.next (State.run_answers admitted (paramState_state fits busy) (by decide))
    case stream =>
      have able : (!decide (u p 1 1 = 1) || s.skb.stream.isNone) = true := by simp [free]
      have yes : decide (u p 1 1 = 1) = true := decide_eq_true stream
      refine congrArg Host.Outcome.next (State.run_done admitted (paramState_ok fits able) ?_ (by decide))
      rw [holds, yes]
      rfl

end

/-- Settles O54: history and scrub by what bars them, the NAND by how its operation ends (`State.nandDone`), and the commands by
their checks. -/
theorem recorderRuns : Obligations.RecorderRuns := by
  intro s o p
  refine ⟨fun por => congrArg Host.Outcome.next (if_pos por), fun runs => ⟨historyRecord_off runs, historyRecord_on runs⟩,
    fun bs room => State.histPut_room room bs, fires_ite_not rfl eventFlush_guard, fun ok idle => ?idle,
    fun op runs => ?silent, fun op w runs => ?owed, fun op x runs => ?fails, fires_ite rfl,
    fun n x => captureCommit_commits, captureCommit_idle, captureFreeze_barred,
    fun some_ => congrArg Host.Outcome.next (if_pos some_),
    captureSample_idle, fun a => captureSample_takes, ?scrub, fun n bits worn lost last => scrubSlice_barred,
    fun n bits worn lost last => scrubSlice_reads, fires_ite rfl, fun k => ⟨fun cap => rfl, rfl, rfl⟩, skbStatus_checked,
    skbStreamStop_checked, skbTrigger_checked, fun w => State.skbTriggers_one, skbMark_checked, skbClear_checked,
    skbRead_checked⟩
  case idle => exact congrArg Host.Outcome.next (State.nandDone_idle idle ok)
  case silent => exact congrArg Host.Outcome.next (State.nandDone_silent runs)
  case owed => exact congrArg Host.Outcome.next (State.nandDone_owed runs)
  case fails =>
    exact ⟨fun third => congrArg Host.Outcome.next (State.nandDone_third runs third),
      fun few other => congrArg Host.Outcome.next (State.nandDone_retires runs few other),
      fun id d few first => congrArg Host.Outcome.next (State.nandDone_again runs few first),
      fun id d n few second => congrArg Host.Outcome.next (State.nandDone_defers runs few second)⟩
  case scrub =>
    exact Fires.congr (by simp) (fires_ite rfl)

end Sys2Proof.Machine
end

section
/-! SUPPORT. The palette's commands by their checks, and the adoption of a bank consumer by consumer; O34. -/

namespace Sys2Proof.Machine

variable {s : State} {o : Origin} {p : List Byte}

/-! ## PAL_BEGIN and PAL_DATA (R146, R147) -/

theorem palBegin_checked (admitted : s.admits o 0x0601 2) :
    (p.length = 4 → 24 ≤ u p 0 4 → u p 0 4 ≤ 32768 → s.pal.pending = 0 → s.pal.switching = false →
      Replies (.palBegin o p) s ((s.accepted o 2).onPal fun q =>
        { q.setBank q.staged { st := .loading, bytes := [] } with opened := some (u p 0 4) }) o 0x0601 st.ok []) ∧
    (p.length = 4 → 24 ≤ u p 0 4 → u p 0 4 ≤ 32768 → (s.pal.pending ≠ 0 ∨ s.pal.switching) →
      Goes (.palBegin o p) s (s.answer o 0x0601 st.state [])) ∧
    ((p.length ≠ 4 ∨ u p 0 4 < 24 ∨ 32768 < u p 0 4) → Goes (.palBegin o p) s (s.answer o 0x0601 st.badParam [])) := by
  refine ⟨fun len low high adopted settled => ?opens, fun len low high busy => ?busy, fun bad => ?bad⟩
  case opens =>
    have free : (decide (s.pal.pending = 0) && !s.pal.switching) = true := by simp [adopted, settled]
    exact congrArg Host.Outcome.next
      (State.run_done admitted (paramState_ok (decide_eq_true ⟨len, low, high⟩) free) rfl (by decide))
  case busy =>
    have barred : (decide (s.pal.pending = 0) && !s.pal.switching) = false := by simpa [imp_iff_not_or] using busy
    exact congrArg Host.Outcome.next
      (State.run_answers admitted (paramState_state (decide_eq_true ⟨len, low, high⟩) barred) (by decide))
  case bad =>
    exact congrArg Host.Outcome.next
      (State.run_answers admitted (paramState_bad _ (decide_eq_false (by omega))) (by decide))

/-- The check of PAL_DATA. -/
def State.palDataChk (s : State) (p : List Byte) : Nat :=
  if p.length ≠ 6 + u p 4 2 ∨ u p 4 2 = 0 ∨ 4080 < u p 4 2 then st.badParam
  else
    match s.pal.opened with
    | none => st.state
    | some total =>
      param (u p 0 4 = s.pal.stagedBank.bytes.length ∧ s.pal.stagedBank.bytes.length + u p 4 2 ≤ total)

theorem palData_run : exec (.palData o p) s = .next (s.run o 0x0602 2 (s.palDataChk p) fun s =>
    (.done st.ok [], s.onPal fun q => q.setBank q.staged { q.stagedBank with bytes := q.stagedBank.bytes ++ p.drop 6 })) := by
  have same : (p.length < 6 ∨ u p 4 2 < 1 ∨ 4080 < u p 4 2 ∨ p.length ≠ 6 + u p 4 2) ↔
      (p.length ≠ 6 + u p 4 2 ∨ u p 4 2 = 0 ∨ 4080 < u p 4 2) := by omega
  exact congrArg (fun chk => Host.Outcome.next (s.run o 0x0602 2 chk _)) (if_congr same rfl rfl)

section
variable (admitted : s.admits o 0x0602 2)
include admitted

theorem palData_answers {code : Nat} (chk : s.palDataChk p = code) (n : code ≠ st.ok) :
    Goes (.palData o p) s (s.answer o 0x0602 code []) :=
  palData_run.trans (congrArg _ (State.run_answers admitted chk n))

theorem palData_bad (bad : p.length ≠ 6 + u p 4 2 ∨ u p 4 2 = 0 ∨ 4080 < u p 4 2) :
    Goes (.palData o p) s (s.answer o 0x0602 st.badParam []) :=
  palData_answers admitted (if_pos bad) (by decide)

section
variable (len : p.length = 6 + u p 4 2) (some_ : 1 ≤ u p 4 2) (few : u p 4 2 ≤ 4080)
include len some_ few

theorem palData_closed (closed : s.pal.opened = none) : Goes (.palData o p) s (s.answer o 0x0602 st.state []) := by
  refine palData_answers admitted ?_ (by decide)
  rw [State.palDataChk, if_neg (by omega), closed]

omit admitted in
theorem State.palDataChk_open {total : Nat} (opened : s.pal.opened = some total) : s.palDataChk p =
    param (u p 0 4 = s.pal.stagedBank.bytes.length ∧ s.pal.stagedBank.bytes.length + u p 4 2 ≤ total) := by
  rw [State.palDataChk, if_neg (by omega), opened]

theorem palData_adds {total : Nat} (opened : s.pal.opened = some total) (next : u p 0 4 = s.pal.stagedBank.bytes.length)
    (fits : s.pal.stagedBank.bytes.length + u p 4 2 ≤ total) :
    Replies (.palData o p) s ((s.accepted o 2).onPal fun q =>
      q.setBank q.staged { q.stagedBank with bytes := q.stagedBank.bytes ++ p.drop 6 }) o 0x0602 st.ok [] :=
  palData_run.trans (congrArg _ (State.run_done admitted
    ((State.palDataChk_open len some_ few opened).trans (param_ok (decide_eq_true ⟨next, fits⟩))) rfl (by decide)))

theorem palData_misplaced {total : Nat} (opened : s.pal.opened = some total)
    (bad : u p 0 4 ≠ s.pal.stagedBank.bytes.length ∨ total < s.pal.stagedBank.bytes.length + u p 4 2) :
    Goes (.palData o p) s (s.answer o 0x0602 st.badParam []) :=
  palData_answers admitted
    ((State.palDataChk_open len some_ few opened).trans (param_bad (decide_eq_false (by omega)))) (by decide)

end

end

/-! ## PAL_END (R144, R146) -/

/-- The staged bank has been judged: its state is `b`, the verdict `e`, and no PAL_BEGIN is open. -/
def State.palJudged (b : BankState) (e : PErr) (s : State) : State :=
  s.onPal fun q =>
    { q.setBank q.staged { q.stagedBank with st := b } with
      opened := none, error := e.1, errTable := e.2.1, errOffset := e.2.2 }

section
variable (admitted : s.admits o 0x0603 2)
include admitted

theorem palEnd_bad (bad : p ≠ []) : Goes (.palEnd o p) s (s.answer o 0x0603 st.badParam []) :=
  congrArg Host.Outcome.next (State.run_answers admitted (paramState_bad _ (List.isEmpty_eq_false_iff.2 bad)) (by decide))

theorem palEnd_barred (none_ : p = []) (barred : s.pal.opened = none ∨ s.sys.nandBar) :
    Goes (.palEnd o p) s (s.answer o 0x0603 st.state []) :=
  congrArg Host.Outcome.next (State.run_answers admitted
    (paramState_state (List.isEmpty_iff.2 none_) (by simpa [imp_iff_not_or] using barred)) (by decide))

section
variable (none_ : p = []) (opened : s.pal.opened.isSome) (power : s.sys.nandBar = false)
include none_ opened power

omit admitted in
theorem palEnd_passes : paramState p.isEmpty (s.pal.opened.isSome && !s.sys.nandBar) = st.ok :=
  paramState_ok (List.isEmpty_iff.2 none_) (by rw [opened, power]; rfl)

theorem palEnd_rejects {e : PErr} (fails : (s.accepted o 2).palCheck (s.accepted o 2).pal.stagedBank.bytes
      ((s.accepted o 2).pal.opened.getD 0) = some e) :
    Replies (.palEnd o p) s ((s.accepted o 2).palJudged .invalid e) o 0x0603 st.badParam [] := by
  refine congrArg Host.Outcome.next (State.run_done admitted (palEnd_passes none_ opened power) ?_ (by decide))
  simp only [fails]
  rfl

section
variable (holds : (s.accepted o 2).palCheck (s.accepted o 2).pal.stagedBank.bytes
  ((s.accepted o 2).pal.opened.getD 0) = none)
include holds

theorem palEnd_failed (failed : s.skb.failed) :
    Replies (.palEnd o p) s ((s.accepted o 2).palJudged .valid (0, 0xFF, 0)) o 0x0603 st.timeout [] := by
  refine congrArg Host.Outcome.next (State.run_done admitted (palEnd_passes none_ opened power) ?_ (by decide))
  simp only [holds]
  exact if_pos (by rwa [State.onPal_skb, State.accepted_skb])

theorem palEnd_stores (works : s.skb.failed = false) :
    Goes (.palEnd o p) s ((((s.accepted o 2).palJudged .valid (0, 0xFF, 0)).enqueue
      (.store (2 + s.pal.staged.val) s.pal.stagedBank.bytes) (some ⟨o, 0x0603, []⟩)).pump) := by
  refine congrArg Host.Outcome.next (State.run_waits admitted (palEnd_passes none_ opened power) ?_)
  simp only [holds]
  refine (if_neg (by rw [State.onPal_skb, State.accepted_skb, works]; decide)).trans ?_
  simp only [State.onPal_pal, State.accepted_pal]
  rfl

end

end

end

/-! ## PAL_SWITCH (R145, R147) -/

section
variable (admitted : s.admits o 0x0604 2)
include admitted

theorem palSwitch_bad (bad : p.length ≠ 1 ∨ 1 < u p 0 1) : Goes (.palSwitch o p) s (s.answer o 0x0604 st.badParam []) :=
  congrArg Host.Outcome.next (State.run_answers admitted (paramState_bad _ (decide_eq_false (by omega))) (by decide))

section
variable (len : p.length = 1) (flags : u p 0 1 ≤ 1)
include len flags

theorem palSwitch_barred (barred : s.pal.stagedBank.st ≠ .valid ∨ s.pal.pending ≠ 0 ∨ s.pal.switching ∨
    s.namedErr s.pal.stagedBank.bytes ≠ none ∨ s.sys.mode ≠ .running) :
    Goes (.palSwitch o p) s (s.answer o 0x0604 st.state []) := by
  refine congrArg Host.Outcome.next (State.run_answers admitted
    (paramState_state (decide_eq_true ⟨len, flags⟩) ?_) (by decide))
  rcases barred with h | h | h | h | h <;> simp [h]

theorem palSwitch_waits (valid : s.pal.stagedBank.st = .valid) (adopted : s.pal.pending = 0)
    (settled : s.pal.switching = false) (resolves : s.namedErr s.pal.stagedBank.bytes = none) (runs : s.sys.mode = .running) :
    let a := s.accepted o 2
    let t := a.onPal fun q => a.palPend
      { q with
        previous := q.active, active := selOf q.staged, mark := q.staged, staged := otherArea q.staged, switching := true,
        plant := if u p 0 1 = 1 then some 0 else none }
    Waits (.palSwitch o p) s (if u p 0 1 = 1 then t.onLink fun l => { l with plantAt := some s.now } else t)
      o 0x0604 0 0 [] := by
  intro a t
  have now : a.now = s.now := by rw [State.now, State.accepted_sys (by decide)]; rfl
  refine congrArg Host.Outcome.next (State.run_waits admitted
    (paramState_ok (decide_eq_true ⟨len, flags⟩) (by simp [valid, adopted, settled, resolves, runs])) ?_)
  simp only [decide_eq_true_eq, t, ← now]
  rfl

end

end

/-! ## PAL_READ (R146) -/

theorem palRead_checked (admitted : s.admits o 0x0606 0) :
    let bs := if u p 0 1 = 0 then s.bankBytes s.pal.active else s.pal.stagedBank.bytes
    (p.length = 7 → u p 0 1 ≤ 1 → 1 ≤ u p 5 2 → u p 5 2 ≤ 4085 → u p 1 4 + u p 5 2 ≤ bs.length →
      Replies (.palRead o p) s s o 0x0606 st.ok (sliceBytes bs (u p 1 4) (u p 5 2))) ∧
    ((p.length ≠ 7 ∨ 1 < u p 0 1 ∨ u p 5 2 = 0 ∨ 4085 < u p 5 2 ∨ bs.length < u p 1 4 + u p 5 2) →
      Goes (.palRead o p) s (s.answer o 0x0606 st.badParam [])) :=
  ⟨fun len bank some_ few inside => congrArg Host.Outcome.next
      (State.report_admitted admitted (param_ok (decide_eq_true ⟨len, bank, some_, few, inside⟩))),
    fun bad => congrArg Host.Outcome.next
      (State.run_answers admitted (param_bad (decide_eq_false (by omega))) (by decide))⟩

/-! ## Adoption (R147, R148) -/

section
variable {c : Fin 12} {ch : Nat}

/-- What consumer `c` does at its boundary where its adoption is pending. -/
def State.consumerAdopts (c : Fin 12) (ch : Nat) (s : State) : State :=
  match c with
  | 0 => if ch < 2 then s.palCharger ch else s
  | 1 => if ch < 2 then (s.adopt 1 ch).bandStep ch else s
  | 3 => s.domAdopt ch
  | 4 => if s.seq.st = QState.idle then s.adopt 4 0 else s
  | 5 => if s.plantReady then s.capTick else s
  | 6 => s.throttleTick
  | 8 => s.adoptSources
  | 9 => (s.adopt 9 ch).secBand ch
  | 10 => s.scrubAdopt
  | c => s.adopt c ch

theorem paletteAdopt_stays (done : s.pal.pending.testBit c = false) : Goes (.paletteAdopt c ch) s s :=
  congrArg Host.Outcome.next (if_pos (by rw [done]; rfl))

theorem paletteAdopt_adopts (waits : s.pal.pending.testBit c) :
    Goes (.paletteAdopt c ch) s (s.consumerAdopts c ch).palDone := by
  refine congrArg Host.Outcome.next ((if_neg (by rw [waits]; decide)).trans ?_)
  fin_cases c <;> rfl

theorem paletteAdopt_plain (waits : s.pal.pending.testBit c) (plain : c = 2 ∨ c = 7 ∨ c = 11) :
    Goes (.paletteAdopt c ch) s (s.adopt c ch).palDone := by
  rcases plain with rfl | rfl | rfl <;> exact paletteAdopt_adopts waits

/-- The chargers and their temperature bands adopt string by string. -/
theorem paletteAdopt_string (string : ch < 2) :
    (s.pal.pending.testBit 0 → Goes (.paletteAdopt 0 ch) s (s.palCharger ch).palDone) ∧
    (s.pal.pending.testBit 1 → Goes (.paletteAdopt 1 ch) s ((s.adopt 1 ch).bandStep ch).palDone) :=
  ⟨fun waits => (paletteAdopt_adopts (c := 0) waits).trans (by rw [State.consumerAdopts, if_pos string]),
    fun waits => (paletteAdopt_adopts (c := 1) waits).trans (by rw [State.consumerAdopts, if_pos string])⟩

theorem paletteAdopt_noString (string : 2 ≤ ch) :
    (s.pal.pending.testBit 0 → Goes (.paletteAdopt 0 ch) s s.palDone) ∧
    (s.pal.pending.testBit 1 → Goes (.paletteAdopt 1 ch) s s.palDone) :=
  ⟨fun waits => (paletteAdopt_adopts (c := 0) waits).trans (by rw [State.consumerAdopts, if_neg (Nat.not_lt.2 string)]),
    fun waits => (paletteAdopt_adopts (c := 1) waits).trans (by rw [State.consumerAdopts, if_neg (Nat.not_lt.2 string)])⟩

end

/-! ## PAL_SWITCH_TIMEOUT (R147) -/

theorem palSwitchTimeout_some {w : Wait} (h : s.hif.waits.find? (fun w => w.op = 0x0604) = some w) :
    Goes .palSwitchTimeout s
      ((s.advanceTo (w.since + sec 1)).wake (fun w => w.op = 0x0604) fun _ => (st.timeout, [])) := by
  show execPalSwitchTimeout s = _
  simp only [execPalSwitchTimeout, h]

theorem palSwitchTimeout_none (h : s.hif.waits.find? (fun w => w.op = 0x0604) = none) : Goes .palSwitchTimeout s s := by
  show execPalSwitchTimeout s = _
  simp only [execPalSwitchTimeout, h]

/-- Settles O34: each command by its checks, PAL_END by what its validation finds, and each consumer by what it does at its
boundary (`State.consumerAdopts`). -/
theorem paletteRuns : Obligations.PaletteRuns := by
  intro s o p
  refine ⟨palBegin_checked, fun _ admitted => ?adds, fun _ admitted => ?misplaced, palData_closed,
    fun admitted none_ opened power => ?judges, palSwitch_waits, palSwitch_barred, palSwitch_bad, palData_bad, palEnd_bad,
    palEnd_barred, fun admitted => (palRead_checked admitted).1, fun admitted => (palRead_checked admitted).2,
    fun _ _ => paletteAdopt_stays, fun _ _ => paletteAdopt_plain, fun _ => paletteAdopt_adopts (c := 9),
    fun _ => paletteAdopt_noString, fun _ string => (paletteAdopt_string string).1,
    fun _ string => (paletteAdopt_string string).2, fun _ => paletteAdopt_adopts (c := 3),
    fun _ => paletteAdopt_adopts (c := 4), fun _ => paletteAdopt_adopts (c := 5), fun _ => paletteAdopt_adopts (c := 6),
    fun _ => paletteAdopt_adopts (c := 8), fun _ => paletteAdopt_adopts (c := 10), fun _ => palSwitchTimeout_some,
    palSwitchTimeout_none⟩
  case adds => exact fun len some_ few => palData_adds admitted len some_ few
  case misplaced => exact fun len some_ few => palData_misplaced admitted len some_ few
  case judges =>
    exact ⟨fun _ => palEnd_rejects admitted none_ opened power, palEnd_failed admitted none_ opened power,
      palEnd_stores admitted none_ opened power⟩

end Sys2Proof.Machine
end

section
/-! SUPPORT. What is written on a line reads back: link frames, the symbols of the barrier, its heartbeats and frames; O58. -/

namespace Sys2Proof.Machine

/-! ## A value between other bytes -/

theorem u_toLE_between {n v : Nat} (hv : v < 2 ^ (8 * n)) (pre tl : List Byte) :
    u (pre ++ toLE n v ++ tl) pre.length n = v := by
  have read := u_splice (bs := pre) le_rfl (length_toLE n v) tl
  rwa [List.take_length, leNat_toLE_of_lt hv] at read

/-! ## Link frames (R335, R336, R338) -/

theorem length_frameOf (sof : Byte) (body : List Byte) : (frameOf sof body).length = body.length + 4 := by
  simp only [frameOf, List.length_append, List.length_cons, List.length_nil, length_toLE]
  omega

theorem sliceBytes_frameOf (sof : Byte) (body : List Byte) : sliceBytes (frameOf sof body) 1 body.length = body := by
  simp only [frameOf, sliceBytes, List.append_assoc, List.cons_append, List.nil_append, List.drop_succ_cons, List.drop_zero,
    List.take_left]

/-- The check sum stands after SOF and the body. -/
theorem u_frameOf_crc (sof : Byte) (body : List Byte) : u (frameOf sof body) (body.length + 1) 2 = crc16 body :=
  u_toLE_between (crc16_lt body) (sof :: body) [eof]

theorem frameBody_frameOf (sof : Byte) (body : List Byte) :
    frameBody sof (body.length + 4) (frameOf sof body) = some body := by
  have crcAt : body.length + 4 - 3 = body.length + 1 := by omega
  have head : (frameOf sof body).head? = some sof := rfl
  have last : (frameOf sof body).getLast? = some eof := List.getLast?_concat
  rw [frameBody, crcAt, Nat.add_sub_cancel, sliceBytes_frameOf, u_frameOf_crc]
  exact if_pos ⟨length_frameOf sof body, head, last, rfl⟩

/-! ## Symbols (R167) -/

/-- A symbol that the code can send. -/
def Sym.Sendable (y : Sym) : Prop := (∃ b < 256, y = .d b) ∨ ∃ b ∈ specials, y = .k b

/-- R167: at either disparity the receiver's search through the code finds every data byte at its own symbol. -/
theorem symOf_sendSym_d : ∀ (rd : Bool), ∀ b < 256, symOf rd (sendSym rd (.d b)) = .d b := by decide +kernel

/-- R167: and every special symbol, whose symbol no data byte shares. -/
theorem symOf_sendSym_k : ∀ (rd : Bool), ∀ b ∈ specials, symOf rd (sendSym rd (.k b)) = .k b := by decide +kernel

theorem symOf_sendSym (rd : Bool) {y : Sym} (h : y.Sendable) : symOf rd (sendSym rd y) = y := by
  rcases h with ⟨b, hb, rfl⟩ | ⟨b, hb, rfl⟩
  · exact symOf_sendSym_d rd b hb
  · exact symOf_sendSym_k rd b hb

/-- Both ends turn the disparity by the same symbols, so each symbol is judged at the disparity that it was sent at. -/
theorem hear_send (rd : Bool) {ys : List Sym} (h : ∀ y ∈ ys, y.Sendable) : (hear (some rd) (send rd ys)).1 = ys := by
  induction ys generalizing rd with
  | nil => rfl
  | cons y ys ih =>
    obtain ⟨first, rest⟩ := List.forall_mem_cons.1 h
    rw [send, hear, Option.getD_some, symOf_sendSym rd first, ih _ rest]

/-! ## Heartbeats (R169) -/

theorem beatOf_beatSyms (seq v : Nat) : beatOf (beatSyms seq v) = some (seq, v) := by
  have whole : v % 256 + 256 * (v / 256) = v := Nat.mod_add_div v 256
  simp only [beatSyms, beatOf, whole, if_true]

/-! ## Frames of the barrier (R168) -/

/-- TYPE, the length and the payload of a frame. -/
def barBody (type : Nat) (payload : List Byte) : List Byte := [byte type, byte payload.length] ++ payload

/-- The bytes of a frame between its start and its end. -/
def barBytes (type : Nat) (payload : List Byte) : List Byte :=
  barBody type payload ++ toLE 2 (crc16 (barBody type payload))

theorem frameSyms_eq (type : Nat) (payload : List Byte) :
    frameSyms type payload = kStart :: ((barBytes type payload).map fun b => Sym.d b.toNat) ++ [kEnd] := rfl

theorem filterMap_data_map (bs : List Byte) : (bs.map fun b => Sym.d b.toNat).filterMap Sym.data = bs := by
  simp only [List.filterMap_map, Function.comp_def, Sym.data, byte, BitVec.ofNat_toNat, BitVec.setWidth_eq,
    List.filterMap_some]

theorem length_barBytes (type : Nat) (payload : List Byte) :
    (barBytes type payload).length = (barBody type payload).length + 2 := by
  rw [barBytes, List.length_append, length_toLE]

theorem barFrame_frameSyms {type : Nat} {payload : List Byte} (htype : type < 256) (hlen : payload.length ≤ 240) :
    barFrame (frameSyms type payload) = some (type, payload) := by
  have len : u (barBytes type payload) 1 1 = payload.length := leNat_toLE_of_lt (n := 1) (by omega)
  have first : u (barBytes type payload) 0 1 = type := leNat_toLE_of_lt (n := 1) htype
  have total : (barBody type payload).length = payload.length + 2 := rfl
  have body : (barBytes type payload).take (barBody type payload).length = barBody type payload := List.take_left
  have crc : u (barBytes type payload) (barBody type payload).length 2 = crc16 (barBody type payload) := by
    have read := u_toLE_between (n := 2) (crc16_lt (barBody type payload)) (barBody type payload) []
    rwa [List.append_nil] at read
  rw [frameSyms_eq, List.cons_append, barFrame, List.dropLast_concat, filterMap_data_map, length_barBytes,
    Nat.add_sub_cancel, body, crc, len, first]
  refine if_pos ⟨List.getLast?_concat, ?_, ?_, hlen, rfl⟩
  · rw [List.length_append, List.length_map, length_barBytes, List.length_singleton]
  · omega

/-- Settles O58: link frames by their parts, the symbols by the code's tables (`symOf_sendSym`) and the disparity that both
ends keep (`hear_send`), heartbeats and frames of the barrier by their bytes. -/
theorem linkFramesReadBack : Obligations.LinkFramesReadBack :=
  ⟨frameBody_frameOf, fun rd _ h => hear_send rd h, beatOf_beatSyms, fun _ _ => barFrame_frameSyms⟩

end Sys2Proof.Machine
end

section
/-! SUPPORT. The reports on one channel: the check of the selector, and how many bytes each table has; O16. -/

namespace Sys2Proof.Machine

variable {s : State} {o : Origin} {p : List Byte} {c : Instr} {blk op n k : Nat}

/-- A report on the channel that its selector names, whose table `data` has `n` bytes for every channel. -/
theorem reports_channel {data : State → Nat → List Byte} (two : p.length = 2) (one : s.single blk (u p 0 2) = some k)
    (len : (data s k).length = n)
    (run : exec c s = .next (s.report o op (param (p.length = 2 ∧ (s.single blk (u p 0 2)).isSome))
      fun t => data t ((s.single blk (u p 0 2)).getD 0))) :
    Reports c s o op n (data s k) := by
  intro admitted
  have named : param (p.length = 2 ∧ (s.single blk (u p 0 2)).isSome) = st.ok := param_ok (by simp [two, one])
  refine ⟨len, run.trans ?_⟩
  rw [State.report_admitted admitted named, one, Option.getD_some]

theorem State.length_rectStatus (s : State) (k : Nat) : (s.rectStatus k).length = 52 := by
  unfold State.rectStatus
  simp only [List.length_append, length_toLE, length_toLEi]

theorem State.length_barrierStatus (s : State) (k : Nat) : (s.barrierStatus k).length = 28 := by
  simp only [State.barrierStatus, List.length_append, length_toLE]

theorem State.length_chgStatus (s : State) (k : Nat) : (s.chgStatus k).length = 64 := by
  unfold State.chgStatus
  simp only [List.length_append, length_toLE, length_toLEi]

theorem State.length_gaugeStatus (s : State) (k : Nat) : (s.gaugeStatus k).length = 48 := by
  simp only [State.gaugeStatus, List.length_append, length_toLE, length_toLEi]

theorem State.length_domStatus (s : State) (k : Nat) : (s.domStatus k).length = 52 := by
  simp only [State.domStatus, List.length_append, length_toLE, length_toLEi]

theorem State.length_portStatus (s : State) (k : Nat) : (s.portStatus k).length = 48 := by
  simp only [State.portStatus, List.length_append, length_toLE, length_toLEi]

theorem State.length_pdStatus (s : State) (k : Nat) : (s.pdStatus k).length = 40 := by
  simp only [State.pdStatus, List.length_append, length_toLE, length_toLEi]

theorem State.length_ccStatus (s : State) (k : Nat) : (s.ccStatus k).length = 24 := by
  simp only [State.ccStatus, List.length_append, length_toLE]

/-- PHASE_STATUS (R302): how many phases the domain has, and an entry for each. -/
def State.phaseStatus (s : State) (k : Nat) : List Byte :=
  [byte (s.phases k).length, 0, 0, 0] ++
    (List.range (s.phases k).length).flatMap fun j => s.phaseEntry k j ((s.phases k).getD j 0)

theorem State.length_phaseEntry (s : State) (k j p : Nat) : (s.phaseEntry k j p).length = 8 := by
  simp only [State.phaseEntry, List.length_append, List.length_cons, List.length_nil, length_toLEi]

theorem State.length_phaseStatus (s : State) (k : Nat) : (s.phaseStatus k).length = 4 + 8 * (s.phases k).length := by
  rw [State.phaseStatus, List.length_append, length_flatMap_entries fun j => s.length_phaseEntry k j _, List.length_range]
  rfl

theorem skbCaptureInfo_replies (two : p.length = 2) (zero : u p 1 1 = 0) (admitted : s.admits o 0x1204 0) :
    Replies (.skbCaptureInfo o p) s s o 0x1204 st.ok (s.captureInfo (u p 0 1)) :=
  congrArg _ (State.report_admitted admitted (param_ok (decide_eq_true ⟨two, zero⟩)))

/-- Settles O16: each report by the channel that its selector names (`reports_channel`) and its table's length. -/
theorem channelReportsReplyWithTheirTable : Obligations.ChannelReportsReplyWithTheirTable := by
  intro o s p k two
  have chg : ((s.chgStatus k).set 4 (byte (s.limitShown k))).length = 64 := List.length_set.trans (s.length_chgStatus k)
  exact ⟨fun one => ⟨reports_channel two one (s.length_rectStatus k) rfl,
      reports_channel two one (s.length_barrierStatus k) rfl⟩,
    fun one => reports_channel (data := fun t k => (t.chgStatus k).set 4 (byte (t.limitShown k))) two one chg rfl,
    fun one => reports_channel two one (s.length_gaugeStatus k) rfl,
    fun one => ⟨reports_channel two one (s.length_domStatus k) rfl,
      reports_channel (data := State.phaseStatus) two one (s.length_phaseStatus k) rfl⟩,
    fun one => reports_channel two one (s.length_portStatus k) rfl,
    fun one => reports_channel two one (s.length_pdStatus k) rfl,
    fun one => reports_channel two one (s.length_ccStatus k) rfl, skbCaptureInfo_replies two⟩

end Sys2Proof.Machine
end

section
/-! SUPPORT. What stops a rectifier channel or limits it: predictions, the barrier's lines, limits and trips; O36. -/

namespace Sys2Proof.Machine

variable {s : State} {k : Fin 2} {t : Nat}

/-! ## A guarded change of a channel -/

theorem State.onRectCh_unchanged (s : State) (k : Nat) : s.onRectCh k (fun c => c) = s := by
  simp only [State.onRectCh, State.onRect, upd, Fin.getElem_fin, Vector.set_getElem_self]

theorem State.onRectCh_ite (s : State) (k : Nat) (g : RectCh → Prop) [DecidablePred g] (f : RectCh → RectCh) :
    (s.onRectCh k fun c => if g c then f c else c) = if g (s.rectCh k) then s.onRectCh k f else s := by
  by_cases h : g (s.rectCh k)
  · rw [if_pos h]
    exact State.onRectCh_congr (if_pos h)
  · rw [if_neg h]
    exact (State.onRectCh_congr (if_neg h)).trans (s.onRectCh_unchanged k)

/-- An event that changes a channel where its guard holds. -/
theorem fires_onRectCh {c : Instr} (g : RectCh → Prop) [DecidablePred g] {f : RectCh → RectCh}
    (h : exec c s = .next (s.onRectCh k fun c => if g c then f c else c)) :
    Fires c s (g (s.rectCh k)) (s.onRectCh k f) :=
  fires_ite (h.trans (congrArg _ (s.onRectCh_ite k g f)))

/-! ## Predictions of a dropout (R161) -/

/-- A dropout has been predicted by the instant `t`, to which the timebase moves: the line to the control die is asserted. -/
def State.predictAt (k t : Nat) (s : State) : State :=
  (s.advanceTo t).onRectCh k fun c =>
    { c with predicted := some (max s.now t), goodSince := 0, bar := { c.bar with drop := true } }

/-- Moving the timebase does not decide whether a channel predicts. -/
theorem State.predict_advanceTo (h : s.predicts k) : (s.advanceTo t).predict k = s.predictAt k t := if_pos h

theorem dropoutPredicted_fires (since : (s.rectCh k).devSince = some t) :
    Fires (.dropoutPredicted k) s (s.predicts k) (s.predictAt k (t + ms 1)) := by
  have run : exec (.dropoutPredicted k) s = .next (if s.predicts k then (s.advanceTo (t + ms 1)).predict k else s) := by
    show execDropoutPredicted k s = _
    simp only [execDropoutPredicted, since]
  exact ⟨fun h => State.predict_advanceTo h ▸ (fires_ite run).1 h, (fires_ite run).2⟩

theorem dropoutPredicted_steady (none_ : (s.rectCh k).devSince = none) : Goes (.dropoutPredicted k) s s := by
  show execDropoutPredicted k s = _
  simp only [execDropoutPredicted, none_]

theorem zcLateExpiry_fires :
    Fires (.zcLateExpiry k) s (s.predicts k ∧ (s.rectCh k).half ≠ 0)
      (s.predictAt k ((s.rectCh k).tZc + (s.rectCh k).half + us (s.secF Fld.Rect.ZC_LATE_US k))) :=
  ⟨fun h => congrArg _ ((if_pos h).trans (State.predict_advanceTo h.1)), fun h => congrArg _ (if_neg h)⟩

theorem predictionTimeout_ends (predicted : (s.rectCh k).predicted = some t) :
    Goes (.predictionTimeout k) s
      (((((s.advanceTo (t + ms 100)).onRectCh k fun c =>
        { c.endPrediction with template := List.replicate 128 0, armed := false, goodHalf := 0 }).dropCleared k
          (s.rectCh k).bar.drop).raise 0x070C k).ffRelease) := by
  refine congrArg Host.Outcome.next ?_
  simp only [State.predictTimeout, predicted]
  rfl

theorem predictionTimeout_unheeded (none_ : (s.rectCh k).predicted = none) : Goes (.predictionTimeout k) s s := by
  refine congrArg Host.Outcome.next ?_
  simp only [State.predictTimeout, none_]

/-! ## The STOP line (R151, R171) -/

/-- The section has been told to stop. -/
def State.stopSet (k : Nat) (s : State) : State := s.onRectCh k fun c => { c with bar := { c.bar with stop := true } }

/-- STOP acts by the state of the channel, which the line itself leaves as it is. -/
theorem State.stopAssert_eq (s : State) (k : Nat) :
    s.stopAssert k =
      if (s.rectCh k).st = .qualify ∨ (s.rectCh k).starting then ((s.stopSet k).rectLost k false).rectNote k
      else if (s.rectCh k).st = .lost then (s.stopSet k).llcStop k
      else if (s.rectCh k).st = .autonomous then
        (s.stopSet k).onRectCh k fun c => { c.gatesStop with ordered := false, qualFrom := none, qualRan := 0 }
      else s.stopSet k := by
  have line : (s.stopSet k).rectCh k = { s.rectCh k with bar := { (s.rectCh k).bar with stop := true } } :=
    s.onRectCh_rectCh k _
  have st : ((s.stopSet k).rectCh k).st = (s.rectCh k).st := by rw [line]
  have starting : ((s.stopSet k).rectCh k).starting = (s.rectCh k).starting := (congrArg RectCh.starting line :).trans rfl
  rw [← st, ← starting]
  rfl

/-- R151: these states are not among those from RELAY to RUN. -/
theorem RectCh.starting_of_st {c : RectCh}
    (h : c.st ∈ [RState.off, .autonomous, .listen, .qualify, .lost, .disabled, .latched]) : c.starting = false := by
  simp only [List.mem_cons, List.not_mem_nil, or_false] at h
  rcases h with h | h | h | h | h | h | h <;> simp [RectCh.starting, RectCh.delivers, h]

theorem stopLine_stops (h : (s.rectCh k).st = .qualify ∨ (s.rectCh k).starting) :
    Goes (.stopLine k) s (((s.stopSet k).rectLost k false).rectNote k) :=
  congrArg Host.Outcome.next ((s.stopAssert_eq k).trans (if_pos h))

theorem stopLine_lost (h : (s.rectCh k).st = .lost) : Goes (.stopLine k) s ((s.stopSet k).llcStop k) := by
  refine congrArg Host.Outcome.next ((s.stopAssert_eq k).trans ?_)
  simp [h, RectCh.starting_of_st]

theorem stopLine_autonomous (h : (s.rectCh k).st = .autonomous) :
    Goes (.stopLine k) s
      ((s.stopSet k).onRectCh k fun c => { c.gatesStop with ordered := false, qualFrom := none, qualRan := 0 }) := by
  refine congrArg Host.Outcome.next ((s.stopAssert_eq k).trans ?_)
  simp [h, RectCh.starting_of_st]

theorem stopLine_rests (h : (s.rectCh k).st ∈ [RState.off, .listen, .disabled, .latched]) :
    Goes (.stopLine k) s (s.stopSet k) := by
  refine congrArg Host.Outcome.next ((s.stopAssert_eq k).trans ?_)
  simp only [List.mem_cons, List.not_mem_nil, or_false] at h
  rcases h with h | h | h | h <;> simp [h, RectCh.starting_of_st]

theorem stopRelease_fires :
    Fires (.stopRelease k) s (s.ctrlDown = false) (s.onRectCh k fun c => { c with bar := { c.bar with stop := false } }) :=
  fires_ite_not rfl Bool.eq_false_iff.symm

/-! ## The fault line (R151, R166) -/

theorem fltLine_noted (h : (s.rectCh k).bar.flt ∨ (s.rectCh k).starting = false) :
    Goes (.fltLine k) s (s.onRectCh k fun c => { c with bar := { c.bar with flt := true } }) :=
  congrArg Host.Outcome.next (if_pos (by simpa using h))

/-- A channel that its fault line has lost waits for the FAULT frame; the loss counts as a trip. -/
def RectCh.faulted (trips : List Nat) (c : RectCh) : RectCh :=
  { c with trips := trips, bar := { c.bar with flt := true, fltWait := true } }

section
variable (new : (s.rectCh k).bar.flt = false) (starting : (s.rectCh k).starting)
include new starting

theorem fltLine_loses (few : (recent s.now (sec 60) (s.rectCh k).trips).length < 4) :
    Goes (.fltLine k) s
      ((s.rectLost k false).onRectCh k (RectCh.faulted (recent s.now (sec 60) (s.rectCh k).trips))) := by
  refine congrArg Host.Outcome.next ((if_neg (by simp [new, starting])).trans ?_)
  rw [if_neg (not_le.2 few), if_neg (not_le.2 few)]
  rfl

theorem fltLine_latches (many : 4 ≤ (recent s.now (sec 60) (s.rectCh k).trips).length) :
    Goes (.fltLine k) s
      (((s.rectLost k false .latched).onRectCh k (RectCh.faulted (recent s.now (sec 60) (s.rectCh k).trips))).raise
        0x0711 k) := by
  refine congrArg Host.Outcome.next ((if_neg (by simp [new, starting])).trans ?_)
  rw [if_pos many, if_pos many]
  rfl

end

/-! ## Trips (R151, R166) -/

/-- A trip loses the channel, and the fourth in 60 s latches it. -/
theorem State.rectTrip_eq (s : State) (k code : Nat) :
    s.rectTrip k code =
      let trips := recent s.now (sec 60) (s.rectCh k).trips
      let trip (to_ : RState) : State :=
        ((s.rectLost k false to_).onRectCh k fun c =>
          { c with trips := trips, bar := { c.bar with flt := true, fltWait := false } }).raise code k
      if trips.length < 4 then trip .lost else (trip .latched).raise 0x0711 k := by
  by_cases few : (recent s.now (sec 60) (s.rectCh k).trips).length < 4
  · simp only [State.rectTrip, if_pos few, if_neg (not_le.2 few)]
  · simp only [State.rectTrip, if_neg few, if_pos (not_lt.1 few)]

/-- A trip that has a condition of its own acts on a channel that switches. -/
theorem fires_rectTripIf {c : Instr} {g : Prop} [Decidable g] {code : Nat}
    (h : exec c s = .next (if g then s.rectTripIf k code else s)) :
    Fires c s (g ∧ (s.rectCh k).switching) (s.rectTrip k code) := by
  refine fires_ite (h.trans (congrArg _ ?_))
  rw [State.rectTripIf, ite_and]

/-! ## The tolerance of sharing (R165) -/

theorem shareToleranceFault_fires (bad : (s.rectCh k).shareBad = some t) :
    Fires (.shareToleranceFault k) s ((s.rectCh k).st = .run)
      (((s.advanceTo (t + sec 1)).onRectCh k fun c => { c with shareOk := false, shareBad := none }).raise 0x0710 k) := by
  refine fires_ite ?_
  show execShareToleranceFault k s = _
  simp only [execShareToleranceFault, bad]

theorem shareToleranceFault_within (within : (s.rectCh k).shareBad = none) : Goes (.shareToleranceFault k) s s := by
  show execShareToleranceFault k s = _
  simp only [execShareToleranceFault, within]

/-- Settles O36: the predictions by their instant (`State.predict_advanceTo`), the lines by the channel's state
(`State.stopAssert_eq`, `fltLine_loses`, `fltLine_latches`), the trips by their count (`State.rectTrip_eq`), and each of the
others as a guarded effect. -/
theorem rectTripsRun : Obligations.RectTripsRun := by
  intro s k
  refine ⟨rfl, ⟨fun _ => dropoutPredicted_fires, dropoutPredicted_steady, zcLateExpiry_fires⟩,
    fun _ => predictionTimeout_ends, predictionTimeout_unheeded, fires_ite rfl,
    ⟨stopLine_stops, stopLine_lost, stopLine_autonomous, stopLine_rests⟩, stopRelease_fires, fltLine_noted,
    fun new starting => ⟨fltLine_loses new starting, fltLine_latches new starting⟩, fun _ => fires_ite rfl,
    fun v => fires_onRectCh (fun c => c.pfc ∧ 450000 < v) rfl,
    fun bulk => fires_onRectCh (fun c => c.pfc ∧ s.secF Fld.Rect.BULK_MV k + 40000 < bulk) rfl,
    fun bulk => fires_onRectCh (fun _ => bulk < s.secF Fld.Rect.BULK_MV k + 10000) rfl, ?trips,
    Fires.congr ?hot (fires_ite rfl), fun _ => fires_ite rfl, fires_ite rfl, fun _ => shareToleranceFault_fires,
    shareToleranceFault_within⟩
  case trips =>
    intro trips trip after
    have trip_eq (code : Nat) : s.rectTrip k code = after code := s.rectTrip_eq k code
    simp only [← trip_eq]
    exact ⟨fun _ => fires_rectTripIf rfl, fires_ite rfl, fires_ite rfl, fires_rectTripIf rfl⟩
  case hot => rw [Bool.not_eq_true']

end Sys2Proof.Machine
end

section
/-! SUPPORT. Where a domain trips, what its limits are, and the ways out of its pre-start check; O42. -/

namespace Sys2Proof.Machine

variable {s : State} {k : Fin 16}

/-! ## Trips (R272, R291) -/

/-- A trip counts. -/
def State.tripCounted (k : Nat) (s : State) : State := s.onDomCh k fun c => { c with trips := c.trips + 1, cause := 0xFF }

/-- D0 retries after every trip; another domain latches once the count with this trip is past RETRIES. -/
theorem State.domTrip_eq (s : State) (k code : Nat) (latch : Bool) : s.domTrip k code latch =
    if k = 0 then ((s.tripCounted k).raise code k).domTo k .retryWait
    else if s.fld Fld.Dom.RETRIES k < (s.domCh k).trips + 1 then
      (((s.tripCounted k).raise code k).domTo k .latched).raise 0x0B0A k
    else ((s.tripCounted k).raise code k).domTo k (if latch then .latched else .retryWait) := by
  have count : ((s.tripCounted k).domCh k).trips = (s.domCh k).trips + 1 := by rw [State.tripCounted, State.onDomCh_domCh]
  rw [← count]
  simp only [State.domTrip, decide_eq_true_iff]
  rfl

/-- A trip that has a condition of its own acts in SOFT_START and ON. -/
theorem fires_domTripIf {c : Instr} {g : Prop} [Decidable g] {code : Nat} {latch : Bool}
    (h : exec c s = .next (if g then s.domTripIf k code latch else s)) :
    Fires c s (g ∧ ((s.domCh k).st = .softStart ∨ (s.domCh k).st = .on)) (s.domTrip k code latch) := by
  refine fires_ite (h.trans (congrArg _ ?_))
  rw [State.domTripIf, ite_and]

theorem domainOcTrip_outside (none_ : (s.domCh k).limSince = none) : Goes (.domainOcTrip k) s s := by
  refine congrArg Host.Outcome.next ?_
  simp only [none_]

/-- R284: the time in current limit has passed; the trip acts by the state that it finds. -/
theorem domainOcTrip_due {t : Nat} (since : (s.domCh k).limSince = some t) :
    let due := s.advanceTo (t + ms (s.fld Fld.Dom.OC_TRIP_MS k))
    ((s.domCh k).st = .softStart ∨ (s.domCh k).st = .on → Goes (.domainOcTrip k) s (due.domTrip k 0x0B03 false)) ∧
    ((s.domCh k).st ≠ .softStart → (s.domCh k).st ≠ .on → Goes (.domainOcTrip k) s due) := by
  intro due
  have acts : exec (.domainOcTrip k) s = .next (due.domTripIf k 0x0B03 false) := by
    refine congrArg Host.Outcome.next ?_
    simp only [since, due]
  exact ⟨fun here => acts.trans (congrArg _ (if_pos here)),
    fun start on => acts.trans (congrArg _ (if_neg (not_or.2 ⟨start, on⟩)))⟩

/-! ## The pre-start check (R273, R291) -/

section
variable {sws : List Nat} (here : (s.domCh k).st = .check)
include here

theorem domainCheckDone_shorted {p : Nat} (short : (s.advanceTo ((s.domCh k).tState + us 50)).shortPhase k sws = some p) :
    Goes (.domainCheckDone k sws) s
      ((((s.advanceTo ((s.domCh k).tState + us 50)).onDomCh k fun c => { c with cause := p }).raise 0x0B04 k).domTo k
        (if k.val = 0 then .retryWait else .latched)) := by
  refine congrArg Host.Outcome.next ((if_neg (not_not.2 here)).trans ?_)
  simp only [short]

variable (sound : (s.advanceTo ((s.domCh k).tState + us 50)).shortPhase k sws = none)
include sound

/-- With no phase shorted soft-start begins, and ends at once where no phase is healthy. -/
theorem domainCheckDone_starts : Goes (.domainCheckDone k sws) s
    (let t := s.advanceTo ((s.domCh k).tState + us 50)
     (t.softStart k).when (t.healthyPh k).isEmpty (State.domNoPhase k)) := by
  refine congrArg Host.Outcome.next ((if_neg (not_not.2 here)).trans ?_)
  simp only [sound]

theorem domainCheckDone_healthy (some_ : (s.advanceTo ((s.domCh k).tState + us 50)).healthyPh k ≠ []) :
    Goes (.domainCheckDone k sws) s ((s.advanceTo ((s.domCh k).tState + us 50)).softStart k) :=
  (domainCheckDone_starts here sound).trans (congrArg _ (if_neg (by simpa using some_)))

theorem domainCheckDone_unhealthy (none_ : (s.advanceTo ((s.domCh k).tState + us 50)).healthyPh k = []) :
    Goes (.domainCheckDone k sws) s (((s.advanceTo ((s.domCh k).tState + us 50)).softStart k).domNoPhase k) :=
  (domainCheckDone_starts here sound).trans (congrArg _ (if_pos (List.isEmpty_iff.2 none_)))

end

/-! ## Soft-start and the limits (R274, R281) -/

/-- Soft-start begins with no soft off waiting for it. -/
theorem State.softStart_undisturbed (due : (s.domCh k).offDue = false) : s.softStart k =
    (let target := 1000 * s.domTarget k
     let v := 1000 * (s.domV k).toNat
     let pre : Bool := 0 < v && v < target
     (s.onDomCh k fun c => { c with
       ref := { from_ := if pre then v else 0, goal := target, num := target, den := 10000 * s.fld Fld.Dom.SS_0P1MS k, t0 := s.now }
       preBias := pre, shed := 0 }).domTo k .softStart) :=
  if_neg (ne_true_of_eq_false due)

section
variable (relative : s.flag Fld.Dom.WIN_MODE k = false)
include relative

/-- In SOFT_START the over-voltage limit is judged against the ramp's final target. -/
theorem State.ovLimit_softStart (starts : (s.domCh k).st = .softStart) (below : s.domRef k ≤ (s.domCh k).ref.goal) :
    s.ovLimit k = (s.domCh k).ref.goal * (100 + s.fld Fld.Dom.OV_PCT k) / 100 := by
  simp [State.ovLimit, starts, relative, below]

/-- In ON, with the reference at its target, neither limit is widened. -/
theorem State.limits_on (on : (s.domCh k).st = .on) (rests : s.domRef k = (s.domCh k).ref.goal) :
    s.ovLimit k = (s.domCh k).ref.goal * (100 + s.fld Fld.Dom.OV_PCT k) / 100 ∧
      s.uvLimit k = (s.domCh k).ref.goal * (100 - s.fld Fld.Dom.UV_PCT k) / 100 :=
  ⟨by simp [State.ovLimit, on, relative, rests], by simp [State.uvLimit, relative, rests]⟩

end

/-- Settles O42: the trips by the count that they pass (`State.domTrip_eq`, `fires_domTripIf`, `domainOcTrip_due`), the check by
what it finds (`domainCheckDone_shorted`, `domainCheckDone_starts`), the limits by the state, and each of the others as a guarded
effect. -/
theorem domainStatesRun : Obligations.DomainStatesRun := by
  intro s k c counted trip
  have trip_eq (code : Nat) (latch : Bool) (t : State) : trip code latch t = t.domTrip k code latch :=
    (t.domTrip_eq k code latch).symm
  simp only [trip_eq]
  refine ⟨fires_ite rfl, fires_ite rfl, fun _ elsewhere => congrArg Host.Outcome.next (if_pos elsewhere),
    fun _ here => ⟨fun _ => domainCheckDone_shorted here, domainCheckDone_healthy here, domainCheckDone_unhealthy here⟩,
    State.softStart_undisturbed, fires_ite_not rfl not_not, fires_ite_not rfl not_not,
    fun _ _ => (fires_domTripIf rfl).congr and_assoc, fires_ite rfl, fun _ _ => Fires.congr ?uv (fires_ite rfl),
    fun _ _ => fires_ite rfl, fun on rests relative => State.limits_on relative on rests,
    fun starts below relative => State.ovLimit_softStart relative starts below, domainOcTrip_outside,
    fun _ => domainOcTrip_due, fires_ite rfl, fun other => if_neg (mt Fin.ext other), if_pos rfl, fires_ite rfl, fires_ite rfl⟩
  case uv => rw [Bool.not_eq_true']

end Sys2Proof.Machine
end

section
/-! SUPPORT. A domain's reference, its load release, its failed phases, the switching reference and the PWM periods; O43. -/

namespace Sys2Proof.Machine

variable {s : State} {k : Fin 16}

/-! ## Load release (R286) -/

theorem loadReleaseEnd_outside (none_ : (s.domCh k).lr = none) (m : Bool) : Goes (.loadReleaseEnd k m) s s := by
  refine congrArg Host.Outcome.next ?_
  simp only [none_]

section
variable {t : Nat} (since : (s.domCh k).lr = some t)
include since

theorem loadReleaseEnd_settles {m : Bool} (h : m = false ∨ s.fld Fld.Dom.LR_MODE k ≠ 1) :
    Goes (.loadReleaseEnd k m) s (s.onDomCh k fun c => { c with lr := none }) := by
  refine congrArg Host.Outcome.next ?_
  simp only [since]
  exact if_neg (by rcases h with rfl | h <;> simp [*])

theorem loadReleaseEnd_longest (brake : s.fld Fld.Dom.LR_MODE k = 1) : Goes (.loadReleaseEnd k true) s
    (((s.onDomCh k fun c => { c with lr := none }).advanceTo (t + us (s.fld Fld.Dom.LR_MAX_US k))).raise 0x0B0B k) := by
  refine congrArg Host.Outcome.next ?_
  simp only [since]
  exact if_pos (by simp [brake])

end

/-! ## A phase's failure (R289, R291) -/

/-- A phase has failed. -/
def State.phaseFailed (k ph : Nat) (s : State) : State :=
  (s.onDomCh k fun c => { c with failed := c.failed ||| 2 ^ ph, cause := ph }).raise 0x0B05 k

section
variable {ph : Fin 32}

theorem phaseFail_outside (off : (s.domCh k).running = false ∨ ph.val ∉ s.activePh k) : Goes (.phaseFail k ph) s s :=
  congrArg Host.Outcome.next (if_pos (by simpa using off))

variable (runs : (s.domCh k).running) (mem : ph.val ∈ s.activePh k)
include runs mem

theorem phaseFail_acts : Goes (.phaseFail k ph) s
    (if ((s.phaseFailed k ph).healthyPh k).isEmpty then (s.phaseFailed k ph).domNoPhase k else (s.phaseFailed k ph).shedFloor k) :=
  congrArg Host.Outcome.next (if_neg (by simp [runs, mem]))

theorem phaseFail_sheds (some_ : (s.phaseFailed k ph).healthyPh k ≠ []) :
    Goes (.phaseFail k ph) s ((s.phaseFailed k ph).shedFloor k) :=
  (phaseFail_acts runs mem).trans (congrArg _ (if_neg (by simpa using some_)))

theorem phaseFail_stops (none_ : (s.phaseFailed k ph).healthyPh k = []) :
    Goes (.phaseFail k ph) s ((s.phaseFailed k ph).domNoPhase k) :=
  (phaseFail_acts runs mem).trans (congrArg _ (if_pos (List.isEmpty_iff.2 none_)))

end

/-! ## The switching reference (R277) -/

theorem State.syncStep_lost (lost : s.dom.syncLost) : s.syncStep = s := if_pos (.inr (.inr lost))

section
variable {period : Nat} {stable : Bool}

theorem syncRelock_unsupplied (off : s.sys.vioPwm = false) : Goes (.syncRelock period stable) s s :=
  congrArg Host.Outcome.next (if_pos (by simp [off]))

theorem syncRelock_locks (on : s.sys.vioPwm) (steady : stable) (low : 50 ≤ period) (high : period ≤ 500) :
    Goes (.syncRelock period stable) s
      (s.syncStep.onDom fun d =>
        { d with
          syncLost := false, syncGoal := 100 * period, tSync := s.now
          syncPeriod := if d.syncPeriod = 0 then 10000000 / max 1 (s.fld Fld.Dom.REF_KHZ) else d.syncPeriod }) :=
  congrArg Host.Outcome.next ((if_neg (by simp [on])).trans (if_pos ⟨steady, low, high⟩))

theorem syncRelock_leaves (on : s.sys.vioPwm) (unfit : stable = false ∨ period < 50 ∨ 500 < period) :
    Goes (.syncRelock period stable) s (s.onDom fun d => { d with syncLost := false, syncPeriod := 0, syncGoal := 0 }) := by
  refine congrArg Host.Outcome.next ((if_neg (by simp [on])).trans (if_neg ?_))
  rintro ⟨steady, low, high⟩
  rcases unfit with unsteady | short | long
  · exact absurd steady (by simp [unsteady])
  · omega
  · omega

end

/-! ## A phase's PWM period (R275, R285, R286, R409) -/

/-- The pulse of an active phase: none through a brake, and otherwise the one that the compensator's new duty gives. -/
def State.phasePulse (k ph : Nat) (e : Int) (zero : Bool) (ocp : Option Nat) (s : State) : State :=
  if s.braking k then s.setPulse ph 0
  else
    let pre : Bool := (s.domCh k).preBias && s.domRef k ≤ 1000 * ((s.domV k).toNat + s.fld Fld.Dom.LR_THRESH_MV k)
    let de : Bool := zero && (s.domCh k).st ≠ .softStop && (s.flag Fld.Dom.DE_EN k || pre)
    let t := s.onDomCh k fun c => { s.compStep k e c with preBias := pre, de := setBitTo c.de ph de }
    let t := if (s.domCh k).limSince.isSome then t.drew else t
    t.setPulse ph (if t.truncating k then 0 else t.onTime k ph ocp)

section
variable {ph : Fin 32} {e : Int} {zero : Bool} {ocp : Option Nat}

theorem domainPwmPeriod_outside (off : ¬((s.domCh k).running ∧ ph.val ∈ s.activePh k)) :
    Goes (.domainPwmPeriod k ph e zero ocp) s s :=
  congrArg Host.Outcome.next (if_pos (by simpa [imp_iff_not_or] using off))

variable (on : (s.domCh k).running ∧ ph.val ∈ s.activePh k)
include on

/-- The trigger of the converters leaves which phases are active, so the domain's boundary is that of its lowest active phase. -/
theorem domainPwmPeriod_acts : Goes (.domainPwmPeriod k ph e zero ocp) s
    (let lowest : Bool := (s.activePh k).head? = some ph.val
     let t := s.adcTrigger ph
     let t := if lowest then ((t.limStep k).fswStep k).onDomCh k (DomCh.space (s.activePh k).length) else t
     let t := t.phasePulse k ph (max (-256) (min 256 e)) zero ocp
     if lowest then t.domBoundary k else t) :=
  congrArg Host.Outcome.next (if_neg (by simp [on.1, on.2]))

theorem domainPwmPeriod_higher (other : (s.activePh k).head? ≠ some ph.val) : Goes (.domainPwmPeriod k ph e zero ocp) s
    ((s.adcTrigger ph).phasePulse k ph (max (-256) (min 256 e)) zero ocp) := by
  have acts := domainPwmPeriod_acts (e := e) (zero := zero) (ocp := ocp) on
  simpa only [decide_eq_false other, Bool.false_eq_true, if_false] using acts

theorem domainPwmPeriod_lowest (lowest : (s.activePh k).head? = some ph.val) : Goes (.domainPwmPeriod k ph e zero ocp) s
    ((((((s.adcTrigger ph).limStep k).fswStep k).onDomCh k (DomCh.space (s.activePh k).length)).phasePulse k ph
      (max (-256) (min 256 e)) zero ocp).domBoundary k) := by
  have acts := domainPwmPeriod_acts (e := e) (zero := zero) (ocp := ocp) on
  simpa only [decide_eq_true lowest, if_true] using acts

end

end Sys2Proof.Machine
end

section
/-! SUPPORT. DOM_CONTROL by the channels of its selector and what it does at their boundary, and DOM_VOUT; O43. -/

namespace Sys2Proof.Machine

/-! ## DOM_CONTROL (R291, R299) -/

/-- A command that passes its check is told by what its act leaves from its acceptance. -/
theorem State.run_congr {s : State} {o : Origin} {op priv chk : Nat} {act act' : State → Res × State}
    (same : act (s.accepted o priv) = act' (s.accepted o priv)) : s.run o op priv chk act = s.run o op priv chk act' := by
  simp only [State.run, same]

theorem State.domRefuse_on (s : State) (k : Nat) : s.domRefuse 1 k =
    if k = 0 || (s.fld Fld.Dom.PHASES k ≠ 0 && (s.domCh k).st ≠ .latched && !s.ctrlDown) then st.ok else st.state :=
  refusal_of (by by_cases zero : k = 0 <;> simp [zero, Bool.or_assoc])

theorem State.domRefuse_else (s : State) {a : Nat} (h : a ≠ 1) (k : Nat) : s.domRefuse a k =
    if (if a = 4 then (s.domCh k).st = .retryWait || (s.domCh k).st = .latched else k ≠ 0) then st.ok else st.state := by
  refine refusal_of ?_
  by_cases clear : a = 4
  · simp [clear]
  · simp [h, clear]

/-- R291: D0 is always on: a command to turn it on has ended there. -/
def State.d0Done (s : State) : State :=
  s.judge (fun w => w.op = 0x0B01 && u w.own 0 1 = 1) fun _ k => if k = 0 then some st.ok else none

section
variable {s : State} {o : Origin} {p : List Byte}

theorem domControl_bad (admitted : s.admits o 0x0B01 1)
    (bad : p.length ≠ 4 ∨ s.sel 0x0B (u p 0 2) = none ∨ u p 2 1 = 0 ∨ 7 < u p 2 1 ∨ u p 3 1 ≠ 0) :
    Goes (.domControl o p) s (s.answer o 0x0B01 st.badParam []) := by
  refine congrArg Host.Outcome.next (State.run_answers admitted (param_bad (decide_eq_false ?_)) (by decide))
  rintro ⟨len, named, low, high, zero⟩
  rcases bad with h | h | h | h | h
  · exact h len
  · simp [h] at named
  · omega
  · omega
  · exact h zero

/-- An action waits for the domains' boundaries, unless it turns on what is on. -/
theorem domControl_selects {good : Prop} {can : Nat → Bool}
    (checks : (p.length = 4 ∧ (s.sel 0x0B (u p 0 2)).isSome ∧ 1 ≤ u p 2 1 ∧ u p 2 1 ≤ 7 ∧ u p 3 1 = 0) ↔
      good ∧ (s.sel 0x0B (u p 0 2)).isSome)
    (starts : u p 2 1 = 1 → ∀ sel, s.sel 0x0B (u p 0 2) = some sel → ∃ k ∈ maskBits 16 sel.mask, k ≠ 0 ∧ (s.domCh k).st ≠ .on)
    (refuses : ∀ k, s.domRefuse (u p 2 1) k = if can k then st.ok else st.state) :
    Selects (.domControl o p) s o 0x0B01 1 good (s.sel 0x0B (u p 0 2)) [byte (u p 2 1), 0] can State.d0Done := by
  cases named : s.sel 0x0B (u p 0 2) with
  | none => exact fun admitted => ⟨fun _ => domControl_bad admitted (.inr (.inl named)), fun _ none_ => nomatch none_⟩
  | some l =>
    rw [← named]
    refine selects (chk := fun t => t.domRefuse (u p 2 1)) (b := decide _)
      (act := fun t => Prod.map id State.d0Done
        (t.selWait o 0x0B01 ((s.sel 0x0B (u p 0 2)).getD ⟨0, 0⟩) [byte (u p 2 1), 0] (t.domRefuse (u p 2 1))))
      (congrArg Host.Outcome.next (State.run_congr (if_neg ?acts))) (decide_eq_true_iff.trans checks) (fun t => rfl) fun k => ?chk
    case acts =>
      intro at_
      simp only [named, Option.getD_some, Bool.and_eq_true, decide_eq_true_iff, List.all_eq_true, Bool.or_eq_true] at at_
      obtain ⟨k, mem, other, off⟩ := starts at_.1 l named
      rw [State.accepted_rest] at at_
      exact (at_.2 k mem).elim other off
    case chk =>
      rw [State.accepted_rest]
      exact refuses k

theorem domControl_others (other : 2 ≤ u p 2 1) :
    Selects (.domControl o p) s o 0x0B01 1 (p.length = 4 ∧ u p 2 1 ≤ 7 ∧ u p 3 1 = 0) (s.sel 0x0B (u p 0 2)) [byte (u p 2 1), 0]
      (fun k => if u p 2 1 = 4 then (s.domCh k).st = .retryWait || (s.domCh k).st = .latched else k ≠ 0) State.d0Done := by
  have low : 1 ≤ u p 2 1 := by omega
  exact domControl_selects (by tauto) (fun on => by omega) (s.domRefuse_else (by omega))

theorem domControl_on (on : u p 2 1 = 1)
    (starts : ∀ sel, s.sel 0x0B (u p 0 2) = some sel → ∃ k ∈ maskBits 16 sel.mask, k ≠ 0 ∧ (s.domCh k).st ≠ .on) :
    Selects (.domControl o p) s o 0x0B01 1 (p.length = 4 ∧ u p 3 1 = 0) (s.sel 0x0B (u p 0 2)) [1, 0]
      (fun k => k = 0 || (s.fld Fld.Dom.PHASES k ≠ 0 && (s.domCh k).st ≠ .latched && !s.ctrlDown)) State.d0Done := by
  have own : [byte (u p 2 1), 0] = [1, 0] := by rw [on]; rfl
  have low : 1 ≤ u p 2 1 := on.ge
  have high : u p 2 1 ≤ 7 := by omega
  rw [← own]
  refine domControl_selects (by tauto) (fun _ => starts) fun k => ?_
  rw [on]
  exact s.domRefuse_on k

theorem domControl_standing {sel : Sel} (named : s.sel 0x0B (u p 0 2) = some sel) (admitted : s.admits o 0x0B01 1)
    (len : p.length = 4) (on : u p 2 1 = 1) (zero : u p 3 1 = 0)
    (stands : ∀ k ∈ maskBits 16 sel.mask, k = 0 ∨ (s.domCh k).st = .on) :
    Replies (.domControl o p) s (s.accepted o 1) o 0x0B01 st.ok [] := by
  refine congrArg Host.Outcome.next (State.run_done admitted (param_ok (decide_eq_true ?fits)) (if_pos ?acts) (by decide))
  case fits => simp [named, len, on, zero]
  case acts =>
    simpa [named, on, State.domCh] using stands

end

/-! ## What DOM_CONTROL does at a boundary (R299) -/

section
variable {s : State} {k : Fin 16} {own : List Byte} {a : Nat}

theorem State.domAct_takes (asks : u own 0 1 = a) (lets : s.domRefuse a k = st.ok) : s.domAct k own =
    if a = 1 then (st.ok, s.onDomCh k fun c => { c with enable := true })
    else if a = 2 then (st.ok, s.domOff k true)
    else if a = 3 then (st.ok, s.domOff k false)
    else if a = 4 then (st.ok, s.domClear k)
    else (st.ok, (s.onDomCh k fun c => { c with margin := a - 5 }).domRetarget k 0) := by
  subst asks
  exact if_neg (not_not.2 lets)

theorem State.domAct_on (phases : s.fld Fld.Dom.PHASES k ≠ 0) (free : (s.domCh k).st ≠ .latched) (up : s.ctrlDown = false)
    (asks : u own 0 1 = 1) : s.domAct k own = (st.ok, s.onDomCh k fun c => { c with enable := true }) := by
  rw [State.domAct_takes asks (by simp [State.domRefuse_on, phases, free, up])]
  rfl

theorem State.domAct_clear (latched : (s.domCh k).st = .latched) (asks : u own 0 1 = 4) : s.domAct k own = (st.ok,
    ((s.onDomCh k fun c => { c with enable := decide (k.val = 0), failed := 0, trips := 0 }).domTo k .off).settleCh 0x0B k) := by
  rw [State.domAct_takes asks (by simp [State.domRefuse_else, latched])]
  rfl

section
variable (other : k ≠ 0)
include other

/-- Of the actions that turn nothing on and clear nothing, only D0 refuses any. -/
theorem State.domRefuse_other (on : a ≠ 1) (clear : a ≠ 4) : s.domRefuse a k = st.ok := by
  have index : k.val ≠ 0 := fun zero => other (Fin.ext zero)
  simp [State.domRefuse_else s on, clear, index]

theorem State.domAct_soft (asks : u own 0 1 = 2) :
    s.domAct k own = (st.ok, (s.onDomCh k fun c => { c with enable := false }).softOff k) := by
  rw [State.domAct_takes asks (State.domRefuse_other other (by decide) (by decide))]
  rfl

theorem State.domAct_hard (on : (s.domCh k).st = .on) (asks : u own 0 1 = 3) :
    s.domAct k own = (st.ok, (s.onDomCh k fun c => { c with enable := false }).domTo k .off) := by
  rw [State.domAct_takes asks (State.domRefuse_other other (by decide) (by decide))]
  simp [State.domOff, on]

theorem State.domAct_margin (low : 5 ≤ u own 0 1) (high : u own 0 1 ≤ 7) : s.domAct k own =
    (st.ok, (s.onDomCh k fun c => { c with margin := u own 0 1 - 5 }).domRetarget k 0) := by
  rw [State.domAct_takes rfl (State.domRefuse_other other (by omega) (by omega)), if_neg (by omega), if_neg (by omega),
    if_neg (by omega), if_neg (by omega)]

end

end

/-! ## DOM_VOUT (R298, R300) -/

section
variable {s : State} {o : Origin} {p : List Byte} (admitted : s.admits o 0x0B02 1)
include admitted

theorem domVout_unnamed (none_ : s.sel 0x0B (u p 0 2) = none) : Goes (.domVout o p) s (s.answer o 0x0B02 st.badParam []) :=
  congrArg Host.Outcome.next (State.run_answers admitted (param_bad (decide_eq_false fun ⟨_, named, _⟩ => by
    simp [none_] at named)) (by decide))

/-- The command, on the domains that its selector picks. -/
theorem domVout_named {sel : Sel} (named : s.sel 0x0B (u p 0 2) = some sel) :
    let fits : Prop := p.length = 12 ∧ u p 2 2 = 0 ∧ u p 10 2 = 0 ∧ (u p 8 2 = 0 ∨ (5 ≤ u p 8 2 ∧ u p 8 2 ≤ 2000)) ∧
      ∀ k ∈ maskBits 16 sel.mask,
        s.onRange k (u p 4 4) ∧ Fld.Dom.MARGIN_LOW_MV.getRaw (s.copy .dom0 k).easel ≤ u p 4 4 ∧
          u p 4 4 ≤ Fld.Dom.MARGIN_HIGH_MV.getRaw (s.copy .dom0 k).easel
    let t := (s.accepted o 1).writeVout (u p 4 4) (maskBits 16 sel.mask)
    (¬fits → Goes (.domVout o p) s (s.answer o 0x0B02 st.badParam [])) ∧
    (fits → maskBits 32 sel.mask ≠ [] → Waits (.domVout o p) s t o 0x0B02 (maskOf (maskBits 32 sel.mask)) 0
      ([byte sel.mode, 0] ++ zeros 4 ++ (toLE 4 (u p 4 4) ++ toLE 2 (u p 8 2) ++ [0]))) ∧
    (fits → maskBits 32 sel.mask = [] → Replies (.domVout o p) s t o 0x0B02 st.ok []) := by
  intro fits t
  have runs : exec (.domVout o p) s = .next (s.run o 0x0B02 1 (param (decide fits)) fun r =>
      (r.writeVout (u p 4 4) (maskBits 16 sel.mask)).selWait o 0x0B02 sel (toLE 4 (u p 4 4) ++ toLE 2 (u p 8 2) ++ [0])
        fun _ => st.ok) := by
    show execDomVout o p s = _
    have check : (p.length = 12 ∧ u p 2 2 = 0 ∧ u p 10 2 = 0 ∧ ((maskBits 16 sel.mask).all fun k => s.voutFits k (u p 4 4)) = true ∧
        (u p 8 2 = 0 ∨ (5 ≤ u p 8 2 ∧ u p 8 2 ≤ 2000))) ↔ fits := by
      simp only [List.all_eq_true, State.voutFits, Bool.and_eq_true, decide_eq_true_iff, and_assoc, fits]
      tauto
    simp only [execDomVout, named, Option.isSome_some, Option.getD_some, true_and, check]
  have acts := State.selWait_eq (s := t) (o := o) (op := 0x0B02) (sel := sel)
    (own := toLE 4 (u p 4 4) ++ toLE 2 (u p 8 2) ++ [0]) (chk := fun _ => st.ok) (can := fun _ => true) fun _ => rfl
  refine ⟨fun no => runs.trans ?bad, fun yes picks => runs.trans ?waits, fun yes nobody => runs.trans ?nobody⟩
  case bad => exact congrArg Host.Outcome.next (State.run_answers admitted (param_bad (decide_eq_false no)) (by decide))
  case waits =>
    obtain ⟨k, mem⟩ := List.exists_mem_of_ne_nil _ picks
    have some_ : (maskBits 32 sel.mask).any (fun _ => true) = true := List.any_eq_true.2 ⟨k, mem, rfl⟩
    refine congrArg Host.Outcome.next
      (State.run_waits admitted (param_ok (decide_eq_true yes)) ((acts.trans (if_pos some_)).trans ?_))
    simp only [Bool.not_true, List.filter_true, List.filter_false]
    rfl
  case nobody =>
    refine congrArg Host.Outcome.next (State.run_done admitted (param_ok (decide_eq_true yes)) (acts.trans ?_) (by decide))
    rw [nobody]
    rfl

end

/-- Settles O43: the rest of a domain's events where each acts, the PWM period by whether its phase is the lowest active one
(`domainPwmPeriod_acts`), DOM_CONTROL by its domains' checks (`domControl_selects`, `State.domAct_takes`), and DOM_VOUT by its
fit (`domVout_named`). -/
theorem domainRegulationRuns : Obligations.DomainRegulationRuns := by
  intro s k o p
  refine ⟨fires_ite rfl, fires_ite rfl, fun m none_ => loadReleaseEnd_outside none_ m,
    fun _ _ since => loadReleaseEnd_settles since, fun _ since => loadReleaseEnd_longest since,
    fun ph => ⟨phaseFail_outside, phaseFail_sheds, phaseFail_stops⟩, Fires.congr ?sync (fires_ite rfl), State.syncStep_lost,
    fun _ _ => ⟨syncRelock_unsupplied, syncRelock_locks, syncRelock_leaves⟩,
    fun ph e zero ocp => ⟨domainPwmPeriod_outside, domainPwmPeriod_higher, domainPwmPeriod_lowest⟩, domControl_bad,
    domControl_others, domControl_on, fun _ => domControl_standing, fun own => ⟨fun _ => State.domAct_on, State.domAct_soft,
      State.domAct_hard, State.domAct_margin, State.domAct_clear⟩,
    fun admitted => ⟨domVout_unnamed admitted, fun _ => domVout_named admitted⟩⟩
  case sync => rw [Bool.not_eq_true']

end Sys2Proof.Machine
end

section
/-! SUPPORT. A feed port's trips, its window and its way out of SHED; O44. -/

namespace Sys2Proof.Machine

variable {s : State} {n : Fin 24}

/-! ## Trips (R312) -/

/-- A trip counts. -/
def State.portCounted (n : Nat) (s : State) : State := s.onPortCh n fun c => { c with trips := c.trips + 1 }

/-- A port latches once the count with this trip is past RETRIES; until then its retry interval doubles with each trip. -/
theorem State.portTrip_eq (s : State) (n code : Nat) : s.portTrip n code =
    (let r := (s.portCounted n).raise code n
     (if r.fld Fld.Feed.RETRIES n < (s.portCh n).trips + 1 then (r.portTo n .latched).raise 0x0C06 n
      else (r.onPortCh n fun c => { c with retryAt := r.now + sec (min 64 (2 ^ (s.portCh n).trips)) }).portTo n
        .retryWait).portSave) := by
  have count : ((s.portCounted n).portCh n).trips = (s.portCh n).trips + 1 := by rw [State.portCounted, State.onPortCh_portCh]
  have before : (s.portCh n).trips = ((s.portCounted n).portCh n).trips - 1 := by rw [count, Nat.add_sub_cancel]
  rw [← count, before]
  rfl

/-! ## The window (R307) -/

/-- The bus is inside the port's window, or outside it. -/
def State.portSeen (n : Nat) (inside : Bool) (s : State) : State :=
  s.onPortCh n fun c => { c with inWin := inside, uvSince := none }

theorem State.portSeen_st (n : Nat) (inside : Bool) (s : State) : ((s.portSeen n inside).portCh n).st = (s.portCh n).st := by
  rw [State.portSeen, State.onPortCh_portCh]

theorem portWindowEnter_inserts (waits : (s.portCh n).st = .wait) (up : s.ctrlDown = false) :
    Goes (.portWindowEnter n) s ((s.portSeen n true).portTo n .delay) := by
  have free : (!(s.portSeen n true).ctrlDown) = true := congrArg (!·) up
  exact congrArg Host.Outcome.next (if_pos ⟨(s.portSeen_st n true).trans waits, free⟩)

theorem portWindowEnter_rests (barred : (s.portCh n).st ≠ .wait ∨ s.ctrlDown) :
    Goes (.portWindowEnter n) s (s.portSeen n true) := by
  refine congrArg Host.Outcome.next (if_neg ?_)
  rintro ⟨waits, free⟩
  have up : (!s.ctrlDown) = true := free
  rcases barred with other | down
  · exact other ((s.portSeen_st n true).symm.trans waits)
  · simp [down] at up

/-- What the port's state makes of the bus leaving its window. -/
theorem State.portExit_eq (s : State) (n : Nat) : s.portExit n =
    if (s.portCh n).running then ((s.portSeen n false).raise 0x0C05 n).portTo n .wait
    else if (s.portCh n).st = .delay ∨ (s.portCh n).st = .check then (s.portSeen n false).portTo n .wait
    else s.portSeen n false := by
  cases st : (s.portCh n).st <;> simp [State.portExit, State.portSeen, PortCh.running, st]

theorem portWindowExit_runs (runs : (s.portCh n).running) :
    Goes (.portWindowExit n) s (((s.portSeen n false).raise 0x0C05 n).portTo n .wait) :=
  congrArg Host.Outcome.next ((s.portExit_eq n).trans (if_pos runs))

theorem portWindowExit_starting (h : (s.portCh n).st = .delay ∨ (s.portCh n).st = .check) :
    Goes (.portWindowExit n) s ((s.portSeen n false).portTo n .wait) := by
  have stopped : ¬(s.portCh n).running := by rcases h with h | h <;> simp [PortCh.running, h]
  exact congrArg Host.Outcome.next ((s.portExit_eq n).trans ((if_neg stopped).trans (if_pos h)))

theorem portWindowExit_rests (h : (s.portCh n).st ∈ [PState.absent, .off, .wait, .shed, .retryWait, .latched]) :
    Goes (.portWindowExit n) s (s.portSeen n false) := by
  refine congrArg Host.Outcome.next ((s.portExit_eq n).trans ?_)
  simp only [List.mem_cons, List.not_mem_nil, or_false] at h
  rcases h with h | h | h | h | h | h <;> simp [PortCh.running, h]

/-! ## The way out of SHED (R315) -/

theorem portUnshed_none (none_ : s.feed.unshed = []) : Goes .portUnshed s s := by
  refine congrArg Host.Outcome.next ?_
  simp only [none_]

theorem portUnshed_next {m : Nat} {rest : List Nat} (queued : s.feed.unshed = m :: rest) : Goes .portUnshed s
    (let s := s.advanceTo (s.feed.tUnshed + ms 1)
     let s := s.onFeed fun f => { f with unshed := rest, tUnshed := s.now }
     if (s.portCh m).st = .shed then (s.raise 0x0C0A m).portTo m .wait else s) := by
  refine congrArg Host.Outcome.next ?_
  simp only [queued]

end Sys2Proof.Machine
end

section
/-! SUPPORT. PORT_CONTROL by the channels of its selector and what it does at their metering slot; O44. -/

namespace Sys2Proof.Machine

/-! ## PORT_CONTROL (R321, R441) -/

theorem State.portRefuse_eq (s : State) (a k : Nat) : s.portRefuse a k =
    if (s.portCh k).st ≠ .absent &&
      (if a = 1 then
        !((s.portCh k).st = .latched || (s.portCh k).st = .retryWait || s.portShed k || (s.portCh k).st = .shed || s.ctrlDown)
       else a ≠ 3 || (s.portCh k).st = .retryWait || (s.portCh k).st = .latched)
    then st.ok else st.state := by
  refine refusal_of ?_
  by_cases one : a = 1
  · simp [one]
  · by_cases three : a = 3
    · simp [three]
    · simp [one, three]

theorem portControl_selects (s : State) (o : Origin) (p : List Byte) :
    Selects (.portControl o p) s o 0x0C01 1 (p.length = 4 ∧ 1 ≤ u p 2 1 ∧ u p 2 1 ≤ 4 ∧ u p 3 1 = 0) (s.sel 0x0C (u p 0 2))
      [byte (u p 2 1)]
      (fun k => (s.portCh k).st ≠ .absent &&
        (if u p 2 1 = 1 then
          !((s.portCh k).st = .latched || (s.portCh k).st = .retryWait || s.portShed k || (s.portCh k).st = .shed || s.ctrlDown)
         else u p 2 1 ≠ 3 || (s.portCh k).st = .retryWait || (s.portCh k).st = .latched)) := by
  refine selects (chk := fun t => t.portRefuse (u p 2 1)) rfl (by simp only [decide_eq_true_iff]; tauto) (fun t => rfl)
    fun k => ?_
  rw [State.accepted_rest]
  exact s.portRefuse_eq (u p 2 1) k

/-! ## At a metering slot (R321) -/

section
variable {s : State} {n : Fin 24} {own : List Byte} {a : Nat}

theorem State.portAct_takes (asks : u own 0 1 = a) (lets : s.portRefuse a n = st.ok) : s.portAct n own =
    if a = 1 then (st.ok, s.portOn n)
    else if a = 2 then (st.ok, s.portOff n)
    else if a = 3 then (st.ok, s.portClear n)
    else (st.ok, s.onPortCh n fun c => { c with energy := 0 }) := by
  subst asks
  exact if_neg (not_not.2 lets)

theorem State.portAct_on (off : (s.portCh n).st = .off) (allowed : s.portShed n = false) (up : s.ctrlDown = false)
    (asks : u own 0 1 = 1) :
    s.portAct n own = (st.ok, (s.onPortCh n fun c => { c with enable := true }).portTo n .wait) := by
  rw [State.portAct_takes asks (by simp [State.portRefuse_eq, off, allowed, up])]
  simp [State.portOn, off]

theorem State.portAct_off (on : (s.portCh n).st = .on) (asks : u own 0 1 = 2) :
    s.portAct n own = (st.ok, (s.onPortCh n fun c => { c with enable := false }).portTo n .off) := by
  rw [State.portAct_takes asks (by simp [State.portRefuse_eq, on])]
  simp [State.portOff, on]

theorem State.portAct_energy (on : (s.portCh n).st = .on) (asks : u own 0 1 = 4) :
    s.portAct n own = (st.ok, s.onPortCh n fun c => { c with energy := 0 }) := by
  rw [State.portAct_takes asks (by simp [State.portRefuse_eq, on])]
  rfl

theorem State.portAct_clear (latched : (s.portCh n).st = .latched) (asks : u own 0 1 = 3) : s.portAct n own = (st.ok,
    (((s.onPortCh n fun c => { c with trips := 0, enable := false, restored := false }).portTo n .off).settleCh 0x0C
      n).portSave) := by
  rw [State.portAct_takes asks (by simp [State.portRefuse_eq, latched])]
  rfl

end

/-- Settles O44: the metering slot by whether the port is there, the window by the state that it finds
(`portWindowEnter_inserts`, `State.portExit_eq`), the trips by the count that they pass (`State.portTrip_eq`), PORT_CONTROL by its
ports' checks (`portControl_selects`, `State.portAct_takes`), and each of the others as a guarded effect. -/
theorem portEventsRun : Obligations.PortEventsRun := by
  intro s n o p
  refine ⟨⟨fun absent => ?absent, fun there => ?there⟩, ⟨portWindowEnter_inserts, portWindowEnter_rests⟩,
    ⟨portWindowExit_runs, portWindowExit_starting, portWindowExit_rests⟩, fires_ite rfl, fun _ => fires_ite rfl,
    fun _ => fires_ite rfl, fun _ => fires_ite rfl, ?trips, fun _ _ => fires_ite rfl, fires_ite rfl, fires_ite rfl,
    portUnshed_none, fun _ _ => portUnshed_next, portControl_selects s o p,
    fun own => ⟨State.portAct_on, State.portAct_off, State.portAct_energy, State.portAct_clear⟩⟩
  case absent => exact congrArg Host.Outcome.next (if_pos absent)
  case there => exact congrArg Host.Outcome.next (if_neg there)
  case trips =>
    intro counted trip
    have trip_eq (code : Nat) (t : State) : trip code t = t.portTrip n code := (t.portTrip_eq n code).symm
    simp only [trip_eq]
    exact ⟨fires_ite rfl, fun _ => fires_ite rfl⟩

end Sys2Proof.Machine
end

section
/-! SUPPORT. The ports and periods of the link, the election, and ENUMERATE; O45. -/

namespace Sys2Proof.Machine

variable {s : State}

/-! ## ENUMERATE (R331, R352) -/

/-- A command that ends at once with OK where its checks of parameters and of state are passed. -/
theorem ends_checked {o : Origin} {op priv : Nat} {act : State → Res × State} {c : Instr} {t : State} {d : List Byte}
    {b k : Bool} {good able : Prop} (run : exec c s = .next (s.run o op priv (paramState b k) act))
    (ends : act (s.accepted o priv) = (.done st.ok d, t)) (hb : b = true ↔ good) (hk : k = true ↔ able)
    (h : s.admits o op priv) :
    (¬good → Goes c s (s.answer o op st.badParam [])) ∧ (good → ¬able → Goes c s (s.answer o op st.state [])) ∧
      (good → able → Replies c s t o op st.ok d) := by
  refine ⟨fun bad => ?_, fun g no => ?_, fun g can => ?_⟩
  · exact run.trans (congrArg _ (State.run_answers h (paramState_bad k (Bool.eq_false_iff.2 (mt hb.1 bad))) (by decide)))
  · exact run.trans
      (congrArg _ (State.run_answers h (paramState_state (hb.2 g) (Bool.eq_false_iff.2 (mt hk.1 no))) (by decide)))
  · exact run.trans (congrArg _ (State.run_done h (paramState_ok (hb.2 g) (hk.2 can)) ends (by decide)))

theorem enumerate_checked {o : Origin} {q : List Byte} (admitted : s.admits o 0x0D03 2) :
    let good : Prop := q.length = 2 ∧ (u q 0 1 = 1 ∨ u q 0 1 = 2) ∧ u q 1 1 = 0 ∧ o.fanned = false
    let able : Prop := s.flag Fld.Link.LINK_EN ∧ s.link.claimed = false ∧ s.link.best = none
    (¬good → Goes (.enumerate o q) s (s.answer o 0x0D03 st.badParam [])) ∧
    (good → ¬able → Goes (.enumerate o q) s (s.answer o 0x0D03 st.state [])) ∧
    (good → able → Replies (.enumerate o q) s ((s.accepted o 2).enumerate (u q 0 1 = 1)) o 0x0D03 st.ok []) :=
  ends_checked rfl rfl (by simp [and_assoc]) (by simp [and_assoc]) admitted

/-- The address that a node takes in a visit of which it is all. -/
theorem visitAll_alone (keep : Bool) (v : Visit) :
    visitAll keep [v] = [(if v.pin ≠ 0 then v.pin else if keep ∧ v.addr ≠ 0 then v.addr else 1, false)] := by
  have first : freeAddr [] = 1 := rfl
  by_cases pin : v.pin = 0
  · cases keep with
    | false => simp [visitAll, visitAddr, pin, first]
    | true => by_cases addr : v.addr = 0 <;> simp [visitAll, visitAddr, pin, addr, first]
  · simp [visitAll, visitAddr, pin]

theorem State.enumerate_alone (alone : s.link.usedPorts = []) (keep : Bool) : s.enumerate keep =
    (let a :=
      if s.fld Fld.Link.PIN_ADDR ≠ 0 then s.fld Fld.Link.PIN_ADDR
      else if keep ∧ s.link.nodeAddr ≠ 0 then s.link.nodeAddr else 1
     (s.onLink fun l =>
       { l with
         nodeAddr := a, ring := false
         table := [{ addr := a, depth := 0, parent := 0
                     flags := Sys2Proof.bitsOf [decide (a = s.link.rootAddr ∧ a ≠ 0), s.flag Fld.Link.ROOT_CAPABLE,
                       decide (s.fld Fld.Link.PIN_ADDR ≠ 0), decide (s.link.gen = 2), s.sys.root] }] }).drew) := by
  have visited : s.visits = ([s.ownVisit 0], 0) := if_pos (List.isEmpty_iff.2 alone)
  have noRing : (!s.link.usedPorts.isEmpty && Config.ring s.free) = false := by rw [alone]; rfl
  simp only [State.enumerate, visited, visitAll_alone, noRing]
  rfl

/-! ## A port comes up and goes down (R327, R328, R347) -/

section
variable {p : Fin 3} {n : Nat}

theorem linkPortUp_stays (h : n < 1024 ∨ (s.linkPort p).line ≠ .training ∨ (s.linkPort p).peer = none) :
    Goes (.linkPortUp p n) s s := by
  refine congrArg Host.Outcome.next ?_
  by_cases few : n < 1024
  · exact if_pos few
  refine (if_neg few).trans ?_
  split
  next training peer => simp [few, training, peer] at h
  next => rfl

/-- A port comes up: at a used pairing or not, and with the plant held at generation 1 where the port trained at it. -/
theorem linkPortUp_up {x y : Nat} (locked : 1024 ≤ n) (training : (s.linkPort p).line = .training)
    (peer : (s.linkPort p).peer = some (x, y)) :
    let use_ := s.useOf p x
    let r := s.onPort p fun c => { c with line := if c.gen1 then .up1 else .up2, use := use_, tUp := s.now }
    let r := if use_ = .unused then r.raise 0x0D07 else r
    let r := if (s.linkPort p).gen1 ∧ r.link.gen ≠ 1 then ((r.flood 6 0 0).retrain (· = p.val)).raise 0x0D0A else r
    Goes (.linkPortUp p n) s (if r.link.role = 2 then r.flood 5 0 (claimValue r.ownClaim) else r) := by
  refine congrArg Host.Outcome.next ((if_neg (Nat.not_lt.2 locked)).trans ?_)
  rw [training, peer]

theorem linkPortDown_fires (quiet errs : Nat) : Fires (.linkPortDown p quiet errs) s
    (((s.linkPort p).line = .up1 ∨ (s.linkPort p).line = .up2) ∧ (2000 ≤ quiet ∨ 16 < errs))
    (let r := (s.onPort p fun _ => s.trainPort).raise 0x0D01
     let r := r.onLink fun l => { l with flight := l.flight.map fun f => (f.1, f.2.1, false) }
     if (s.linkPort p).used then (r.flood 4 0 p.val).wrap else r) :=
  fires_ite_not rfl (not_or.trans (and_congr (by tauto) (by omega)))

end

/-! ## A missed period (R347) -/

/-- A missed period is counted, and the election is due. -/
def State.periodMissed (s : State) : State := s.onLink fun l =>
  { l with missNow := false, electDue := true, missed := satAdd 0xFFFFFFFF l.missed 1, missedRun := s.link.missedRun + 1 }

/-- What a missed period does, by the run of missed periods before it. -/
theorem sharePeriodMissed_counts (missed : s.link.missNow) : Goes .sharePeriodMissed s
    (if s.link.everSeen = false then s.periodMissed
     else if s.link.missedRun = 0 then
       (s.periodMissed.onLink fun l => { l with capping := if l.capping = 0 then 3 else l.capping }).raise 0x0D03
     else if s.link.missedRun = 2 then
       ((s.periodMissed.onLink fun l => { l with capping := 2, heldDec := [] }).toRole
         (if s.link.usedPorts.isEmpty then 0 else 1)).raise 0x0D04
     else s.periodMissed) := by
  refine congrArg Host.Outcome.next ((if_neg (by simp [missed])).trans ?_)
  refine if_congr (by simp) rfl (if_congr (by simp) rfl (if_congr ?_ rfl rfl))
  omega

theorem sharePeriodMissed_runs (missed : s.link.missNow) :
    (s.link.everSeen = false → Goes .sharePeriodMissed s s.periodMissed) ∧
    (s.link.everSeen → s.link.missedRun = 0 → Goes .sharePeriodMissed s
      ((s.periodMissed.onLink fun l => { l with capping := if l.capping = 0 then 3 else l.capping }).raise 0x0D03)) ∧
    (s.link.everSeen → s.link.missedRun = 2 → Goes .sharePeriodMissed s
      (((s.periodMissed.onLink fun l => { l with capping := 2, heldDec := [] }).toRole
        (if s.link.usedPorts.isEmpty then 0 else 1)).raise 0x0D04)) ∧
    (s.link.everSeen → s.link.missedRun ≠ 0 → s.link.missedRun ≠ 2 → Goes .sharePeriodMissed s s.periodMissed) := by
  have counts := sharePeriodMissed_counts missed
  refine ⟨fun never => ?_, fun seen first => ?_, fun seen third => ?_, fun seen later other => ?_⟩
  · rwa [if_pos never] at counts
  · rwa [if_neg (by simp [seen]), if_pos first] at counts
  · rwa [if_neg (by simp [seen]), if_neg (by omega), if_pos third] at counts
  · rwa [if_neg (by simp [seen]), if_neg later, if_neg other] at counts

/-! ## The election (R332) -/

/-- The election of this share tick has run. -/
def State.elected (s : State) : State := s.onLink fun l => { l with electDue := false }

/-- What an election does, by whether the node is eligible and has claimed. -/
theorem rootElection_runs (due : s.link.electDue) :
    (s.elected.eligible = false → Goes .rootElection s s.elected) ∧
    (s.elected.eligible → s.elected.link.claimed → Goes .rootElection s
      (if s.elected.link.best = some s.elected.ownClaim then s.elected.becomeRoot else s.elected)) ∧
    (s.elected.eligible → s.elected.link.claimed = false → Goes .rootElection s
      ((s.elected.onLink fun l =>
        { l with
          claimed := true
          best := some (match s.elected.link.best with
            | some b => if claimGe s.elected.ownClaim b then s.elected.ownClaim else b
            | none => s.elected.ownClaim) }).flood 5 0 (claimValue s.elected.ownClaim))) := by
  have runs : ¬(!s.link.electDue) = true := by simp [due]
  have allows (able : s.elected.eligible) : ¬(!s.elected.eligible) = true := by simp [able]
  exact ⟨fun barred => congrArg Host.Outcome.next ((if_neg runs).trans (if_pos (congrArg (!·) barred))),
    fun able claimed => congrArg Host.Outcome.next
      ((if_neg runs).trans ((if_neg (allows able)).trans (if_pos claimed))),
    fun able first => congrArg Host.Outcome.next
      ((if_neg runs).trans ((if_neg (allows able)).trans (if_neg (ne_true_of_eq_false first))))⟩

/-- Settles O45: ENUMERATE by its checks and by a node that is alone (`State.enumerate_alone`), a missed period by the run that
it ends (`sharePeriodMissed_runs`), the election by what the node has claimed, and the ports' events as guarded effects. -/
theorem linkEventsRun : Obligations.LinkEventsRun := by
  intro s p
  exact ⟨fun _ _ => enumerate_checked, State.enumerate_alone, fires_ite_not rfl not_not, fun _ => linkPortUp_stays,
    fun _ _ _ => linkPortUp_up, linkPortDown_fires, fun on_time => congrArg Host.Outcome.next (if_pos (by simp [on_time])),
    sharePeriodMissed_runs, fun none_due => congrArg Host.Outcome.next (if_pos (by simp [none_due])), rootElection_runs,
    fires_ite rfl⟩

end Sys2Proof.Machine
end

section
/-! SUPPORT. Share frames on their way to the leaves and back, at a node and at the root; O46. -/

namespace Sys2Proof.Machine

/-! ## What sending leaves -/

/-- Sending adds to the link's output and changes nothing else. -/
theorem State.sendOn_rest (s : State) (g : Nat → LinkPort → Bool) (f : List Byte) :
    s.sendOn g f = s.onLink fun l => { l with out := (s.sendOn g f).link.out } := by
  unfold State.sendOn
  split <;> rfl

/-! ## The branches of a share frame (R330, R335) -/

/-- With the branch on port `p` back, the frame is whole where every other branch was. -/
theorem Link.whole_branch_iff (l : Link) (p : Nat) (f : Option ShareFig) :
    l.whole (l.branch p f) ↔ ∀ q ∈ l.awayPorts, q = p ∨ ∃ z ∈ l.merge, z.1 = q := by
  simp only [Link.whole, Link.branch, List.all_eq_true, List.any_eq_true, decide_eq_true_iff, List.mem_cons, List.mem_filter]
  refine forall₂_congr fun q _ => ⟨?_, ?_⟩
  · rintro ⟨z, rfl | ⟨mem, -⟩, rfl⟩
    · exact .inl rfl
    · exact .inr ⟨z, mem, rfl⟩
  · rintro (rfl | ⟨z, mem, rfl⟩)
    · exact ⟨(q, f), .inl rfl, rfl⟩
    · by_cases same : z.1 = p
      · exact ⟨(p, f), .inl rfl, same.symm⟩
      · exact ⟨z, .inr ⟨mem, same⟩, rfl⟩

/-- A leaf returns the frame with its own figures, and a void one void. -/
theorem State.shareReturn_leaf (s : State) (p seq time : Nat) (x : ShareFig) :
    let t := s.onLink fun l => { l with outSeq := none, merge := [] }
    let frame (y : ShareFig) : List Byte := frameOf sofShare (shareBytes seq (y.add s.link.fig) time)
    s.shareReturn seq time [(p, some x)] = t.sendOn (fun _ y => y.use = .toRoot) (frame (ShareFig.zero.add x)) ∧
      s.shareReturn seq time [(p, none)] = t.sendOn (fun _ y => y.use = .toRoot) (voidFrame (frame ShareFig.zero)) :=
  ⟨rfl, rfl⟩

/-! ## At a port (R330, R333, R335) -/

section
variable {s : State} {p : Fin 3} {t : Nat} {f : List Byte}

theorem shareFrame_closed (h : ¬s.flag Fld.Link.LINK_EN ∨ (s.linkPort p).line = .down ∨ (s.linkPort p).line = .training ∨
    (s.linkPort p).use = .unused) : Goes (.shareFrame p t f) s s := by
  refine congrArg Host.Outcome.next (if_pos ?_)
  rcases h with off | down | training | unused
  · exact .inl (by simp [off])
  · exact .inr (.inl (by simp [down]))
  · exact .inr (.inl (by simp [training]))
  · exact .inr (.inr unused)

/-- A node that is no root, or a root that yields, as the model's guard has it. -/
theorem State.passes_of_node (node : ¬(s.link.role = 2 ∧ s.link.yielding = false)) :
    ¬(s.link.role = 2 ∧ (!s.link.yielding) = true) := by
  simpa using node

section
variable (on : s.flag Fld.Link.LINK_EN) (up : (s.linkPort p).line = .up1 ∨ (s.linkPort p).line = .up2)
  (wired : (s.linkPort p).use ≠ .unused)
include on up wired

/-- Such a port takes share frames. -/
theorem shareFrame_taken : ¬(!s.flag Fld.Link.LINK_EN ∨
    ((s.linkPort p).line ≠ .up1 ∧ (s.linkPort p).line ≠ .up2) ∨ (s.linkPort p).use = .unused) := by
  rintro (off | down | unused)
  · simp [on] at off
  · exact up.elim down.1 down.2
  · exact wired unused

theorem shareFrame_root (root : s.link.role = 2 ∧ s.link.yielding = false) :
    Goes (.shareFrame p t f) s
      (if (s.linkPort p).use = .away then
        (s.advanceTo t).rootBranch p (10 * ((s.advanceTo t).now - (s.link.flight.map (·.2.1)).getD (s.advanceTo t).now)) f
       else s.advanceTo t) :=
  congrArg Host.Outcome.next <| (if_neg (shareFrame_taken on up wired)).trans (if_pos ⟨root.1, congrArg (!·) root.2⟩)

section
variable (node : ¬(s.link.role = 2 ∧ s.link.yielding = false))
include node

/-- A void frame at a node: a branch that returns void, a frame from the root, or one that only goes on. -/
theorem shareFrame_void (void : (frameBody sofShare 32 f).map shareOf = none) :
    let r := s.advanceTo t
    let v := r.onLink fun l => { l with outSeq := some (u f 1 1), merge := [(p.val, none)] }
    Goes (.shareFrame p t f) s
      (if (s.linkPort p).use = .away ∧ s.link.outSeq.isSome then
        r.nodeBranch p (s.link.outSeq.getD 0) (u f 25 4) none
       else if (s.linkPort p).use = .toRoot then
        (if s.link.awayPorts = [] then v.shareReturn (u f 1 1) (u f 25 4) [(p.val, none)]
         else v.sendOn (fun _ x => x.use = .away) (voidFrame f))
       else r.sendOn (fun q x => q ≠ p.val && x.use = .away) (voidFrame f)) := by
  intro r v
  refine congrArg Host.Outcome.next ((if_neg (shareFrame_taken on up wired)).trans ((if_neg (State.passes_of_node node)).trans ?_))
  rw [void]
  exact if_congr decide_eq_true_iff rfl (if_congr Iff.rfl (if_congr List.isEmpty_iff rfl rfl) rfl)

/-- A whole frame at a node: the branch that it waits for, the frame that it has seen, or a new one. -/
theorem shareFrame_whole {x : Nat × ShareFig × Nat} (whole : (frameBody sofShare 32 f).map shareOf = some x) :
    let r := s.advanceTo t
    let out := r.sharePassed p x.1 x.2.2
    Goes (.shareFrame p t f) s
      (if ((s.linkPort p).use = .away ∧ s.link.outSeq.isSome) ∧ s.link.outSeq = some x.1 then
        r.nodeBranch p x.1 x.2.2 (some x.2.1)
       else if (s.linkPort p).use = .standby ∧ s.link.seen ∧ s.link.seq = x.1 then r
       else if out.link.awayPorts = [] then out.shareReturn x.1 x.2.2 [(p.val, some x.2.1)]
       else out.sendOn (fun q y => q ≠ p.val && y.use = .away) (frameOf sofShare (shareBytes x.1 x.2.1 x.2.2))) := by
  intro r out
  refine congrArg Host.Outcome.next ((if_neg (shareFrame_taken on up wired)).trans ((if_neg (State.passes_of_node node)).trans ?_))
  rw [whole]
  exact if_congr (and_congr_left' decide_eq_true_iff) rfl (if_congr Iff.rfl rfl (if_congr List.isEmpty_iff rfl rfl))

end

end

end

/-! ## Back at the root (R333, R336, R340, R343) -/

section
variable {s : State} {p n seq t0 : Nat} {ok : Bool} {f : List Byte} (flight : s.link.flight = some (seq, t0, ok))
include flight

/-- The frame of the period before. -/
theorem State.rootBranch_late {x : Nat × ShareFig × Nat} (body : (frameBody sofShare 32 f).map shareOf = some x)
    (late : x.2.2 = (t0 - s.sharePeriod) % 2 ^ 32) : s.rootBranch p n f = s := by
  simp only [State.rootBranch, flight, body]
  exact if_pos (by simp [late])

/-- Another root's frame. -/
theorem State.rootBranch_foreign {x : Nat × ShareFig × Nat} (body : (frameBody sofShare 32 f).map shareOf = some x)
    (timely : ¬x.2.2 = (t0 - s.sharePeriod) % 2 ^ 32) (foreign : ¬(x.1 = seq ∧ x.2.2 = t0 % 2 ^ 32)) :
    s.rootBranch p n f = s.flood 5 0 (claimValue s.ownClaim) := by
  simp only [State.rootBranch, flight, body]
  exact (if_neg (by simpa using timely)).trans (if_pos (by simpa [imp_iff_not_or] using foreign))

/-- What a root does with a frame of its own, sent at `t0`, that its branches have returned whole, or void, after `n` ns. -/
def State.rootWhole (s : State) (n t0 : Nat) (ok : Bool) (fig : Option ShareFig) : State :=
  let t := s.onLink fun l => { l with tLoop := n, flight := none, merge := [] }
  if 10 * s.sharePeriod ≤ n then t.raise 0x0D09
  else match fig with
    | some y => if ok then t.rootDecide (y.add s.link.fig) t0 else t
    | none => t

/-- This root's own frame, or a void one: it waits for the other branches, or is whole. -/
theorem State.rootBranch_own (own : ∀ x, (frameBody sofShare 32 f).map shareOf = some x →
      ¬x.2.2 = (t0 - s.sharePeriod) % 2 ^ 32 ∧ (x.1 = seq ∧ x.2.2 = t0 % 2 ^ 32)) :
    let m := s.link.branch p (((frameBody sofShare 32 f).map shareOf).map fun x => x.2.1)
    s.rootBranch p n f =
      if ∀ q ∈ s.link.awayPorts, q = p ∨ ∃ z ∈ s.link.merge, z.1 = q then s.rootWhole n t0 ok (mergeFig m)
      else s.onLink fun l => { l with merge := m } := by
  intro m
  have merged : s.rootBranch p n f =
      if !s.link.whole m then s.onLink fun l => { l with merge := m } else s.rootWhole n t0 ok (mergeFig m) := by
    unfold m
    cases body : (frameBody sofShare 32 f).map shareOf with
    | none =>
      simp only [State.rootBranch, flight, body]
      rfl
    | some x =>
      obtain ⟨timely, mine⟩ := own x body
      simp only [State.rootBranch, flight, body]
      exact (if_neg (by simpa using timely)).trans ((if_neg (by simpa using mine)).trans rfl)
  have whole_iff := s.link.whole_branch_iff p (((frameBody sofShare 32 f).map shareOf).map fun x => x.2.1)
  by_cases back : ∀ q ∈ s.link.awayPorts, q = p ∨ ∃ z ∈ s.link.merge, z.1 = q
  · rw [merged, if_pos back, whole_iff.2 back]
    rfl
  · rw [merged, if_neg back, Bool.eq_false_iff.2 (mt whole_iff.1 back)]
    rfl

end

end Sys2Proof.Machine
end

section
/-! SUPPORT. Decision frames, events and IDENT as they arrive; O46. -/

namespace Sys2Proof.Machine

/-! ## A share frame's return (R335, R336, R343) -/

section
variable {s : State} {p : Fin 3} {n : Nat} {f : List Byte}

theorem shareFrameReturn_none (none_ : s.link.flight = none) : Goes (.shareFrameReturn p n f) s s := by
  show execShareFrameReturn p n f s = _
  simp only [execShareFrameReturn, none_]

variable {seq t0 : Nat} {ok : Bool} (flight : s.link.flight = some (seq, t0, ok))
include flight

theorem shareFrameReturn_apart (apart : s.link.role ≠ 2 ∨ (s.linkPort p).used = false) :
    Goes (.shareFrameReturn p n f) s s := by
  show execShareFrameReturn p n f s = _
  simp only [execShareFrameReturn, flight]
  exact congrArg Host.Outcome.next (if_pos (by simpa using apart))

variable (root : s.link.role = 2) (used : (s.linkPort p).used)
include root used

theorem shareFrameReturn_reaches {r : State} (branch : (s.advanceTo (t0 + n / 10)).rootBranch p n f = r) :
    Goes (.shareFrameReturn p n f) s r := by
  show execShareFrameReturn p n f s = _
  simp only [execShareFrameReturn, flight]
  exact congrArg Host.Outcome.next ((if_neg (by simp [root, used])).trans branch)

/-- What a return does at the root, by whose frame it is and by the branches that have returned. -/
theorem shareFrameReturn_root :
    let body := (frameBody sofShare 32 f).map shareOf
    let r := s.advanceTo (t0 + n / 10)
    let late (x : Nat × ShareFig × Nat) : Prop := x.2.2 = (t0 - s.sharePeriod) % 2 ^ 32
    let own (x : Nat × ShareFig × Nat) : Prop := x.1 = seq ∧ x.2.2 = t0 % 2 ^ 32
    let m := s.link.branch p (body.map fun x => x.2.1)
    let whole := r.onLink fun l => { l with tLoop := n, flight := none, merge := [] }
    let all : Prop := ∀ q ∈ s.link.awayPorts, q = p.val ∨ ∃ z ∈ s.link.merge, z.1 = q
    (∀ x, body = some x → late x → Goes (.shareFrameReturn p n f) s r) ∧
    (∀ x, body = some x → ¬late x → ¬own x → Goes (.shareFrameReturn p n f) s (r.flood 5 0 (claimValue r.ownClaim))) ∧
    ((∀ x, body = some x → ¬late x ∧ own x) →
      (¬all → Goes (.shareFrameReturn p n f) s (r.onLink fun l => { l with merge := m })) ∧
      (all → 10 * s.sharePeriod ≤ n → Goes (.shareFrameReturn p n f) s (whole.raise 0x0D09)) ∧
      (all → n < 10 * s.sharePeriod → (mergeFig m = none ∨ ok = false) → Goes (.shareFrameReturn p n f) s whole) ∧
      (∀ y, all → n < 10 * s.sharePeriod → mergeFig m = some y → ok →
        Goes (.shareFrameReturn p n f) s (whole.rootDecide (y.add s.link.fig) t0))) := by
  intro body r late own m whole all
  have inFlight : r.link.flight = some (seq, t0, ok) := flight
  refine ⟨fun x hx before => ?late, fun x hx timely other => ?foreign, fun mine => ?mine⟩
  case late => exact shareFrameReturn_reaches flight root used (State.rootBranch_late inFlight hx before)
  case foreign => exact shareFrameReturn_reaches flight root used (State.rootBranch_foreign inFlight hx timely other)
  case mine =>
    have branch : r.rootBranch p n f =
        if all then r.rootWhole n t0 ok (mergeFig m) else r.onLink fun l => { l with merge := m } :=
      State.rootBranch_own inFlight mine
    have goes {t : State} (h : r.rootBranch p n f = t) := shareFrameReturn_reaches flight root used h
    refine ⟨fun waits => goes (branch.trans (if_neg waits)),
      fun back slow => goes (branch.trans ((if_pos back).trans (if_pos slow))),
      fun back quick void => goes (branch.trans ((if_pos back).trans ((if_neg (Nat.not_le.2 quick)).trans ?_))),
      fun y back quick sum live => goes (branch.trans ((if_pos back).trans ((if_neg (Nat.not_le.2 quick)).trans ?_)))⟩
    · rcases void with void | void
      · rw [void]
      · cases mergeFig m <;> simp [void, whole]
    · rw [sum]
      exact if_pos live

end

/-! ## Decision frames (R336) -/

section
variable {s : State} {p : Fin 3} {t : Nat} {f : List Byte}

theorem decisionFrame_closed (h : ¬s.flag Fld.Link.LINK_EN ∨ (s.linkPort p).used = false) :
    Goes (.decisionFrame p t f) s s :=
  congrArg Host.Outcome.next (if_pos (by simpa using h))

variable (on : s.flag Fld.Link.LINK_EN) (used : (s.linkPort p).used)
include on used

theorem decisionFrame_void (void : frameBody sofDecision 32 f = none) :
    Goes (.decisionFrame p t f) s
      ((s.advanceTo t).sendOn (fun q x => q ≠ p.val && x.use = .away) (voidFrame f)) := by
  refine congrArg Host.Outcome.next ((if_neg (by simp [on, used])).trans ?_)
  rw [void]

/-- A decision goes on, and a node that follows the plant holds it, or discards it where it is late. -/
theorem decisionFrame_held {b : List Byte} (body : frameBody sofDecision 32 f = some b) :
    let r := (s.advanceTo t).sendOn (fun q x => q ≠ p.val && x.use = .away) f
    let at_ := nearTime r.now (decisionOf b).apply
    let adopt : Bool := (decisionOf b).flags.testBit 1
    let held := r.onLink fun l =>
      { l with heldDec := l.heldDec ++ [decisionOf b], plantAt := if adopt then none else l.plantAt }
    Goes (.decisionFrame p t f) s
      (if s.link.role = 2 ∨ s.flag Fld.Link.PLANT_CAP = false ∨ s.link.mismatch then r
       else if at_ < r.now then (r.onLink fun l => { l with late := satAdd 0xFFFFFFFF l.late 1 }).raise 0x0D0E
       else if adopt ∧ s.pal.plant.isSome then held.onPal fun q => { q with plant := some at_ }
       else held) := by
  intro r at_ adopt held
  have rest : r = _ := (s.advanceTo t).sendOn_rest _ f
  have role : r.link.role = s.link.role := (congrArg (·.link.role) rest :)
  have cap : r.flag Fld.Link.PLANT_CAP = s.flag Fld.Link.PLANT_CAP := (congrArg (·.flag Fld.Link.PLANT_CAP) rest :)
  have mismatch : r.link.mismatch = s.link.mismatch := (congrArg (·.link.mismatch) rest :)
  have plant : held.pal.plant = s.pal.plant := (congrArg (·.pal.plant) rest :)
  refine congrArg Host.Outcome.next ((if_neg (by simp [on, used])).trans ?_)
  rw [body, ← role, ← cap, ← mismatch, ← plant]
  exact if_congr (by rw [Bool.not_eq_true']) rfl rfl

/-- What a decision does, by whether the node follows the plant and by the instant at which it applies. -/
theorem decisionFrame_runs {b : List Byte} (body : frameBody sofDecision 32 f = some b) :
    let r := (s.advanceTo t).sendOn (fun q x => q ≠ p.val && x.use = .away) f
    let at_ := nearTime r.now (decisionOf b).apply
    let adopt : Bool := (decisionOf b).flags.testBit 1
    let held := r.onLink fun l =>
      { l with heldDec := l.heldDec ++ [decisionOf b], plantAt := if adopt then none else l.plantAt }
    let deaf : Prop := s.link.role = 2 ∨ s.flag Fld.Link.PLANT_CAP = false ∨ s.link.mismatch
    (deaf → Goes (.decisionFrame p t f) s r) ∧
    (¬deaf → at_ < r.now → Goes (.decisionFrame p t f) s
      ((r.onLink fun l => { l with late := satAdd 0xFFFFFFFF l.late 1 }).raise 0x0D0E)) ∧
    (¬deaf → r.now ≤ at_ → (adopt = false ∨ s.pal.plant = none) → Goes (.decisionFrame p t f) s held) ∧
    (¬deaf → r.now ≤ at_ → adopt → s.pal.plant.isSome →
      Goes (.decisionFrame p t f) s (held.onPal fun q => { q with plant := some at_ })) := by
  intro r at_ adopt held deaf
  have goes := decisionFrame_held on used (t := t) body
  refine ⟨fun deafened => ?_, fun hears late => ?_, fun hears timely keeps => ?_, fun hears timely adopts waits => ?_⟩
  · exact goes.trans (congrArg _ (if_pos deafened))
  · exact goes.trans (congrArg _ ((if_neg hears).trans (if_pos late)))
  · refine goes.trans (congrArg _ ((if_neg hears).trans ((if_neg (Nat.not_lt.2 timely)).trans (if_neg ?_))))
    rintro ⟨adopts, waits⟩
    rcases keeps with keeps | keeps
    · exact Bool.false_ne_true (keeps.symm.trans adopts)
    · simp [keeps] at waits
  · exact goes.trans (congrArg _ ((if_neg hears).trans ((if_neg (Nat.not_lt.2 timely)).trans (if_pos ⟨adopts, waits⟩))))

end

/-! ## Events (R338) -/

/-- A valid event frame has been counted. -/
def State.eventSeen (s : State) : State := s.onLink fun l => { l with eventsRx := satAdd 0xFFFFFFFF l.eventsRx 1 }

/-- A frame that is no event of TYPE `type`. -/
def NotEvent (type : Nat) (f : List Byte) : Prop := ∀ b, frameBody sofEvent 16 f = some b → u b 0 1 ≠ type

section
variable {s : State} {p : Fin 3} {type : Nat} {f b : List Byte}

/-- What keeps an event frame out, as the model's guard has it. -/
theorem event_guard {shut barred : Prop} (bars : shut → barred) (h : ¬s.flag Fld.Link.LINK_EN ∨ shut ∨ NotEvent type f)
    (body : frameBody sofEvent 16 f = some b) : u b 0 1 ≠ type ∨ (!s.flag Fld.Link.LINK_EN) = true ∨ barred := by
  rcases h with off | closed | other
  · exact .inr (.inl (by simp [off]))
  · exact .inr (.inr (bars closed))
  · exact .inl (other b body)

section
variable {c : Instr} {act : List Byte → State → State} (run : exec c s = .next (s.eventIn type p f act))
include run

theorem event_deaf (h : ¬s.flag Fld.Link.LINK_EN ∨ (s.linkPort p).used = false ∨ NotEvent type f) : Goes c s s := by
  refine run.trans (congrArg _ ?_)
  unfold State.eventIn
  split
  next => rfl
  next b body => exact if_pos (event_guard (congrArg (!·)) h body)

theorem event_acts (on : s.flag Fld.Link.LINK_EN) (used : (s.linkPort p).used) (body : frameBody sofEvent 16 f = some b)
    (own : u b 0 1 = type) : Goes c s (act b (s.eventSeen.sendOn (fun q _ => q ≠ p.val) f)) := by
  refine run.trans (congrArg _ ?_)
  simp only [State.eventIn, body]
  exact if_neg (by simp [own, on, used])

end

/-! ## Claims (R332, R333) -/

/-- A claim that is better than the followed root's has been noted. -/
def State.claimNoted (c : Bool × Nat) (s : State) : State :=
  if s.joins c then s.onLink fun l => { l with joining := 1 } else s

theorem State.claimNoted_rest (s : State) (c : Bool × Nat) :
    s.claimNoted c = s.onLink fun l => { l with joining := (s.claimNoted c).link.joining } := by
  unfold State.claimNoted
  split <;> rfl

/-- R332, R333: a claim is at least as good as the one it is held against: a root's own, or the best that a node has seen. -/
def State.claimWins (s : State) (c : Bool × Nat) : Bool :=
  ((if s.link.role = 2 then some s.ownClaim else s.link.best).map (claimGe c)).getD true

theorem State.claimWins_root (root : s.link.role = 2) (c : Bool × Nat) : s.claimWins c = claimGe c s.ownClaim := by
  rw [State.claimWins, if_pos root]
  rfl

theorem State.claimWins_node_iff (node : s.link.role ≠ 2) (c : Bool × Nat) :
    s.claimWins c ↔ ∀ x, s.link.best = some x → claimGe c x := by
  rw [State.claimWins, if_neg node]
  cases s.link.best <;> simp

theorem rootClaim_deaf (h : ¬s.flag Fld.Link.LINK_EN ∨ (s.linkPort p).used = false ∨ NotEvent 5 f) :
    Goes (.rootClaim p f) s s := by
  refine congrArg Host.Outcome.next ?_
  split
  next => rfl
  next b body => exact if_pos (event_guard (congrArg (!·)) h body)

section
variable (on : s.flag Fld.Link.LINK_EN) (used : (s.linkPort p).used) (body : frameBody sofEvent 16 f = some b)
  (own : u b 0 1 = 5)
include on used body own

/-- A claim that wins goes on; a root answers another with its own. -/
theorem rootClaim_heard :
    let claim : Bool × Nat := (bitOf (u b 4 4) 0, u b 5 1)
    let j := s.eventSeen.claimNoted claim
    let sent := j.sendOn (fun q _ => q ≠ p.val) f
    Goes (.rootClaim p f) s
      (if s.claimWins claim then
        (if s.link.role = 2 then sent.onLink fun l => { l with yielding := claim ≠ s.ownClaim }
         else sent.onLink fun l => { l with best := some claim })
       else if s.link.role = 2 ∧ !s.link.yielding then j.flood 5 0 (claimValue s.ownClaim)
       else j) := by
  intro claim j sent
  have noted : j = _ := s.eventSeen.claimNoted_rest claim
  have rest : sent = _ := j.sendOn_rest _ f
  have role : j.link.role = s.link.role := (congrArg (·.link.role) noted :)
  have yields : j.link.yielding = s.link.yielding := (congrArg (·.link.yielding) noted :)
  have claims : j.ownClaim = s.ownClaim := (congrArg State.ownClaim noted :)
  have roleSent : sent.link.role = s.link.role := (congrArg (·.link.role) rest :).trans role
  have claimsSent : sent.ownClaim = s.ownClaim := (congrArg State.ownClaim rest :).trans claims
  refine congrArg Host.Outcome.next ?_
  rw [body]
  refine (if_neg (by simp [own, on, used])).trans (if_congr Iff.rfl (if_congr ?_ ?_ rfl) (if_congr ?_ ?_ rfl))
  · exact roleSent ▸ Iff.rfl
  · exact claimsSent ▸ rfl
  · exact role ▸ yields ▸ Iff.rfl
  · exact claims ▸ rfl

theorem rootClaim_runs :
    let claim : Bool × Nat := (bitOf (u b 4 4) 0, u b 5 1)
    let j := s.eventSeen.claimNoted claim
    let sent := j.sendOn (fun q _ => q ≠ p.val) f
    (s.link.role ≠ 2 → (∀ x, s.link.best = some x → claimGe claim x) →
      Goes (.rootClaim p f) s (sent.onLink fun l => { l with best := some claim })) ∧
    (∀ x, s.link.role ≠ 2 → s.link.best = some x → claimGe claim x = false → Goes (.rootClaim p f) s j) ∧
    (s.link.role = 2 → claimGe claim s.ownClaim →
      Goes (.rootClaim p f) s (sent.onLink fun l => { l with yielding := claim ≠ s.ownClaim })) ∧
    (s.link.role = 2 → claimGe claim s.ownClaim = false → s.link.yielding = false →
      Goes (.rootClaim p f) s (j.flood 5 0 (claimValue s.ownClaim))) ∧
    (s.link.role = 2 → claimGe claim s.ownClaim = false → s.link.yielding → Goes (.rootClaim p f) s j) := by
  intro claim j sent
  have goes := rootClaim_heard on used body own
  have loses (root : s.link.role = 2) (worse : claimGe claim s.ownClaim = false) : ¬s.claimWins claim :=
    ne_true_of_eq_false ((State.claimWins_root root claim).trans worse)
  refine ⟨fun node best => ?best, fun x node seen worse => ?worse, fun root best => ?yields, fun root worse firm => ?answers,
    fun root worse yields => ?silent⟩
  case best =>
    have wins := (State.claimWins_node_iff node claim).2 best
    exact goes.trans (congrArg _ ((if_pos wins).trans (if_neg node)))
  case worse =>
    have loses : ¬s.claimWins claim := fun wins =>
      Bool.false_ne_true (worse.symm.trans ((State.claimWins_node_iff node claim).1 wins x seen))
    exact goes.trans (congrArg _ ((if_neg loses).trans (if_neg fun h => node h.1)))
  case yields =>
    exact goes.trans (congrArg _ ((if_pos ((State.claimWins_root root claim).trans best)).trans (if_pos root)))
  case answers => exact goes.trans (congrArg _ ((if_neg (loses root worse)).trans (if_pos ⟨root, congrArg (!·) firm⟩)))
  case silent => exact goes.trans (congrArg _ ((if_neg (loses root worse)).trans (if_neg fun h => by simp [yields] at h)))

end

/-! ## IDENT (R329, R337) -/

@[simp] theorem State.onPort_linkPort (p : Nat) (g : LinkPort → LinkPort) (s : State) :
    (s.onPort p g).linkPort p = g (s.linkPort p) := by
  simp [State.onPort, State.linkPort]

section
variable {x y : Nat}

theorem ident_deaf (h : ¬s.flag Fld.Link.LINK_EN ∨ (s.linkPort p).line = .down ∨ NotEvent 7 f) :
    Goes (.ident p f x y) s s := by
  refine congrArg Host.Outcome.next ?_
  split
  next => rfl
  next b body => exact if_pos (event_guard id h body)

theorem ident_heard (body : frameBody sofEvent 16 f = some b) (own : u b 0 1 = 7) (on : s.flag Fld.Link.LINK_EN)
    (up : (s.linkPort p).line ≠ .down) :
    let path := y + x / 2 + s.link.tHop
    let r := s.eventSeen.onPort p fun c => { c with peer := some (u b 4 1 % 4, u b 5 3), delay := x / 2, path := path }
    ((s.linkPort p).use ≠ .toRoot → Goes (.ident p f x y) s r) ∧
    ((s.linkPort p).use = .toRoot → Goes (.ident p f x y) s (r.onLink fun l => { l with pathDelay := path })) := by
  intro path r
  have same : (r.linkPort p).use = (s.linkPort p).use := (congrArg LinkPort.use (State.onPort_linkPort p _ _) :)
  have runs : Goes (.ident p f x y) s
      (if (r.linkPort p).use = .toRoot then r.onLink fun l => { l with pathDelay := path } else r) := by
    refine congrArg Host.Outcome.next ?_
    rw [body]
    exact if_neg (by simp [own, on, up])
  rw [same] at runs
  exact ⟨fun other => runs.trans (congrArg _ (if_neg other)), fun towards => runs.trans (congrArg _ (if_pos towards))⟩

end

end

/-- Settles O46: share frames by what the node is waiting for (`shareFrame_void`, `shareFrame_whole`), their return by whose frame
it is (`shareFrameReturn_root`), decisions by when they apply (`decisionFrame_runs`), claims by what they are held against
(`rootClaim_runs`), and each other event by its TYPE (`event_acts`, `event_deaf`). -/
theorem linkFramesRun : Obligations.LinkFramesRun := by
  intro s p f
  refine ⟨fun t => shareFrame_closed, fun t on up wired => ?share, fun seq time x => s.shareReturn_leaf p seq time x,
    fun n => shareFrameReturn_none, fun n seq t0 ok flight => ⟨shareFrameReturn_apart flight, shareFrameReturn_root flight⟩,
    fun t => decisionFrame_closed, fun t on used => ⟨decisionFrame_void on used, fun b => decisionFrame_runs on used⟩,
    fun b body on used => ?events, fun b x y => ident_heard, ?deaf, fun x y => ident_deaf⟩
  case share =>
    refine ⟨fun root other => ?_, fun root away => ?_, fun node void => ?void, fun x node whole => ?whole⟩
    · exact (shareFrame_root on up wired root).trans (congrArg _ (if_neg other))
    · exact (shareFrame_root on up wired root).trans (congrArg _ (if_pos away))
    case void =>
      have goes := shareFrame_void on up wired node (t := t) void
      exact ⟨fun back => goes.trans (congrArg _ (if_pos back)),
        fun towards leaf => goes.trans (congrArg _ ((if_neg (by simp [towards])).trans ((if_pos towards).trans (if_pos leaf)))),
        fun towards more => goes.trans (congrArg _ ((if_neg (by simp [towards])).trans ((if_pos towards).trans (if_neg more)))),
        fun ahead other => goes.trans (congrArg _ ((if_neg ahead).trans (if_neg other)))⟩
    case whole =>
      have goes := shareFrame_whole on up wired node (t := t) whole
      exact ⟨fun back mine => goes.trans (congrArg _ (if_pos ⟨back, mine⟩)),
        fun again => goes.trans (congrArg _ ((if_neg (by simp [again.1])).trans (if_pos again))),
        fun fresh new leaf => goes.trans (congrArg _ ((if_neg fresh).trans ((if_neg new).trans (if_pos leaf)))),
        fun fresh new more => goes.trans (congrArg _ ((if_neg fresh).trans ((if_neg new).trans (if_neg more))))⟩
  case events =>
    exact ⟨(event_acts (c := .faultEvent p f) rfl on used body :), (event_acts (c := .dropEvent p f) rfl on used body :),
      (event_acts (c := .dropClearEvent p f) rfl on used body :), (event_acts (c := .breakEvent p f) rfl on used body :),
      fun own fast => (event_acts rfl on used body own).trans (congrArg _ (if_neg fast)),
      fun own slow => (event_acts rfl on used body own).trans (congrArg _ (if_pos slow)), rootClaim_runs on used body⟩
  case deaf => exact ⟨event_deaf rfl, event_deaf rfl, event_deaf rfl, event_deaf rfl, rootClaim_deaf, event_deaf rfl⟩

end Sys2Proof.Machine
end

section
/-! SUPPORT. Every command answers a next state, and what a step keeps; O1, O4, O5, O6 and O9. -/

namespace Sys2Proof.Machine

variable {s t : State}

/-! ## The step -/

/-- Settles O1. -/
theorem stepRunsFront : Obligations.StepRunsFront := fun _ _ => rfl

/-- What a step leaves has come from the state with the queue's rest without breaking what `Keep` says. -/
theorem step_keep (h : step s = .next t) : Keep { s with pending := s.pending.tail } t := by
  unfold step at h
  split at h
  case h_1 empty =>
    cases h
    have rest : { s with pending := s.pending.tail } = s := by rw [empty, List.tail_nil, ← empty]
    rw [rest]
    exact State.idle_keep (Keep.refl s)
  case h_2 c rest queue =>
    rw [queue]
    exact exec_keep c (Keep.refl _) t h

/-- Each command's arm of `exec` answers a next state: none faults, and none is refused. -/
theorem exec_next (c : Instr) (s : State) : ∃ t, exec c s = .next t := by
  cases c <;> exact ⟨_, rfl⟩

/-- Settles O9: an idle step answers a next state, and so does every command (`exec_next`), which keeps the queue and the
identity (`exec_keep`). -/
theorem everyStepIsSafe : Obligations.EveryStepIsSafe := by
  refine ⟨fun s => ?_, fun c s => ?_⟩
  · cases queue : s.pending with
    | nil => exact ⟨_, step_idle queue⟩
    | cons c rest =>
      obtain ⟨t, runs⟩ := exec_next c { s with pending := rest }
      exact ⟨t, by rw [step, queue]; exact runs⟩
  · obtain ⟨t, runs⟩ := exec_next c s
    obtain ⟨identity, queue⟩ := (exec_keep c (Keep.refl s) t runs).otp_pending
    exact ⟨t, runs, queue, identity⟩

/-! ## The fault queue (R485, R486) -/

/-- Settles O5: the order is one of the invariants that a step keeps (`step_keep`). -/
theorem faultQueueStaysOrdered : Obligations.FaultQueueStaysOrdered :=
  fun _ _ ordered h => (step_keep h).queue ordered

/-- R486: entries of which each is of a higher severity than the next, with severities of 1 to 4, are at most four. -/
theorem nested_length_le {es : List QEntry} (nested : es.Pairwise fun a b => b.sev < a.sev)
    (ranks : ∀ e ∈ es, 1 ≤ e.sev ∧ e.sev ≤ 4) : es.length ≤ 4 := by
  have distinct : (es.map QEntry.sev).Nodup := List.pairwise_map.2 (nested.imp fun lt => lt.ne')
  have within : (es.map QEntry.sev).toFinset ⊆ Finset.Icc 1 4 := fun n mem => by
    obtain ⟨e, he, rfl⟩ := List.mem_map.1 (List.mem_toFinset.1 mem)
    exact Finset.mem_Icc.2 (ranks e he)
  calc es.length = (es.map QEntry.sev).toFinset.card := by rw [List.toFinset_card_of_nodup distinct, List.length_map]
    _ ≤ (Finset.Icc 1 4).card := Finset.card_le_card within
    _ = 4 := by decide

/-- Settles O6: the running handler and the suspended ones are nested, so at most four (`nested_length_le`); none is suspended
while none runs. -/
theorem atMostThreeSuspended : Obligations.AtMostThreeSuspended := by
  intro f ordered
  cases runs : f.running with
  | none => simp [ordered.idle runs]
  | some e =>
    have four := nested_length_le ordered.nested fun x hx => ordered.ranks x (List.mem_append_right _ hx)
    rw [runs, Option.toList_some, List.singleton_append, List.length_cons] at four
    exact Nat.le_of_succ_le_succ four

/-- Settles O4: the reset state's queue is empty (`Flt.empty_ordered`). -/
theorem resetInvariants : Obligations.ResetInvariants :=
  ⟨Flt.empty_ordered rfl rfl rfl, rfl, rfl⟩

end Sys2Proof.Machine
end

section
/-! SUPPORT. The end of a handler by what waits for it, and the commands of the firmware images by their checks; O55. -/

namespace Sys2Proof.Machine

/-! ## Handlers (R485, R486) -/

section
variable {s : State} {e : QEntry}

/-- A handler's end puts `f` in force where that is what runs next. -/
theorem handlerComplete_next {f : Flt → Flt} (handles : s.handling) (runs : s.flt.running = some e)
    (h : Flt.nextHandler { s.flt with running := none, lastDone := e.seq } = f { s.flt with lastDone := e.seq }) :
    Goes .handlerComplete s (s.onFlt fun x => f { x with lastDone := e.seq }) := by
  refine congrArg Host.Outcome.next ((if_pos handles).trans ?_)
  rw [runs]
  exact congrArg (fun f => { s with flt := f }) h

theorem handlerComplete_rests (h : s.handling = false ∨ s.flt.running = none) : Goes .handlerComplete s s := by
  refine congrArg Host.Outcome.next ?_
  rcases h with off | none_
  · exact if_neg (ne_true_of_eq_false off)
  · rw [none_]
    exact ite_self s

variable (handles : s.handling) (runs : s.flt.running = some e)
include handles runs

theorem handlerComplete_empty (susp : s.flt.susp = []) (queue : s.flt.queue = []) :
    Goes .handlerComplete s (s.onFlt fun x => { x with running := none, lastDone := e.seq }) :=
  handlerComplete_next (f := fun f => { f with running := none }) handles runs (by simp only [Flt.nextHandler, susp, queue])

theorem handlerComplete_starts {q : QEntry} {qs : List QEntry} (queue : s.flt.queue = q :: qs)
    (above : ∀ t ∈ s.flt.susp.head?, t.sev < q.sev) :
    Goes .handlerComplete s (s.onFlt fun x => { x with running := some q, queue := qs, lastDone := e.seq }) := by
  refine handlerComplete_next (f := fun f => { f with running := some q, queue := qs }) handles runs ?_
  cases susp : s.flt.susp with
  | nil => simp only [Flt.nextHandler, susp, queue]
  | cons t ts => simp only [Flt.nextHandler, susp, queue, if_pos (above t (by rw [susp]; rfl))]

theorem handlerComplete_resumes {t : QEntry} {ts : List QEntry} (susp : s.flt.susp = t :: ts)
    (below : ∀ q ∈ s.flt.queue.head?, q.sev ≤ t.sev) :
    Goes .handlerComplete s (s.onFlt fun x => { x with running := some t, susp := ts, lastDone := e.seq }) := by
  refine handlerComplete_next (f := fun f => { f with running := some t, susp := ts }) handles runs ?_
  cases queue : s.flt.queue with
  | nil => simp only [Flt.nextHandler, susp, queue]
  | cons q qs => simp only [Flt.nextHandler, susp, queue, if_neg (Nat.not_lt.2 (below q (by rw [queue]; rfl)))]

end

/-! ## Downloads (R495) -/

section
variable {s : State} {o : Origin} {p : List Byte}

theorem State.downloads_iff : s.downloads = true ↔ s.sys.nandBar = false := by
  rw [State.downloads, Bool.not_eq_true']

theorem imgBegin_checked (admitted : s.admits o 0x1401 2) :
    let k := fin 2 (u p 0 1)
    let good : Prop := p.length = 8 ∧ u p 0 1 ≤ 1 ∧ u p 1 3 = 0 ∧ 257 ≤ u p 4 4 ∧ u p 4 4 ≤ 16777472
    let able : Prop := s.sys.nandBar = false ∧ s.img.booted ≠ some k
    (¬good → Goes (.imgBegin o p) s (s.answer o 0x1401 st.badParam [])) ∧
    (good → ¬able → Goes (.imgBegin o p) s (s.answer o 0x1401 st.state [])) ∧
    (good → able → Replies (.imgBegin o p) s
      ((s.accepted o 2).onImg fun i =>
        { i with
          area := upd i.area k fun _ => { st := .invalid, bytes := [] }, download := 1, target := k, total := u p 4 4 })
      o 0x1401 st.ok []) := by
  intro k good able
  have ready : (s.downloads && decide (s.img.booted ≠ some k)) = true ↔ able := by
    rw [Bool.and_eq_true, State.downloads_iff, decide_eq_true_eq]
  exact ⟨fun bad => congrArg Host.Outcome.next (State.run_answers admitted (paramState_bad _ (decide_eq_false bad))
      (by decide)),
    fun fits no => congrArg Host.Outcome.next (State.run_answers admitted
      (paramState_state (decide_eq_true fits) (Bool.eq_false_iff.2 (mt ready.1 no))) (by decide)),
    fun fits yes => congrArg Host.Outcome.next (State.run_done admitted
      (paramState_ok (decide_eq_true fits) (ready.2 yes)) rfl (by decide))⟩

section
variable (admitted : s.admits o 0x1402 2)
include admitted

theorem imgData_bad (bad : ¬(p.length = 6 + u p 4 2 ∧ 1 ≤ u p 4 2 ∧ u p 4 2 ≤ 4080)) :
    Goes (.imgData o p) s (s.answer o 0x1402 st.badParam []) :=
  congrArg Host.Outcome.next (State.run_answers admitted (if_pos (by omega)) (by decide))

section
variable (good : p.length = 6 + u p 4 2 ∧ 1 ≤ u p 4 2 ∧ u p 4 2 ≤ 4080)
include good

theorem imgData_closed (closed : ¬(s.img.download = 1 ∧ s.sys.nandBar = false)) :
    Goes (.imgData o p) s (s.answer o 0x1402 st.state []) := by
  refine congrArg Host.Outcome.next (State.run_answers admitted ((if_neg (by omega)).trans (if_pos ?_)) (by decide))
  rwa [Bool.not_eq_true', ← Bool.not_eq_true, State.downloads_iff, ← not_and_or]

variable (opened : s.img.download = 1 ∧ s.sys.nandBar = false)
include opened

omit admitted in
/-- The check of IMG_DATA with a download open: the bytes follow those received, within the announced length. -/
theorem imgData_chk {a b : Nat} {fits : Prop} [Decidable fits] :
    (if p.length < 6 ∨ u p 4 2 = 0 ∨ 4080 < u p 4 2 ∨ p.length ≠ 6 + u p 4 2 then st.badParam
      else if s.img.download ≠ 1 ∨ (!s.downloads) = true then st.state else if fits then a else b) =
      if fits then a else b := by
  obtain ⟨one, power⟩ := opened
  exact (if_neg (by omega)).trans (if_neg (by simp [one, State.downloads_iff.2 power]))

theorem imgData_misplaced (bad : ¬(u p 0 4 = s.img.received ∧ u p 0 4 + u p 4 2 ≤ s.img.total)) :
    Goes (.imgData o p) s (s.answer o 0x1402 st.badParam []) :=
  congrArg Host.Outcome.next (State.run_answers admitted ((imgData_chk good opened).trans (if_pos (by omega))) (by decide))

theorem imgData_adds (fits : u p 0 4 = s.img.received ∧ u p 0 4 + u p 4 2 ≤ s.img.total) :
    Replies (.imgData o p) s
      ((s.accepted o 2).onImg fun i => { i with area := upd i.area i.target fun a => { a with bytes := a.bytes ++ p.drop 6 } })
      o 0x1402 st.ok [] :=
  congrArg Host.Outcome.next (State.run_done admitted ((imgData_chk good opened).trans (if_neg (by omega))) rfl (by decide))

end

end

/-! ## The end of a download (R494, R495) -/

/-- The verdict on the open download. -/
def State.imgVerdict (s : State) : Nat :=
  imageCheck (s.img.area[s.img.target]).bytes s.sys.pubKey s.sys.serial s.img.rollback

/-- The download has ended with a verdict. -/
def State.imgJudged (s : State) : State := s.onImg fun i => { i with lastError := s.imgVerdict, download := 0 }

section
variable (admitted : s.admits o 0x1403 2)
include admitted

theorem imgEnd_bad (bad : p ≠ []) : Goes (.imgEnd o p) s (s.answer o 0x1403 st.badParam []) :=
  congrArg Host.Outcome.next (State.run_answers admitted (paramState_bad _ (List.isEmpty_eq_false_iff.2 bad)) (by decide))

variable (none_ : p = [])
include none_

theorem imgEnd_closed (closed : ¬(s.img.download = 1 ∧ s.sys.nandBar = false)) :
    Goes (.imgEnd o p) s (s.answer o 0x1403 st.state []) := by
  refine congrArg Host.Outcome.next (State.run_answers admitted (paramState_state (List.isEmpty_iff.2 none_) ?_) (by decide))
  rwa [← Bool.not_eq_true, Bool.and_eq_true, decide_eq_true_eq, State.downloads_iff]

variable (opened : s.img.download = 1 ∧ s.sys.nandBar = false)
include opened

omit admitted in
theorem imgEnd_passes : paramState p.isEmpty (s.img.download = 1 && s.downloads) = st.ok :=
  paramState_ok (List.isEmpty_iff.2 none_) (by rw [decide_eq_true opened.1, State.downloads_iff.2 opened.2]; rfl)

theorem imgEnd_rejects (fails : (s.accepted o 2).imgVerdict ≠ 0) :
    let a := s.accepted o 2
    Replies (.imgEnd o p) s (a.imgJudged.raiseWith
      { cause := a.imgVerdict, image := a.img.target.val, value := u (a.img.area[a.img.target]).bytes 12 4 } 0x1403 blockWide)
      o 0x1403 st.badParam [] :=
  congrArg Host.Outcome.next (State.run_done admitted (imgEnd_passes none_ opened) (if_pos fails) (by decide))

variable (holds : (s.accepted o 2).imgVerdict = 0)
include holds

theorem imgEnd_failed (failed : (s.accepted o 2).imgJudged.skb.failed) :
    Replies (.imgEnd o p) s (s.accepted o 2).imgJudged o 0x1403 st.timeout [] :=
  congrArg Host.Outcome.next (State.run_done admitted (imgEnd_passes none_ opened)
    ((if_neg (not_not.2 holds)).trans (if_pos failed)) (by decide))

theorem imgEnd_stores (works : (s.accepted o 2).imgJudged.skb.failed = false) :
    let a := s.accepted o 2
    Goes (.imgEnd o p) s (a.imgJudged.enqueue (.store a.img.target.val (a.imgJudged.img.area[a.img.target]).bytes)
      (some ⟨o, 0x1403, []⟩)).pump :=
  congrArg Host.Outcome.next (State.run_waits admitted (imgEnd_passes none_ opened)
    ((if_neg (not_not.2 holds)).trans (if_neg (ne_true_of_eq_false works))))

end

/-! ## Activation and confirmation (R496, R497) -/

section
variable (admitted : s.admits o 0x1404 2)
include admitted

theorem imgActivate_bad (bad : ¬(p.length = 2 ∧ u p 0 1 ≤ 1 ∧ u p 1 1 ≤ 1)) :
    Goes (.imgActivate o p) s (s.answer o 0x1404 st.badParam []).serveReset :=
  congrArg (fun t : State => Host.Outcome.next t.serveReset)
    (State.run_answers admitted (paramState_bad _ (decide_eq_false bad)) (by decide))

variable (good : p.length = 2 ∧ u p 0 1 ≤ 1 ∧ u p 1 1 ≤ 1)
include good

theorem imgActivate_barred (barred : (s.img.area[fin 2 (u p 0 1)]).st ≠ .valid) :
    Goes (.imgActivate o p) s (s.answer o 0x1404 st.state []).serveReset :=
  congrArg (fun t : State => Host.Outcome.next t.serveReset)
    (State.run_answers admitted (paramState_state (decide_eq_true good) (decide_eq_false barred)) (by decide))

theorem imgActivate_marks (valid : (s.img.area[fin 2 (u p 0 1)]).st = .valid) :
    let k := fin 2 (u p 0 1)
    let marked := ((s.accepted o 2).onImg fun i => { i with active := some k }).raiseWith
      { image := k.val, value := u (s.img.area[k]).bytes 12 4 } 0x1404 blockWide
    Goes (.imgActivate o p) s (((if u p 1 1 = 1 then marked.onSys fun y => { y with resetDue := some (7, o.itf) }
      else marked).finish o 0x1404 st.ok []).serveReset) := by
  refine congrArg (fun t : State => Host.Outcome.next t.serveReset)
    (State.run_done admitted (paramState_ok (decide_eq_true good) (decide_eq_true valid)) ?_ (by decide))
  simp only [State.accepted_img]

end

section
variable (admitted : s.admits o 0x1405 2)
include admitted

theorem imgConfirm_bad (bad : p ≠ []) : Goes (.imgConfirm o p) s (s.answer o 0x1405 st.badParam []) :=
  congrArg Host.Outcome.next (State.run_answers admitted (param_bad (List.isEmpty_eq_false_iff.2 bad)) (by decide))

variable (none_ : p = [])
include none_

theorem imgConfirm_none (booted : s.img.booted = none) :
    Replies (.imgConfirm o p) s (s.accepted o 2) o 0x1405 st.ok [] := by
  refine congrArg Host.Outcome.next (State.run_done admitted (param_ok (List.isEmpty_iff.2 none_)) ?_ (by decide))
  simp only [State.accepted_img, booted, Nat.zero_le, if_true]

variable {k : Fin 2} (booted : s.img.booted = some k)
include booted

theorem imgConfirm_stays (old : u (s.img.area[k]).bytes 12 4 ≤ s.img.rollback) :
    Replies (.imgConfirm o p) s (s.accepted o 2) o 0x1405 st.ok [] := by
  refine congrArg Host.Outcome.next (State.run_done admitted (param_ok (List.isEmpty_iff.2 none_)) ?_ (by decide))
  simp only [State.accepted_img, booted, if_pos old]

theorem imgConfirm_counts (new : s.img.rollback < u (s.img.area[k]).bytes 12 4) :
    let v := u (s.img.area[k]).bytes 12 4
    Goes (.imgConfirm o p) s
      (((((s.accepted o 2).onImg fun i => { i with rollback := v }).raiseWith { image := k.val, value := v } 0x1405
        blockWide).await o 0x1405 0 0 []).vWrite 2 (toLE 4 v)) := by
  refine congrArg Host.Outcome.next (State.run_waits admitted (param_ok (List.isEmpty_iff.2 none_)) ?_)
  simp only [State.accepted_img, booted, if_neg (Nat.not_le.2 new)]
  rfl

end

end

/-- Settles O55: a handler's end by what is suspended and what waits (`Flt.nextHandler`), the commands of the images by their
checks and by the verdict on what has been received. -/
theorem faultsAndImagesRun : Obligations.FaultsAndImagesRun := by
  intro s o p
  refine ⟨fun _ _ => rfl, fun handles e runs => ⟨handlerComplete_empty handles runs, fun q qs susp queue => ?starts,
    fun t ts susp queue => ?resumes, fun t ts q qs susp queue => ⟨fun above => ?preempts, fun below => ?waits⟩⟩,
    handlerComplete_rests, imgBegin_checked,
    fun h => ⟨imgData_bad h, imgData_closed h, imgData_misplaced h, imgData_adds h⟩,
    fun h => ⟨imgEnd_bad h, imgEnd_closed h, imgEnd_rejects h, imgEnd_failed h, imgEnd_stores h⟩, fun h => ?activate,
    imgConfirm_bad, imgConfirm_none,
    fun k h none_ booted => ⟨imgConfirm_stays h none_ booted, imgConfirm_counts h none_ booted⟩⟩
  case starts => exact handlerComplete_starts handles runs queue (by simp [susp])
  case resumes => exact handlerComplete_resumes handles runs susp (by simp [queue])
  case preempts => exact handlerComplete_starts handles runs queue (by simpa [susp] using above)
  case waits => exact handlerComplete_resumes handles runs susp (by simpa [queue] using below)
  case activate =>
    refine ⟨imgActivate_bad h, imgActivate_barred h, fun good valid stay => ?_, fun good valid boot => ?_⟩
    · simpa only [stay, Nat.zero_ne_one, if_false] using imgActivate_marks h good valid
    · simpa only [boot, if_true] using imgActivate_marks h good valid

end Sys2Proof.Machine
end

section
/-! SUPPORT. The timers and Type-C events of a PD port; O47 and O49. -/

namespace Sys2Proof.Machine

/-! ## An event of a port (R52, R358, R359) -/

/-- Port `k` is in service, its firmware ready; an event acts from `r`, where nothing sent before is left, and finds the port
as `c`. -/
structure State.PdServes (s : State) (k : Fin 2) (r : State) (c : PdCh) : Prop where
  ready : s.sys.fwReady
  present : s.flag Fld.Pd.PRESENT k
  start : s.onPdCh k (fun c => { c with out := [] }) = r
  port : r.pdCh k = c

section
variable {s r t : State} {k : Fin 2} {i : Instr} {c : PdCh} {act : State → State}

theorem State.pdEv_absent {n : Nat} (away : s.sys.fwReady = false ∨ s.flag Fld.Pd.PRESENT n = false) : s.pdEv n act = s :=
  if_pos (by simpa using away)

theorem pdEvent_rests (away : s.sys.fwReady = false ∨ s.flag Fld.Pd.PRESENT k = false)
    (run : exec i s = .next (s.pdEv k act)) : Goes i s s :=
  run.trans (congrArg _ (State.pdEv_absent away))

namespace State.PdServes
variable (serves : s.PdServes k r c)
include serves

/-- The port goes on from what its event has done; the event may first have recorded what the port's pins show. -/
theorem goes {x : State} (run : exec i x = .next (s.pdEv k act)) (e : act r = t) : Goes i x (t.pdIdle k) := by
  obtain ⟨ready, present, rfl, _⟩ := serves
  exact run.trans (congrArg _ ((if_neg (by simp [ready, present])).trans (congrArg (State.pdIdle k) e)))

/-- An event that acts where `g` holds, and has no other effect elsewhere. -/
theorem fires {g b : Prop} [Decidable b] (run : exec i s = .next (s.pdEv k act)) (e : act r = if b then t else r)
    (same : b ↔ g) : (g → Goes i s (t.pdIdle k)) ∧ (¬g → Goes i s (r.pdIdle k)) :=
  ⟨fun h => serves.goes run (e.trans (if_pos (same.2 h))), fun h => serves.goes run (e.trans (if_neg (mt same.1 h)))⟩

end State.PdServes

end

theorem not_isNone {α : Type} {x : Option α} (h : x.isSome) : ¬x.isNone = true := by
  rw [Option.isNone_eq_false_iff.2 h]
  decide

/-! ## What a port shows (R358, R361) -/

/-- R361: what the CC pins of a port show is a detach. -/
theorem PdCh.ccGone_iff {c : PdCh} : c.ccGone = true ↔
    if c.source then c.cc1 = .open_ ∧ c.cc2 = .open_ else ∀ n, (if c.flip then c.cc2 else c.cc1) ≠ .rp n := by
  unfold PdCh.ccGone
  split
  · simp
  · split <;> simp_all

theorem PdCh.attached_iff {c : PdCh} : c.attached = true ↔ c.st = .attachedSnk ∨ c.st = .attachedSrc := by
  simp [PdCh.attached]

theorem PdCh.vbusLow_iff {c : PdCh} :
    c.vbusLow = false ↔ c.hr = .none ∧ (c.swapping = false ∨ (c.phase ≠ 3 ∧ c.phase ≠ 5)) := by
  simp [PdCh.vbusLow, imp_iff_not_or]

/-- Settles O49: every event of a port asks for the port's presence and for firmware ready first (`State.pdEv_absent`). -/
theorem absentPdPortsRest : Obligations.AbsentPdPortsRest := by
  intro s k a b m l d x y away
  refine ⟨congrArg Host.Outcome.next (State.pdEv_absent away), ?_⟩
  have rests {i : Instr} {act : State → State} := pdEvent_rests (i := i) (act := act) away
  simp only [List.forall_mem_cons, List.not_mem_nil, false_implies, implies_true, and_true]
  and_intros <;> exact rests rfl

section
variable {s r : State} {k : Fin 2} {c : PdCh} (serves : s.PdServes k r c)
include serves

/-! ## Debounce and toggling (R358, R361, R365) -/

section
variable {t : State} (ends : r.pdTime c.tState (r.fld Fld.Pd.T_CC_DEBOUNCE_MS k) = t)
include ends

section
variable (st : c.st = .attachWaitSnk)
include st

theorem ccDebounceDone_noRp (none_ : c.rpSeen = none) :
    Goes (.ccDebounceDone k) s ((t.pdTo k (t.unattachedOf k)).pdIdle k) := by
  obtain rfl := serves.port
  subst ends
  exact serves.goes rfl ((if_pos st).trans (if_pos (Option.isNone_iff_eq_none.2 none_)))

theorem ccDebounceDone_attachesSnk (some_ : c.rpSeen.isSome) (plain : r.fld Fld.Pd.ROLE k ≠ 4 ∨ c.limited) :
    Goes (.ccDebounceDone k) s ((t.pdAttach k false).pdIdle k) := by
  obtain rfl := serves.port
  subst ends
  refine serves.goes rfl ((if_pos st).trans ((if_neg (not_isNone some_)).trans (if_neg ?_)))
  simpa [imp_iff_not_or] using plain

theorem ccDebounceDone_triesSrc (some_ : c.rpSeen.isSome) (try_ : r.fld Fld.Pd.ROLE k = 4) (free : c.limited = false) :
    Goes (.ccDebounceDone k) s ((t.pdTo k .trySrc).pdIdle k) := by
  obtain rfl := serves.port
  subst ends
  exact serves.goes rfl ((if_pos st).trans ((if_neg (not_isNone some_)).trans (if_pos ⟨try_, by rw [free]; rfl⟩)))

end

section
variable (st : c.st = .attachWaitSrc)
include st

omit serves ends in
theorem notWaitSnk_of_waitSrc : ¬c.st = .attachWaitSnk := by
  rw [st]
  decide

theorem ccDebounceDone_noRd (none_ : c.rdSeen = none) :
    Goes (.ccDebounceDone k) s ((t.pdTo k (t.unattachedOf k)).pdIdle k) := by
  obtain rfl := serves.port
  subst ends
  exact serves.goes rfl ((if_neg (notWaitSnk_of_waitSrc st)).trans ((if_pos st).trans
    (if_pos (Option.isNone_iff_eq_none.2 none_))))

theorem ccDebounceDone_attachesSrc (some_ : c.rdSeen.isSome) (plain : r.fld Fld.Pd.ROLE k ≠ 3) :
    Goes (.ccDebounceDone k) s ((t.pdAttach k true).pdIdle k) := by
  obtain rfl := serves.port
  subst ends
  exact serves.goes rfl ((if_neg (notWaitSnk_of_waitSrc st)).trans ((if_pos st).trans
    ((if_neg (not_isNone some_)).trans (if_neg plain))))

theorem ccDebounceDone_triesSnk (some_ : c.rdSeen.isSome) (try_ : r.fld Fld.Pd.ROLE k = 3) :
    Goes (.ccDebounceDone k) s ((t.pdTo k .trySnk).pdIdle k) := by
  obtain rfl := serves.port
  subst ends
  exact serves.goes rfl ((if_neg (notWaitSnk_of_waitSrc st)).trans ((if_pos st).trans
    ((if_neg (not_isNone some_)).trans (if_pos try_))))

end

theorem ccDebounceDone_tryWaitSnk (st : c.st = .tryWaitSnk) (some_ : c.rpSeen.isSome) :
    Goes (.ccDebounceDone k) s ((t.pdAttach k false).pdIdle k) := by
  obtain rfl := serves.port
  subst ends
  exact serves.goes rfl ((if_neg (by simp [st])).trans ((if_neg (by simp [st])).trans (if_pos ⟨st, some_⟩)))

end

theorem ccDebounceDone_elsewhere (st : c.st ∉ [TcState.attachWaitSnk, .attachWaitSrc, .tryWaitSnk]) :
    Goes (.ccDebounceDone k) s (r.pdIdle k) := by
  obtain rfl := serves.port
  simp only [List.mem_cons, List.not_mem_nil, or_false, not_or] at st
  obtain ⟨snk, src, try_⟩ := st
  exact serves.goes rfl ((if_neg snk).trans ((if_neg src).trans (if_neg fun h => try_ h.1)))

section
variable {t : State} (ends : r.pdTime (max c.tCc c.tState) (r.fld Fld.Pd.T_PD_DEBOUNCE_MS k) = t)
include ends

/-- PD_DEBOUNCE_DONE in the Try states and the waits after them. -/
theorem pdDebounceDone_trying :
    (c.st = .trySnk →
      Goes (.pdDebounceDone k) s ((if c.rpSeen.isSome then t.pdAttach k false else t.pdTo k .tryWaitSrc).pdIdle k)) ∧
    (c.st = .trySrc →
      Goes (.pdDebounceDone k) s ((if c.rdSeen.isSome then t.pdAttach k true else t.pdTo k .tryWaitSnk).pdIdle k)) ∧
    (c.st = .tryWaitSrc →
      Goes (.pdDebounceDone k) s ((if c.rdSeen.isSome then t.pdAttach k true else t.pdTo k .unattachedSnk).pdIdle k)) ∧
    (c.st = .tryWaitSnk →
      Goes (.pdDebounceDone k) s ((if c.rpSeen.isSome then t else t.pdTo k .unattachedSnk).pdIdle k)) := by
  obtain rfl := serves.port
  refine ⟨fun st => ?_, fun st => ?_, fun st => ?_, fun st => ?_⟩ <;> exact serves.goes rfl (by simp only [st, ends])

/-- PD_DEBOUNCE_DONE before an attach. -/
theorem pdDebounceDone_waiting :
    (c.st = .attachWaitSnk →
      Goes (.pdDebounceDone k) s ((if c.rpSeen.isSome then t else t.pdTo k (t.unattachedOf k)).pdIdle k)) ∧
    (c.st = .attachWaitSrc →
      Goes (.pdDebounceDone k) s ((if c.rdSeen.isSome then t else t.pdTo k (t.unattachedOf k)).pdIdle k)) := by
  obtain rfl := serves.port
  exact ⟨fun st => serves.goes rfl (by simp only [st, ends]), fun st => serves.goes rfl (by simp only [st, ends])⟩

/-- PD_DEBOUNCE_DONE while attached: a detach, but for a swap. -/
theorem pdDebounceDone_attached (on : c.attached) {gone : Prop} (same : c.ccGone = true ↔ gone) :
    (gone → c.swapping = false → c.frs = false → Goes (.pdDebounceDone k) s ((t.pdDetach k).pdIdle k)) ∧
    (¬gone ∨ c.swapping ∨ c.frs → Goes (.pdDebounceDone k) s (t.pdIdle k)) := by
  obtain rfl := serves.port
  have runs : Goes (.pdDebounceDone k) s
      ((if (r.pdCh k).ccGone ∧ !(r.pdCh k).swapping ∧ !(r.pdCh k).frs then t.pdDetach k else t).pdIdle k) := by
    rcases PdCh.attached_iff.1 on with st | st <;> exact serves.goes rfl (by simp only [st, ends])
  refine ⟨fun away still slow => runs.trans (congrArg _ (congrArg _ (if_pos ⟨same.2 away, by simp [still],
      by simp [slow]⟩))),
    fun h => runs.trans (congrArg _ (congrArg _ (if_neg fun ⟨away, still, slow⟩ => ?_)))⟩
  simp only [Bool.not_eq_true'] at still slow
  simp [same.1 away, still, slow] at h

theorem pdDebounceDone_elsewhere (st : c.st ∈ [TcState.disabled, .errorRecovery, .unattachedSnk, .unattachedSrc]) :
    Goes (.pdDebounceDone k) s (t.pdIdle k) := by
  obtain rfl := serves.port
  simp only [List.mem_cons, List.not_mem_nil, or_false] at st
  rcases st with st | st | st | st <;> exact serves.goes rfl (by simp only [st, ends])

end

theorem drpToggle_toSnk (drp : 2 ≤ r.fld Fld.Pd.ROLE k) (st : c.st = .unattachedSrc) :
    Goes (.drpToggle k) s (((r.advanceTo (c.tState + us 37500)).pdTo k .unattachedSnk).pdIdle k) := by
  obtain rfl := serves.port
  exact serves.goes rfl ((if_neg (Nat.not_lt.2 drp)).trans ((if_neg (by simp [st])).trans (if_pos st)))

theorem drpToggle_toSrc (drp : 2 ≤ r.fld Fld.Pd.ROLE k) (st : c.st = .unattachedSnk) (free : c.limited = false) :
    Goes (.drpToggle k) s (((r.advanceTo (c.tState + us 37500)).pdTo k .unattachedSrc).pdIdle k) := by
  obtain rfl := serves.port
  exact serves.goes rfl ((if_neg (Nat.not_lt.2 drp)).trans ((if_pos st).trans (if_neg (ne_true_of_eq_false free))))

theorem drpToggle_rests (h : r.fld Fld.Pd.ROLE k < 2 ∨ c.st ∉ [TcState.unattachedSrc, .unattachedSnk] ∨
    (c.st = .unattachedSnk ∧ c.limited)) : Goes (.drpToggle k) s (r.pdIdle k) := by
  obtain rfl := serves.port
  refine serves.goes rfl ?_
  rcases h with fixed | other | ⟨st, limited⟩
  · exact if_pos fixed
  · simp only [List.mem_cons, List.not_mem_nil, or_false, not_or] at other
    obtain ⟨src, snk⟩ := other
    exact ite_eq_left_iff.2 fun _ => (if_neg snk).trans (if_neg src)
  · exact ite_eq_left_iff.2 fun _ => (if_pos st).trans (if_pos limited)

/-- PD_DETACH by the CC pins. -/
theorem pdDetach_pins (held : Nat) {gone : Prop} (same : c.ccGone = true ↔ gone) :
    (c.attached ∧ 250 ≤ held ∧ gone → Goes (.pdDetach k none held) s ((r.pdDetach k).pdIdle k)) ∧
    (¬(c.attached ∧ 250 ≤ held ∧ gone) → Goes (.pdDetach k none held) s (r.pdIdle k)) := by
  obtain rfl := serves.port
  exact serves.fires rfl rfl (and_congr Iff.rfl (and_comm.trans (and_congr Iff.rfl same)))

/-- PD_DETACH of a sink by VBUS. -/
theorem pdDetach_vbus (mv held : Nat) :
    let g : Prop := c.attached ∧ 250 ≤ held ∧ c.source = false ∧ mv < 3670 ∧ c.hr = .none ∧
      (c.swapping = false ∨ (c.phase ≠ 3 ∧ c.phase ≠ 5))
    (g → Goes (.pdDetach k (some mv) held) s ((r.pdDetach k).pdIdle k)) ∧
    (¬g → Goes (.pdDetach k (some mv) held) s (r.pdIdle k)) := by
  obtain rfl := serves.port
  refine serves.fires rfl rfl (and_congr Iff.rfl (and_comm.trans (and_congr Iff.rfl ?_)))
  simp only [Bool.and_eq_true, Bool.not_eq_true', decide_eq_true_eq, PdCh.vbusLow_iff, and_assoc]

/-! ## Messages (R362, R363) -/

/-- A message that the port does not hear. -/
theorem pdMessageReceived_deaf {sop : Fin 3} (h : c.attached = false ∨ c.typeC ∨ r.sopHeard k sop.val = false)
    (header : Nat) (data : List Byte) : Goes (.pdMessageReceived k sop header data) s (r.pdIdle k) := by
  obtain rfl := serves.port
  exact serves.goes rfl (if_pos (by simpa using h))

section
variable {sop : Fin 3} (on : c.attached) (pd : c.typeC = false) (heard : r.sopHeard k sop.val)
include on pd heard

omit serves in
theorem pdMessage_heard : ¬((!c.attached) = true ∨ c.typeC = true ∨ (!r.sopHeard k sop.val) = true) := by
  simp [on, pd, heard]

theorem pdMessageReceived_message {header : Nat} (message : ctrlType header ≠ some 1) (data : List Byte) :
    Goes (.pdMessageReceived k sop header data) s ((r.pdReceive k sop.val header data).pdIdle k) := by
  obtain rfl := serves.port
  exact serves.goes rfl ((if_neg (pdMessage_heard on pd heard)).trans (if_neg message))

/-- A GoodCRC, of the message that waits for it or of another. -/
theorem pdMessageReceived_goodCrc {header : Nat} {x : PdTx} (crc : ctrlType header = some 1) (tx : c.tx = some x)
    (data : List Byte) :
    let g : Prop := x.sent ∧ x.sop = sop.val ∧ header / 512 % 8 = x.header / 512 % 8
    (g → Goes (.pdMessageReceived k sop header data) s ((r.pdDone k 1).pdIdle k)) ∧
    (¬g → Goes (.pdMessageReceived k sop header data) s (r.pdIdle k)) := by
  obtain rfl := serves.port
  refine serves.fires rfl ((if_neg (pdMessage_heard on pd heard)).trans ((if_pos crc).trans ?_)) Iff.rfl
  rw [State.pdAck, tx]

end

section
variable {x : PdTx} (tx : c.tx = some x)
include tx

theorem crcReceiveTimeout_sending :
    let q := r.pdTime x.t 1
    let n := if x.header / 64 % 4 = 1 then q.fld Fld.Pd.N_RETRY_20 k else q.fld Fld.Pd.N_RETRY_3X k
    (x.sent → Goes (.crcReceiveTimeout k) s
      ((if x.tries < n then q.pdFire k { x with tries := x.tries + 1 } else q.pdDone k 2).pdIdle k)) ∧
    (¬x.sent → Goes (.crcReceiveTimeout k) s (r.pdIdle k)) := by
  obtain rfl := serves.port
  exact ⟨fun sent => serves.goes rfl (by simp only [tx, sent, Bool.not_true, Bool.false_eq_true, if_false]),
    fun waits => serves.goes rfl (by simp only [tx, Bool.eq_false_iff.2 waits, Bool.not_false, if_true])⟩

theorem sinkTxWaitDone_sending :
    let g : Prop := x.sent = false ∧ c.source
    (g → Goes (.sinkTxWaitDone k) s (((r.pdTime x.t 18).pdFire k x).pdIdle k)) ∧
    (¬g → Goes (.sinkTxWaitDone k) s (r.pdIdle k)) := by
  obtain rfl := serves.port
  exact serves.fires (b := (!x.sent) = true ∧ (r.pdCh k).source = true) rfl (by simp only [tx]) (by simp)

end

theorem tx_idle (tx : c.tx = none) :
    Goes (.crcReceiveTimeout k) s (r.pdIdle k) ∧ Goes (.sinkTxWaitDone k) s (r.pdIdle k) := by
  obtain rfl := serves.port
  exact ⟨serves.goes rfl (by simp only [tx]), serves.goes rfl (by simp only [tx])⟩

theorem amsTimeout_none (ams : c.ams = none) : Goes (.amsTimeout k) s (r.pdIdle k) := by
  obtain rfl := serves.port
  exact serves.goes rfl (by simp only [ams])

theorem amsTimeout_some {t : Nat} (ams : c.ams = some t) :
    let q := (r.pdTime t 500).amsOver k
    (c.tx = none → Goes (.amsTimeout k) s (q.pdIdle k)) ∧
    (∀ x, c.tx = some x →
      Goes (.amsTimeout k) s ((if x.sent = false ∧ c.source = false then q.pdDone k 4 else q).pdIdle k)) := by
  obtain rfl := serves.port
  exact ⟨fun tx => serves.goes rfl (by simp only [ams, tx]),
    fun x tx => serves.goes rfl (by simp only [ams, tx, Bool.not_eq_true'])⟩

/-! ## Answers and phases (R365, R366, R369) -/

theorem senderResponseExpiry_none (resp : c.resp = none) : Goes (.senderResponseExpiry k) s (r.pdIdle k) := by
  obtain rfl := serves.port
  exact serves.goes rfl (by simp only [resp])

theorem senderResponseExpiry_some {x t : Nat} (resp : c.resp = some (x, t)) : Goes (.senderResponseExpiry k) s
    ((((r.pdTime t (r.fld Fld.Pd.T_SENDER_RESP_MS k)).onPdCh k fun c => { c with resp := none, softOut := false }).pdNoAnswer k
      x c.softOut).pdIdle k) := by
  obtain rfl := serves.port
  exact serves.goes rfl (by simp only [resp])

theorem phases_none (run : c.run = none) :
    Goes (.psSourceTimeout k) s (r.pdIdle k) ∧ Goes (.psTransitionExpiry k) s (r.pdIdle k) := by
  obtain rfl := serves.port
  exact ⟨serves.goes rfl (by simp only [run]), serves.goes rfl (by simp only [run])⟩

section
variable {a : Armed} (run : c.run = some a)
include run

theorem psTransitionExpiry_running :
    let g : Prop := a.kind = 1 ∧ c.phase = 3
    (g → Goes (.psTransitionExpiry k) s
      ((((r.pdTime c.tPhase (r.fld (if a.epr then Fld.Pd.T_PS_TRANS_EPR_MS else Fld.Pd.T_PS_TRANS_MS) k)).raise 0x0E0A
        k).pdPhaseOut k 0x0A).pdIdle k)) ∧
    (¬g → Goes (.psTransitionExpiry k) s (r.pdIdle k)) := by
  obtain rfl := serves.port
  exact serves.fires rfl (by simp only [run]) Iff.rfl

theorem psSourceTimeout_running :
    (a.kind = 4 → c.phase = 3 → Goes (.psSourceTimeout k) s
      (((((r.pdTime c.tPhase 100).onPdCh k fun c => { c with run := none, phase := 0 }).pdNote k 9 []).pdReply a.owed 2).pdIdle
        k)) ∧
    (a.kind ≠ 4 → a.kind ≠ 1 → c.phase = 3 →
      Goes (.psSourceTimeout k) s (((r.pdTime c.tPhase 435).pdPhaseOut k 9).pdIdle k)) ∧
    (a.kind ≠ 1 → c.phase = 5 → Goes (.psSourceTimeout k) s (((r.pdTime c.tPhase 835).pdPhaseOut k 9).pdIdle k)) ∧
    (a.kind = 1 → Goes (.psSourceTimeout k) s (r.pdIdle k)) := by
  obtain rfl := serves.port
  refine ⟨fun vconn phase => ?_, fun other swap phase => ?_, fun swap phase => ?_, fun change => ?_⟩
  · exact serves.goes rfl (by simp only [run, vconn, phase, and_self, if_true])
  · exact serves.goes rfl (by simp only [run, other, swap, phase, false_and, if_false, if_true])
  · exact serves.goes rfl (by simp [run, swap, phase])
  · exact serves.goes rfl (by simp [run, change])

end

end

/-- Settles O47: each timer and event by the state that it finds (`State.PdServes`), a detach by what the pins or VBUS show. -/
theorem pdTimersRun : Obligations.PdTimersRun := by
  intro s k ready present r c ev role gone
  have serves : s.PdServes k r c := ⟨ready, present, rfl, rfl⟩
  refine ⟨?cc, ?pd, ?drp, serves.goes rfl rfl, fun free st => if_pos ?recovers,
    fun held => pdDetach_pins serves held PdCh.ccGone_iff, pdDetach_vbus serves, fun sop header data => ?message,
    fun x => crcReceiveTimeout_sending serves, fun x => sinkTxWaitDone_sending serves, fun t => amsTimeout_some serves,
    fun x t => senderResponseExpiry_some serves, fun a => psTransitionExpiry_running serves,
    fun a => psSourceTimeout_running serves, tx_idle serves, amsTimeout_none serves, senderResponseExpiry_none serves,
    phases_none serves⟩
  case cc =>
    intro t
    exact ⟨ccDebounceDone_noRp serves rfl, ccDebounceDone_attachesSnk serves rfl, ccDebounceDone_triesSrc serves rfl,
      ccDebounceDone_noRd serves rfl, ccDebounceDone_attachesSrc serves rfl, ccDebounceDone_triesSnk serves rfl,
      ccDebounceDone_tryWaitSnk serves rfl, ccDebounceDone_elsewhere serves⟩
  case pd =>
    intro t
    obtain ⟨trySnk, trySrc, tryWaitSrc, tryWaitSnk⟩ := pdDebounceDone_trying serves rfl
    obtain ⟨waitSnk, waitSrc⟩ := pdDebounceDone_waiting serves rfl
    exact ⟨trySnk, trySrc, tryWaitSrc, tryWaitSnk, waitSnk, waitSrc,
      fun on => (pdDebounceDone_attached serves rfl on PdCh.ccGone_iff).1,
      fun on => (pdDebounceDone_attached serves rfl on PdCh.ccGone_iff).2, pdDebounceDone_elsewhere serves rfl⟩
  case drp => exact ⟨drpToggle_toSnk serves, drpToggle_toSrc serves, drpToggle_rests serves⟩
  case message =>
    exact ⟨fun on pd heard message => pdMessageReceived_message serves on pd heard message data,
      fun x on pd heard crc tx => pdMessageReceived_goodCrc serves on pd heard crc tx data,
      fun h => pdMessageReceived_deaf serves h header data⟩
  case recovers => exact ⟨st, by rw [free]; rfl⟩

end Sys2Proof.Machine
end

section
/-! SUPPORT. The resets, the power transitions and the protection of a PD port; O48. -/

namespace Sys2Proof.Machine

/-! ## Two changes of a port in a row -/

section
variable (s : State) (k : Nat)

theorem State.onPdCh_onPdCh (f g : PdCh → PdCh) : (s.onPdCh k f).onPdCh k g = s.onPdCh k fun c => g (f c) := by
  simp [State.onPdCh, State.onPd, upd]

/-- V_TARGET changes with the rest of what an event does to the port. -/
theorem State.pdSlew_onPdCh (v : Nat) (f : PdCh → PdCh) : (s.pdSlew k v).onPdCh k f =
    s.onPdCh k fun c => f { c with vFrom := s.pdRef k, tSlew := s.now, vTarget := v } :=
  s.onPdCh_onPdCh k _ f

end

section
variable {s r : State} {k : Fin 2} {c : PdCh} (serves : s.PdServes k r c)
include serves

/-! ## Hard resets (R365, R368) -/

theorem psHardResetDone_fires :
    let t := r.pdTime c.tHr 30
    (c.hr = .psHardReset → Goes (.psHardResetDone k) s ((t.onPdCh k fun c =>
      { c with
        vFrom := t.pdRef k, tSlew := t.now, vTarget := 5000, hr := .rampDown, tHr := t.now, vconn := false }).pdIdle k)) ∧
    (c.hr ≠ .psHardReset → Goes (.psHardResetDone k) s (r.pdIdle k)) := by
  obtain rfl := serves.port
  exact serves.fires rfl (if_congr Iff.rfl (State.pdSlew_onPdCh _ _ _ _) rfl) Iff.rfl

theorem srcRecoverDone_fires :
    let t := r.pdTime c.tHr (r.fld Fld.Pd.T_SRC_RECOVER_MS k)
    (c.hr = .recover → Goes (.srcRecoverDone k) s ((t.onPdCh k fun c =>
      { c with
        vFrom := t.pdRef k, tSlew := t.now, vTarget := 5000, hr := .restore, conv := true, dschg := false }).pdIdle k)) ∧
    (c.hr ≠ .recover → Goes (.srcRecoverDone k) s (r.pdIdle k)) := by
  obtain rfl := serves.port
  exact serves.fires rfl (if_congr Iff.rfl (State.pdSlew_onPdCh _ _ _ _) rfl) Iff.rfl

/-- SAFE0V_TIMEOUT of a hard reset, of a swap's turn-off, or of a detach. -/
theorem safe0vTimeout_runs :
    let n := r.fld Fld.Pd.T_SAFE0V_MS k
    ((c.hr = .rampDown ∨ c.hr = .discharge) → Goes (.safe0vTimeout k) s (((r.pdTime c.tHr n).raise 0x0E05 k).pdIdle k)) ∧
    (c.hr ≠ .rampDown → c.hr ≠ .discharge → c.phase = 4 →
      Goes (.safe0vTimeout k) s (((r.pdTime c.tPhase n).raise 0x0E05 k).pdIdle k)) ∧
    (c.hr ≠ .rampDown → c.hr ≠ .discharge → c.phase ≠ 4 →
      (c.dschg → Goes (.safe0vTimeout k) s (((r.pdTime c.tDschg n).raise 0x0E05 k).pdIdle k)) ∧
      (¬c.dschg → Goes (.safe0vTimeout k) s (r.pdIdle k))) := by
  obtain rfl := serves.port
  exact ⟨fun h => serves.goes rfl (if_pos h),
    fun ramp low swap => serves.goes rfl ((if_neg (not_or.2 ⟨ramp, low⟩)).trans (if_pos swap)),
    fun ramp low other => serves.fires rfl ((if_neg (not_or.2 ⟨ramp, low⟩)).trans (if_neg other)) Iff.rfl⟩

/-! ## Power transitions (R369) -/

theorem srcTransitionDone_none (run : c.run = none) : Goes (.srcTransitionDone k) s (r.pdIdle k) := by
  obtain rfl := serves.port
  exact serves.goes rfl (by simp only [run])

theorem srcTransitionDone_running {a : Armed} (run : c.run = some a) :
    let t := r.pdTime c.tPhase 30
    (c.phase = 1 → Goes (.srcTransitionDone k) s ((t.onPdCh k fun c =>
      { c with
        vFrom := t.pdRef k, tSlew := t.now, vTarget := if a.kind = 1 then a.v else 5000
        phase := if a.kind = 1 then 2 else 4, tPhase := t.now }).pdIdle k)) ∧
    (c.phase ≠ 1 → Goes (.srcTransitionDone k) s (r.pdIdle k)) := by
  obtain rfl := serves.port
  refine ⟨fun phase => serves.goes rfl ?_, fun other => serves.goes rfl (by simp only [run, if_pos other])⟩
  simp only [run, if_neg (not_not.2 phase)]
  by_cases change : a.kind = 1 <;> simp only [change, if_true, if_false] <;> exact State.pdSlew_onPdCh _ _ _ _

theorem sourceChangeDone_fires (v held : Nat) :
    let g : Prop := c.run.map (·.kind) = some 1 ∧ c.phase = 2 ∧
      95 * c.vTarget ≤ 100 * v ∧ 100 * v ≤ 105 * c.vTarget ∧ 1000 ≤ held
    (g → Goes (.sourceChangeDone k v held) s (((r.pdOwn k (ownMsg 6 false r.now)).pdComplete k).pdIdle k)) ∧
    (¬g → Goes (.sourceChangeDone k v held) s (r.pdIdle k)) := by
  obtain rfl := serves.port
  refine serves.fires rfl rfl (and_congr Iff.rfl (and_congr Iff.rfl ?_))
  simp only [Bool.and_eq_true, decide_eq_true_eq, and_assoc]

/-! ## The source's limit and the protection (R372, R373) -/

theorem sourceLimitRestored_none (low : c.okSince = none) : Goes (.sourceLimitRestored k) s (r.pdIdle k) := by
  obtain rfl := serves.port
  exact serves.goes rfl (by simp only [low])

theorem sourceLimitRestored_some {t : Nat} (since : c.okSince = some t) :
    (c.limited → Goes (.sourceLimitRestored k) s
      ((((r.pdTime t 1000).onPdCh k fun c => { c with limited := false }).errRecDone k).pdIdle k)) ∧
    (¬c.limited → Goes (.sourceLimitRestored k) s (r.pdIdle k)) := by
  obtain rfl := serves.port
  exact serves.fires rfl (by simp only [since]) Iff.rfl

theorem pdSrcOc_fires (i held : Nat) :
    let g : Prop := (c.attached ∧ c.source ∧ c.conv) ∧ ((5 * c.iLimit ≤ 4 * i ∧ 10 ≤ held) ∨ 7500 ≤ i)
    (g → Goes (.pdSrcOc k i held) s (((r.pdErrRec k).raise 0x0E02 k).pdIdle k)) ∧
    (¬g → Goes (.pdSrcOc k i held) s (r.pdIdle k)) := by
  obtain rfl := serves.port
  refine serves.fires rfl rfl ?_
  simp only [Bool.or_eq_true, Bool.and_eq_true, decide_eq_true_eq, and_assoc]

theorem bistCarrierEnd_none (bist : c.bist = none) : Goes (.bistCarrierEnd k) s (r.pdIdle k) := by
  obtain rfl := serves.port
  exact serves.goes rfl (by simp only [bist])

theorem bistCarrierEnd_some {t : Nat} (bist : c.bist = some t) :
    Goes (.bistCarrierEnd k) s (((r.pdTime t 45).onPdCh k fun c => { c with bist := none }).pdIdle k) := by
  obtain rfl := serves.port
  exact serves.goes rfl (by simp only [bist])

/-! ## VBUS at a level (R361, R368, R369) -/

/-- VBUS at 5 V on the way down. -/
theorem vbusLevelReached_falls :
    let level (t : State) : Prop := Goes (.vbusLevelReached k 0) s (t.pdIdle k)
    (c.hr = .rampDown → level (r.onPdCh k fun c => { c with hr := .discharge, conv := false, dschg := true })) ∧
    (c.hr = .none → c.phase = 4 → c.conv → level (r.onPdCh k fun c => { c with conv := false, dschg := true })) ∧
    (c.hr ≠ .rampDown → (c.phase ≠ 4 ∨ c.conv = false) → level r) := by
  obtain rfl := serves.port
  refine ⟨fun ramp => serves.goes rfl (if_pos ramp),
    fun none_ swap on => serves.goes rfl ((if_neg (by simp [none_])).trans (if_pos ⟨swap, on⟩)),
    fun ramp other => serves.goes rfl ((if_neg ramp).trans (if_neg ?_))⟩
  simpa [imp_iff_not_or] using other

/-- VBUS at vSafe0V. -/
theorem vbusLevelReached_low :
    let level (t : State) : Prop := Goes (.vbusLevelReached k 1) s (t.pdIdle k)
    ((c.hr = .discharge ∨ c.hr = .rampDown) →
      level (r.onPdCh k fun c => { c with hr := .recover, tHr := r.now, conv := false, dschg := false })) ∧
    (c.hr = .none → c.phase = 4 → level
      ((r.onPdCh k fun c =>
        { c with phase := 3, tPhase := r.now, conv := false, dschg := false, rp := 0, vTarget := 0 }).pdOwn k
          (ownMsg 6 false r.now))) ∧
    (c.hr = .none → c.phase ≠ 4 →
      level (r.onPdCh k fun c => { c with dschg := c.dschg && c.st = .errorRecovery && r.ctrlDown })) := by
  obtain rfl := serves.port
  exact ⟨fun reset => serves.goes rfl (if_pos reset),
    fun none_ swap => serves.goes rfl ((if_neg (by simp [none_])).trans (if_pos swap)),
    fun none_ other => serves.goes rfl ((if_neg (by simp [none_])).trans (if_neg other))⟩

/-- VBUS at vSafe5V on the way up after a hard reset. -/
theorem vbusLevelReached_restored :
    let level (t : State) : Prop := Goes (.vbusLevelReached k 2) s (t.pdIdle k)
    (c.hr = .restore → level (r.pdRestored k)) ∧
    (c.hr = .sinkWait → level ((r.onPdCh k fun c => { c with hr := .none, hrSwap := false }).pdResetEvent k)) := by
  obtain rfl := serves.port
  exact ⟨fun restore => serves.goes rfl (if_pos restore),
    fun wait => serves.goes rfl ((if_neg (by simp [wait])).trans (if_pos wait))⟩

/-! On the way up outside a hard reset. -/

section
variable (none_ : c.hr = .none)
include none_

omit serves in
/-- VBUS at vSafe5V with no hard reset under way. -/
theorem State.vbusLevel_up (port : r.pdCh k = c) : r.vbusLevel k 2 =
    if c.phase = 6 then r.pdSwapUp k
    else if c.frs ∧ c.source then r.onPdCh k fun c => { c with frsUp := true }
    else r := by
  subst port
  exact (if_neg (by simp [none_])).trans (if_neg (by simp [none_]))

theorem vbusLevelReached_swapped (swap : c.phase = 6) : Goes (.vbusLevelReached k 2) s
    ((((r.pdOwn k (ownMsg 6 false r.now)).onPdCh k fun c => { c with frs := false, frsUp := false }).pdComplete k).pdIdle k) :=
  serves.goes rfl ((State.vbusLevel_up none_ serves.port).trans (if_pos swap))

theorem vbusLevelReached_frs (other : c.phase ≠ 6) (frs : c.frs) (src : c.source) :
    Goes (.vbusLevelReached k 2) s ((r.onPdCh k fun c => { c with frsUp := true }).pdIdle k) :=
  serves.goes rfl ((State.vbusLevel_up none_ serves.port).trans ((if_neg other).trans (if_pos ⟨frs, src⟩)))

theorem vbusLevelReached_up (other : c.phase ≠ 6) (no : c.frs = false ∨ c.source = false) :
    Goes (.vbusLevelReached k 2) s (r.pdIdle k) :=
  serves.goes rfl ((State.vbusLevel_up none_ serves.port).trans ((if_neg other).trans
    (if_neg (by simpa [imp_iff_not_or] using no))))

end

end

/-! ## A CC pin's change (R357, R358, R360, R363) -/

section
variable {s q : State} {k : Fin 2} {c : PdCh} {a b : CcPin}
variable (serves : (s.onPdCh k fun c => { c with cc1 := a, cc2 := b, tCc := s.now, ccOpen := false }).PdServes k q c)
include serves

theorem ccStateChange_unattached (off : c.attached = false) : Goes (.ccStateChange k a b) s ((q.pdCheck k).pdIdle k) := by
  obtain rfl := serves.port
  have free := mt PdCh.attached_iff.2 (ne_true_of_eq_false off)
  exact serves.goes rfl ((if_neg fun h => free (.inl h.1)).trans (if_neg (ne_true_of_eq_false off)))

theorem ccStateChange_source (on : c.attached) (src : c.st ≠ .attachedSnk ∨ c.source) :
    Goes (.ccStateChange k a b) s ((q.vconnSet k).pdIdle k) := by
  obtain rfl := serves.port
  exact serves.goes rfl ((if_neg (by simpa [imp_iff_not_or] using src)).trans (if_pos on))

section
variable (st : c.st = .attachedSnk) (snk : c.source = false)
include st snk

theorem ccStateChange_noRp (none_ : ∀ n, (if c.flip then b else a) ≠ .rp n) :
    Goes (.ccStateChange k a b) s (q.pdIdle k) := by
  obtain rfl := serves.port
  refine serves.goes rfl ((if_pos ⟨st, by rw [snk]; rfl⟩).trans ?_)
  generalize (if (q.pdCh k).flip then b else a) = pin at none_ ⊢
  cases pin with
  | rp n => exact absurd rfl (none_ n)
  | open_ | ra | rd => rfl

theorem ccStateChange_rp {n : Nat} (rp : (if c.flip then b else a) = .rp n) :
    let t := q.onPdCh k fun c => { c with rp := n, sinkTxOk := n = 3, iLimit := if c.contract then c.iLimit else rpMa n }
    (c.tx = none → Goes (.ccStateChange k a b) s (t.pdIdle k)) ∧
    (∀ x, c.tx = some x → x.sent = false → n = 3 → Goes (.ccStateChange k a b) s ((t.pdFire k x).pdIdle k)) ∧
    (∀ x, c.tx = some x → (x.sent ∨ n ≠ 3) → Goes (.ccStateChange k a b) s (t.pdIdle k)) := by
  obtain rfl := serves.port
  have runs : (q.pdCh k).st = .attachedSnk ∧ (!(q.pdCh k).source) = true := ⟨st, by rw [snk]; rfl⟩
  refine ⟨fun tx => serves.goes rfl ((if_pos runs).trans ?_), fun x tx waits ok => serves.goes rfl ((if_pos runs).trans ?_),
    fun x tx h => serves.goes rfl ((if_pos runs).trans ?_)⟩ <;> simp only [rp, tx]
  · exact if_pos ⟨by rw [waits]; rfl, ok⟩
  · exact if_neg (by simpa [imp_iff_not_or] using h)

end

end

/-- Settles O48: each reset, transition and protection by the state that it finds (`State.PdServes`), and a CC pin's change by
what the port is attached as. -/
theorem pdPowerEventsRun : Obligations.PdPowerEventsRun := by
  intro s k ready present r c ev
  have serves : s.PdServes k r c := ⟨ready, present, rfl, rfl⟩
  have not_iff {b : Bool} : (!b) = true ↔ b = false := (Bool.not_eq_true' b).to_iff
  refine ⟨serves.fires rfl rfl (and_congr Iff.rfl not_iff), psHardResetDone_fires serves, safe0vTimeout_runs serves,
    srcRecoverDone_fires serves, serves.fires rfl rfl Iff.rfl, srcTransitionDone_none serves,
    fun a => srcTransitionDone_running serves, sourceChangeDone_fires serves, serves.fires rfl rfl Iff.rfl,
    fun low => serves.fires rfl rfl (and_congr Iff.rfl (and_congr not_iff Iff.rfl)),
    fun v => serves.fires rfl rfl (and_congr Iff.rfl (and_congr not_iff Iff.rfl)), sourceLimitRestored_none serves,
    fun t => sourceLimitRestored_some serves, ⟨fun v => serves.fires rfl rfl ?sourcing, pdSrcOc_fires serves⟩,
    fun v => serves.fires rfl rfl (and_congr Iff.rfl (and_congr not_iff Iff.rfl)), fun v => serves.fires rfl rfl Iff.rfl,
    fun i held => serves.fires rfl rfl Iff.rfl, ?level, bistCarrierEnd_none serves, fun t => bistCarrierEnd_some serves,
    fun a b => ?pins⟩
  case sourcing => exact (and_congr Iff.rfl and_assoc.symm).trans and_assoc.symm
  case level =>
    obtain ⟨ramp, swap, other⟩ := vbusLevelReached_falls serves
    obtain ⟨reset, turnOff, rest⟩ := vbusLevelReached_low serves
    obtain ⟨restore, wait⟩ := vbusLevelReached_restored serves
    exact ⟨ramp, swap, other, reset, turnOff, rest, restore, wait, vbusLevelReached_swapped serves,
      vbusLevelReached_frs serves, vbusLevelReached_up serves⟩
  case pins =>
    intro q
    have shows : q.pdCh k = { c with cc1 := a, cc2 := b, tCc := s.now, ccOpen := false } := by
      simp only [q, c, r, State.onPdCh_pdCh]
    have changes : (s.onPdCh k fun c => { c with cc1 := a, cc2 := b, tCc := s.now, ccOpen := false }).PdServes k q _ :=
      ⟨ready, present, rfl, shows⟩
    have unattached := ccStateChange_unattached changes
    have source := ccStateChange_source changes
    have noRp := ccStateChange_noRp changes
    have rp {n : Nat} := ccStateChange_rp changes (n := n)
    exact ⟨unattached, source, fun st snk => ⟨noRp st snk, fun n => rp st snk⟩⟩

end Sys2Proof.Machine
end
